-- ==== Sys2Proof/Word.lean ====
section
/-!
DEFINITION. Word types of the VH2620 and their plainest arithmetic (00_scope R7, R8, R14, R402).
-/

namespace Sys2Proof

/-- A byte of a structure or of the SRAM. -/
abbrev Byte := BitVec 8

/-- 16, 32 and 64 bit words of registers, headers and payloads. -/
abbrev U16 := BitVec 16
abbrev U32 := BitVec 32
abbrev U64 := BitVec 64

/-- Serial-number order of R402: `a` is later than `b` exactly when (s32)(a - b) > 0. -/
def serialLater (a b : U32) : Bool := decide (0 < (a - b).toInt)

/-- The integer a field of `w` bits holds in two's complement, cut to the field. -/
def toField (w : Nat) (x : Int) : Nat := (x % (2 ^ w : Int)).toNat

/-- The signed reading of a field of `w` bits. -/
def ofField (w v : Nat) : Int := if v < 2 ^ (w - 1) then v else (v : Int) - 2 ^ w

end Sys2Proof
end

