-- ==== Sys2Proof/Syntax.lean ====
section
/-!
DEFINITION. The commands and events of the VH2620: one constructor of `Instr` per row of
spec/opcode_table.json, with the operands each carries.

`dt` is the time by which the TIME64 counter advanced since the previous command, in units of
1/256 ns (the unit of EXPFRAC, R14). What the outside world contributes to an event (a sample, a
position, a received frame) is an operand of the event. Numbers of built-in units (chain, axis,
slot) are `Fin`; fields of a mailbox request keep the width of their command table, so that a value
out of range reaches the check that answers RANGE.
-/

namespace Sys2Proof

/-- A mailbox request as it is received: its arrival, its mailbox (6 is Keeper's own MB6) and the
fields of the request header that the checks of R350 read (Table KEEP-3). `crcOk` says that the CRC
is right and LEN agrees with the bytes received; `len` is the payload length; `parity` that the mailbox buffer shows a parity
error as the request is read out of it (17 R348). -/
structure Req where
  dt : Nat
  mb : Fin 7
  tag : U16
  cls : Byte
  crcOk : Bool
  len : Nat
  parity : Bool := false
  deriving DecidableEq, Repr

/-- The layer descriptor of Table LAY-3. -/
structure LayerDesc where
  layerNo : U32 := 0
  lineCount : U32 := 0
  dir : Byte := 0
  startSrc : Byte := 0
  pitch : U32 := 0
  firstPos : U64 := 0
  speed : U32 := 0
  runUp : U32 := 0
  runOut : U32 := 0
  deriving DecidableEq, Repr

/-- A tile telemetry payload (Table TILE-5). A cell fault is (row, column, kind, period). -/
structure Telemetry where
  temps : List Int := []
  vDrv : Nat := 0
  vLog : Nat := 0
  vPd : Nat := 0
  iDrv : Nat := 0
  status : BitVec 6 := 0
  faultCount : Nat := 0
  cellFaults : List (Fin 16 × Fin 256 × BitVec 2 × U16) := []
  deriving DecidableEq, Repr

/-- A transport packet (Tables HOST-1, HOST-2). -/
structure Packet where
  version : Byte
  type : Byte
  flags : Byte
  channel : Byte
  session : U16
  len : Nat
  seq : U32
  ack : U32
  txTime : U64
  payload : List Byte
  deriving DecidableEq, Repr

/-- What an IP packet carries (R146, R147): UDP with a transport packet, an ICMP echo request, a neighbour solicitation. -/
inductive IpBody where
  | udp (dstPort : Nat) (pkt : Packet)
  | echo (data : List Byte)
  | solicit (target : BitVec 128)
  | other
  deriving DecidableEq, Repr

/-- What an Ethernet frame carries (R145 to R147). An IPv6 packet may have a hop-by-hop header, which is skipped, or another
extension header. -/
inductive EthBody where
  | pause
  | direct (etherType : Nat) (pkt : Packet)
  | arp (senderIp targetIp : U32)
  | ipv4 (src dst : U32) (fragment : Bool) (body : IpBody)
  | ipv6 (src dst : BitVec 128) (otherExt : Bool) (body : IpBody)
  | other
  deriving DecidableEq, Repr

/-- An Ethernet frame as a port receives it (R145, R146, R180): its length with header, tag and FCS, its FCS check, its VID
where it is tagged, and the FEC codewords corrected and uncorrected since the frame before. -/
structure EthFrame where
  len : Nat
  fcsOk : Bool := true
  vlan : Option Nat := none
  fecCorr : Nat := 0
  fecUncorr : Nat := 0
  body : EthBody
  deriving DecidableEq, Repr

/-- The transport of an IEEE 1588 message (R157): Layer 2 under EtherType 0x88F7, or UDP port 319 or 320. -/
inductive PtpVia where
  | layer2 | udp4 | udp6
  deriving DecidableEq, Repr

/-- What a received IEEE 1588 message gives (R157). -/
inductive PtpMsg where
  | announce (domain : Nat)
  | sync (domain : Nat) (twoStep : Bool) (originPs : Int)
  | followUp (domain : Nat) (originPs : Int)
  | delayResp (domain : Nat) (receivePs : Int)
  deriving DecidableEq, Repr

/-- A Stageline frame (Table PWR-5). -/
structure StageFrame where
  dst : U16
  src : U16
  type : Byte
  flags : Byte
  hops : U16
  payload : List Byte
  crcOk : Bool
  deriving DecidableEq, Repr

/-- Why an encoder is lost (R201). -/
inductive EncLoss where
  | frozen | amplitude | ssiFraming | overRate
  deriving DecidableEq, Repr

/-- The measured inputs of one housekeeping round (Tables HKP-1, HKP-2). `chamber` holds the
digital difference of each chamber channel's window, `die` the die sensors in 0.01 °C (`none`:
broken), `mains` the RMS sense of each line (before HK.MAINS_SCALE) and its half-cycle count with
the time they took, in 1/256 ns. -/
structure RoundInputs where
  chamber : List Int := []
  die : List (Option Int) := []
  drvBus : List Int := []
  stpBus : Int := 0
  refcal : Int := 0
  refcalChamber : List Int := []
  vstby : Int := 0
  phantom : Int := 0
  mains : List Nat := []
  deriving DecidableEq, Repr

/-- A wake event of R277; a pattern comes in at a port. -/
inductive WakeCause where
  | pattern (port : Fin 2) | nWake | wakeTime
  deriving DecidableEq, Repr

/-- What the shut-down self-test measures (R374 to R377). -/
structure SelfTestInputs where
  zeroReadBack : Bool
  partFail : U64
  failingRows : List (Fin 96 × Fin 1024)
  durationUs : U32
  deriving DecidableEq, Repr

/-- A parameter write entry (Table KEEP-9): index, sub-index and the value bytes. -/
structure ParamEntry where
  index : U16
  sub : Byte
  value : List Byte
  deriving DecidableEq, Repr

/-- How a register-window write arrives (R345). -/
inductive WindowPath where
  | transport | spi
  deriving DecidableEq, Repr

/-- The operands of SERVO_TEST_START (Table SERVO-7). -/
structure ServoTest where
  loop : Byte
  point : Byte
  wave : Byte
  nsig : Byte
  sig : List Byte
  decim : Byte
  a : U32
  f0 : U32
  f1 : U32
  hold : U16
  pre : U32
  duration : U32
  samples : U32
  deriving DecidableEq, Repr

/-- What a receiver finds of a frame that arrives on a lane (05 R117): its LEN_CHK matches, its TYPE is not reserved, its CRC is
good. -/
structure RxFrame where
  lenChk : Bool := true
  typeOk : Bool := true
  crcOk : Bool := true
  deriving DecidableEq, Repr

/-- The frame is not discarded. -/
def RxFrame.good (f : RxFrame) : Bool := f.lenChk && f.typeOk && f.crcOk

/-- The content of a frame that arrives on a lane, and what its receiver finds of the frame. -/
structure Rx (α : Type) where
  body : α
  chk : RxFrame := {}
  deriving DecidableEq, Repr

/-- A codeword that RS decoding could not correct, or whose CHK is bad, and the frames lost with it (05 R117). -/
structure CwError where
  badChk : Bool
  lost : Nat := 0
  deriving DecidableEq, Repr

/-- What pre-training a reserve lane gives: latencies by tile in ps, and the equaliser's coefficients (05 R133). -/
structure Pretrained where
  latencies : List Nat
  coef : List Byte := []
  deriving DecidableEq, Repr

/-- A numbered part of the block, and whether a parity error is found in its state (06 R159, 07 R179). -/
structure Part (n : Nat) where
  no : Fin n
  parity : Bool := false
  deriving DecidableEq, Repr

/-- An IEEE 1588 message as a port receives it: its transport, and its VID where it is tagged (06 R146, R157). -/
structure PtpFrame where
  msg : PtpMsg
  via : PtpVia := .layer2
  vlan : Option Nat := none
  deriving DecidableEq, Repr

/-- What turns a drive's gates off: a shunt sample at I_MAX, or DRVn_nGDF low; or DRVn_nGDF goes high again (09 R211). -/
inductive DrvTrip where
  | shunt | gdfLow | gdfHigh
  deriving DecidableEq, Repr

/-- An edge of AXn_nFLT (10 R227). -/
structure FltPin where
  axis : Fin 8
  high : Bool := false
  deriving DecidableEq, Repr

/-- Who reads an SRAM word with an error: a DMA channel, or the packet, by channel and SEQ, that the word holds (15 R319). -/
structure SramReader where
  dma : Option (Fin 32) := none
  packet : Option (Fin 64 × U32) := none
  deriving DecidableEq, Repr

/-- Why a measurement run ends early (R336, record 0x0002). -/
inductive CalEnd where
  | enableRemoved | carriageMoved
  deriving DecidableEq, Repr

/-- The commands and events, in the order of spec/opcode_table.json. -/
inductive Instr where
  | layArm (q : Req) (d : LayerDesc) (rtt : List Nat)
  | layStart (q : Req)
  | stagelineStartMarker (dt : Nat)
  | doseRingPrimed (dt : Nat)
  | layAbort (q : Req) (atTime : U64)
  | layStatus (q : Req)
  | layRecordGet (q : Req) (layerNo : U32) (repair : Byte)
  | lineMarker (dt : Nat) (m : Int) (noBuffer : Bool)
  | carriageStall (dt : Nat)
  | calibrationStale (dt : Nat)
  | mapRowDrop (dt : Nat) (row : Nat)
  | runupTimeout (dt : Nat) (rtt : List Nat)
  | followerAtRest (dt : Nat)
  | runOutDone (dt : Nat) (rtt : List Nat)
  | learnUpdate (dt : Nat)
  | aqripolBlock (dt : Nat) (queue : Fin 2) (parity : Bool)
  | blockAccepted (dt : Nat) (queue : Part 2)
  | inflaterSlotFree (dt : Nat) (queue : Fin 2)
  | compressHandover (dt : Nat) (kind : Byte) (place : Fin 4) (items : U16) (parity : Bool)
  | compressDone (dt : Nat) (place : Fin 4) (faulty : Bool)
  | compressBypass (dt : Nat)
  | shadowCompare (dt : Nat) (wrong : List (Nat × Nat × U16))
  | dataKekAgree (q : Req) (hostKey : List Byte)
  | dataKeyLoad (q : Req) (slot : Byte) (ivFixed : U32) (wrapped : List Byte)
  | dataKeyClear (q : Req) (slot : Byte)
  | dataKeyStatus (q : Req)
  | dataStreamStatus (q : Req) (queue : Byte)
  | dataShadowReport (q : Req)
  | dataCompress (q : Req) (src : U32) (len : U32)
  | doseBilletRead (q : Req) (column : U16)
  | doseBilletWrite (q : Req) (column : U16) (weights : List Byte)
  | doseBilletDefault (q : Req) (lane : Byte)
  | emonCapArm (q : Req)
  | emonCapTrigger (q : Req)
  | emonCapStop (q : Req)
  | emonCapHeader (q : Req)
  | emonCapRelease (q : Req) (mode : Byte)
  | emonLearnReset (q : Req)
  | captureClearDone (dt : Nat)
  | markerAdvance (dt : Nat) (waitNs : Nat)
  | deliveryReport (dt : Nat) (chain : Fin 4) (pos : Fin 18) (period : U32) (fired : U16) (status : Rx Byte)
  | ackUnknown (dt : Nat) (chain : Fin 4) (pos : Fin 18) (period : U32)
  | photodiodeReturn (dt : Nat) (chain : Fin 4) (pos : Fin 18) (period : U32) (flags : U16) (samples : Rx (List (BitVec 12)))
  | telemetryFrame (dt : Nat) (chain : Fin 4) (pos : Fin 18) (frame : Rx Telemetry)
  | managementResponse (dt : Nat) (chain : Fin 4) (pos : Fin 18) (tag : Byte) (status : Byte) (data : Rx (List Byte))
  | codewordUncorrectable (dt : Nat) (lane : Fin 5) (error : CwError)
  | laneFailover (dt : Nat) (chain : Fin 4)
  | failoverComplete (dt : Nat) (chain : Fin 4)
  | chainRailsGood (dt : Nat) (chain : Fin 4)
  | segmentTrained (dt : Nat) (chain : Fin 4) (space : List Byte)
  | segmentTrainFail (dt : Nat) (chain : Fin 4)
  | chainDiscovered (dt : Nat) (chain : Fin 4) (rtt : List Nat) (blocks : List (List Byte))
  | loadSwitchClose (dt : Nat) (chain : Fin 4)
  | reservePretrain (dt : Nat)
  | pretrainDone (dt : Nat) (ok : Bool) (got : Pretrained)
  | presenceLoss (dt : Nat) (chain : Fin 4)
  | railDischargeCheck (dt : Nat) (chain : Fin 4) (maxMv : Nat)
  | presenceReturn (dt : Nat) (chain : Fin 4)
  | linkChainPower (q : Req) (chain : Byte) (on : Byte)
  | linkDescRead (q : Req) (chain : Byte) (pos : Byte) (addr : U32) (len : U16)
  | linkDescWrite (q : Req) (chain : Byte) (pos : Byte) (addr : U32) (len : U16) (data : List Byte)
  | linkTileSwitch (q : Req) (chain : Byte) (pos : Byte) (close : Byte)
  | linkFailover (q : Req) (chain : Byte)
  | linkRestore (q : Req) (chain : Byte)
  | linkStatus (q : Req) (chain : Byte)
  | transportPacketRx (dt : Nat) (port : Fin 2) (frame : EthFrame) (buffersFull : Bool)
  | ackTimer (dt : Nat) (channel : Fin 64)
  | retransmitTimeout (dt : Nat) (channel : Fin 64)
  | inboundGapTimeout (dt : Nat) (channel : Fin 64)
  | outboundPeerLost (dt : Nat) (channel : Fin 64)
  | keepaliveSend (dt : Nat) (port : Fin 2)
  | portDown (dt : Nat) (port : Fin 2)
  | ptpMessageRx (dt : Nat) (port : Fin 2) (frame : PtpFrame)
  | ptpSyncLost (dt : Nat)
  | hostPortStatus (q : Req) (port : Byte)
  | hostPortRestart (q : Req) (port : Byte)
  | hostChanOpen (q : Req) (channel : Byte) (reliable : Byte) (dir : Byte)
  | hostChanClose (q : Req) (channel : Byte)
  | dmaStart (q : Req) (ch : Byte) (desc : U32)
  | dmaStop (q : Req) (ch : Byte)
  | dmaDisable (q : Req) (ch : Byte)
  | dmaStatus (q : Req) (ch : Byte)
  | dmaBurst (dt : Nat) (ch : Part 32)
  | dmaStarveBoost (dt : Nat) (ch : Fin 32)
  | baseTick (dt : Nat)
  | encoderPositionChange (dt : Nat) (enc : Fin 4) (pos : Int)
  | encoderZEdge (dt : Nat) (enc : Fin 4)
  | encoderLost (dt : Nat) (enc : Fin 4) (cause : EncLoss)
  | carriageInPosition (dt : Nat)
  | outputSaturated (dt : Nat) (slot : Fin 24)
  | servoLoopEnable (q : Req) (slot : Byte) (on : Byte)
  | servoLoopCommit (q : Req) (slot : Byte)
  | servoTableWrite (q : Req) (table : Byte) (first : U16) (count : U16) (values : List U32)
  | servoEncReference (q : Req) (enc : Byte)
  | servoCarriageMove (q : Req) (target : U32)
  | servoCarriageStop (q : Req)
  | servoTestStart (q : Req) (t : ServoTest)
  | servoTestStop (q : Req)
  | servoStatus (q : Req) (slot : Byte)
  | decisionPeriod (dt : Nat) (ch : Fin 8) (iu : Int) (iv : Int) (iw : Int) (vbusMv : Nat)
  | driveOvercurrent (dt : Nat) (ch : Fin 8) (trip : DrvTrip)
  | bemfZeroCrossing (dt : Nat) (ch : Fin 8) (phase : Fin 3) (rising : Bool)
  | catchTimeout (dt : Nat) (ch : Fin 8)
  | brakeElapsed (dt : Nat) (ch : Fin 8)
  | alignElapsed (dt : Nat) (ch : Fin 8)
  | coastElapsed (dt : Nat) (ch : Fin 8)
  | standstillOffset (dt : Nat) (ch : Fin 8) (u : Int) (v : Int) (w : Int)
  | driveStall (dt : Nat) (ch : Fin 8)
  | drvEnable (q : Req) (ch : Byte) (on : Byte)
  | drvCurveWrite (q : Req) (ch : Byte) (points : List (U32 × U32))
  | drvAlign (q : Req) (ch : Byte)
  | drvAlignDone (dt : Nat) (ch : Fin 8)
  | drvStatus (q : Req) (ch : Byte)
  | stepperPwmPeriod (dt : Nat) (axis : Fin 8) (vbusUv : Nat)
  | voltageSaturation (dt : Nat) (axis : Fin 8)
  | profileEvaluation (dt : Nat)
  | stepDriverFault (dt : Nat) (pin : FltPin)
  | switchSample (dt : Nat) (axis : Fin 8) (levels : BitVec 3)
  | switchQualified (dt : Nat) (axis : Fin 8) (input : Fin 3)
  | stepEnable (q : Req) (axis : Byte) (on : Byte)
  | stepMove (q : Req) (unit : Byte) (abs : Byte) (vmax : U32) (amax : U32) (jmax : U32) (targets : List (BitVec 48))
  | stepStop (q : Req) (unit : Byte)
  | stepResume (q : Req) (unit : Byte)
  | stepFlush (q : Req) (unit : Byte)
  | stepHome (q : Req) (axis : Byte)
  | stepGroup (q : Req) (group : Byte) (mask : Byte)
  | stepSwReset (q : Req) (axis : Byte)
  | stepStatus (q : Req) (unit : Byte)
  | roundStart (dt : Nat)
  | roundPublish (dt : Nat) (inputs : RoundInputs)
  | mainsZeroCross (dt : Nat) (line : Fin 2) (positive : Bool)
  | mainsLost (dt : Nat) (line : Fin 2)
  | heaterPwmPeriod (dt : Nat) (heater : Fin 32)
  | hkRead (q : Req) (first : Byte) (count : Byte)
  | htrOtReset (q : Req) (heater : Byte)
  | analogueTrip (dt : Nat)
  | wearSave (dt : Nat)
  | pwrState (q : Req) (target : Byte)
  | pwrRail (q : Req) (slot : Byte) (on : Byte)
  | pwrMargin (q : Req) (slot : Byte) (dir : Byte) (permille : Byte)
  | marginTrimDone (dt : Nat) (slot : Fin 32) (reached : Bool) (trim : BitVec 12)
  | pwrRailStatus (q : Req) (slot : Byte)
  | pwrStageClaim (q : Req) (force : Byte)
  | pwrStageRelease (q : Req)
  | pwrStageDiscover (q : Req)
  | pwrStageSeq (q : Req) (action : Byte) (first : U16) (last : U16) (atTime : U64) (staggerUs : U16)
  | pwrStageStart (q : Req) (atTime : U64)
  | railDelayElapsed (dt : Nat) (slot : Fin 32)
  | railGood (dt : Nat) (slot : Fin 32) (mv : U16) (voutMode : Byte)
  | railPgTimeout (dt : Nat) (slot : Fin 32)
  | railDecayed (dt : Nat) (slot : Fin 32) (mv : U16)
  | railDecayTimeout (dt : Nat) (slot : Fin 32)
  | railLost (dt : Nat) (slot : Fin 32) (mv : U16)
  | railOvervoltage (dt : Nat) (slot : Fin 32) (mv : U16)
  | pmbusAlert (dt : Nat) (slot : Fin 32) (status : Option (U16 × Byte × Byte))
  | pmbusPoll (dt : Nat) (slot : Fin 32) (readings : Option (U16 × U16 × U16))
  | wakeEvent (dt : Nat) (cause : WakeCause)
  | vstbyLost (dt : Nat)
  | phantomLost (dt : Nat)
  | phantomOvercurrent (dt : Nat)
  | stagelineFrameRx (dt : Nat) (port : Fin 2) (frame : StageFrame)
  | neighbourSend (dt : Nat) (port : Fin 2)
  | nodeZeroTimeout (dt : Nat)
  | sweepSend (dt : Nat)
  | stageRequestTimeout (dt : Nat)
  | claimWindowEnd (dt : Nat)
  | masterLost (dt : Nat)
  | autoClaim (dt : Nat)
  | seqApply (dt : Nat)
  | stageLinkDown (dt : Nat) (port : Fin 2)
  | referenceNotReady (dt : Nat)
  | referenceLost (dt : Nat)
  | porterCrystalFail (dt : Nat)
  | porterRcTrim (dt : Nat)
  | pllLock (dt : Nat) (pll : Fin 5) (band : BitVec 6) (inRange : Bool)
  | pllUnlock (dt : Nat) (pll : Fin 5)
  | exppllPhaseAligned (dt : Nat)
  | secondBoundary (dt : Nat)
  | timeMarkerRx (dt : Nat) (port : Fin 2)
  | segmentDelayMeasure (dt : Nat) (port : Fin 2) (exchanges : List (Nat × Nat))
  | holdoverEntry (dt : Nat)
  | leapApply (dt : Nat)
  | ptpDisagreement (dt : Nat)
  | clkTimeGet (q : Req)
  | clkTimeSet (q : Req) (year : U16) (month : Byte) (day : Byte) (hour : Byte) (minute : Byte) (second : Byte) (reserved : Byte) (nsec : U32)
  | clkLeapSet (q : Req) (offset : U16) (atTime : U64)
  | clkStatus (q : Req)
  | faultRaise (dt : Nat) (source : Fin 320) (data : BitVec 63) (condition : Bool)
  | reactionCheck (dt : Nat) (nEmitHigh : Bool) (driveRailsLow : Bool)
  | emitInhibitRise (dt : Nat)
  | inhibitHoldExpiry (dt : Nat)
  | sramError (dt : Nat) (offset : U32) (corrected : Bool) (reader : SramReader)
  | regionWriteBlocked (dt : Nat) (offset : U32) (master : Byte)
  | scrubPass (dt : Nat)
  | faultClear (q : Req) (source : U16)
  | faultStatus (q : Req) (first : U16) (count : U16)
  | faultFirst (q : Req)
  | faultInject (q : Req) (source : U16)
  | liveTableRebuild (dt : Nat)
  | bracketLoad (dt : Nat) (chain : Fin 4) (pos : Fin 18)
  | calibrationBurstStart (dt : Nat)
  | calibrationPeriod (dt : Nat) (samples : List (Fin 4 × Fin 144 × Fin 128 × BitVec 12))
  | calibrationRunApply (dt : Nat)
  | calibrationRunEnd (dt : Nat) (cause : CalEnd)
  | traceEnterTimeout (dt : Nat)
  | hkTraceDone (dt : Nat)
  | tileOverdue (dt : Nat) (chain : Fin 4) (pos : Fin 18)
  | calRun (q : Req) (mask : BitVec 72)
  | calCancel (q : Req)
  | calStatus (q : Req)
  | calCellRead (q : Req) (chain : Byte) (pos : Byte) (row : Byte) (col : U16)
  | calCellSet (q : Req) (chain : Byte) (pos : Byte) (row : Byte) (col : U16) (action : Byte)
  | calPdTrace (q : Req) (chain : Byte) (pos : Byte) (samples : List (Fin 8 × Fin 128 × BitVec 12))
  | calPdEnter (q : Req) (energyNj : U32)
  | calHkTrace (q : Req)
  | calUserReset (q : Req) (chain : Byte) (pos : Byte)
  | keeperWatchdogTrip (dt : Nat) (core : Fin 3)
  | keeperRestartDone (dt : Nat)
  | loadWindow (dt : Nat) (load : BitVec 7)
  | requestAging (dt : Nat) (mb : Fin 7) (tag : U16)
  | sessionTimeout (dt : Nat) (mb : Fin 4)
  | claimWindowClose (dt : Nat)
  | storeCommitDelay (dt : Nat) (flash : List Bool)
  | gbFlush (dt : Nat)
  | mb4ReqDoorbell (dt : Nat)
  | mb4AckDoorbell (dt : Nat)
  | timeNowRead (dt : Nat)
  | registerWrite (dt : Nat) (path : WindowPath) (offset : BitVec 12) (value : U32)
  | keepIdent (q : Req)
  | keepStatus (q : Req)
  | paramRead (q : Req) (index : U16) (sub : Byte) (count : Byte)
  | paramWrite (q : Req) (entry : ParamEntry)
  | paramWriteSet (q : Req) (n : Byte) (entries : List ParamEntry)
  | sessionOpen (q : Req) (force : Byte)
  | sessionClose (q : Req)
  | sessionClaim (q : Req) (force : Byte)
  | keepResync (q : Req)
  | waybillRead (q : Req) (generation : U32) (offset : U32) (len : U16)
  | gbRead (q : Req) (fromSeq : U32) (count : U16)
  | gbAck (q : Req) (rdSeq : U32)
  | storeCommit (q : Req) (flash : List Bool)
  | storeStatus (q : Req)
  | fwBegin (q : Req) (length : U32)
  | fwWrite (q : Req) (offset : U32) (data : List Byte)
  | fwVerify (q : Req)
  | fwActivate (q : Req) (mode : Byte)
  | fwConfirm (q : Req)
  | bistResultRead (q : Req)
  | secIdentGet (q : Req)
  | wearRead (q : Req)
  | shutdownSelfTest (dt : Nat) (inputs : SelfTestInputs)
  | selfTestInterrupt (dt : Nat)
  | boot (dt : Nat)
  | emitInhibitFall (dt : Nat)
  | portLinkUp (dt : Nat) (port : Fin 2)
  | vstbyReturn (dt : Nat)
  | phantomReturn (dt : Nat)
  | phantomFoldbackEnd (dt : Nat)
  | sixStepCommutation (dt : Nat) (ch : Fin 8)
  | claimCollisionResend (dt : Nat)
  | storeDeferralLimit (dt : Nat) (flash : List Bool)
  | repairLineBuilt (dt : Nat) (line : Nat)
  deriving DecidableEq, Repr

end Sys2Proof
end

