-- ==== Sys2Proof/Config.lean ====
section
/-!
DEFINITION. What one device is made with (OTP contents, measured latencies), what the spec gives by
reference to another standard, and the values the spec leaves open. Every constant here is opaque: no
proof can see a value of it, so a statement holds whatever it is (assumption log entries 6 to 9).
-/

namespace Sys2Proof.Config

/-! ### OTP and factory values (log entry 7) -/

/-- HOST.MAC of a port (06 Table HOST-4: OTP). -/
opaque mac : Nat → BitVec 48
/-- UNIT_ID, 64-bit unit identity (17 Table KEEP-1: OTP). -/
opaque unitId : U64
/-- SILICON_REV (17 Table KEEP-1). -/
opaque siliconRev : U16
/-- GRADE: 0 VH2620-I, 1 VH2620-C (00 R5, 17 Table KEEP-1). -/
opaque grade : Fin 2
/-- Factory offset of a shunt leg, in 1/256 count, 24 bits signed (09 R217: OTP). -/
opaque shuntOffset : Nat → Int
/-- Factory-measured repeater latency and output latency of the Stageline, ps (14 R298, Table CLK-3). -/
opaque repeaterPs : Nat
opaque outputPs : Nat
/-- Crystal compensation of a junction band at a junction temperature, 0.001 ppb (12 R260). -/
opaque crystalComp : Nat → Int → Int
/-- Gain of a housekeeping converter, Q2.14, 0 to 3 the chamber banks, 4 internal (16 R325: OTP). -/
opaque convGain : Nat → Nat
/-- Compensation of a converter in a thermal band, Q2.14: converter, band (16 R338, 12 R260: OTP). -/
opaque bandGain : Nat → Nat → Nat
/-- Value of a channel of the internal converter in its unit, from its reading in µV (11 Table HKP-1; 16 R338): channel, reading. -/
opaque internalUnit : Nat → Int → Int
/-- The random numbers behind the device's identity key, and behind Zelrak's key and the certificate it signed (18 R383). -/
opaque identityKey : Nat
opaque zelrakKey : Nat
opaque certNonce : Nat
/-- Image-key hash in OTP (18 R380), FW_VERSION and SEC_VERSION of the image a slot holds from manufacture. -/
opaque imageKeyHash : List Byte
opaque factoryVersion : Nat → U32
opaque factorySec : Nat → Nat

/-! ### Standards the spec names (log entry 8) -/

/-- The device's random numbers of DATA_KEK_AGREE: the ephemeral key of a use, and its signature's (07 R175). -/
opaque ephemeralKey : Nat → Nat
opaque signNonce : Nat → Nat
/-- DEFLATE as the compressor chooses it (RFC 1951 leaves the choice): DATA.CMP_MODE, content ↦ coded (07 R177). -/
opaque deflate : Nat → List Byte → List Byte
/-- The 30 parity symbols of RS(544,514) over a codeword's header and block; the spec names the code alone (05 R115). -/
opaque rsParity : BitVec 20 → List Byte → BitVec 300

/-! ### Open values (log entry 6) -/

/-- A value the spec leaves open, fresh for each use: the argument is `State.free`. -/
opaque freeNat : Nat → Nat
/-- Rows that an interrupted self-test had repaired, by bank × 1024 + row, at each free value (18 R376). -/
opaque openRows : Nat → List Nat
/-- A bridge's duty with no supply: the coil voltage (10 R226 divides by the supply). -/
opaque dutyNoSupply : Int → Int
/-- Whether the temperature of an RTD with a reading in µV is rounded up to 0.01 °C, where it lies between two (11 R245). -/
opaque rtdUp : Int → Bool
/-- Value of a scaled channel outside s32, from the exact result (11 R245). -/
opaque scaledOver : Int → BitVec 32
/-- Thermocouple by the inverse functions of IEC 60584-1: type, reading in µV, cold junction in 0.01 °C ↦ 0.01 °C (11 R245). -/
opaque thermocouple : Nat → Int → Int → Int
/-- Current in µA of a proximity switch from its reading in µV (11 Table HKP-3). -/
opaque proxCurrent : Int → Int
/-- Whether a × sin of num / den of a turn is rounded up, where it is not an integer (08 R203, 09 R212, 10 R226). -/
opaque sineUp : Int → Nat → Nat → Bool
/-- Whether the angle of a vector is rounded up in 2^-32 turn, and the angle of the zero vector (09 R212). -/
opaque angleUp : Int → Int → Bool
opaque zeroAngle : Nat
/-- Velocity (nm/s) of an encoder whose newest change, at this time and position, has no change
VEL_WINDOW_US before it (08 R199 states none). -/
opaque velocityShort : Nat → Int → Int
/-- The scaled output of a slot whose FF value and VNOM / 4 are both 0: output before scaling, FF_MODE, VNOM (08 R188
divides by it). -/
opaque scaleZero : Int → Nat → Nat → Int
/-- Position (nm) and velocity (µm/s) that the tables of a slot take when FB_SRC names no encoder (08 R188). -/
opaque tabPos : Int
opaque tabVel : Int
/-- Spacing of an encoder's index marks, in 1/4096 period (08 R200 compares with it and states none). -/
opaque zSpacing : Nat → Nat
/-- Where in the general pool a Waybill snapshot lies, in units of 64 bytes (17 R360 gives no place). -/
opaque waybillSlot : Nat
/-- Where in the general pool the shadow snapshot lies, in units of 64 bytes (07 R182 gives no place). -/
opaque shadowSlot : Nat
/-- The 1588 filter of the master: use, measured offset in ps ↦ filtered offset (14 R298 gives no filter). -/
opaque ptpFilter : Nat → Int → Int
/-- DELAY field of a row that R83 skips in a period (03 R81 assigns none). -/
opaque skippedDelay : Nat → Nat → Nat
/-- GAIN measured on a cell whose factory RATE is 0, from the measured rate; PD_GAIN from a trace without energy, from the
gain and ENERGY_NJ; HK_GAIN from a mean reading of 0, from the gain (16 R333, R337, R338 divide by them). -/
opaque gainNoRate : Int → Int
opaque pdGainDark : Nat → Nat → Int
opaque hkGainDark : Nat → Int
/-- Whether the sine table of R226 holds 1 as 0x7FFF: Q1.15 does not reach 1. -/
opaque sineTop : Bool

end Sys2Proof.Config
end

