-- ==== Sys2Proof/Machine/Bytes.lean ====
section
/-!
DEFINITION. Bytes of structures, their CRC-32C (00 R8, R9), and the firmware directory as the flash holds it.
-/

namespace Sys2Proof.Machine

/-- `n` bytes of a number, least significant first (R8). -/
def le : Nat → Nat → List Byte
  | 0, _ => []
  | n + 1, v => BitVec.ofNat 8 v :: le n (v / 256)

/-- `n` bytes of an integer in two's complement. -/
def leI (n : Nat) (v : Int) : List Byte := le n (toField (8 * n) v)

/-- The number that bytes hold, least significant first. -/
def ofLe : List Byte → Nat
  | [] => 0
  | b :: bs => b.toNat + 256 * ofLe bs

/-- The field of `n` bytes at an offset of a structure. -/
def fieldAt (bs : List Byte) (off n : Nat) : Nat := ofLe ((bs.drop off).take n)

/-- One bit step of the reflected CRC-32C. -/
def crcBit (c : Nat) : Nat := if c % 2 = 1 then (c / 2) ^^^ 0x82F63B78 else c / 2

/-- One byte step of CRC-32C. -/
def crcByte (c : Nat) (b : Byte) : Nat :=
  crcBit (crcBit (crcBit (crcBit (crcBit (crcBit (crcBit (crcBit (c ^^^ b.toNat))))))))

/-- CRC-32C of bytes (PRESUMED, log entry 10: reflected polynomial 0x1EDC6F41, initial and final
all ones; the spec names it only). -/
def crc32c (bs : List Byte) : Nat := (bs.foldl crcByte 0xFFFFFFFF) ^^^ 0xFFFFFFFF

/-- Bytes followed by their CRC-32C. -/
def withCrc (bs : List Byte) : List Byte := bs ++ le 4 (crc32c bs)

/-- Pads or cuts bytes to a length with zeros. -/
def padTo (n : Nat) (bs : List Byte) : List Byte := (bs ++ List.replicate n 0).take n

/-! ### The firmware directory (17 R368) -/

/-- A directory copy: SEQ, ACTIVE, PREVIOUS, TRIAL, the lengths and FW_VERSIONs of the slots, and its CRC-32C, in the order in
which R368 lists them (log entry 69). -/
def dirCopy (seq active prev trial : Nat) (lengths versions : List Nat) : List Byte :=
  withCrc (le 4 seq ++ le 1 active ++ le 1 prev ++ le 1 trial ++ lengths.flatMap (le 4) ++ versions.flatMap (le 4))

/-- The directory of manufacture: slot 0 runs, confirmed (log entry 69). -/
def factoryDir : List Byte := dirCopy 0 0 0 0 [0, 0] [(Config.factoryVersion 0).toNat, (Config.factoryVersion 1).toNat]

end Sys2Proof.Machine
end

