-- ==== Sys2Proof/Machine/State.lean ====
section
/-!
DEFINITION. The state of the VH2620 as plain data, and `State.reset`.

A field's docstring ends with the section file and rule that name it, and with `DC <n>` where the
spec gives no reset value and assumption log entry <n> names the one taken, or where the field is the
model's own. The default value of a field is its reset value. Parameters (the tables of 0xSSnn.kk)
live in `State.params`, read through Machine/Ops.lean; an unlisted parameter has its reset value.
-/

namespace Sys2Proof.Machine

/-- A finite table keyed by a number, keys strictly rising. -/
abbrev AMap (α : Type) := List (Nat × α)

/-- Why a step stops. -/
inductive Fault where
  /-- Raised by SRAM_ERROR and REGION_WRITE_BLOCKED when the SRAM offset named lies at or above
  0x0180_0000, where Table ARCH-6 has no region. Safe: the spec gives the device no such word. -/
  | noSuchAddress (offset : Nat)
  deriving DecidableEq, Repr

/-- Why a command has no meaning. -/
inductive Refusal where
  /-- Answered only by a dispatch arm of a command that has no meaning yet. Safe. -/
  | notModelled (mnemonic : String)
  deriving DecidableEq, Repr

/-- Power states (00 R4, Table SCOPE-2). -/
inductive PowerState where
  | off | porter | standby | ready | doze | expose
  deriving DecidableEq, Repr

/-- Layer states (02 R34, Table LAY-1). -/
inductive LayerState where
  | idle | armed | runUp | expose | runOut | commit
  deriving DecidableEq, Repr

/-- A request that is being executed or whose answer is still to come (17 Tables KEEP-3, KEEP-4). -/
structure Waiting where
  mb : Nat := 6
  opcode : U16 := 0
  tag : U16 := 0
  cls : Byte := 1
  flags : Byte := 0
  tRx : Nat := 0
  /-- Line period in which it arrived: the last marker then passed, none with none [04 R106] -/
  line : Option Nat := none
  deriving DecidableEq, Repr

/-- A response (17 R349, Table KEEP-4) with its payload. -/
structure Response where
  w : Waiting
  status : U16
  tDone : Nat
  data : List Byte
  deriving DecidableEq, Repr

/-- How a transport packet is encapsulated (06 R147): its 802.1Q tag, and Ethernet under an EtherType or UDP from an own
address and port. An IPv4 packet carries DF set (06 R146). -/
inductive PortEncap where
  | ethernet (etherType : Nat)
  | udp4 (source : Nat) (df : Bool) (port : Nat)
  | udp6 (source : Nat) (port : Nat)
  deriving DecidableEq, Repr

/-- What a port answers for its own address; an IPv4 packet carries DF set (06 R146). -/
inductive PortReply where
  | arp (ip : U32) (mac : BitVec 48) (toIp : U32)
  | neighbour (ip : BitVec 128) (mac : BitVec 48) (toIp : BitVec 128)
  | echo4 (df : Bool) (ip toIp : U32) (data : List Byte)
  | echo6 (ip toIp : BitVec 128) (data : List Byte)
  deriving DecidableEq, Repr

/-- What leaves the block. The list `State.sent` holds these, newest first. -/
inductive Out where
  | response (r : Response)
  | packet (port : Nat) (vlan : Option Nat) (encap : PortEncap) (type : Byte) (flags : Byte)
      (channel : Nat) (session : U16) (seq : Option U32) (ack : U32) (txTime : U64) (payload : List Byte)
  | rowCommand (chain pos : Nat) (period : Nat) (mask : U16) (flags : U16) (delays : List Nat)
  | pulse (chain pos row : Nat) (period : Nat) (words : List (Nat × U16))
  | sync (chain : Nat) (marker : Nat) (tAdv : U16) (kind : Byte) (flags : Byte) (tMark : U64)
  | management (chain pos : Nat) (op tag : Byte) (addr : Nat) (data : List Byte)
  | trainNext (chain pos : Nat)
  | codeword (lane : Nat) (header : BitVec 20) (block : List Byte) (parity : BitVec 300)
  | stage (portA portB : Bool) (frame : StageFrame)
  | stageMarker (portA portB : Bool) (kind : Byte)
  | neighbour (port : Nat) (node : U16) (flags : U16) (accPs : U32) (turnPs : Option U32)
  | pmbus (slot : Nat) (code : Byte) (data : Option U16)
  | ptpDelayReq (port : Nat) (vlan : Option Nat) (df : Bool) (via : PtpVia)
  | portReply (port : Nat) (vlan : Option Nat) (reply : PortReply)
  deriving DecidableEq, Repr

/-! ### Layer cycle -/

/-- A layer record (02 R55, Table LAY-7); times are counter values, 0 where the event did not occur. -/
structure LayRec where
  layerNo : U32 := 0
  repair : Bool := false
  dir : Bool := false
  follower : Bool := false
  primeShort : Bool := false
  repairSkipped : Bool := false
  outcome : Byte := 0
  endCause : Byte := 0
  abortResult : Byte := 0
  lineCount : U32 := 0
  linesFull : U32 := 0
  stopMarker : U32 := 0xFFFFFFFF
  faultId : U16 := 0xFFFF
  faultClass : Byte := 0
  c1Count : Byte := 0
  tArm : Nat := 0
  tStart : Nat := 0
  tFirst : Nat := 0
  tFinal : Nat := 0
  tAbortReq : Nat := 0
  tAbortSample : Nat := 0
  tCommit : Nat := 0
  lateLines : U32 := 0
  missingLines : U32 := 0
  staleLines : U32 := 0
  lostFrames : U32 := 0
  deficitGroups : U32 := 0
  deficitTotal : U64 := 0
  billetVersion : U16 := 0
  calGeneration : U16 := 0
  rateMax : U16 := 0
  rateMin : U16 := 0
  linesAtStart : U32 := 0
  deriving DecidableEq, Repr

/-- A LAY_ABORT that waits for its sample (02 R49). -/
structure AbortReq where
  w : Waiting
  atTime : Nat
  tReq : Nat
  deriving DecidableEq, Repr

/-- The layer cycle sequencer. -/
structure Layer where
  /-- Layer state, 3 bits [02 R34] -/
  st : LayerState := .idle
  /-- REPAIR bit of the layer state byte [02 R34] -/
  repair : Bool := false
  /-- Descriptor frozen at ARMED [02 R34, Table LAY-3; DC 4] -/
  desc : LayerDesc := {}
  /-- Last line marker passed, none before the first of the pass [02 R31] -/
  marker : Option Nat := none
  /-- Marker -1 (the start of the build of period 0) has been passed [03 R63] -/
  preMarker : Bool := false
  /-- Final commit point m_final [02 R32] -/
  mFinal : Nat := 0
  /-- Distance of the last row from the leading row, nm [02 R32] -/
  dLast : Nat := 0
  /-- Cycle skip s fixed for the layer, THERM.SKIP, 4 bits [12 R262, Table THERM-3] -/
  skip : Nat := 0
  /-- Record under construction, 128 bytes as a structure [02 R55] -/
  record : LayRec := {}
  /-- Marker at which emission stopped in this pass, if it did [02 R33] -/
  stopped : Bool := false
  /-- A C2 fault that waits for the next marker (source) [02 R52] -/
  c2Wait : Option Nat := none
  /-- Enable was removed in EXPOSE; the layer goes to RUN_OUT at the next marker, END_CAUSE [02 R53, 15 Table FLT-4] -/
  cutCause : Option Nat := none
  /-- The abort that waits for its sample [02 R49, R51] -/
  abort : Option AbortReq := none
  /-- Consecutive markers above the over-speed limit [02 R40] -/
  overRun : Nat := 0
  /-- Consecutive missing lines [02 R48] -/
  missRun : Nat := 0
  /-- LAY.LAST_COMMITTED, 32 bits [02 R45, Table LAY-9] -/
  lastCommitted : U32 := 0
  /-- The 64 most recent records, newest first [02 R55] -/
  records : List LayRec := []
  /-- Records held while Keeper is unavailable, oldest first [02 R35] -/
  held : List LayRec := []
  /-- Carriage at rest in RUN_OUT [02 R41] -/
  atRest : Bool := false
  /-- Carriage position measured at rest, nm [02 R43] -/
  restPos : Int := 0
  /-- Counter value when the layer state was entered [02 R34, 16 R330] -/
  tState : Nat := 0
  /-- Emission enabled by the sequencer for this pass [01 R16, 15 R313] -/
  emitEnable : Bool := false
  /-- Per inflate queue: time of its last STALE record and the refusals since [02 R47] -/
  staleLog : List (Option Nat × Nat) := [(none, 0), (none, 0)]
  deriving DecidableEq, Repr

/-! ### Dose synthesiser -/

/-- A slot tag of the dose ring (03 R59). -/
structure RingTag where
  line : Nat
  complete : Bool
  deriving DecidableEq, Repr

/-- One pulse word of a built period with what it was built from (03 R79, R80). -/
structure WordRec where
  col : Nat
  line : Nat
  word : U16
  rate : Nat
  wid : Nat
  last : Bool
  deriving DecidableEq, Repr

/-- One row of a built period: its delay and its non-zero words (03 R63, R81). -/
structure RowBuild where
  lane : Nat
  row : Nat
  delay : Nat
  words : List WordRec
  /-- Its ROW_MASK bit: a pulse frame was handed over [05 R120] -/
  mask : Bool := false
  /-- Its pulse frame has been counted as lost [05 R123] -/
  lost : Bool := false
  deriving DecidableEq, Repr

/-- A line period as built (03 Table DOSE-1). -/
structure PeriodBuild where
  m : Nat
  v : Nat
  tPrev : Nat
  rows : List RowBuild
  /-- Counter value of marker m, once it has passed [04 Table EMON-4] -/
  t : Nat := 0
  /-- The advance point marked it NO_FIRE [05 R121]. -/
  noFire : Bool := false
  /-- Carry entries before this build: (entry, value), newest first [04 R98] -/
  undo : List (Nat × Nat) := []
  /-- Deficits this build passes when its period begins: (line, column, U, capped) [03 R80] -/
  defs : List (Nat × Nat × Nat × Bool) := []
  /-- Tiles (chain, position) to which its frames could not be sent [05 R124] -/
  unsent : List (Nat × Nat) := []
  /-- Live calibration buffer that the build read [01 R17, 07 R182] -/
  calBuf : Bool := false
  deriving DecidableEq, Repr

/-- What is known of a line of the layer (02 R46). -/
structure LineInfo where
  late : Bool := false
  missing : Bool := false
  deriving DecidableEq, Repr

/-- The dose synthesiser. -/
structure Dose where
  /-- Slot tags of the dose ring, keyed by slot 0 to 2047 [03 R59] -/
  ring : AMap RingTag := []
  /-- Row distances d[n][r] in nm, per lane 288 rows; empty for a lane that serves no columns [03 R64] -/
  dist : List (List Nat) := [[], [], [], []]
  /-- N_under of the armed layer [03 R61] -/
  nUnder : Nat := 1
  /-- DOSE.CARRY_GROUP, 4 bits [03 R66, Table DOSE-5] -/
  carryGroup : Nat := 1
  /-- The built periods still in use, newest first [03 Table DOSE-1, 05 R123] -/
  builds : List PeriodBuild := []
  /-- Marker times of the pass, newest first, at most two [03 R79] -/
  markerTimes : List Nat := []
  /-- Energy of returned frames waiting for the next build: (line, column, U) [05 R123] -/
  returned : List (Nat × Nat × Nat) := []
  /-- Lines known to be late or missing [02 R46] -/
  lines : AMap LineInfo := []
  /-- Lines below this one have passed their last row [02 R46, 03 R61] -/
  passed : Nat := 0
  /-- Lines that are complete in the ring but were too late for the first build: their passed shares are added at the next build [03 R63, R76] -/
  joins : List Nat := []
  /-- DOSE.CAL_GENERATION, 16 bits [03 R77, Table DOSE-5] -/
  calGen : U16 := 0
  /-- Active live table buffer, 0 at 0x0074_0000 or 1 at 0x0086_0000 [03 R77; DC 4] -/
  calBuf : Bool := false
  /-- A swap was requested in RUN_UP or EXPOSE [01 R17] -/
  swapReq : Bool := false
  /-- Housekeeping rounds since the last swap [03 R77] -/
  staleRounds : Nat := 0
  /-- 0x048 was raised in the present stretch [03 R77] -/
  staleRaised : Bool := false
  /-- DOSE.BILLET_VERSION, 16 bits [03 R70, Table DOSE-5] -/
  billetVersion : U16 := 0
  /-- Billet columns written while not IDLE, held until the next arming: weights per column [01 R18, 03 R70] -/
  billetHeld : AMap (List Byte) := []
  /-- Columns whose record was written in IDLE since the last arming [03 R68] -/
  touched : List Nat := []
  /-- DOSE.TRIM_BOUNDARY at the last arming, none since power-up [03 R68] -/
  lastBoundary : Option Nat := none
  /-- First-in-layer raises already made: 0x049, 0x04A, 0x04B, 0x04C [03 R84] -/
  firsts : List Bool := [false, false, false, false]
  deriving DecidableEq, Repr

/-! ### Emission monitor -/

/-- A pixel group (04 R88 to R99): sums in unit C, factors in Q2.14. -/
structure Group where
  sumM : Nat := 0
  sumP : Nat := 0
  senseM : Nat := 0
  senseP : Nat := 0
  deficitC : Nat := 0
  /-- Published factor and η, none with TRIM_NONE [04 R94, R95] -/
  factor : Option (Nat × Nat) := none
  /-- Factor in use for the pass once fixed, after the clamp [03 R74] -/
  fixed : Option Nat := none
  /-- Map flags [04 Table EMON-3] -/
  flags : Byte := 0
  /-- An uncorrectable pass-state word: no further attribution [15 Table FLT-6] -/
  dead : Bool := false
  deriving DecidableEq, Repr

/-- Capture states (04 Table EMON-5). -/
inductive CapState where
  | off | arming | filling | triggered | done
  deriving DecidableEq, Repr

/-- The pre-trigger capture (04 R105 to R109). -/
structure Capture where
  /-- EMON.CAP_STATE [04 R105] -/
  st : CapState := .off
  /-- CAPTURE_NO, captures since power-up, 32 bits [04 Table EMON-6] -/
  no : Nat := 0
  /-- Next record index of the ring [04 R105] -/
  next : Nat := 0
  /-- Records since marker 0 that precede a trigger, capped at CAP_PRE [04 R105] -/
  pre : Nat := 0
  /-- First period recorded since FILLING was entered [04 R105] -/
  since : Nat := 0
  /-- Records written since the trigger [04 R105] -/
  post : Nat := 0
  /-- END, TRIG_SRC of the capture in the header [04 Table EMON-6] -/
  endCode : Nat := 0
  trigSrc : Nat := 0
  dir : Bool := false
  repair : Bool := false
  layerNo : U32 := 0
  trigMarker : Nat := 0
  tTrig : Nat := 0
  preValid : Nat := 0
  extra : Nat := 0
  /-- Triggers missed since the previous capture [04 Table EMON-6] -/
  missed : Nat := 0
  /-- 0x087 raised since the last capture [04 R107] -/
  missRaised : Bool := false
  /-- EMON_CAP_STOP waiting for the next marker [04 R108] -/
  stop : Option Waiting := none
  /-- A stop that ended ARMING: OFF follows the clearing [04 R108] -/
  stopAfterClear : Bool := false
  deriving DecidableEq, Repr

/-- The emission monitor. -/
structure Emon where
  /-- GL of the armed pass, EMON.GROUP_LINES_ARMED, 8 bits [04 R88] -/
  gl : Nat := 1
  /-- EMON.TRIM_ACTIVE [04 R92] -/
  trimActive : Bool := false
  /-- Pixel groups keyed h × 512 + j [04 R88, pass state region beyond the carries] -/
  groups : AMap Group := []
  /-- Samples received: keyed period × 72 + tile [04 R87] -/
  samples : AMap (List (BitVec 12)) := []
  /-- Map rows already written [04 R101] -/
  rowsWritten : Nat := 0
  /-- Rows to write after an early stop, once emission has stopped [04 R101] -/
  rowsEnd : Option Nat := none
  /-- Header of the pass's map has been sent [04 R101] -/
  headerSent : Bool := false
  /-- MAP_GAPS, 16 bits saturating [04 R102] -/
  mapGaps : Nat := 0
  /-- DEFICIT_GROUPS and DEFICIT_TOTAL of the rows closed so far [04 R99] -/
  defGroups : Nat := 0
  defTotal : Nat := 0
  /-- Keeper's repair list: (row, pair, DEFICIT) [04 R100] -/
  repairList : List (Nat × Nat × Nat) := []
  /-- GL of the main pass behind the list [02 R43] -/
  repairGl : Nat := 1
  /-- Part of the repair list was lost [04 R100] -/
  listLost : Bool := false
  /-- First-in-layer raises already made: 0x081, 0x082, 0x083, 0x086 [04 R110] -/
  firsts : List Bool := [false, false, false, false]
  /-- Sums of η and counts per column pair of the pass, for learning [04 R96] -/
  etaSums : AMap (Nat × Nat) := []
  /-- Gains frozen at ARMED: EMON.LEARN, and with it the learned values of the 512 column pairs [04 R94] -/
  learnArmed : Bool := false
  gains : List Nat := []
  /-- The raw stream is on, taken at a marker [04 R103] -/
  streaming : Bool := false
  /-- Pre-trigger capture -/
  cap : Capture := {}
  /-- The last COMMIT qualifies for a learned-response update [04 R96] -/
  learnDue : Bool := false
  deriving DecidableEq, Repr

/-! ### Tile links -/

/-- Chain states (05 Table TILE-10). -/
inductive ChainState where
  | off | powering | bringup | up | doze | reserve | failed
  deriving DecidableEq, Repr

/-- A discovered tile. -/
structure Tile where
  /-- Descriptor header and machine area as read, 0x000 to 0x13F [05 R128] -/
  space : List Byte := []
  /-- Usable under R129 [05 R129] -/
  usable : Bool := false
  /-- Load switch closed [05 R134] -/
  lsw : Bool := false
  /-- Lost in a layer [05 R140] -/
  lost : Bool := false
  /-- D_p in ps, LINK.LATENCY_PS, 32 bits [05 R127] -/
  latency : Nat := 0
  /-- Newest telemetry and its arrival [05 R138, 11 R248] -/
  telem : Option (Telemetry × Nat) := none
  /-- Faulty cells reported: (row in tile, lane column, period) [05 R138] -/
  cellFaults : List (Nat × Nat × Nat) := []
  /-- Consecutive missing reports [05 R124, R140] -/
  missing : Nat := 0
  deriving DecidableEq, Repr

/-- A management request that waits for the tile's response (05 R119). -/
structure Mgmt where
  w : Option Waiting
  chain : Nat
  pos : Nat
  op : Byte
  tag : Byte
  addr : Nat
  data : List Byte
  deriving DecidableEq, Repr

/-- A chain of tiles. -/
structure Chain where
  /-- LINK.CHAIN_STATE [05 R131] -/
  st : ChainState := .off
  /-- LINK.SERVED_BY [05 R113, Table TILE-16] -/
  servedBy : Nat := 0
  /-- Discovered tiles in position order [05 R126, R129] -/
  tiles : List Tile := []
  /-- Presence loop closed [05 R114; DC 4] -/
  presence : Bool := false
  /-- TLn_nEMIT level; high keeps the tiles from firing [05 R114, R125] -/
  nEmit : Bool := true
  /-- TLn_DISCH asserted [05 R114, 13 R274; DC 4] -/
  disch : Bool := false
  /-- Usability of this chain's tiles is judged [05 R129] -/
  judged : Bool := false
  /-- A segment failed to train, so the chain ends before it [05 R126] -/
  found : Bool := false
  /-- Discovery of this chain has ended [05 R129] -/
  ended : Bool := false
  /-- Next position whose load switch is to be closed after the checks [05 R134] -/
  lswNext : Nat := 0
  /-- State to return to from DOZE [05 Table TILE-10] -/
  wakeTo : ChainState := .up
  /-- Failover in progress [05 R132] -/
  moving : Bool := false
  deriving DecidableEq, Repr

/-- The downstream codeword stream of a lane (05 R115): when it began, and the number of codewords sent since, idle ones
included. -/
structure LaneTx where
  since : Option Nat := none
  sent : Nat := 0
  deriving DecidableEq, Repr

/-- The tile link controller. -/
structure Link where
  /-- The four chains [05 R113] -/
  chains : List Chain := [{ servedBy := 0 }, { servedBy := 1 }, { servedBy := 2 }, { servedBy := 3 }]
  /-- TL4_SEL pins, 2 bits [05 R113; DC 4] -/
  tl4Sel : Nat := 0
  /-- Chain that TL4 serves [05 R132] -/
  tl4Chain : Option Nat := none
  /-- Chains whose TL4 pre-training is stored, and its equaliser coefficients [05 R133] -/
  tl4Ready : List Bool := [false, false, false, false]
  tl4Coef : List (List Byte) := [[], [], [], []]
  /-- Latencies of each chain's tiles over TL4, stored at pre-training, ps [05 R133] -/
  tl4Lat : List (List Nat) := [[], [], [], []]
  /-- Equaliser coefficients in use on TL4 [05 R132] -/
  tl4Use : List Byte := []
  /-- Chain whose pre-training comes next [05 R133] -/
  pretrainNext : Nat := 0
  /-- Pre-training in progress: chain [05 R133] -/
  pretrain : Option Nat := none
  /-- Times of uncorrectable codewords per lane, newest first [05 R132] -/
  uncorr : List (List Nat) := [[], [], [], [], []]
  /-- Consecutive bad CHK per lane [05 R132] -/
  chkRun : List Nat := [0, 0, 0, 0, 0]
  /-- Downstream codeword streams of TL0 to TL4: CW_SEQ is the count modulo 256 [05 R115, Table TILE-2] -/
  lanes : List LaneTx := [{}, {}, {}, {}, {}]
  /-- Frames discarded on receipt, per lane [05 R117] -/
  discards : List Nat := [0, 0, 0, 0, 0]
  /-- The device's column pitch while any chain has usable tiles, nm [05 R129] -/
  colPitch : Option Nat := none
  /-- adv_nm fixed at ARMED [05 R121] -/
  advNm : Nat := 0
  /-- Next marker whose advance point is to come [05 R121] -/
  nextAdvance : Nat := 0
  /-- First-in-layer raises already made: 0x0A7, 0x0AC, 0x0B4 [05 R121, R123, R138] -/
  firsts : List Bool := [false, false, false]
  /-- Management requests without a response [05 R119] -/
  mgmt : List Mgmt := []
  /-- Next management TAG [05 Table TILE-5; DC 4] -/
  mgmtTag : Byte := 0
  deriving DecidableEq, Repr

/-! ### Host ports, transport and DMA -/

/-- A packet sent and not acknowledged, or waiting for the window (06 R150). -/
structure TxPkt where
  seq : U32
  type : Byte
  flags : Byte
  payload : List Byte
  /-- Counter values of the first and the last transmission [06 R150, R152] -/
  first : Nat
  last : Nat
  deriving DecidableEq, Repr

/-- A packet received beyond a hole (06 R150, R151). -/
structure RxPkt where
  seq : U32
  flags : Byte
  payload : List Byte
  came : Nat
  deriving DecidableEq, Repr

/-- A packet's data on its way to a DMA channel or waiting at an inflate queue: the packet ends after these bytes, it carries
LAST, the stream is broken before it (06 R151, 07 R170), and its SEQ. -/
structure Piece where
  bytes : List Byte
  ends : Bool := true
  last : Bool := false
  broken : Bool := false
  seq : U32 := 0
  deriving DecidableEq, Repr

/-- A transport channel (06 R148 to R153). -/
structure Chan where
  isOpen : Bool := false
  reliable : Bool := true
  outbound : Bool := false
  /-- Next SEQ to send [06 R150] -/
  txSeq : U32 := 0
  /-- Unacknowledged packets, oldest first [06 R150, R152] -/
  unacked : List TxPkt := []
  /-- Packets that wait for the window, oldest first [06 R150] -/
  txWait : List TxPkt := []
  /-- Next SEQ expected [06 R150] -/
  rxNext : U32 := 0
  /-- Packets received beyond a hole, in SEQ order [06 R150] -/
  ooo : List RxPkt := []
  /-- Counter value of the last NAK that covered each missing SEQ [06 R150] -/
  nakAt : AMap Nat := []
  /-- Packets received since the last ACK, and the counter value of the first [06 R150] -/
  ackDue : Nat := 0
  ackSince : Nat := 0
  /-- Message bytes received and not yet taken [06 R148, 17 R349] -/
  rxData : List Byte := []
  /-- Packets of a bulk channel received and not yet taken by DMA, oldest first [06 R148] -/
  rxPkts : List Piece := []
  /-- The stream is broken before the next packet delivered [06 R151] -/
  broken : Bool := false
  deriving DecidableEq, Repr

/-- A host port. -/
structure Port where
  /-- HOST.LINK_STATE: 0 down, 1 training, 2 up [06 Table HOST-4] -/
  link : Nat := 0
  /-- Its channels have moved to the other port [06 R155] -/
  moved : Bool := false
  /-- Counter value of the last valid frame [06 R155] and of the last packet sent [06 R154] -/
  lastRx : Nat := 0
  lastTx : Nat := 0
  /-- FEC corrected and uncorrected codeword counts, 64 bits each [06 Table HOST-10] -/
  fecCorr : U64 := 0
  fecUncorr : U64 := 0
  deriving DecidableEq, Repr

/-- The host ports and the transport. -/
structure HostPorts where
  ports : List Port := [{}, {}]
  /-- Channels keyed by number; 0 to 4 always open and reliable [06 R148] -/
  chans : AMap Chan := [(0, { isOpen := true }), (1, { isOpen := true }), (2, { isOpen := true }), (3, { isOpen := true }), (4, { isOpen := true })]
  /-- Values in use of parameters 0x0710 to 0x0716 that differ from the reset values [06 R158] -/
  inUse : AMap Nat := []
  /-- 1588: arrival of a two-step Sync that waits for its Follow_Up [06 R157] -/
  ptpSync : Option Nat := none
  /-- 1588: time of the last Delay_Req [06 R157] -/
  ptpReq : Option Nat := none
  /-- 1588: forward and reverse differences, ps [06 R157] -/
  ptpFwd : Option Int := none
  ptpRev : Option Int := none
  /-- 1588: a Sync has been received and synchronisation is held [14 R296] -/
  ptpSynced : Bool := false
  /-- DMA channel engines found faulty by a parity error [06 R159] -/
  badEngines : List Nat := []
  deriving DecidableEq, Repr

/-- DMA channel states (06 Table HOST-7). -/
inductive DmaState where
  | idle | running | stopping
  deriving DecidableEq, Repr

/-- A DMA descriptor (06 Table HOST-5). -/
structure Desc where
  src : Nat := 0
  dst : Nat := 0
  srcSpace : Nat := 0
  dstSpace : Nat := 0
  evHalf : Bool := false
  evFull : Bool := false
  link : Bool := false
  elem : Nat := 8
  n0 : Nat := 1
  n1 : Nat := 1
  n2 : Nat := 1
  srcS : List Int := [0, 0, 0]
  dstS : List Int := [0, 0, 0]
  next : Nat := 0
  tag : U32 := 0
  deriving DecidableEq, Repr

/-- A logical DMA channel. -/
structure DmaChan where
  /-- DMA.STATE [06 R163] -/
  st : DmaState := .idle
  /-- DMA.END, 2 bits [06 R163] -/
  endCode : Nat := 0
  /-- DMA.PHYS, 6 bits [06 R159] -/
  phys : Nat := 0
  /-- Offset and contents of the current descriptor [06 R160; DC 4] -/
  descAt : Nat := 0
  desc : Desc := {}
  /-- Elements of the descriptor committed [06 R162] -/
  element : Nat := 0
  /-- Bytes of the current element moved, and those that wait for its commit [06 R162, R166] -/
  moved : Nat := 0
  buf : List Piece := []
  /-- The current element of a stream ends at the end of a block [06 R160; DC 62] -/
  ended : Bool := false
  /-- An outbound block ended within the current element; Guestbook: SEQ after it [06 R162, 17 R363] -/
  blkEnd : Option U32 := none
  /-- Passes started through each descriptor, by offset [06 R162] -/
  passes : AMap Nat := []
  /-- A DMA_STOP that waits for its sample [06 R164] -/
  stop : Option Waiting := none
  /-- Its transport peer was lost: it ends at the next descriptor boundary [06 R152] -/
  lost : Bool := false
  /-- A DMA_DISABLE that waits for the next element boundary [06 R165] -/
  disable : Option Waiting := none
  /-- Counter value of the last grant, and grants left in the round of DMA.WEIGHT [06 R166] -/
  lastGrant : Nat := 0
  credit : Nat := 0
  deriving DecidableEq, Repr

/-! ### Data engines -/

/-- A block in inflation: header fields and content (07 R172, R173). -/
structure Inflating where
  layerNo : U32
  seq : U32
  first : Nat
  count : Nat
  dictReset : Bool
  encrypted : Bool
  slot : Nat
  ivCount : U64
  content : List Byte
  /-- Lines already written to their slots [03 R61] -/
  written : Nat := 0
  deriving DecidableEq, Repr

/-- An inflate queue (07 R172). -/
structure InfQueue where
  /-- SEQUENCED (true) or RESYNC [07 R172; DC 4] -/
  sequenced : Bool := false
  /-- NEXT_SEQ, 32 bits [07 R173] -/
  nextSeq : U32 := 0
  /-- Last accepted BLOCK_SEQ, if any [07 R172] -/
  lastSeq : Option U32 := none
  /-- Line after the last accepted block [07 Table DATA-3] -/
  nextLine : Nat := 0
  /-- LAST_ERROR and its BLOCK_SEQ [07 R172] -/
  lastError : U16 := 0
  lastErrorSeq : U32 := 0
  /-- Uncompressed history, newest last, at most 32 KiB [07 R171] -/
  history : List Byte := []
  /-- Block in inflation [07 R173] -/
  cur : Option Inflating := none
  /-- What DMA has handed over and no block has taken, oldest first [07 R170, R174] -/
  arrived : List Piece := []
  /-- A hole was abandoned behind the block in inflation [07 R174] -/
  hole : Bool := false
  /-- After an abandoned hole it scans each packet start for a valid header [07 R174] -/
  scan : Bool := false
  deriving DecidableEq, Repr

/-- A job key slot (07 R175, R176). -/
structure KeySlot where
  loaded : Bool := false
  key : List Byte := []
  ivFixed : U32 := 0
  ivCount : U64 := 0
  deriving DecidableEq, Repr

/-- A content block on its way through a compressor (07 R177). -/
structure CmpJob where
  kind : Byte
  layerNo : U32
  firstLine : U32
  items : U16
  content : List Byte
  since : Nat
  w : Option Waiting := none
  /-- Guestbook block: SEQ after its last entry [17 R363] -/
  upTo : U32 := 0
  deriving DecidableEq, Repr

/-- An outbound block that waits at its data engine (07 R169). -/
structure OutBlk where
  bytes : List Byte
  /-- Guestbook block: SEQ after its last entry [17 R363] -/
  upTo : U32 := 0
  deriving DecidableEq, Repr

/-- Content that a producer has made and no compressor has taken: its FIRST_LINE and LAYER_NO, its bytes, and since when
(07 R177). -/
structure Made where
  first : U32
  layerNo : U32
  bytes : List Byte
  since : Nat
  deriving DecidableEq, Repr

/-- A shadow sample in the snapshot area: marker, chain and half, and the pulse words that R71 to R83 give its columns, by row
and column (07 R182). -/
structure Shadow where
  m : Nat
  chain : Nat
  half : Nat
  words : List (Nat × Nat × U16)
  deriving DecidableEq, Repr

/-- The layer data engines. -/
structure Data where
  queues : List InfQueue := [{}, {}]
  keys : List KeySlot := [{}, {}, {}, {}]
  /-- Active compressor places, their jobs [07 R177] -/
  cmp : List (Option CmpJob) := [none, none, none, none]
  /-- Jobs waiting for a free compressor, oldest first [07 R177] -/
  cmpWait : List CmpJob := []
  /-- BLOCK_SEQ of the next outbound block of engines 2, 3, 4 and 5 [07 Table DATA-2; DC 4] -/
  outSeq : List Nat := [0, 0, 0, 0]
  /-- Engines serving the inflater places 0, 1 and the compressor places 0 to 3 [07 R179, 17 Table KEEP-7] -/
  engines : List Nat := [0, 1, 0, 1, 2, 3]
  /-- Engines with a parity error in their state: inflater e as e, compressor e as 8 + e [07 R179] -/
  engBad : List Nat := []
  /-- Registers and working RAM of the AES block and of the elliptic-curve block, the working copy of the identity key, and the
  state of the random source: what each last worked on, 0 when cleared [18 R375, R383] -/
  aesRegs : List Byte := []
  ecRegs : Nat := 0
  identityCopy : Nat := 0
  random : Nat := 0
  /-- Output of DATA_COMPRESS in its area: bytes read, and its length [07 R178] -/
  out5Read : Nat := 0
  out5Len : Nat := 0
  /-- First bypass of the layer already raised [07 R177] -/
  bypassFirst : Bool := false
  /-- Shadow sample in the snapshot area [07 R182] -/
  shadow : Option Shadow := none
  /-- Next half-chain of the rotation, 2n + h [07 R182] -/
  shadowNext : Nat := 0
  /-- Last shadow mismatch: marker, chain, row, column, expected, actual [07 R182] -/
  mismatch : Option (Nat × Nat × Nat × Nat × U16 × U16) := none
  /-- Map items (KIND 2) and line records (KIND 3) that wait for their hand-over, oldest first [07 R177] -/
  made : List (List Made) := [[], []]
  /-- Outbound blocks waiting in engines 2, 3 and 4 [07 R169] -/
  outQ : List (List OutBlk) := [[], [], []]
  deriving DecidableEq, Repr

/-! ### Servo engine and encoders -/

/-- Coefficients of a slot in use (08 R189). -/
structure Coef where
  kp : Nat := 0
  ki : Nat := 0
  kd : Nat := 0
  kff : Nat := 0
  ffMode : Nat := 0
  vnom : Nat := 1
  iLim : Nat := 0x7FFFFFFF
  outMin : Int := -2147483648
  outMax : Int := 2147483647
  cogTab : Nat := 0
  fricTab : Nat := 0
  fricVband : Nat := 1000
  deriving DecidableEq, Repr

/-- A loop slot (08 R186 to R197). -/
structure Slot where
  /-- SERVO.ENABLE [08 Table SERVO-6] -/
  en : Bool := false
  coef : Coef := {}
  /-- SERVO_LOOP_COMMIT waits for the next due tick [08 R189] -/
  commit : Bool := false
  iAcc : Int := 0
  fbPrev : Int := 0
  /-- SERVO.OUT, s32 [08 Table SERVO-6] -/
  out : Int := 0
  /-- Set-point and feedback of the last due tick [08 SERVO_STATUS] -/
  sp : Int := 0
  fb : Int := 0
  /-- Type 7: the FB channel was invalid at the last due tick [08 R196] -/
  invalid : Bool := false
  /-- Consecutive due ticks at a limit [08 R205] -/
  satRun : Nat := 0
  /-- Due ticks without a position change, per encoder ENC0 to ENC3 [08 R201] -/
  still : List Nat := [0, 0, 0, 0]
  /-- Counter value of the previous due tick [08 R201] -/
  lastDue : Nat := 0
  /-- Observer: position nm, velocity nm/s, once the encoder is lost [08 R202] -/
  observer : Option (Int × Int) := none
  /-- Counter value of the detection that started it [08 R202] -/
  obsSince : Nat := 0
  deriving DecidableEq, Repr

/-- An encoder interface (08 R198 to R201). Positions in 1/4096 period. -/
structure Encoder where
  /-- SERVO.ENC_POS, s48 [08 R198] -/
  pos : Int := 0
  /-- Position latched at the last base tick [08 Table SERVO-1] -/
  latched : Int := 0
  /-- Time-stamped position changes, newest first [08 R199] -/
  changes : List (Nat × Int) := []
  /-- SERVO.ENC_STATUS bits: valid, referenced, lost, amplitude, quadrature [08 Table SERVO-6] -/
  valid : Bool := false
  referenced : Bool := false
  lost : Bool := false
  amplitude : Bool := false
  quadrature : Bool := false
  /-- It was lost because its position did not change [08 R201] -/
  frozen : Bool := false
  /-- SERVO_ENC_REFERENCE armed [08 R200] -/
  armed : Bool := false
  /-- SSI: end of the previous frame, start of the frame in progress, the word the encoder holds and the one that the frame
  carries [08 R198] -/
  ssiEnd : Nat := 0
  ssiStart : Option Nat := none
  raw : Int := 0
  ssiWord : Int := 0
  /-- Since when its speed has been below LAY.REST_SPEED without a break [02 R41] -/
  restFrom : Nat := 0
  /-- Follower freeze check: base ticks without a change, and the last tick [08 R201] -/
  still : Nat := 0
  lastTick : Nat := 0
  deriving DecidableEq, Repr

/-- A segment of the carriage profile: constant acceleration from (p0, v0) for `dur` (1/256 ns). -/
structure Seg where
  dur : Nat
  p0 : Int
  v0 : Int
  a : Int
  deriving DecidableEq, Repr

/-- What the carriage profile is running (08 R194). -/
inductive ProfKind where
  | none | move | layer | stopRamp
  deriving DecidableEq, Repr

/-- The carriage profile generator (08 R194). Positions nm, velocities nm/s, accelerations nm/s². -/
structure Profile where
  kind : ProfKind := .none
  t0 : Nat := 0
  segs : List Seg := []
  /-- Position when no segment runs [08 R194; DC 4] -/
  restPos : Int := 0
  /-- The profile has reached its end and waits to be in position [08 R194] -/
  inPos : Bool := true
  /-- Since when the loop stays within SERVO.INPOS_NM of it [08 R194] -/
  inSince : Option Nat := none
  /-- A carriage move waiting for the next base tick [08 R194] -/
  moveTo : Option Int := none
  /-- SERVO_CARRIAGE_STOP waiting for its sample, and whether a move was in motion [08 R194] -/
  stop : Option Waiting := none
  deriving DecidableEq, Repr

/-- A test-signal injection (08 R203, R204). -/
structure TestRun where
  t : ServoTest
  no : Nat
  ticks : Nat := 0
  taken : Nat := 0
  injected : Nat := 0
  injSample : Nat := 0
  tFirst : Nat := 0
  lfsr : Nat := 1
  stop : Option Waiting := none
  deriving DecidableEq, Repr

/-- The servo engine. -/
structure Servo where
  slots : List Slot := List.replicate 24 {}
  encs : List Encoder := List.replicate 4 {}
  prof : Profile := {}
  test : Option TestRun := none
  /-- Tests since power-up [08 Table SERVO-4] -/
  testNo : Nat := 0
  /-- Slot of a test that has ended with END 0, until the slot's next due tick [08 R204] -/
  testEnd : Option Nat := none
  /-- Profile and C3 reaction as the last base tick fixed its set-points [08 Table SERVO-1] -/
  tickProf : Profile := {}
  tickC3 : Bool := false
  /-- Table writes waiting for the next base tick: offset, value [08 R192] -/
  tabWrites : List (Nat × U32) := []
  deriving DecidableEq, Repr

/-! ### Drive channels -/

/-- Drive channel states (09 Table DRV-3). -/
inductive DrvState where
  | disabled | idle | catch | reverse | brake | start | run | coast | fault
  deriving DecidableEq, Repr

/-- A shunt offset (09 R217): value in 1/256 count (with source 0 the factory offset counts), source 0 to 2, and when
it was set. -/
structure Offset where
  val : Int := 0
  src : Nat := 0
  setAt : Nat := 0
  deriving DecidableEq, Repr

/-- A drive channel (09 R208 to R222). -/
structure Drive where
  /-- DRV.STATE [09 Table DRV-3] -/
  st : DrvState := .disabled
  /-- Stator flux estimate, pWb [09 R212] -/
  psiA : Int := 0
  psiB : Int := 0
  /-- DRV.TORQUE, s32 [09 R212] -/
  tEst : Int := 0
  /-- DRV.SPEED, s32 mHz [09 R212] -/
  speed : Int := 0
  /-- Comparator outputs dψ, dT, and the last non-zero dT [09 R213] -/
  dPsi : Bool := false
  dT : Int := 0
  dTLast : Int := 0
  /-- Vector applied, 0 to 7, and the previous active vector [09 R214] -/
  vec : Nat := 0
  lastActive : Nat := 1
  /-- Gates driven (false: all six off) [09 Table DRV-3] -/
  gates : Bool := false
  /-- Flux angles of the last decisions, newest first [09 R212] -/
  angles : List Nat := []
  ofs : List Offset := [{}, {}, {}]
  /-- Offset tracking window: f0, sums per leg, samples, revolutions [09 R218] -/
  track : Option (Int × List Int × Nat × Nat) := none
  /-- Sector of the last decision [09 R212] -/
  sector : Nat := 1
  /-- Servo demands held: torque or force, speed [09 R208, R209] -/
  torqueIn : Int := 0
  speedIn : Int := 0
  /-- The servo demands and the parameters 0x0A20 to 0x0A34 of the channel as its last decision took them [09 R209, R224] -/
  torqueUse : Int := 0
  speedUse : Int := 0
  params : AMap Nat := []
  /-- Target speed of the last decision, mHz [09 R215] -/
  target : Int := 0
  /-- 8-point curve (x, y) [09 R215; DC 4] -/
  curve : List (Int × Int) := List.replicate 8 (0, 0)
  /-- Curve written and not yet in use [09 R215] -/
  curveNew : Option (List (Int × Int)) := none
  /-- Run request and speed demand of the ramp [09 R215] -/
  runReq : Bool := false
  spd : Int := 0
  /-- Remainder of the ramp, mHz × ns [09 R215] -/
  rampRem : Nat := 0
  /-- Speed loop integrator and last Tref [09 R215] -/
  iAcc : Int := 0
  tRef : Int := 0
  /-- Consecutive discarded current sums and invalid decisions [09 R211, R221] -/
  isumRun : Nat := 0
  badRun : Nat := 0
  /-- Zero crossings seen in this attempt, newest first: time, phase, rising [09 R219, R220] -/
  zc : List (Nat × Nat × Bool) := []
  /-- Consecutive valid crossings and lock [09 R220] -/
  lockRun : Nat := 0
  /-- Six-step: aligned, step vector, electrical frequency of the ramp (mHz), last commutation [09 R220] -/
  ramping : Bool := false
  stepVec : Nat := 1
  rampHz : Int := 0
  lastComm : Nat := 0
  /-- The start ramp up to a time, in mHz × counter ticks per ms [09 R220] -/
  rampAcc : Nat := 0
  rampAt : Nat := 0
  /-- A timely crossing of the floating phase since the last commutation [09 R220] -/
  crossed : Bool := false
  /-- The vector is chopped: a conducting low-side leg carries more than START_I [09 R220] -/
  chop : Bool := false
  /-- Failed start tries and consecutive failed catches [09 R216, R219] -/
  startFails : Nat := 0
  catchFails : Nat := 0
  /-- Time of the last catch that entered RUN [09 R219] -/
  caughtAt : Option Nat := none
  /-- Counter value at entry to the state [09 Table DRV-3] -/
  tState : Nat := 0
  /-- C3 with C3_ACTION 2: ramp to 0, then FAULT [09 R222] -/
  c3Ramp : Bool := false
  /-- DRV_ALIGN in progress [09 R225] -/
  align : Option Waiting := none
  /-- COAST was entered for a start retry [09 R220] -/
  coastToStart : Bool := false
  /-- VBUS in the last decision, mV [09 R212] -/
  vbus : Nat := 0
  /-- DRVn_nGDF low; VBUS above VBUS_MAX, below VBUS_MIN in RUN [09 Table DRV-4] -/
  gdf : Bool := false
  busHi : Bool := false
  busLo : Bool := false
  deriving DecidableEq, Repr

/-! ### Stepper axes -/

/-- Axis states (10 Table STEP-1). -/
inductive AxisState where
  | disabled | idle | moving | stopping | stopped | homing
  deriving DecidableEq, Repr

/-- A move: limits of its dominant member, targets per member in microsteps, and once it runs the members' positions at its
start in 1/65536 microstep (10 R228, R230). -/
structure Move where
  abs : Bool
  vmax : Nat
  amax : Nat
  jmax : Nat
  targets : List Int
  start : List Int := []
  deriving DecidableEq, Repr

/-- A unit: an axis (0 to 7) or a group (8 + g), as one profile (10 R230, R231). -/
structure StepUnit where
  /-- STEP.STATE [10 Table STEP-1] -/
  st : AxisState := .disabled
  /-- Moves waiting behind the current one, at most 32 [10 R229] -/
  queue : List Move := []
  cur : Option Move := none
  /-- Joint speed fixed for the end of the current move, microsteps/s [10 R229] -/
  joint : Option Nat := none
  /-- Profile along the dominant axis: distance run in 10^-15 microstep, velocity in 10^-10 microstep/s, acceleration in
  10^-5 microstep/s² [10 R228] -/
  prog : Int := 0
  vel : Int := 0
  acc : Int := 0
  /-- REMAIN per member [10 R232] -/
  remain : List Int := []
  /-- Stop being run: 1 command, 2 limit trip, 3 stop of homing [10 R231] -/
  stopWhy : Nat := 0
  /-- STEP_STOP waiting for the next evaluation [10 R232] -/
  stop : Option Waiting := none
  /-- The final microstep of the last queued move was committed at the last evaluation [10 R232] -/
  doneNow : Bool := false
  /-- Members in ascending axis order; empty for an undefined group [10 R230] -/
  members : List Nat := []
  deriving DecidableEq, Repr

/-- A switch input (10 R235 to R237): its level and its qualified level, at reset the inactive one. -/
structure Switch where
  level : Bool := true
  qual : Bool := true
  /-- Time and position of the last edge [10 R236] -/
  edgeAt : Option Nat := none
  edgePos : Int := 0
  /-- Times of the edges within the chatter window, newest first [10 R237] -/
  edges : List Nat := []
  /-- Treated as active after chatter [10 R237] -/
  unstable : Bool := false
  deriving DecidableEq, Repr

/-- An axis (10 R226 to R238). -/
structure Axis where
  /-- Position, microsteps with 16 fraction bits [10 R226; DC 4] -/
  posQ16 : Int := 0
  /-- STEP.HOMED [10 R238] -/
  homed : Bool := false
  /-- STEP.GROUP, none reads 7 [10 R230] -/
  group : Option Nat := none
  /-- Inputs LIMN, LIMP, HOME [10 R235; DC 4] -/
  sw : List Switch := [{}, {}, {}]
  /-- Homing step 0 (none) to 5, 6 for a homing that has failed and comes to rest, whether the axis still comes to rest before
  it begins, search direction positive, reversed already, start of the search in microsteps [10 R238] -/
  homeStep : Nat := 0
  homeWait : Bool := false
  homeDir : Bool := false
  homeRev : Bool := false
  homeFrom : Int := 0
  /-- Duties of bridges A and B, Q1.15 [10 R226] -/
  dutyA : Int := 0
  dutyB : Int := 0
  /-- A duty has clamped without a break since [10 R226] -/
  satAt : Option Nat := none
  /-- AXn_nFLT low [10 R227] -/
  nflt : Bool := false
  deriving DecidableEq, Repr

/-! ### Housekeeping, heaters, thermal -/

/-- A housekeeping channel entry (11 Table HKP-5). -/
structure ChEntry where
  value : Int := 0
  flags : Byte := 0
  t : Nat := 0
  deriving DecidableEq, Repr

/-- A mains line (11 R249, R250). -/
structure Mains where
  lost : Bool := false
  /-- Last crossing and the last half-cycle period, 1/256 ns [11 R250; DC 4] -/
  lastZc : Option Nat := none
  half : Nat := 0
  /-- Whole half-cycles completed since the previous round's measurement, and their time [11 R249] -/
  halves : Nat := 0
  dur : Nat := 0
  /-- Good crossings in a row while lost [11 R250] -/
  good : Nat := 0
  /-- RMS (0.1 V) and frequency (0.01 Hz) of the last measurement [11 R249] -/
  rms : Nat := 0
  freq : Nat := 0
  /-- The last measured RMS lay outside HK.MAINS_MIN to HK.MAINS_MAX [11 R249] -/
  bad : Bool := false
  deriving DecidableEq, Repr

/-- A heater output (11 R251 to R254). -/
structure Heater where
  /-- Output pin HTRnn_OUT on [11 R251] -/
  on : Bool := false
  acc : Nat := 0
  bal : Int := 0
  /-- Start delay within a half-cycle, and on time of a PWM period, µs [11 R251, R252] -/
  delayUs : Nat := 0
  onUs : Nat := 0
  /-- Cut off by over-temperature [11 R253] -/
  cut : Bool := false
  /-- Mode, line and PWM frequency in use [11 R252] -/
  mode : Nat := 0
  line : Nat := 0
  pwmHz : Nat := 10
  /-- Demand from the servo slot that names it [11 R251] -/
  slotDemand : Option Nat := none
  /-- Forced off by C4 [11 R254] -/
  c4Off : Bool := false
  deriving DecidableEq, Repr

/-- Housekeeping. -/
structure House where
  /-- HK.ROUNDS, 32 bits [11 R243] -/
  rounds : U32 := 0
  /-- ROUND_MS of the round in progress and its start [11 R243] -/
  roundMs : Nat := 10
  roundAt : Nat := 0
  /-- HK000 to HK127 as last published [11 R242] -/
  ch : List ChEntry := List.replicate 128 {}
  /-- Chamber parameters 0x0C20 to 0x0C27 in effect, those at the round start that differ from their reset values [11 R256] -/
  cio : AMap Nat := []
  /-- Sensors already reported as substituted, tile × 16 + sensor [11 R248] -/
  subst : List Nat := []
  /-- Die sensors already reported as invalid [12 Table THERM-2] -/
  dieBad : List Bool := List.replicate 8 false
  /-- Last valid value of CIO00 to CIO31 and its time, and the last state of those of type 8 [11 R244, R245, R247; DC 66] -/
  lastGood : List Int := List.replicate 32 0
  lastAt : List Nat := List.replicate 32 0
  prox : BitVec 32 := 0
  /-- AC lines 0 and 1 [11 R249, R250] -/
  mains : List Mains := [{}, {}]
  /-- Heater outputs 0 to 31 [11 R251 to R253] -/
  heaters : List Heater := List.replicate 32 {}
  deriving DecidableEq, Repr

/-- Junction bands (12 Table THERM-1). -/
inductive Band where
  | cold | normal | warm | hot | critical
  deriving DecidableEq, Repr

/-- SRAM and SerDes settings of a band: write assist, read assist, sense timing longer by a cycle, ECC scrub rate doubled;
background adaptation with a double step (12 Table THERM-1). -/
structure BandSettings where
  writeAssist : Bool := false
  readAssist : Bool := false
  senseLong : Bool := false
  scrubDouble : Bool := false
  stepDouble : Bool := false
  deriving DecidableEq, Repr

/-- Device thermal management. -/
structure Therm where
  /-- THERM.BAND [12 R259] -/
  band : Band := .normal
  /-- THERM.TJ, s16 [12 R258] -/
  tj : Int := 0
  /-- Tj of the last rounds, newest first, at most 11 [12 R263] -/
  hist : List Int := []
  /-- SYSPLL consumers divided by 2 [12 R261] -/
  div2 : Bool := false
  /-- THERM.BAND_TIME_S per band, 32 bits saturating, in 1/256 ns [12 R265; DC 4] -/
  bandTime : List Nat := [0, 0, 0, 0, 0]
  /-- Sum of Tj and count of rounds behind THERM.TJ_MEAN [12 R265; DC 4] -/
  tjSum : Int := 0
  tjCount : Nat := 0
  /-- Values saved to the store: band seconds and mean [12 R265] -/
  saved : List Nat × Int := ([0, 0, 0, 0, 0], 0)
  /-- Settings of the band in force [12 R259, R260] -/
  set : BandSettings := {}
  /-- s of the band since the last publication, and s and LAY.ADMISSIBLE_RATE before it [12 R262, R267; DC 4] -/
  skip : Nat := 0
  skipWas : Nat := 0
  rateWas : Nat := 60000
  /-- The decision on entry to CRITICAL was an immediate stop; Tj has reached THERM.CRIT + 2 °C in this stay [12 R263] -/
  immediate : Bool := false
  beyond : Bool := false
  /-- The analogue trip has gated the Exposure, Link and Data engine clocks [12 R264] -/
  tripped : Bool := false
  /-- Time of the last publication [12 R265] -/
  lastPub : Nat := 0
  deriving DecidableEq, Repr

/-! ### Power, Stageline -/

/-- Rail slot states (13 Table PWR-2). -/
inductive RailState where
  | off | wait | ramp | good | retry | decay | failed | blocked
  deriving DecidableEq, Repr

/-- A rail slot (13 R268 to R278). -/
structure Rail where
  /-- PWR.RAIL_STATE [13 R270] -/
  st : RailState := .off
  /-- Attempts made in this start; PWR.RETRIES is one less [13 R270] -/
  attempts : Nat := 0
  /-- PWR.RAIL_MV, 16 bits [13 Table PWR-7] -/
  mv : U16 := 0
  /-- Release asked for and waiting for its dependants [13 R273] -/
  release : Bool := false
  /-- Asked to start while in DECAY: it starts once OFF [13 Table PWR-2] -/
  again : Bool := false
  /-- Margin: target mV and whether it is high or low [13 R278] -/
  margin : Option (Nat × Bool) := none
  /-- RAILnn_TRIM, 12 bits, nominal at mid-scale [13 R268, R278; DC 4] -/
  trim : BitVec 12 := 0x800
  /-- VOUT_MODE read when GOOD; READ_VOUT, READ_IOUT, READ_TEMPERATURE_1 [13 Table PWR-4] -/
  voutMode : Byte := 0
  vout : U16 := 0
  iout : U16 := 0
  temp : U16 := 0
  /-- Accesses in a row without acknowledgement [13 R278] -/
  noAck : Nat := 0
  /-- PWR_MARGIN waiting for trim [13 R278] -/
  w : Option Waiting := none
  deriving DecidableEq, Repr

/-- Power sequencing and the Porter supply. -/
structure Power where
  /-- RAIL00 to RAIL31; the board slots are GOOD in STANDBY [13 R268; DC 4] -/
  rails : List Rail := List.replicate 6 ({ st := .good, attempts := 1 } : Rail) ++ List.replicate 26 ({} : Rail)
  /-- Target of PWR_STATE in progress: 1 STANDBY, 2 READY, 3 PORTER [13 R275] -/
  target : Option Nat := none
  /-- Its request, and the first failed slot [13 R275] -/
  w : Option Waiting := none
  firstFailed : Option Nat := none
  /-- VSTBY present [13 R276; DC 4] -/
  vstby : Bool := true
  /-- Phantom power present at port A [13 R276; DC 4] -/
  phantom : Bool := false
  /-- Port B phantom folded back to 1 mA [13 R276] -/
  foldback : Bool := false
  /-- WAKE_FAIL: slot, attempts, TIME64 [13 R271] -/
  wakeFail : Option (Nat × Nat × Nat) := none
  deriving DecidableEq, Repr

/-- A Stageline port as seen from this node (13 R280, R284, 14 R297). -/
structure StagePort where
  up : Bool := false
  partner : Option Nat := none
  answered : Bool := false
  /-- Fields of the partner's NEIGHBOUR (14 Table CLK-3) -/
  accPs : Nat := 0
  masterSide : Bool := false
  deriving DecidableEq, Repr

/-- A request of the master that waits for its response (13 R281). -/
structure StageReq where
  frame : StageFrame
  attempt : Nat
  deriving DecidableEq, Repr

/-- The Stageline. -/
structure Stage where
  ports : List StagePort := [{}, {}]
  /-- PWR.NODE, none reads 0x3FD [13 R280] -/
  node : Option Nat := none
  /-- PWR.MASTER [13 R282] -/
  master : Bool := false
  /-- PWR.CHAIN_NODES [13 Table PWR-7] -/
  chainNodes : Nat := 0
  /-- Unit identities found by DISCOVER, by node [13 Table PWR-8] -/
  ids : AMap Nat := []
  /-- Claim in progress: forced, request, resends [13 R282] -/
  claim : Option (Bool × Option Waiting × Nat) := none
  /-- Auto claim scheduled [13 R282] -/
  autoClaim : Bool := false
  /-- Requests without a response [13 R281] -/
  reqs : List StageReq := []
  /-- DISCOVER in progress: its request, and HOPS of the turned frames per port [13 R281, R286] -/
  discover : Option Waiting := none
  turned : List (Option Nat) := [none, none]
  /-- Counter value of the last SWEEP heard, or of the entry to STANDBY [13 R282] -/
  sweepAt : Nat := 0
  /-- An event waits for the master's next SWEEP [13 R281, R283] -/
  event : Bool := false
  /-- Power target with its instant from SEQ [13 R283] -/
  seq : Option (Nat × Nat) := none
  /-- Start marker scheduled by START at this time [13 R283] -/
  startAt : Option Nat := none
  /-- Nodes found set in the last SWEEP [13 R281] -/
  polled : List Nat := []
  /-- A forced claim waits for the end of the current transaction [13 R282] -/
  yielding : Bool := false
  /-- MB5 replies that wait for the master's poll, oldest first [13 R281] -/
  mb5Out : List Response := []
  /-- Stageline reserve-path uses, 32 bits [17 Table KEEP-7] -/
  reserveUses : U32 := 0
  deriving DecidableEq, Repr

/-! ### Clocks and time -/

/-- A PLL (14 R291, R292). -/
structure Pll where
  locked : Bool := false
  band : BitVec 6 := 0
  /-- The automatic relock has been used [14 R292] -/
  relocked : Bool := false
  down : Bool := false
  /-- A band change asks for a re-search of the VCO band [12 R260; 14 R291] -/
  research : Bool := false
  deriving DecidableEq, Repr

/-- Clocks and time. -/
structure Clock where
  /-- SYSPLL, EXPPLL, MOTPLL, SDPLL0, SDPLL1; SYSPLL runs in STANDBY [14 R291; DC 4] -/
  plls : List Pll := [{ locked := true }, {}, {}, {}, { locked := true }]
  /-- CLK.STATUS bits [14 Table CLK-6] -/
  refCrystal : Bool := false
  porterCrystal : Bool := false
  aligned : Bool := false
  holdover : Bool := false
  degraded : Bool := false
  phaseAligned : Bool := false
  /-- Reference fallback in force [14 R288] -/
  refFallback : Bool := false
  /-- CLK.STEP_NS, SLEW_PPB, ALIGN_LIMIT_NS and PTP_CHECK_NS in force: those of the last second boundary [14 R306] -/
  inForce : List Nat := [1000, 100, 5, 500]
  /-- CLK.TAI_UTC, s16 [14 R303; DC 4] -/
  taiUtc : Int := 0
  /-- Scheduled TAI−UTC change: offset, TIME64 [14 R303] -/
  leap : Option (Int × Nat) := none
  /-- CLK.OFFSET_PS, s64 [14 R298] -/
  offsetPs : Int := 0
  /-- integ and corr of R298, 0.001 ppb; CLK.FREQ_CORR is corr [14 R298] -/
  integ : Int := 0
  corr : Int := 0
  /-- Crystal temperature compensation in force, 0.001 ppb; the EXPPLL fraction and the counter rate carry corr + comp
  [12 R260; 14 R298; DC 4] -/
  comp : Int := 0
  /-- Consecutive seconds with |e| below 1 ns [14 R298] -/
  alignRun : Nat := 0
  /-- CLK.SEG_DELAY_PS per port [14 R297] -/
  segDelay : List Nat := [0, 0]
  /-- A step of this many 1/256 ns waits for the next second [14 R299] -/
  step : Option Int := none
  /-- Second of TIME64 in which the 1588 law last ran [14 R298] -/
  lawAt : Option Nat := none
  /-- A Stageline marker has been taken: TIME_SRC 1 [14 R296] -/
  chained : Bool := false
  /-- The markers are lost: TIME_SRC 3 [14 R300] -/
  srcLost : Bool := false
  /-- Time since the last 20 ns step of the counter, while EXPPLL is not locked [14 R294] -/
  refPart : Nat := 0
  /-- Porter's copy: SEC and 15-bit fraction, and below them the phase of Porter's clock [14 R294; DC 4] -/
  porterTime : Nat := 0
  /-- RC trim of Porter against the reference done this power-up [14 R290] -/
  rcTrimmed : Bool := false
  deriving DecidableEq, Repr

/-! ### Faults -/

/-- FIRST_FAULT (15 R315, Table FLT-5). -/
structure FirstFault where
  id : Nat := 0xFFFF
  cls : Nat := 0
  valid : Bool := false
  ovf : Bool := false
  sameCycle : Bool := false
  time : Nat := 0
  /-- EXPFRAC of the event [14 R295] -/
  frac : Nat := 0
  deriving DecidableEq, Repr

/-- Fault collection. -/
structure Flt where
  /-- Active, condition and raised-since-power-up flags, bit n for source n, 320 bits each [15 R310, Table FLT-7] -/
  active : BitVec 320 := 0
  cond : BitVec 320 := 0
  raised : BitVec 320 := 0
  /-- RAISES per source, 16 bits saturating [15 Table FLT-9] -/
  raises : AMap Nat := []
  /-- T_LAST per source [15 Table FLT-9] -/
  tLast : AMap Nat := []
  /-- Time of the last KIND 0 entry per source [15 R320] -/
  gbLast : AMap Nat := []
  /-- Class at which a source is active [15 R319] -/
  clsNow : AMap Nat := []
  first : FirstFault := {}
  /-- Qualified EMIT_INHIBIT level, FLT.INHIBIT [15 R313; DC 4] -/
  inhibit : Bool := false
  /-- EMIT_INHIBIT in force [15 R313; DC 4] -/
  inForce : Bool := false
  /-- C4 lockout latch in Porter: source and time [15 R318] -/
  c4 : Option (Nat × Nat) := none
  /-- nFAULT held low because the Main domain woke and fault collection has not initialised [15 R314] -/
  initLow : Bool := false
  /-- C3 and C4 reactions whose check has not come, oldest first: the raises' times [15 R312] -/
  checks : List Nat := []
  /-- Counter value at the last fall of EMIT_INHIBIT [15 R313] -/
  inhibitFell : Nat := 0
  /-- Sources 0x110 to 0x119 that each drive channel raised and that have not been cleared since [09 Table DRV-3, R223] -/
  drvOwn : List (BitVec 10) := List.replicate 8 0
  /-- The sources whose C3 or C4 reaction is in force [08 R197] -/
  c3Src : BitVec 320 := 0
  deriving DecidableEq, Repr

/-- The Guestbook's counters; its entries lie in SRAM at 0x0130_0000 (14 R301, 17 R363). -/
structure Guestbook where
  /-- SEQ of the next entry, 32 bits [14 Table CLK-4] -/
  next : U32 := 0
  /-- RD_SEQ [17 R363; DC 4] -/
  rd : U32 := 0
  /-- Entries held, at most 32 768 [17 R363] -/
  held : Nat := 0
  /-- The next entry carries LOST_BEFORE [15 R320] -/
  lost : Bool := false
  /-- First entry not yet handed out as a block [17 R363] -/
  handed : U32 := 0
  /-- Time of the last block handed out [17 R363] -/
  handedAt : Nat := 0
  deriving DecidableEq, Repr

/-! ### Calibration -/

/-- A measurement run (16 R332). -/
structure CalRun where
  /-- Tiles in the run, bit 18n + p -/
  tiles : BitVec 72
  /-- Periods done, 0 to 36 -/
  period : Nat := 0
  /-- Samples: (period, photodiode key) as period × 73728 + key ↦ count -/
  samples : AMap Nat := []
  /-- Pulse frames reported lost: period × 1152 + 16 × tile + row in tile [16 R332] -/
  lost : List Nat := []
  /-- Power was DOZE before the burst [16 R330] -/
  fromDoze : Bool := false
  deriving DecidableEq, Repr

/-- Calibration. -/
structure Cal where
  /-- CAL.STATE: 0 to 4 [16 Table CAL-4] -/
  st : Nat := 0
  /-- SRAM offsets of words of the bracketing sets that were lost to an error and not yet rewritten [15 R319] -/
  setLost : List Nat := []
  /-- User words that differ from 0x0000_4000, by cell r × 1024 + c, 32 bits [16 R326] -/
  user : AMap Nat := []
  /-- Tiles due, since when, and already warned [16 R331] -/
  due : BitVec 72 := 0
  dueSince : AMap Nat := []
  warned : BitVec 72 := 0
  /-- Tiles due for their drift alone [16 R331] -/
  drift : BitVec 72 := 0
  /-- CAL_RUN named: the run starts whatever CAL.AUTO is [16 R341] -/
  forced : BitVec 72 := 0
  run : Option CalRun := none
  /-- Held trace: tile, E_pd, time, its request answered [16 R337] -/
  trace : Option (Nat × Nat × Nat) := none
  /-- Bracketing set k of each tile, none before the first load [16 R327] -/
  bracket : List (Option Nat) := List.replicate 72 none
  /-- CAL_HK_TRACE in progress: request, rounds done, sums per converter [16 R338] -/
  hkTrace : Option (Waiting × Nat × List Int) := none
  /-- Record 0x0008 written for the tile [16 R328] -/
  tempHeld : BitVec 72 := 0
  /-- Keeper's copy of each tile's calibration blocks, by tile, with SERIAL and CAL_CRC [05 R130, 17 Table KEEP-10] -/
  blocks : AMap (U64 × U32 × List Byte) := []
  /-- User words (by cell in the tile, 256 i + j) and PD_GAIN of tiles not in place, by SERIAL [16 R326] -/
  shelf : AMap (AMap Nat × Nat) := []
  /-- Tiles whose blocks are invalid [16 R324] -/
  badBlocks : BitVec 72 := 0
  /-- Cells whose retirement waits for the next publication: tile-reported faults, by cell [05 R134, R138] -/
  toRetire : List Nat := []
  deriving DecidableEq, Repr

/-! ### Keeper -/

/-- A queued request (17 R351): header, arrival, effective class. -/
structure QEntry where
  opcode : U16
  tag : U16
  cls : Byte
  aged : Bool
  tRx : Nat
  since : Nat
  payload : List Byte
  line : Option Nat := none
  deriving DecidableEq, Repr

/-- A session (17 R355). -/
structure Session where
  id : U16
  lastRx : Nat
  kek : Option (List Byte) := none
  /-- Ephemeral ECDH key of its last agreement [07 R175, 18 R375] -/
  ecdh : Option Nat := none
  deriving DecidableEq, Repr

/-- A session claim in the window (17 R357). -/
structure Claim where
  w : Waiting
  session : U16
  force : Bool
  deriving DecidableEq, Repr

/-- A persistent store payload (17 R365): kept parameters with the converter gains among them, user calibration keyed to SERIAL,
counters, erase counts per bank, and records of a TYPE that this firmware does not know (17 R370). -/
structure StoreImage where
  params : AMap Nat := []
  user : AMap (AMap Nat) := []
  pdGain : AMap Nat := []
  bandSec : List Nat := [0, 0, 0, 0, 0]
  tjMean : Int := 0
  tjCount : Nat := 0
  partFail : U64 := 0
  taiUtc : Int := 0
  erases : AMap Nat := []
  others : List (Nat × List Byte) := []
  deriving DecidableEq, Repr

/-- A store bank: its header of 64 bytes (17 Table KEEP-11), and what its payload says (17 R365). -/
structure Bank where
  header : List Byte
  image : StoreImage
  deriving DecidableEq, Repr

/-- A firmware image slot (17 R368, R369). -/
structure FwSlot where
  length : Nat := 0
  /-- Written ranges and their data: offset, bytes [17 R369] -/
  data : List (Nat × List Byte) := []
  verified : Bool := false
  deriving DecidableEq, Repr

/-- What SFDP says of the flash: Mbit, 4-byte addressing, uniform erase sectors and their bytes (17 R364). -/
structure Flash where
  mbit : Nat := 512
  addr4 : Bool := true
  uniform : Bool := true
  sector : Nat := 0x10000
  deriving DecidableEq, Repr

/-- Keeper and the mailboxes. Slot 0 holds the image of manufacture. -/
structure Keeper where
  /-- Keeper running [17 Table KEEP-1] -/
  running : Bool := true
  /-- Cause and core of the reset in progress [17 R343] -/
  cause : Option (Nat × Nat × Nat) := none
  /-- Watchdog trips, 16 bits wrapping [17 Table KEEP-1] -/
  trips : Nat := 0
  /-- Times of each core's trips, newest first [17 R343] -/
  tripTimes : List (List Nat) := [[], [], []]
  /-- Core replaced by the reserve: 0 none, 1 core 0, 2 core 1 [17 Table KEEP-1] -/
  replaced : Nat := 0
  /-- The reserve replaces this core (1 or 2) at the next start [17 R343] -/
  replaceNext : Nat := 0
  /-- Load of the last ten windows, newest first, % [17 R344] -/
  loads : List Nat := []
  /-- Start of the load deferral [17 R344] -/
  deferAt : Option Nat := none
  /-- Queues of MB0 to MB5, and Keeper's own waiting work, MB6 [17 R348, R351] -/
  queues : List (List QEntry) := [[], [], [], [], [], [], []]
  /-- Fast-path requests that the mailbox hardware has handed on: mailbox and request [17 R353] -/
  fast : List (Nat × QEntry) := []
  /-- Request whose execution has begun and is not answered, interrupted by a reset [17 R343] -/
  busy : List Waiting := []
  /-- Sessions of MB0 to MB3 [17 R355] -/
  sessions : List (Option Session) := [none, none, none, none]
  /-- PRIMARY, 16 bits [17 Table KEEP-1] -/
  primary : U16 := 0
  /-- Next session identifier, none before the first of this power-up [17 R355] -/
  granted : Option Nat := none
  /-- Open claim window: its T_RX and the claims [17 R357] -/
  claims : Option (Nat × List Claim) := none
  /-- KEEP.CLAIM_WINDOW_US as the open window has it, in counter units [17 R373] -/
  claimLen : Nat := 0
  /-- Last 32 completions per mailbox MB0 to MB5, newest first [17 R362] -/
  hist : List (List Response) := [[], [], [], [], [], []]
  /-- WAYBILL_PTR, WAYBILL_LEN, WAYBILL_GEN [17 Table KEEP-1] -/
  wbPtr : U32 := 0
  wbLen : U32 := 0
  wbGen : U32 := 0
  /-- TIME_NOW latch, 64 bits [17 R346] -/
  timeLatch : U64 := 0
  /-- MB4: REQ_FREE, RESP_READY, responses waiting for the buffer [17 R347] -/
  reqFree : Bool := true
  /-- Arrival of a request that lies in MB4_REQ uncopied [17 R347] -/
  mb4Rung : Option Nat := none
  respReady : Bool := false
  mb4Wait : List Response := []
  /-- MB4_REQ and MB4_RESP buffers, 1 KiB each, unlisted bytes 0 [17 Table KEEP-1] -/
  mb4Req : AMap Nat := []
  mb4Resp : List Byte := []
  /-- Mailbox served by MB7 (0xFF none) [17 R348, Table KEEP-7] -/
  mb7 : Nat := 0xFF
  /-- Mailboxes whose buffer has shown a parity error since the last self-test [17 R348] -/
  mbBad : BitVec 8 := 0
  /-- Store banks by 2p + b [17 R364, R365] -/
  banks : AMap Bank := []
  /-- Newest bank, commits on its pair, banks bad for this power-up [17 R366] -/
  newest : Option Nat := none
  pairCommits : Nat := 0
  badBanks : List Nat := []
  /-- Erase counts per bank [17 R365] -/
  erases : AMap Nat := []
  /-- Records of the loaded payload whose TYPE is not known [17 R370] -/
  others : List (Nat × List Byte) := []
  /-- The flash fitted, and whether it was found usable [17 R364; DC 4] -/
  flash : Flash := {}
  flashOk : Bool := true
  /-- Time of the first uncommitted change [17 R366] -/
  dirty : Option Nat := none
  /-- Time of the last failed commit [17 Table KEEP-7] -/
  storeFailAt : Nat := 0
  /-- A commit held by deferral: since when, and its request [17 R344] -/
  commitWait : Option (Nat × Option Waiting) := none
  /-- The two copies of the firmware directory, as bytes [17 R368; DC 4] -/
  fwDirs : List (List Byte) := [factoryDir, []]
  /-- Firmware: slots; ACTIVE, PREVIOUS, TRIAL of the directory in use [17 R368; DC 4] -/
  fwSlots : List FwSlot := [{ verified := true }, {}]
  fwActive : Nat := 0
  /-- Slot of the running image [17 R370, 18 R381] -/
  fwRun : Nat := 0
  fwPrev : Nat := 0
  fwTrial : Bool := false
  /-- An update was begun on the inactive slot [17 R369] -/
  fwBegun : Bool := false
  /-- Only the recovery loader runs [18 R381] -/
  recovery : Bool := false
  /-- The trial image has been started [17 R369, R370] -/
  trialRuns : Bool := false
  deriving DecidableEq, Repr

/-- Self-test, security and OTP. -/
structure Bist where
  /-- Result record of Table BIST-2, held in Porter [18 R376] -/
  tTest : Nat := 0
  durationUs : U32 := 0
  result : Nat := 0
  zeroised : Bool := false
  repaired : Bool := false
  wakeHeld : Bool := false
  partFail : U64 := 0
  rowsRepaired : Nat := 0
  rowsUnrepaired : Nat := 0
  /-- Failed partitions in force [18 R379] -/
  failed : U64 := 0
  /-- OTP repair entries used, of 1 024 [18 R377; DC 4] -/
  otpUsed : Nat := 0
  /-- Spare rows used per bank, and bytes of the general pool used for repair [18 R377; DC 4] -/
  spares : AMap Nat := []
  poolBytes : Nat := 0
  /-- Corrected errors per row since the previous test: bank × 1024 + row [18 R377] -/
  eccRows : AMap Nat := []
  /-- Banks with a corrected error since power-up [15 Table FLT-2] -/
  eccBanks : List Nat := []
  /-- SEC.ROLLBACK, 6 bits, OTP [18 R382; DC 4] -/
  rollback : Nat := 0
  /-- Self-test running [18 R376] -/
  running : Bool := false
  /-- BIST.SHUTDOWN and BIST.ECC_REPAIR as this shut-down has them [18 R386] -/
  shut : Nat × Nat := (1, 4)
  /-- Wake event held during the test [18 R376] -/
  wakeWaits : Bool := false
  deriving DecidableEq, Repr

/-- The block. -/
structure State where
  /-- Commands waiting, first in first out: the model's own [DC 1] -/
  pending : List Instr := []
  /-- TIME64 counter, in 1/256 ns since the epoch: TIME64 and EXPFRAC [00 R14, 01 R19, 14 R294; DC 4] -/
  time : Nat := 0
  /-- What the block has sent, newest first: the model's own [DC 3] -/
  sent : List Out := []
  /-- Free values taken so far: the model's own [DC 6] -/
  free : Nat := 0
  /-- Power state [00 R4, 17 Table KEEP-1: reset 2 STANDBY] -/
  power : PowerState := .standby
  /-- Parameter values that differ from their reset values, keyed index × 256 + sub-index [00 R11, 17 R358] -/
  params : AMap Nat := []
  /-- SRAM, 24 MiB, bytes that differ from its reset contents [01 R29; DC 5] -/
  mem : List Host.Cell := []
  layer : Layer := {}
  dose : Dose := {}
  emon : Emon := {}
  link : Link := {}
  host : HostPorts := {}
  dma : List DmaChan := (List.range 32).map fun k => { phys := k }
  data : Data := {}
  servo : Servo := {}
  drv : List Drive := List.replicate 8 {}
  axes : List Axis := List.replicate 8 {}
  /-- Units: axes 0 to 7, groups 8 to 11 [10 R231] -/
  units : List StepUnit := (List.range 8).map (fun k => ({ members := [k] } : StepUnit)) ++ List.replicate 4 ({} : StepUnit)
  /-- Counter value of the last profile evaluation [10 R228] -/
  stepAt : Nat := 0
  house : House := {}
  therm : Therm := {}
  pwr : Power := {}
  stage : Stage := {}
  clk : Clock := {}
  flt : Flt := {}
  gb : Guestbook := {}
  cal : Cal := {}
  keep : Keeper := {}
  bist : Bist := {}
  deriving DecidableEq, Repr

/-- The block right after reset: in STANDBY with Keeper running (17 Table KEEP-1), every parameter at
its reset value, nothing listed in memory, no command waiting. -/
def State.reset : State := {}

end Sys2Proof.Machine
end

