-- ==== Sys2Proof/Machine/Ops.lean ====
section
/-!
DEFINITION. The named operations over time, numbers, tables, bytes, the SRAM and the Guestbook that
every meaning shares.
-/

namespace Sys2Proof.Machine

/-- What a meaning answers. -/
abbrev Result := Host.Outcome State Fault Refusal

/-! ### Arithmetic -/

/-- `divr` of R187: floor((2a + b) / (2b)), b > 0. -/
def divr (a b : Int) : Int := (2 * a + b) / (2 * b)

/-- Quotient rounded half up, of naturals. -/
def divHalfUp (a b : Nat) : Nat := (2 * a + b) / (2 * b)

/-- Quotient rounded up. -/
def divCeil (a b : Nat) : Nat := (a + b - 1) / b

/-- Clamp to a range. -/
def clampI (x lo hi : Int) : Int := min (max x lo) hi

/-- `sat32` of R187. -/
def sat32 (x : Int) : Int := clampI x (-2147483648) 2147483647

/-- A 32-bit counter that wraps. -/
def wrap32 (n : Nat) : Nat := n % 4294967296

/-- A count that saturates at the largest value of `w` bits. -/
def satN (w n : Nat) : Nat := min n (2 ^ w - 1)

/-! ### Finite tables -/

/-- The entry of a key. -/
def AMap.find {α : Type} (m : AMap α) (k : Nat) : Option α :=
  (m.find? fun e => e.1 == k).map (·.2)

/-- The entry of a key or a default. -/
def AMap.get {α : Type} (m : AMap α) (k : Nat) (d : α) : α := (AMap.find m k).getD d

/-- Sets the entry of a key, keeping the keys rising. -/
def AMap.put {α : Type} : AMap α → Nat → α → AMap α
  | [], k, v => [(k, v)]
  | (k', v') :: m, k, v =>
    if k < k' then (k, v) :: (k', v') :: m
    else if k = k' then (k, v) :: m
    else (k', v') :: AMap.put m k v

/-- Removes the entry of a key. -/
def AMap.del {α : Type} (m : AMap α) (k : Nat) : AMap α := m.filter fun e => !(e.1 == k)

/-- Removes every entry whose key fails a test. -/
def AMap.keep {α : Type} (m : AMap α) (p : Nat → Bool) : AMap α := m.filter fun e => p e.1

/-! ### SRAM (R29) -/

/-- Size of the SRAM, 24 MiB (01 R29). -/
def sramSize : Nat := 0x1800000

/-- What an unlisted byte reads as: the reset contents where the spec gives them, 0 elsewhere (log entry 5). The CRC of a
billet record is derived (03 Table DOSE-2), so that of a record without weights is 0xEC57_A9C3; the learned response table is
RESP_GAIN, 0x4000 at reset (04 R96). -/
def memRest (a : Nat) : Byte :=
  if a < 0x980000 then 0
  else if 0xA00000 ≤ a ∧ a < 0xA80000 then
    (if a % 512 = 508 then 0xC3 else if a % 512 = 509 then 0xA9 else if a % 512 = 510 then 0x57
      else if a % 512 = 511 then 0xEC else 0)
  else if 0x9C8000 ≤ a ∧ a < 0x9C8400 ∧ a % 2 = 1 then 0x40
  else 0

/-- The canonical form of the SRAM: offsets strictly rising, no byte that equals what an unlisted byte at its offset reads
as (log entry 5). -/
def memWf : List Host.Cell → Bool
  | [] => true
  | [c] => c.2 != memRest c.1
  | c :: d :: m => c.2 != memRest c.1 && decide (c.1 < d.1) && memWf (d :: m)

/-- The byte at an offset. -/
def memGet : List Host.Cell → Nat → Byte
  | [], a => memRest a
  | c :: m, a => if c.1 = a then c.2 else memGet m a

/-- Writes one byte, keeping the canonical form. -/
def memPut : List Host.Cell → Nat → Byte → List Host.Cell
  | [], a, b => if b = memRest a then [] else [(a, b)]
  | c :: m, a, b =>
    if a < c.1 then (if b = memRest a then c :: m else (a, b) :: c :: m)
    else if a = c.1 then (if b = memRest a then m else (a, b) :: m)
    else c :: memPut m a b

/-- Writes bytes at rising offsets. -/
def memPuts : List Host.Cell → Nat → List Byte → List Host.Cell
  | m, _, [] => m
  | m, a, b :: bs => memPuts (memPut m a b) (a + 1) bs

/-- Every byte of a range reads as if nothing had written it: 0 where `memRest` is. -/
def memClear (m : List Host.Cell) (a n : Nat) : List Host.Cell :=
  m.filter fun c => !(decide (a ≤ c.1) && decide (c.1 < a + n))

/-- `n` bytes from an offset. -/
def memBytes (m : List Host.Cell) : Nat → Nat → List Byte
  | _, 0 => []
  | a, n + 1 => memGet m a :: memBytes m (a + 1) n

/-- The little-endian number of `n` bytes from an offset. -/
def memLe (m : List Host.Cell) (a n : Nat) : Nat := ofLe (memBytes m a n)

/-- Writes bytes to the SRAM of the block. -/
def State.poke (s : State) (a : Nat) (bs : List Byte) : State := { s with mem := memPuts s.mem a bs }

/-- Reads a number from the SRAM of the block. -/
def State.peek (s : State) (a n : Nat) : Nat := memLe s.mem a n

/-- The region of Table ARCH-6 that holds an offset, 0 to 11; 12 where there is none. -/
def sramRegion (a : Nat) : Nat :=
  if a < 0x400000 then 0 else if a < 0x500000 then 1 else if a < 0x980000 then 2
  else if a < 0xA00000 then 3 else if a < 0xA80000 then 4 else if a < 0xE80000 then 5
  else if a < 0x10C0000 then 6 else if a < 0x1100000 then 7 else if a < 0x1200000 then 8
  else if a < 0x1300000 then 9 else if a < 0x1400000 then 10 else if a < 0x1800000 then 11 else 12

/-- Bases and sizes of Table ARCH-6. -/
def sramRegions : List (Nat × Nat) :=
  [(0x0000000, 0x400000), (0x0400000, 0x100000), (0x0500000, 0x480000), (0x0980000, 0x080000),
   (0x0A00000, 0x080000), (0x0A80000, 0x400000), (0x0E80000, 0x240000), (0x10C0000, 0x040000),
   (0x1100000, 0x100000), (0x1200000, 0x100000), (0x1300000, 0x100000), (0x1400000, 0x400000)]

/-! ### Time -/

/-- Counter units (1/256 ns) of one second, one millisecond, one microsecond, one nanosecond. -/
def secU : Nat := 256000000000
def msU : Nat := 256000000
def usU : Nat := 256000
def nsU : Nat := 256

/-- The TIME64 word of a counter value (R14, Table SCOPE-7). -/
def time64 (t : Nat) : Nat := ((t / secU) * 1073741824 + (t / 256) % 1000000000) % 2 ^ 64

/-- EXPFRAC of a counter value (R14). -/
def expFrac (t : Nat) : Nat := t % 256

/-- The counter value of a TIME64 word. -/
def ofTime64 (w : Nat) : Nat := (w / 1073741824) * secU + (w % 1073741824) * 256

/-- The TIME64 word of the present instant. -/
def State.now64 (s : State) : Nat := time64 s.time

/-- Main is powered: STANDBY or above (R24). -/
def State.mainOn (s : State) : Bool :=
  match s.power with
  | .off | .porter => false
  | _ => true

/-- Tile, motion and exposure domains are powered: READY, DOZE or EXPOSE (R25). -/
def State.readyOn (s : State) : Bool :=
  match s.power with
  | .ready | .doze | .expose => true
  | _ => false

/-- The counter: it runs on EXPPLL while that is locked, and in steps of 20 ns of the reference otherwise (R294). -/
def State.countOn (s : State) (dt : Nat) : State :=
  let d := s.clk.refPart + dt
  let rest := if (s.clk.plls.getD 1 {}).locked then 0 else d % 5120
  { s with time := s.time + (d - rest), clk := { s.clk with refPart := rest } }

/-- Porter's clock runs. -/
def State.porterRuns (s : State) (dt : Nat) : State := { s with clk := { s.clk with porterTime := s.clk.porterTime + dt } }

/-- Time passes: the TIME64 counter where Main runs (or wakes, `initLow`), Porter's copy where Porter does (R19, R294). -/
def State.advance (s : State) (dt : Nat) : State :=
  match s.power with
  | .off => s
  | .porter => (if s.flt.initLow then s.countOn dt else s).porterRuns dt
  | _ => (s.countOn dt).porterRuns dt

/-- The time of what runs in every power state: TIME64 where Main runs or wakes, Porter's copy where it does not. -/
def State.runningTime (s : State) : Nat :=
  match s.power with
  | .off | .porter => if s.flt.initLow then s.time else s.clk.porterTime
  | _ => s.time

/-- A time as Porter holds it: SEC and a 15-bit fraction (R294). -/
def porterCut (t : Nat) : Nat := t / 7812500 * 7812500

/-! ### Small updates -/

/-- Something leaves the block. -/
def State.send (s : State) (o : Out) : State := { s with sent := o :: s.sent }

/-- Several things leave the block, in this order. -/
def State.sendAll (s : State) (os : List Out) : State := { s with sent := os.reverse ++ s.sent }

/-- A value the spec leaves open, below `2 ^ w` (log entry 6). -/
def State.freeBits (s : State) (w : Nat) : Nat := Config.freeNat s.free % 2 ^ w

/-- The open value has been taken. -/
def State.freeTaken (s : State) : State := { s with free := s.free + 1 }

/-- Sets or clears a bit of a vector. -/
def setBit {w : Nat} (v : BitVec w) (n : Nat) (b : Bool) : BitVec w :=
  if b then v ||| (BitVec.ofNat w (2 ^ n)) else v &&& ~~~(BitVec.ofNat w (2 ^ n))

/-- A Bool as a number. -/
def bitN (b : Bool) : Nat := if b then 1 else 0

/-- A Bool as a byte. -/
def bitB (b : Bool) : Byte := if b then 1 else 0

/-- Which bits of a number, lowest first, are set below a bound. -/
def bitsOf (n bound : Nat) : List Nat := (List.range bound).filter fun k => n.testBit k

/-! ### The store and the Guestbook (14 R301, 15 R320, 17 R363) -/

/-- The first uncommitted change of kept data starts the store delay (17 R366). -/
def markDirty (s : State) : State :=
  match s.keep.dirty with
  | some _ => s
  | none => { s with keep := { s.keep with dirty := some s.time } }

/-- SRAM offset of the entry with a sequence number. -/
def gbSlot (seq : Nat) : Nat := 0x1300000 + (seq % 32768) * 32

/-- The 32 bytes of an entry (14 Table CLK-4). -/
def gbEntry (s : State) (t seq id subsys kind cls frac data : Nat) (lost : Bool) : List Byte :=
  withCrc (le 8 (time64 t) ++ le 4 seq ++ le 2 id ++ le 1 subsys ++ le 1 kind ++ le 1 cls ++ le 1 frac
    ++ le 1 (bitN s.clk.degraded + 2 * bitN s.clk.holdover + 4 * bitN (!s.clk.aligned) + 8 * bitN lost)
    ++ [0] ++ le 8 data)

/-- The next entry overwrites an unread one (R363): the region is full and the oldest entry is RD_SEQ or later than it in
the order of 00 R402. -/
def gbOverwrites (g : Guestbook) : Bool :=
  decide (32768 ≤ g.held) && (g.next - 32768 == g.rd || serialLater (g.next - 32768) g.rd)

/-- Writes an entry stamped at a counter value. The key 0x0E30 × 256 + 2 is FLT.GB_LOST. -/
def gbWriteAt (s : State) (t id subsys kind cls frac data : Nat) : State :=
  let g := s.gb
  let ow := gbOverwrites g
  let bytes := gbEntry s t g.next.toNat id subsys kind cls frac data (g.lost || ow)
  let p := if ow then
      AMap.put s.params (0x0E30 * 256 + 2) (wrap32 (AMap.get s.params (0x0E30 * 256 + 2) 0 + 1))
    else s.params
  { s with
    mem := memPuts s.mem (gbSlot g.next.toNat) bytes
    params := p
    gb := { g with next := g.next + 1, held := min (g.held + 1) 32768, lost := false } }

/-- A subsystem record, KIND 5 (R301), stamped now. -/
def gbRecord (s : State) (subsys id data : Nat) : State := gbWriteAt s s.time id subsys 5 0 0 data

/-- An entry of a KIND for which the spec gives no ID and no data: both are open values (log entry 42). -/
def gbOpen (s : State) (subsys kind : Nat) : State :=
  (gbWriteAt s s.time (s.freeBits 16) subsys kind 0 0 (s.freeTaken.freeBits 64)).freeTaken.freeTaken

/-- The power state changes while Main runs: a KIND 4 entry of the power subsystem (14 Table CLK-4, log entry 42). -/
def State.toPower (s : State) (p : PowerState) : State :=
  if s.power = p then s else { gbOpen s 1 4 with power := p }

end Sys2Proof.Machine
end

