-- ==== Sys2Proof/Machine/Params.lean ====
section
/-!
DEFINITION. The parameter table of the manual (every table of 0xSSnn.kk) and the fault source table,
with the checks of a parameter write (17 R358, 15 R311) and the reads of stored parameters.
-/

namespace Sys2Proof.Machine

/-- Reset value of a parameter: a constant, or one that depends on the sub-index. -/
inductive PReset where
  | val (v : Int) | perNom | perDep | perGroup | perClass
  deriving DecidableEq, Repr

/-- A limit of a parameter that its range does not say. -/
inductive PTag where
  | none | ff | m16 | even | stream | ethertype | vlan | zero | div | phase | outlim | blank | curve
  | onoff | starti | catcht | irun | ihold | mains | therm | measw | class | dep
  deriving DecidableEq, Repr

/-- When a parameter may be written. -/
inductive PGate where
  | any | idle | window | capOff | slotOff | servoOff | drvOff | stepStill | dmaIdle | calIdle
  deriving DecidableEq, Repr

/-- A row of a parameter table: index, first sub-index, how many, field width, signed, read-only, reset
value, range, further limit, state condition, kept in the persistent store. -/
structure PRow where
  idx : Nat
  sub : Nat
  n : Nat
  bits : Nat
  sgn : Bool
  ro : Bool
  reset : PReset
  range : Option (Int × Int)
  tag : PTag
  gate : PGate
  kept : Bool
  deriving DecidableEq, Repr

/-- Parameters of subsystem 0x00 (17_keeper_mailboxes R373). -/
def paramRows00 : List PRow := [
  -- KEEP.WDT_MS
  ⟨0x0010, 0, 1, 10, false, false, (.val 100), (some (20, 1000)), .none, .any, true⟩,
  -- KEEP.SESSION_TIMEOUT_MS
  ⟨0x0011, 0, 1, 16, false, false, (.val 2000), (some (100, 60000)), .none, .any, true⟩,
  -- KEEP.CLAIM_WINDOW_US
  ⟨0x0012, 0, 1, 14, false, false, (.val 100), (some (10, 10000)), .none, .any, true⟩,
  -- KEEP.STORE_DELAY_S
  ⟨0x0013, 0, 1, 8, false, false, (.val 10), (some (1, 255)), .none, .any, true⟩,
  -- KEEP.STORE_ROTATE
  ⟨0x0014, 0, 1, 10, false, false, (.val 64), (some (1, 1000)), .none, .any, true⟩,
  -- KEEP.GB_FLUSH_MS
  ⟨0x0015, 0, 1, 10, false, false, (.val 100), (some (10, 1000)), .none, .any, true⟩,
  -- KEEP.LOAD
  ⟨0x0020, 0, 1, 7, false, true, (.val 0), none, .none, .any, false⟩,
  -- KEEP.DEFER_MS
  ⟨0x0021, 0, 1, 32, false, true, (.val 0), none, .none, .any, false⟩,
  -- KEEP.DEFERRALS
  ⟨0x0022, 0, 1, 32, false, true, (.val 0), none, .none, .any, false⟩,
  -- KEEP.AGED_BULK
  ⟨0x0022, 1, 1, 32, false, true, (.val 0), none, .none, .any, false⟩,
  -- KEEP.AGED_NORMAL
  ⟨0x0022, 2, 1, 32, false, true, (.val 0), none, .none, .any, false⟩,
  -- KEEP.BUSY_REPLIES
  ⟨0x0022, 3, 1, 32, false, true, (.val 0), none, .none, .any, false⟩,
  -- KEEP.SESSION_REJECTS
  ⟨0x0022, 4, 1, 32, false, true, (.val 0), none, .none, .any, false⟩,
  -- KEEP.MB_OVERRUNS
  ⟨0x0022, 5, 1, 32, false, true, (.val 0), none, .none, .any, false⟩,
  -- KEEP.STORE_SEQ
  ⟨0x0030, 0, 1, 32, false, true, (.val 0), none, .none, .any, false⟩,
  -- KEEP.STORE_PAIR
  ⟨0x0030, 1, 1, 8, false, true, (.val 0), none, .none, .any, false⟩,
  -- KEEP.STORE_BANK
  ⟨0x0030, 2, 1, 8, false, true, (.val 0), none, .none, .any, false⟩,
  -- KEEP.STORE_COMMITS
  ⟨0x0030, 3, 1, 32, false, true, (.val 0), none, .none, .any, false⟩,
  -- KEEP.FW_SLOT
  ⟨0x0031, 0, 1, 8, false, true, (.val 0), none, .none, .any, false⟩,
  -- KEEP.FW_TRIAL
  ⟨0x0031, 1, 1, 8, false, true, (.val 0), none, .none, .any, false⟩]

/-- Parameters of subsystem 0x01 (13_power_stageline R285). -/
def paramRows01 : List PRow := [
  -- PWR.NOM_MV
  ⟨0x0110, 0, 32, 16, false, false, .perNom, (some (300, 60000)), .none, .slotOff, true⟩,
  -- PWR.DEP
  ⟨0x0111, 0, 32, 32, false, false, .perDep, none, .dep, .slotOff, true⟩,
  -- PWR.GROUP
  ⟨0x0112, 0, 32, 2, false, false, .perGroup, (some (0, 2)), .none, .slotOff, true⟩,
  -- PWR.DELAY_MS
  ⟨0x0113, 0, 32, 10, false, false, (.val 0), (some (0, 1000)), .none, .slotOff, true⟩,
  -- PWR.PG_TIMEOUT_MS
  ⟨0x0114, 0, 32, 10, false, false, (.val 20), (some (1, 1000)), .none, .slotOff, true⟩,
  -- PWR.PG_USE
  ⟨0x0115, 0, 32, 1, false, false, (.val 1), (some (0, 1)), .none, .slotOff, true⟩,
  -- PWR.WINDOW
  ⟨0x0116, 0, 32, 5, false, false, (.val 8), (some (2, 20)), .none, .slotOff, true⟩,
  -- PWR.DECAY_PCT
  ⟨0x0117, 0, 32, 6, false, false, (.val 10), (some (2, 50)), .none, .slotOff, true⟩,
  -- PWR.DECAY_TIMEOUT_MS
  ⟨0x0118, 0, 32, 10, false, false, (.val 100), (some (1, 1000)), .none, .slotOff, true⟩,
  -- PWR.GLITCH_US
  ⟨0x0119, 0, 32, 14, false, false, (.val 100), (some (10, 10000)), .none, .slotOff, true⟩,
  -- PWR.MARGIN_MODE
  ⟨0x011A, 0, 32, 2, false, false, (.val 0), (some (0, 2)), .none, .slotOff, true⟩,
  -- PWR.PMB_ADDR
  ⟨0x011B, 0, 32, 7, false, false, (.val 0), (some (8, 119)), .none, .slotOff, true⟩,
  -- PWR.PMB_PAGE
  ⟨0x011C, 0, 32, 8, false, false, (.val 255), (some (0, 31)), .ff, .slotOff, true⟩,
  -- PWR.RAIL_STATE
  ⟨0x0120, 0, 32, 3, false, true, (.val 0), none, .none, .any, false⟩,
  -- PWR.RAIL_MV
  ⟨0x0121, 0, 32, 16, false, true, (.val 0), none, .none, .any, false⟩,
  -- PWR.RETRIES
  ⟨0x0122, 0, 32, 2, false, true, (.val 0), none, .none, .any, false⟩,
  -- PWR.PMB_KHZ
  ⟨0x0130, 0, 1, 2, false, false, (.val 1), (some (0, 2)), .none, .any, true⟩,
  -- PWR.PMB_POLL_MS
  ⟨0x0131, 0, 1, 10, false, false, (.val 100), (some (10, 1000)), .none, .any, true⟩,
  -- PWR.WAKE_TIME
  ⟨0x0132, 0, 1, 64, false, false, (.val 0), none, .none, .any, true⟩,
  -- PWR.NODE_MODE
  ⟨0x0140, 0, 1, 1, false, false, (.val 0), (some (0, 1)), .none, .any, true⟩,
  -- PWR.NODE_FIXED
  ⟨0x0141, 0, 1, 9, false, false, (.val 0), (some (0, 511)), .none, .any, true⟩,
  -- PWR.STAGE_AUTO
  ⟨0x0142, 0, 1, 1, false, false, (.val 0), (some (0, 1)), .none, .any, true⟩,
  -- PWR.SWEEP_MS
  ⟨0x0143, 0, 1, 10, false, false, (.val 10), (some (1, 1000)), .none, .any, true⟩,
  -- PWR.STAGE_TIMEOUT_US
  ⟨0x0144, 0, 1, 14, false, false, (.val 500), (some (50, 10000)), .none, .any, true⟩,
  -- PWR.NODE
  ⟨0x0150, 0, 1, 10, false, true, (.val 1021), none, .none, .any, false⟩,
  -- PWR.MASTER
  ⟨0x0151, 0, 1, 1, false, true, (.val 0), none, .none, .any, false⟩,
  -- PWR.CHAIN_NODES
  ⟨0x0152, 0, 1, 9, false, true, (.val 0), none, .none, .any, false⟩]

/-- Parameters of subsystem 0x02 (14_clocks_time R306). -/
def paramRows02 : List PRow := [
  -- CLK.STEP_NS
  ⟨0x0210, 0, 1, 30, false, false, (.val 1000), (some (100, 1000000000)), .none, .any, true⟩,
  -- CLK.SLEW_PPB
  ⟨0x0211, 0, 1, 14, false, false, (.val 100), (some (1, 10000)), .none, .any, true⟩,
  -- CLK.ALIGN_LIMIT_NS
  ⟨0x0212, 0, 1, 10, false, false, (.val 5), (some (2, 1000)), .none, .any, true⟩,
  -- CLK.PTP_CHECK_NS
  ⟨0x0213, 0, 1, 20, false, false, (.val 500), (some (50, 1000000)), .none, .any, true⟩,
  -- CLK.HOLDOVER_S
  ⟨0x0214, 0, 1, 6, false, false, (.val 3), (some (2, 60)), .none, .any, true⟩,
  -- CLK.TIME_SRC
  ⟨0x0220, 0, 1, 2, false, true, (.val 0), none, .none, .any, false⟩,
  -- CLK.STATUS
  ⟨0x0221, 0, 1, 6, false, true, (.val 0), none, .none, .any, false⟩,
  -- CLK.TAI_UTC
  ⟨0x0222, 0, 1, 16, true, true, (.val 0), none, .none, .any, true⟩,
  -- CLK.OFFSET_PS
  ⟨0x0223, 0, 1, 64, true, true, (.val 0), none, .none, .any, false⟩,
  -- CLK.FREQ_CORR
  ⟨0x0224, 0, 1, 32, true, true, (.val 0), none, .none, .any, false⟩,
  -- CLK.SEG_DELAY_PS
  ⟨0x0225, 0, 2, 32, false, true, (.val 0), none, .none, .any, false⟩,
  -- CLK.PLL_BAND
  ⟨0x0226, 0, 5, 6, false, true, (.val 0), none, .none, .any, false⟩,
  -- CLK.STEPS
  ⟨0x0227, 0, 1, 32, false, true, (.val 0), none, .none, .any, false⟩]

/-- Parameters of subsystem 0x03 (02_layer_cycle R57). -/
def paramRows03 : List PRow := [
  -- LAY.CARRIAGE_ROLE
  ⟨0x0310, 0, 1, 1, false, false, (.val 0), (some (0, 1)), .none, .idle, false⟩,
  -- LAY.SPEED_TOL
  ⟨0x0311, 0, 1, 8, false, false, (.val 5), (some (1, 20)), .none, .idle, false⟩,
  -- LAY.OVERSPEED
  ⟨0x0312, 0, 1, 8, false, false, (.val 10), (some (2, 30)), .none, .idle, false⟩,
  -- LAY.UNDERSPEED
  ⟨0x0313, 0, 1, 8, false, false, (.val 50), (some (10, 90)), .none, .idle, false⟩,
  -- LAY.RUNUP_TIMEOUT
  ⟨0x0314, 0, 1, 16, false, false, (.val 2000), (some (10, 60000)), .none, .idle, false⟩,
  -- LAY.PRIME_LINES
  ⟨0x0315, 0, 1, 12, false, false, (.val 512), (some (1, 2048)), .none, .idle, false⟩,
  -- LAY.UNDERRUN_ACTION
  ⟨0x0316, 0, 1, 1, false, false, (.val 0), (some (0, 1)), .none, .idle, false⟩,
  -- LAY.UNDERRUN_LINES
  ⟨0x0317, 0, 1, 16, false, false, (.val 256), (some (1, 65535)), .none, .idle, false⟩,
  -- LAY.REPAIR_MODE
  ⟨0x0318, 0, 1, 2, false, false, (.val 0), (some (0, 2)), .none, .idle, false⟩,
  -- LAY.REPAIR_MIN
  ⟨0x0319, 0, 1, 16, false, false, (.val 25), (some (1, 65535)), .none, .idle, false⟩,
  -- LAY.AUTO_DOZE
  ⟨0x031A, 0, 1, 1, false, false, (.val 1), (some (0, 1)), .none, .idle, false⟩,
  -- LAY.REST_SPEED
  ⟨0x031B, 0, 1, 24, false, false, (.val 1000), (some (100, 100000)), .none, .idle, false⟩,
  -- LAY.LAST_COMMITTED
  ⟨0x031C, 0, 1, 32, false, true, (.val 0), none, .none, .any, false⟩,
  -- LAY.STALE_STREAM_COUNT
  ⟨0x031D, 0, 1, 32, false, true, (.val 0), none, .none, .any, false⟩,
  -- LAY.ADMISSIBLE_RATE
  ⟨0x031E, 0, 1, 16, false, true, (.val 60000), none, .none, .any, false⟩]

/-- Parameters of subsystem 0x04 (03_dose_synthesis R85). -/
def paramRows04 : List PRow := [
  -- DOSE.LEAD_SHARE
  ⟨0x0410, 0, 1, 7, false, false, (.val 70), (some (50, 95)), .none, .idle, false⟩,
  -- DOSE.TRIM_BOUNDARY
  ⟨0x0411, 0, 1, 9, false, false, (.val 192), (some (32, 272)), .m16, .idle, false⟩,
  -- DOSE.TRIM_LIMIT
  ⟨0x0412, 0, 1, 6, false, false, (.val 20), (some (1, 50)), .none, .idle, false⟩,
  -- DOSE.MIN_WIDTH
  ⟨0x0413, 0, 1, 8, false, false, (.val 20), (some (4, 200)), .none, .idle, false⟩,
  -- DOSE.DUTY_MAX
  ⟨0x0414, 0, 1, 7, false, false, (.val 90), (some (50, 98)), .none, .idle, false⟩,
  -- DOSE.STITCH_LEFT
  ⟨0x0415, 0, 1, 7, false, false, (.val 0), (some (0, 64)), .none, .idle, false⟩,
  -- DOSE.STITCH_RIGHT
  ⟨0x0416, 0, 1, 7, false, false, (.val 0), (some (0, 64)), .none, .idle, false⟩,
  -- DOSE.STITCH_SHAPE
  ⟨0x0417, 0, 1, 1, false, false, (.val 0), (some (0, 1)), .none, .idle, false⟩,
  -- DOSE.CAL_STALE_ROUNDS
  ⟨0x0418, 0, 1, 8, false, false, (.val 10), (some (2, 255)), .none, .idle, false⟩,
  -- DOSE.BILLET_VERSION
  ⟨0x0419, 0, 1, 16, false, true, (.val 0), none, .none, .any, false⟩,
  -- DOSE.CAL_GENERATION
  ⟨0x041A, 0, 1, 16, false, true, (.val 0), none, .none, .any, false⟩,
  -- DOSE.CARRY_GROUP
  ⟨0x041B, 0, 1, 4, false, true, (.val 1), none, .none, .any, false⟩,
  -- DOSE.PHASE_SKIPS
  ⟨0x041C, 0, 1, 32, false, true, (.val 0), none, .none, .any, false⟩,
  -- DOSE.CAP_HITS
  ⟨0x041C, 1, 1, 32, false, true, (.val 0), none, .none, .any, false⟩,
  -- DOSE.TRIM_CLAMPS
  ⟨0x041C, 2, 1, 32, false, true, (.val 0), none, .none, .any, false⟩,
  -- DOSE.RETIRED_SKIPS
  ⟨0x041C, 3, 1, 32, false, true, (.val 0), none, .none, .any, false⟩,
  -- DOSE.CLAMPED_WORDS
  ⟨0x041C, 4, 1, 32, false, true, (.val 0), none, .none, .any, false⟩]

/-- Parameters of subsystem 0x05 (04_emission_monitor R111). -/
def paramRows05 : List PRow := [
  -- EMON.SENSE_FIRST
  ⟨0x0510, 0, 1, 9, false, false, (.val 64), (some (0, 270)), .even, .idle, false⟩,
  -- EMON.SENSE_COUNT
  ⟨0x0511, 0, 1, 8, false, false, (.val 64), (some (2, 128)), .even, .idle, false⟩,
  -- EMON.GROUP_LINES
  ⟨0x0512, 0, 1, 7, false, false, (.val 1), (some (1, 64)), .none, .idle, false⟩,
  -- EMON.RESP_GAIN
  ⟨0x0513, 0, 1, 16, false, false, (.val 16384), (some (4096, 65535)), .none, .idle, false⟩,
  -- EMON.TRIM_GAIN
  ⟨0x0514, 0, 1, 9, false, false, (.val 256), (some (0, 256)), .none, .idle, false⟩,
  -- EMON.MIN_SENSE
  ⟨0x0515, 0, 1, 16, false, false, (.val 1000), (some (1, 65535)), .none, .idle, false⟩,
  -- EMON.TRIM_ENABLE
  ⟨0x0516, 0, 1, 1, false, false, (.val 1), (some (0, 1)), .none, .idle, false⟩,
  -- EMON.LEARN
  ⟨0x0517, 0, 1, 1, false, false, (.val 0), (some (0, 1)), .none, .idle, false⟩,
  -- EMON.LEARN_RATE
  ⟨0x0518, 0, 1, 8, false, false, (.val 16), (some (1, 128)), .none, .idle, false⟩,
  -- EMON.LEARN_SPAN
  ⟨0x0519, 0, 1, 6, false, false, (.val 20), (some (1, 50)), .none, .idle, false⟩,
  -- EMON.ETA_LOW
  ⟨0x051A, 0, 1, 16, false, false, (.val 13107), (some (1, 16384)), .none, .idle, false⟩,
  -- EMON.ETA_HIGH
  ⟨0x051A, 1, 1, 16, false, false, (.val 19661), (some (16384, 65535)), .none, .idle, false⟩,
  -- EMON.WIN_LANES
  ⟨0x051B, 0, 2, 4, false, false, (.val 15), (some (0, 15)), .none, .window, false⟩,
  -- EMON.WIN_ROW_FIRST
  ⟨0x051C, 0, 2, 8, false, false, (.val 0), (some (0, 143)), .none, .window, false⟩,
  -- EMON.WIN_ROW_LAST
  ⟨0x051D, 0, 2, 8, false, false, (.val 143), (some (0, 143)), .none, .window, false⟩,
  -- EMON.WIN_COL_FIRST
  ⟨0x051E, 0, 2, 7, false, false, (.val 0), (some (0, 127)), .none, .window, false⟩,
  -- EMON.WIN_COL_LAST
  ⟨0x051F, 0, 2, 7, false, false, (.val 127), (some (0, 127)), .none, .window, false⟩,
  -- EMON.WIN_DECIMATE
  ⟨0x0520, 0, 2, 9, false, false, (.val 1), (some (1, 256)), .none, .window, false⟩,
  -- EMON.STREAM_ENABLE
  ⟨0x0521, 0, 1, 1, false, false, (.val 0), (some (0, 1)), .stream, .any, false⟩,
  -- EMON.CAP_PRE
  ⟨0x0530, 0, 1, 32, false, false, (.val 1000), (some (0, 174760)), .none, .capOff, false⟩,
  -- EMON.CAP_POST
  ⟨0x0531, 0, 1, 32, false, false, (.val 200), (some (1, 174760)), .none, .capOff, false⟩,
  -- EMON.CAP_TRIG_MASK
  ⟨0x0532, 0, 1, 7, false, false, (.val 1), none, .none, .capOff, false⟩,
  -- EMON.CAP_FAULT_CLASS
  ⟨0x0533, 0, 1, 3, false, false, (.val 2), (some (0, 4)), .none, .capOff, false⟩,
  -- EMON.CAP_MARKER
  ⟨0x0534, 0, 1, 32, false, false, (.val 0), none, .none, .capOff, false⟩,
  -- EMON.CAP_MODE
  ⟨0x0535, 0, 1, 1, false, false, (.val 0), (some (0, 1)), .none, .capOff, false⟩,
  -- EMON.CAP_DMA
  ⟨0x0535, 1, 1, 6, false, false, (.val 0), (some (0, 31)), .none, .capOff, false⟩,
  -- EMON.CAP_STATE
  ⟨0x0536, 0, 1, 3, false, true, (.val 0), none, .none, .any, false⟩,
  -- EMON.TRIM_ACTIVE
  ⟨0x0540, 0, 1, 1, false, true, (.val 0), none, .none, .any, false⟩,
  -- EMON.GROUP_LINES_ARMED
  ⟨0x0541, 0, 1, 8, false, true, (.val 1), none, .none, .any, false⟩,
  -- EMON.STREAM_DROPS
  ⟨0x0542, 0, 1, 32, false, true, (.val 0), none, .none, .any, false⟩,
  -- EMON.MISSED_TRIGGERS
  ⟨0x0542, 1, 1, 32, false, true, (.val 0), none, .none, .any, false⟩]

/-- Parameters of subsystem 0x06 (05_tile_links R143). -/
def paramRows06 : List PRow := [
  -- LINK.ADVANCE_NS
  ⟨0x0610, 0, 1, 14, false, false, (.val 2000), (some (500, 8000)), .none, .idle, false⟩,
  -- LINK.UNCORR_LIMIT
  ⟨0x0611, 0, 1, 8, false, false, (.val 8), (some (1, 255)), .none, .idle, false⟩,
  -- LINK.TELEM_US
  ⟨0x0612, 0, 1, 14, false, false, (.val 500), (some (100, 10000)), .none, .idle, false⟩,
  -- LINK.LAT_TOL_PS
  ⟨0x0613, 0, 1, 10, false, false, (.val 200), (some (50, 500)), .none, .idle, false⟩,
  -- LINK.EXPECT_TILES
  ⟨0x0614, 0, 4, 5, false, false, (.val 0), (some (0, 18)), .none, .idle, false⟩,
  -- LINK.RESERVE_ENABLE
  ⟨0x0615, 0, 1, 1, false, false, (.val 1), (some (0, 1)), .none, .idle, false⟩,
  -- LINK.RESERVE_PARK
  ⟨0x0616, 0, 1, 2, false, false, (.val 0), (some (0, 3)), .none, .idle, false⟩,
  -- LINK.RESERVE_RETRAIN_S
  ⟨0x0617, 0, 1, 12, false, false, (.val 60), (some (0, 3600)), .none, .idle, false⟩,
  -- LINK.CHAIN_STATE
  ⟨0x0620, 0, 4, 3, false, true, (.val 0), none, .none, .any, false⟩,
  -- LINK.TILES
  ⟨0x0621, 0, 4, 5, false, true, (.val 0), none, .none, .any, false⟩,
  -- LINK.SERVED_BY
  ⟨0x0622, 0, 4, 3, false, true, (.val 0), none, .none, .any, false⟩,
  -- LINK.LOST_FRAMES
  ⟨0x0623, 0, 4, 32, false, true, (.val 0), none, .none, .any, false⟩,
  -- LINK.UNCORR_CW
  ⟨0x0624, 0, 5, 32, false, true, (.val 0), none, .none, .any, false⟩,
  -- LINK.ACK_UNKNOWN
  ⟨0x0625, 0, 4, 32, false, true, (.val 0), none, .none, .any, false⟩,
  -- LINK.ADVANCE_OVERRUNS
  ⟨0x0626, 0, 1, 32, false, true, (.val 0), none, .none, .any, false⟩,
  -- LINK.LATENCY_PS
  ⟨0x0627, 0, 72, 32, false, true, (.val 0), none, .none, .any, false⟩]

/-- Parameters of subsystem 0x07 (06_host_ports_dma R158). -/
def paramRows07 : List PRow := [
  -- HOST.IPV4
  ⟨0x0710, 0, 2, 32, false, false, (.val 0), none, .none, .any, true⟩,
  -- HOST.IPV6
  ⟨0x0711, 0, 2, 128, false, false, (.val 0), none, .none, .any, true⟩,
  -- HOST.ENCAP
  ⟨0x0712, 0, 1, 2, false, false, (.val 0), (some (0, 2)), .none, .any, true⟩,
  -- HOST.ETHERTYPE
  ⟨0x0713, 0, 1, 16, false, false, (.val 34997), (some (1536, 65535)), .ethertype, .any, true⟩,
  -- HOST.UDP_PORT
  ⟨0x0714, 0, 1, 16, false, false, (.val 17620), (some (1024, 65535)), .none, .any, true⟩,
  -- HOST.MAX_FRAME
  ⟨0x0715, 0, 1, 14, false, false, (.val 9216), (some (1518, 9216)), .none, .any, true⟩,
  -- HOST.VLAN
  ⟨0x0716, 0, 1, 13, false, false, (.val 0), none, .vlan, .any, true⟩,
  -- HOST.PORT_MODE
  ⟨0x0717, 0, 1, 2, false, false, (.val 0), (some (0, 2)), .none, .any, true⟩,
  -- HOST.FAILOVER_US
  ⟨0x0718, 0, 1, 17, false, false, (.val 500), (some (100, 100000)), .none, .any, true⟩,
  -- HOST.WINDOW
  ⟨0x0719, 0, 1, 10, false, false, (.val 64), (some (8, 512)), .none, .any, false⟩,
  -- HOST.RTO_US
  ⟨0x071A, 0, 1, 14, false, false, (.val 200), (some (20, 10000)), .none, .any, false⟩,
  -- HOST.STREAM_TIMEOUT_MS
  ⟨0x071B, 0, 1, 10, false, false, (.val 20), (some (1, 1000)), .none, .any, false⟩,
  -- HOST.ACK_PACKETS
  ⟨0x071C, 0, 1, 7, false, false, (.val 16), (some (1, 64)), .none, .any, false⟩,
  -- HOST.ACK_US
  ⟨0x071C, 1, 1, 10, false, false, (.val 20), (some (2, 1000)), .none, .any, false⟩,
  -- HOST.PTP_MODE
  ⟨0x071D, 0, 1, 2, false, false, (.val 0), (some (0, 3)), .none, .any, false⟩,
  -- HOST.PTP_DOMAIN
  ⟨0x071D, 1, 1, 7, false, false, (.val 0), (some (0, 127)), .none, .any, false⟩,
  -- HOST.GAP_TIMEOUTS
  ⟨0x071E, 0, 1, 32, false, true, (.val 0), none, .none, .any, false⟩,
  -- HOST.RETX_SENT
  ⟨0x071E, 1, 1, 32, false, true, (.val 0), none, .none, .any, false⟩,
  -- HOST.DUP_RX
  ⟨0x071E, 2, 1, 32, false, true, (.val 0), none, .none, .any, false⟩,
  -- HOST.RX_DISCARDS
  ⟨0x071E, 3, 1, 32, false, true, (.val 0), none, .none, .any, false⟩,
  -- HOST.FAILOVERS
  ⟨0x071E, 4, 1, 32, false, true, (.val 0), none, .none, .any, false⟩,
  -- HOST.LINK_STATE
  ⟨0x071F, 0, 2, 2, false, true, (.val 0), none, .none, .any, false⟩,
  -- HOST.MAC
  ⟨0x0720, 0, 2, 48, false, true, (.val 0), none, .none, .any, false⟩,
  -- DMA.WEIGHT
  ⟨0x0740, 0, 32, 4, false, false, (.val 4), (some (1, 15)), .none, .any, false⟩,
  -- DMA.CLASS
  ⟨0x0741, 0, 32, 1, false, false, (.val 0), (some (0, 1)), .none, .dmaIdle, false⟩,
  -- DMA.STATE
  ⟨0x0742, 0, 32, 2, false, true, (.val 0), none, .none, .any, false⟩,
  -- DMA.END
  ⟨0x0743, 0, 32, 2, false, true, (.val 0), none, .none, .any, false⟩,
  -- DMA.STARVE_BOOSTS
  ⟨0x0744, 0, 32, 32, false, true, (.val 0), none, .none, .any, false⟩,
  -- DMA.PHYS
  ⟨0x0745, 0, 32, 6, false, true, (.val 0), none, .none, .any, false⟩]

/-- Parameters of subsystem 0x08 (07_layer_data R184). -/
def paramRows08 : List PRow := [
  -- DATA.CMP_MODE
  ⟨0x0810, 0, 4, 2, false, false, (.val 2), (some (0, 2)), .none, .idle, false⟩,
  -- DATA.MIN_GAIN
  ⟨0x0811, 0, 1, 6, false, false, (.val 3), (some (0, 50)), .none, .idle, false⟩,
  -- DATA.CMP_WAIT_US
  ⟨0x0812, 0, 1, 10, false, false, (.val 200), (some (10, 1000)), .none, .idle, false⟩,
  -- DATA.REQUIRE_ENCRYPT
  ⟨0x0813, 0, 1, 1, false, false, (.val 0), (some (0, 1)), .none, .idle, false⟩,
  -- DATA.SHADOW_N
  ⟨0x0814, 0, 1, 21, false, false, (.val 0), (some (4096, 1048576)), .zero, .idle, false⟩,
  -- DATA.BLOCKS_IN
  ⟨0x0820, 0, 2, 32, false, true, (.val 0), none, .none, .any, false⟩,
  -- DATA.RESYNC_DISCARDS
  ⟨0x0821, 0, 2, 32, false, true, (.val 0), none, .none, .any, false⟩,
  -- DATA.BLOCK_ERRORS
  ⟨0x0822, 0, 1, 32, false, true, (.val 0), none, .none, .any, false⟩,
  -- DATA.NO_GAIN_BLOCKS
  ⟨0x0822, 1, 1, 32, false, true, (.val 0), none, .none, .any, false⟩,
  -- DATA.BYPASSED
  ⟨0x0822, 2, 1, 32, false, true, (.val 0), none, .none, .any, false⟩,
  -- DATA.SHADOW_SAMPLES
  ⟨0x0822, 3, 1, 32, false, true, (.val 0), none, .none, .any, false⟩,
  -- DATA.SHADOW_SKIPS
  ⟨0x0822, 4, 1, 32, false, true, (.val 0), none, .none, .any, false⟩,
  -- DATA.SHADOW_MISMATCHES
  ⟨0x0823, 0, 1, 32, false, true, (.val 0), none, .none, .any, false⟩]

/-- Parameters of subsystem 0x09 (08_servo_engine R206). -/
def paramRows09 : List PRow := [
  -- SERVO.TYPE
  ⟨0x0910, 0, 24, 3, false, false, (.val 0), none, .none, .servoOff, false⟩,
  -- SERVO.DIV
  ⟨0x0911, 0, 24, 10, false, false, (.val 1), (some (1, 1000)), .div, .servoOff, false⟩,
  -- SERVO.PHASE
  ⟨0x0912, 0, 24, 10, false, false, (.val 0), none, .phase, .servoOff, false⟩,
  -- SERVO.SP_SRC
  ⟨0x0913, 0, 24, 16, false, false, (.val 0), none, .none, .servoOff, false⟩,
  -- SERVO.FB_SRC
  ⟨0x0914, 0, 24, 16, false, false, (.val 0), none, .none, .servoOff, false⟩,
  -- SERVO.FF_SRC
  ⟨0x0915, 0, 24, 16, false, false, (.val 0), none, .none, .servoOff, false⟩,
  -- SERVO.OUT_DST
  ⟨0x0916, 0, 24, 16, false, false, (.val 0), none, .none, .servoOff, false⟩,
  -- SERVO.SP
  ⟨0x0917, 0, 24, 32, true, false, (.val 0), none, .none, .any, false⟩,
  -- SERVO.KP
  ⟨0x0918, 0, 24, 37, false, false, (.val 0), none, .none, .any, false⟩,
  -- SERVO.KI
  ⟨0x0919, 0, 24, 37, false, false, (.val 0), none, .none, .any, false⟩,
  -- SERVO.KD
  ⟨0x091A, 0, 24, 37, false, false, (.val 0), none, .none, .any, false⟩,
  -- SERVO.KFF
  ⟨0x091B, 0, 24, 37, false, false, (.val 0), none, .none, .any, false⟩,
  -- SERVO.FF_MODE
  ⟨0x091C, 0, 24, 2, false, false, (.val 0), (some (0, 2)), .none, .any, false⟩,
  -- SERVO.VNOM
  ⟨0x091D, 0, 24, 16, false, false, (.val 1), (some (1, 65535)), .none, .any, false⟩,
  -- SERVO.I_LIM
  ⟨0x091E, 0, 24, 31, false, false, (.val 2147483647), none, .none, .any, false⟩,
  -- SERVO.OUT_MIN
  ⟨0x091F, 0, 24, 32, true, false, (.val 2147483648), none, .outlim, .any, false⟩,
  -- SERVO.OUT_MAX
  ⟨0x0920, 0, 24, 32, true, false, (.val 2147483647), none, .outlim, .any, false⟩,
  -- SERVO.COG_TAB
  ⟨0x0921, 0, 24, 4, false, false, (.val 0), (some (0, 8)), .none, .any, false⟩,
  -- SERVO.FRIC_TAB
  ⟨0x0922, 0, 24, 4, false, false, (.val 0), (some (0, 8)), .none, .any, false⟩,
  -- SERVO.FRIC_VBAND
  ⟨0x0923, 0, 24, 24, false, false, (.val 1000), (some (1, 1000000)), .none, .any, false⟩,
  -- SERVO.SAFE_SP
  ⟨0x0924, 0, 24, 32, true, false, (.val 0), none, .none, .any, false⟩,
  -- SERVO.ENABLE
  ⟨0x0925, 0, 24, 1, false, true, (.val 0), none, .none, .any, false⟩,
  -- SERVO.OUT
  ⟨0x0926, 0, 24, 32, true, true, (.val 0), none, .none, .any, false⟩,
  -- SERVO.ENC_TYPE
  ⟨0x0930, 0, 4, 2, false, false, (.val 0), (some (0, 3)), .none, .any, false⟩,
  -- SERVO.ENC_PITCH_PM
  ⟨0x0931, 0, 4, 32, false, false, (.val 4000000), (some (100, 4000000000)), .none, .any, false⟩,
  -- SERVO.ENC_DIR
  ⟨0x0932, 0, 4, 1, false, false, (.val 0), (some (0, 1)), .none, .any, false⟩,
  -- SERVO.ENC_FILTER_NS
  ⟨0x0933, 0, 4, 8, false, false, (.val 10), (some (0, 200)), .none, .any, false⟩,
  -- SERVO.SSI_BITS
  ⟨0x0934, 0, 4, 6, false, false, (.val 32), (some (8, 48)), .none, .any, false⟩,
  -- SERVO.SSI_CLK_KHZ
  ⟨0x0935, 0, 4, 14, false, false, (.val 2000), (some (100, 10000)), .none, .any, false⟩,
  -- SERVO.SSI_GRAY
  ⟨0x0936, 0, 4, 1, false, false, (.val 0), (some (0, 1)), .none, .any, false⟩,
  -- SERVO.SSI_GAP_US
  ⟨0x0936, 4, 4, 7, false, false, (.val 20), (some (1, 100)), .none, .any, false⟩,
  -- SERVO.AMP_LOW
  ⟨0x0937, 0, 4, 11, false, false, (.val 600), (some (100, 2000)), .none, .any, false⟩,
  -- SERVO.AMP_HIGH
  ⟨0x0938, 0, 4, 11, false, false, (.val 1400), (some (100, 2000)), .none, .any, false⟩,
  -- SERVO.VEL_WINDOW_US
  ⟨0x0939, 0, 4, 8, false, false, (.val 10), (some (1, 200)), .none, .any, false⟩,
  -- SERVO.FREEZE_SPEED
  ⟨0x093A, 0, 4, 20, false, false, (.val 5000), (some (100, 1000000)), .none, .any, false⟩,
  -- SERVO.ZREF_POS
  ⟨0x093B, 0, 4, 48, true, false, (.val 0), none, .none, .any, false⟩,
  -- SERVO.ENC_ZCHECK
  ⟨0x093B, 4, 4, 1, false, false, (.val 0), (some (0, 1)), .none, .any, false⟩,
  -- SERVO.ENC_POS
  ⟨0x093C, 0, 4, 48, true, true, (.val 0), none, .none, .any, false⟩,
  -- SERVO.ENC_STATUS
  ⟨0x093D, 0, 4, 5, false, true, (.val 0), none, .none, .any, false⟩,
  -- SERVO.EXP_ENC
  ⟨0x0940, 0, 1, 2, false, false, (.val 0), (some (0, 3)), .none, .idle, false⟩]

/-- Parameters of subsystem 0x09 (08_servo_engine R206). -/
def paramRows09b : List PRow := [
  -- SERVO.CAR_MASS_G
  ⟨0x0941, 0, 1, 20, false, false, (.val 20000), (some (100, 1000000)), .none, .idle, false⟩,
  -- SERVO.STOP_DECEL
  ⟨0x0942, 0, 1, 18, false, false, (.val 50000), (some (1000, 200000)), .none, .idle, false⟩,
  -- SERVO.FOLLOW_MAX
  ⟨0x0943, 0, 1, 24, false, false, (.val 500000), (some (1000, 10000000)), .none, .idle, false⟩,
  -- SERVO.INPOS_NM
  ⟨0x0944, 0, 1, 20, false, false, (.val 5000), (some (100, 1000000)), .none, .idle, false⟩,
  -- SERVO.INPOS_MS
  ⟨0x0944, 1, 1, 8, false, false, (.val 1), (some (1, 255)), .none, .idle, false⟩,
  -- SERVO.SKEW_MAX
  ⟨0x0945, 0, 1, 24, false, false, (.val 200000), (some (1000, 10000000)), .none, .idle, false⟩,
  -- SERVO.CAR_VMAX
  ⟨0x0946, 0, 1, 24, false, false, (.val 500000), (some (1000, 12000000)), .none, .idle, false⟩,
  -- SERVO.CAR_AMAX
  ⟨0x0946, 1, 1, 18, false, false, (.val 10000), (some (100, 200000)), .none, .idle, false⟩,
  -- SERVO.TAB_START
  ⟨0x0950, 1, 8, 32, true, false, (.val 0), none, .none, .idle, false⟩,
  -- SERVO.TAB_STEP
  ⟨0x0951, 1, 8, 24, false, false, (.val 1000), (some (1, 10000000)), .none, .idle, false⟩,
  -- SERVO.TAB_WRAP
  ⟨0x0952, 1, 8, 1, false, false, (.val 0), (some (0, 1)), .none, .idle, false⟩]

/-- Parameters of subsystem 0x0A (09_drive_channels R224). -/
def paramRows0A : List PRow := [
  -- DRV.MODE
  ⟨0x0A10, 0, 8, 2, false, false, (.val 0), (some (0, 3)), .none, .drvOff, false⟩,
  -- DRV.POLE_PAIRS
  ⟨0x0A11, 0, 8, 6, false, false, (.val 1), (some (1, 50)), .none, .drvOff, false⟩,
  -- DRV.POLE_PITCH_UM
  ⟨0x0A12, 0, 8, 18, false, false, (.val 10000), (some (1000, 200000)), .none, .drvOff, false⟩,
  -- DRV.R_MOHM
  ⟨0x0A13, 0, 8, 20, false, false, (.val 1000), (some (1, 1000000)), .none, .drvOff, false⟩,
  -- DRV.L_UH
  ⟨0x0A14, 0, 8, 20, false, false, (.val 1000), (some (1, 1000000)), .none, .drvOff, false⟩,
  -- DRV.PSI_PM_UWB
  ⟨0x0A15, 0, 8, 24, false, false, (.val 10000), (some (1, 10000000)), .none, .drvOff, false⟩,
  -- DRV.PSI_REF_UWB
  ⟨0x0A16, 0, 8, 24, false, false, (.val 10000), (some (1, 10000000)), .none, .drvOff, false⟩,
  -- DRV.FLUX_HYST
  ⟨0x0A17, 0, 8, 5, false, false, (.val 2), (some (1, 20)), .none, .drvOff, false⟩,
  -- DRV.TORQ_HYST
  ⟨0x0A18, 0, 8, 5, false, false, (.val 5), (some (1, 30)), .none, .drvOff, false⟩,
  -- DRV.T_MAX
  ⟨0x0A19, 0, 8, 24, false, false, (.val 1000), (some (1, 10000000)), .catcht, .drvOff, false⟩,
  -- DRV.I_MAX
  ⟨0x0A1A, 0, 8, 18, false, false, (.val 10000), (some (100, 200000)), .starti, .drvOff, false⟩,
  -- DRV.DECIDE_NS
  ⟨0x0A1B, 0, 8, 17, false, false, (.val 25000), (some (10000, 100000)), .none, .drvOff, false⟩,
  -- DRV.WINDOW_NS
  ⟨0x0A1C, 0, 8, 12, false, false, (.val 1000), (some (300, 3000)), .blank, .drvOff, false⟩,
  -- DRV.BLANK_NS
  ⟨0x0A1C, 8, 8, 12, false, false, (.val 400), (some (100, 4095)), .blank, .drvOff, false⟩,
  -- DRV.DEADTIME_NS
  ⟨0x0A1C, 16, 8, 12, false, false, (.val 200), (some (20, 2000)), .none, .drvOff, false⟩,
  -- DRV.ISCALE
  ⟨0x0A1D, 0, 8, 16, false, false, (.val 1000), (some (1, 65535)), .none, .drvOff, false⟩,
  -- DRV.FLUX_TC_MS
  ⟨0x0A1E, 0, 8, 10, false, false, (.val 100), (some (10, 1000)), .none, .drvOff, false⟩,
  -- DRV.ENC
  ⟨0x0A1F, 0, 8, 2, false, false, (.val 0), (some (0, 3)), .none, .drvOff, false⟩,
  -- DRV.COMM_OFFSET_NM
  ⟨0x0A20, 0, 8, 32, true, false, (.val 0), none, .none, .any, false⟩,
  -- DRV.CURVE_SRC
  ⟨0x0A21, 0, 8, 10, false, false, (.val 0), none, .curve, .any, false⟩,
  -- DRV.DEMAND
  ⟨0x0A22, 0, 8, 32, true, false, (.val 0), none, .none, .any, false⟩,
  -- DRV.ON_LEVEL
  ⟨0x0A23, 0, 8, 32, true, false, (.val 1), none, .onoff, .any, false⟩,
  -- DRV.OFF_LEVEL
  ⟨0x0A23, 8, 8, 32, true, false, (.val 0), none, .onoff, .any, false⟩,
  -- DRV.SPD_RAMP
  ⟨0x0A24, 0, 8, 20, false, false, (.val 1000), (some (1, 1000000)), .none, .any, false⟩,
  -- DRV.SPD_KP
  ⟨0x0A25, 0, 8, 37, false, false, (.val 0), none, .none, .any, false⟩,
  -- DRV.SPD_KI
  ⟨0x0A25, 8, 8, 37, false, false, (.val 0), none, .none, .any, false⟩,
  -- DRV.SPEED_AVG
  ⟨0x0A26, 0, 8, 8, false, false, (.val 8), (some (1, 255)), .none, .any, false⟩,
  -- DRV.ALIGN_MS
  ⟨0x0A27, 0, 8, 10, false, false, (.val 100), (some (10, 1000)), .none, .any, false⟩,
  -- DRV.START_I
  ⟨0x0A28, 0, 8, 18, false, false, (.val 2000), (some (100, 262143)), .starti, .any, false⟩,
  -- DRV.START_RAMP
  ⟨0x0A29, 0, 8, 20, false, false, (.val 100), (some (1, 100000)), .none, .any, false⟩,
  -- DRV.HANDOVER
  ⟨0x0A2A, 0, 8, 24, false, false, (.val 20000), (some (1000, 1000000)), .none, .any, false⟩,
  -- DRV.CATCH_MIN
  ⟨0x0A2A, 8, 8, 24, false, false, (.val 5000), (some (1000, 1000000)), .none, .any, false⟩,
  -- DRV.ZC_LOCK
  ⟨0x0A2B, 0, 8, 6, false, false, (.val 12), (some (6, 48)), .none, .any, false⟩,
  -- DRV.START_TRIES
  ⟨0x0A2C, 0, 8, 4, false, false, (.val 3), (some (1, 8)), .none, .any, false⟩,
  -- DRV.CATCH_TRIES
  ⟨0x0A2C, 8, 8, 4, false, false, (.val 3), (some (1, 8)), .none, .any, false⟩,
  -- DRV.CATCH_MS
  ⟨0x0A2D, 0, 8, 10, false, false, (.val 50), (some (10, 1000)), .none, .any, false⟩,
  -- DRV.BRAKE_MS
  ⟨0x0A2D, 8, 8, 10, false, false, (.val 200), (some (10, 1000)), .none, .any, false⟩,
  -- DRV.COAST_MS
  ⟨0x0A2D, 16, 8, 10, false, false, (.val 100), (some (10, 1000)), .none, .any, false⟩,
  -- DRV.CATCH_T
  ⟨0x0A2E, 0, 8, 24, false, false, (.val 100), (some (1, 16777215)), .catcht, .any, false⟩,
  -- DRV.STILL_MV
  ⟨0x0A2F, 0, 8, 12, false, false, (.val 50), (some (10, 2000)), .none, .any, false⟩]

/-- Parameters of subsystem 0x0A (09_drive_channels R224). -/
def paramRows0Ab : List PRow := [
  -- DRV.OFS_BAND
  ⟨0x0A30, 0, 8, 5, false, false, (.val 2), (some (1, 20)), .none, .any, false⟩,
  -- DRV.OFS_REVS
  ⟨0x0A31, 0, 8, 11, false, false, (.val 64), (some (64, 1024)), .none, .any, false⟩,
  -- DRV.OFS_MAX
  ⟨0x0A32, 0, 8, 16, false, false, (.val 8192), (some (1, 65535)), .none, .any, false⟩,
  -- DRV.C3_ACTION
  ⟨0x0A33, 0, 8, 2, false, false, (.val 0), (some (0, 2)), .none, .any, false⟩,
  -- DRV.VBUS_MIN
  ⟨0x0A34, 0, 8, 16, false, false, (.val 10000), (some (1000, 65000)), .none, .any, false⟩,
  -- DRV.VBUS_MAX
  ⟨0x0A34, 8, 8, 16, false, false, (.val 60000), (some (1000, 65000)), .none, .any, false⟩,
  -- DRV.STATE
  ⟨0x0A40, 0, 8, 4, false, true, (.val 0), none, .none, .any, false⟩,
  -- DRV.SPEED
  ⟨0x0A41, 0, 8, 32, true, true, (.val 0), none, .none, .any, false⟩,
  -- DRV.TORQUE
  ⟨0x0A42, 0, 8, 32, true, true, (.val 0), none, .none, .any, false⟩,
  -- DRV.OFS
  ⟨0x0A43, 0, 24, 24, true, true, (.val 0), none, .none, .any, false⟩,
  -- DRV.OFS_SRC
  ⟨0x0A44, 0, 24, 2, false, true, (.val 0), none, .none, .any, false⟩,
  -- DRV.OFS_AGE_S
  ⟨0x0A45, 0, 24, 32, false, true, (.val 0), none, .none, .any, false⟩,
  -- DRV.CATCH_COUNT
  ⟨0x0A46, 0, 8, 32, false, true, (.val 0), none, .none, .any, false⟩,
  -- DRV.BEMF_LOSSES
  ⟨0x0A46, 8, 8, 32, false, true, (.val 0), none, .none, .any, false⟩,
  -- DRV.OFS_REJECTS
  ⟨0x0A46, 16, 8, 32, false, true, (.val 0), none, .none, .any, false⟩,
  -- DRV.ISUM_ERRORS
  ⟨0x0A46, 24, 8, 32, false, true, (.val 0), none, .none, .any, false⟩]

/-- Parameters of subsystem 0x0B (10_stepper_axes R240). -/
def paramRows0B : List PRow := [
  -- STEP.I_RUN
  ⟨0x0B10, 0, 8, 13, false, false, (.val 500), (some (10, 5000)), .irun, .stepStill, false⟩,
  -- STEP.I_HOLD
  ⟨0x0B10, 8, 8, 13, false, false, (.val 250), (some (0, 5000)), .ihold, .stepStill, false⟩,
  -- STEP.R_MOHM
  ⟨0x0B11, 0, 8, 17, false, false, (.val 1000), (some (10, 100000)), .none, .stepStill, false⟩,
  -- STEP.L_UH
  ⟨0x0B12, 0, 8, 20, false, false, (.val 2000), (some (10, 1000000)), .none, .stepStill, false⟩,
  -- STEP.KE_UV_HZ
  ⟨0x0B13, 0, 8, 24, false, false, (.val 0), (some (0, 10000000)), .none, .stepStill, false⟩,
  -- STEP.PWM_KHZ
  ⟨0x0B14, 0, 8, 7, false, false, (.val 40), (some (20, 100)), .none, .stepStill, false⟩,
  -- STEP.SAT_MS
  ⟨0x0B15, 0, 8, 10, false, false, (.val 100), (some (1, 1000)), .none, .stepStill, false⟩,
  -- STEP.VMAX
  ⟨0x0B16, 0, 8, 21, false, false, (.val 200000), (some (1, 2000000)), .none, .stepStill, false⟩,
  -- STEP.AMAX
  ⟨0x0B17, 0, 8, 30, false, false, (.val 2000000), (some (100, 1000000000)), .none, .stepStill, false⟩,
  -- STEP.STOP_DECEL
  ⟨0x0B17, 8, 8, 30, false, false, (.val 4000000), (some (100, 1000000000)), .none, .stepStill, false⟩,
  -- STEP.JMAX
  ⟨0x0B18, 0, 8, 32, false, false, (.val 100000000), (some (1000, 4000000000)), .none, .stepStill, false⟩,
  -- STEP.BLEND_VMAX
  ⟨0x0B19, 0, 8, 21, false, false, (.val 0), (some (0, 2000000)), .none, .stepStill, false⟩,
  -- STEP.HOME_SRC
  ⟨0x0B20, 0, 8, 2, false, false, (.val 0), (some (0, 2)), .none, .stepStill, false⟩,
  -- STEP.HOME_DIR
  ⟨0x0B21, 0, 8, 1, false, false, (.val 0), (some (0, 1)), .none, .stepStill, false⟩,
  -- STEP.HOME_V_FAST
  ⟨0x0B22, 0, 8, 21, false, false, (.val 200000), (some (1, 2000000)), .none, .stepStill, false⟩,
  -- STEP.HOME_V_SLOW
  ⟨0x0B22, 8, 8, 21, false, false, (.val 10000), (some (1, 2000000)), .none, .stepStill, false⟩,
  -- STEP.HOME_BACKOFF
  ⟨0x0B23, 0, 8, 20, false, false, (.val 25600), (some (256, 1000000)), .none, .stepStill, false⟩,
  -- STEP.HOME_POS
  ⟨0x0B24, 0, 8, 48, true, false, (.val 0), none, .none, .stepStill, false⟩,
  -- STEP.HOME_PARK
  ⟨0x0B24, 8, 8, 48, true, false, (.val 0), none, .none, .stepStill, false⟩,
  -- STEP.HOME_MAX
  ⟨0x0B25, 0, 8, 48, true, false, (.val 2147483647), (some (1024, 140737488355327)), .none, .stepStill, false⟩,
  -- STEP.DEBOUNCE
  ⟨0x0B26, 0, 8, 8, false, false, (.val 20), (some (1, 255)), .none, .stepStill, false⟩,
  -- STEP.CHATTER_COUNT
  ⟨0x0B27, 0, 8, 8, false, false, (.val 8), (some (2, 255)), .none, .stepStill, false⟩,
  -- STEP.CHATTER_WINDOW_MS
  ⟨0x0B27, 8, 8, 10, false, false, (.val 10), (some (1, 1000)), .none, .stepStill, false⟩,
  -- STEP.SW_POL
  ⟨0x0B28, 0, 8, 3, false, false, (.val 0), none, .none, .stepStill, false⟩,
  -- STEP.LIMIT_EN
  ⟨0x0B2A, 0, 8, 2, false, false, (.val 3), none, .none, .stepStill, false⟩,
  -- STEP.STATE
  ⟨0x0B40, 0, 8, 3, false, true, (.val 0), none, .none, .any, false⟩,
  -- STEP.POS
  ⟨0x0B41, 0, 8, 48, true, true, (.val 0), none, .none, .any, false⟩,
  -- STEP.REMAIN
  ⟨0x0B41, 8, 8, 48, true, true, (.val 0), none, .none, .any, false⟩,
  -- STEP.QUEUE_DEPTH
  ⟨0x0B42, 0, 8, 6, false, true, (.val 0), none, .none, .any, false⟩,
  -- STEP.HOMED
  ⟨0x0B43, 0, 8, 1, false, true, (.val 0), none, .none, .any, false⟩,
  -- STEP.GROUP
  ⟨0x0B44, 0, 8, 3, false, true, (.val 7), none, .none, .any, false⟩,
  -- STEP.CHATTER_EVENTS
  ⟨0x0B45, 0, 8, 32, false, true, (.val 0), none, .none, .any, false⟩]

/-- Parameters of subsystem 0x0C (11_housekeeping_chamber_io R256). -/
def paramRows0C : List PRow := [
  -- HK.ROUND_MS
  ⟨0x0C10, 0, 1, 7, false, false, (.val 10), (some (1, 100)), .none, .any, false⟩,
  -- HK.TILE_XCHK
  ⟨0x0C11, 0, 1, 13, false, false, (.val 500), (some (50, 5000)), .none, .any, false⟩,
  -- HK.MAINS_MIN
  ⟨0x0C12, 0, 1, 12, false, false, (.val 1800), (some (500, 3000)), .mains, .any, false⟩,
  -- HK.MAINS_MAX
  ⟨0x0C12, 1, 1, 12, false, false, (.val 2650), (some (500, 3000)), .mains, .any, false⟩,
  -- HK.MAINS_SCALE
  ⟨0x0C13, 0, 2, 16, false, false, (.val 16384), (some (8192, 24576)), .none, .any, false⟩,
  -- HK.ROUNDS
  ⟨0x0C14, 0, 1, 32, false, true, (.val 0), none, .none, .any, false⟩,
  -- CIO.TYPE
  ⟨0x0C20, 0, 32, 4, false, false, (.val 0), (some (0, 8)), .none, .idle, false⟩,
  -- CIO.WIRES
  ⟨0x0C21, 0, 32, 3, false, false, (.val 4), (some (2, 4)), .none, .idle, false⟩,
  -- CIO.ROLE
  ⟨0x0C22, 0, 32, 1, false, false, (.val 0), (some (0, 1)), .none, .idle, false⟩,
  -- CIO.CJ_SRC
  ⟨0x0C23, 0, 32, 5, false, false, (.val 0), (some (0, 31)), .none, .idle, false⟩,
  -- CIO.GAIN
  ⟨0x0C24, 0, 32, 32, true, false, (.val 65536), none, .none, .idle, false⟩,
  -- CIO.OFFSET
  ⟨0x0C25, 0, 32, 32, true, false, (.val 0), none, .none, .idle, false⟩,
  -- CIO.PROT_VALUE
  ⟨0x0C27, 0, 32, 32, true, false, (.val 2147483647), none, .none, .idle, false⟩,
  -- HTR.MODE
  ⟨0x0C30, 0, 32, 2, false, false, (.val 0), (some (0, 2)), .none, .any, false⟩,
  -- HTR.LINE
  ⟨0x0C31, 0, 32, 1, false, false, (.val 0), (some (0, 1)), .none, .any, false⟩,
  -- HTR.PWM_HZ
  ⟨0x0C32, 0, 32, 10, false, false, (.val 10), (some (1, 1000)), .none, .any, false⟩,
  -- HTR.MIN_PULSE_US
  ⟨0x0C33, 0, 32, 16, false, false, (.val 100), (some (0, 50000)), .none, .any, false⟩,
  -- HTR.ZC_DELAY_US
  ⟨0x0C34, 0, 32, 11, false, false, (.val 100), (some (0, 2000)), .none, .any, false⟩,
  -- HTR.DEMAND
  ⟨0x0C35, 0, 32, 16, false, false, (.val 0), (some (0, 65535)), .none, .any, false⟩,
  -- HTR.OT_SRC
  ⟨0x0C36, 0, 32, 8, false, false, (.val 255), (some (0, 31)), .ff, .any, false⟩,
  -- HTR.OT_LIMIT
  ⟨0x0C37, 0, 32, 32, true, false, (.val 2147483647), none, .none, .any, false⟩,
  -- HTR.OT_HYST
  ⟨0x0C38, 0, 32, 24, false, false, (.val 500), (some (0, 1000000)), .none, .any, false⟩,
  -- HTR.STATE
  ⟨0x0C40, 0, 32, 3, false, true, (.val 0), none, .none, .any, false⟩]

/-- Parameters of subsystem 0x0D (12_thermal_management R267). -/
def paramRows0D : List PRow := [
  -- THERM.COLD
  ⟨0x0D10, 0, 1, 16, true, false, (.val 0), (some (-4000, 2000)), .therm, .idle, false⟩,
  -- THERM.WARM
  ⟨0x0D11, 0, 1, 16, false, false, (.val 9500), (some (7000, 10000)), .therm, .idle, false⟩,
  -- THERM.HOT
  ⟨0x0D12, 0, 1, 16, false, false, (.val 10200), (some (7200, 10600)), .therm, .idle, false⟩,
  -- THERM.CRIT
  ⟨0x0D13, 0, 1, 16, false, false, (.val 10700), (some (7400, 10900)), .therm, .idle, false⟩,
  -- THERM.HYST
  ⟨0x0D14, 0, 1, 10, false, false, (.val 300), (some (100, 1000)), .none, .idle, false⟩,
  -- THERM.SKIP_WARM
  ⟨0x0D15, 0, 1, 4, false, false, (.val 0), (some (0, 10)), .none, .idle, false⟩,
  -- THERM.SKIP_HOT
  ⟨0x0D15, 1, 1, 4, false, false, (.val 4), (some (0, 10)), .none, .idle, false⟩,
  -- THERM.ORDERLY_MS
  ⟨0x0D16, 0, 1, 11, false, false, (.val 200), (some (50, 2000)), .none, .idle, false⟩,
  -- THERM.SPREAD
  ⟨0x0D17, 0, 1, 11, false, false, (.val 1500), (some (200, 2000)), .none, .idle, false⟩,
  -- THERM.BAND
  ⟨0x0D20, 0, 1, 3, false, true, (.val 1), none, .none, .any, false⟩,
  -- THERM.TJ
  ⟨0x0D21, 0, 1, 16, true, true, (.val 0), none, .none, .any, false⟩,
  -- THERM.SKIP
  ⟨0x0D22, 0, 1, 4, false, true, (.val 0), none, .none, .any, false⟩,
  -- THERM.BAND_TIME_S
  ⟨0x0D23, 0, 5, 32, false, true, (.val 0), none, .none, .any, true⟩,
  -- THERM.TJ_MEAN
  ⟨0x0D24, 0, 1, 16, true, true, (.val 0), none, .none, .any, true⟩]

/-- Parameters of subsystem 0x0E (15_faults R311). -/
def paramRows0E : List PRow := [
  -- FLT.CLASS_0
  ⟨0x0E10, 0, 256, 3, false, false, .perClass, none, .class, .any, false⟩,
  -- FLT.CLASS_1
  ⟨0x0E11, 0, 64, 3, false, false, .perClass, none, .class, .any, false⟩,
  -- FLT.INHIBIT_HOLD_MS
  ⟨0x0E20, 0, 1, 14, false, false, (.val 100), (some (0, 10000)), .none, .idle, false⟩,
  -- FLT.INJECT_ENABLE
  ⟨0x0E21, 0, 1, 1, false, false, (.val 0), (some (0, 1)), .none, .idle, false⟩,
  -- FLT.INHIBIT
  ⟨0x0E22, 0, 1, 1, false, true, (.val 0), none, .none, .any, false⟩,
  -- FLT.RAISES
  ⟨0x0E30, 0, 1, 32, false, true, (.val 0), none, .none, .any, false⟩,
  -- FLT.CLEARS
  ⟨0x0E30, 1, 1, 32, false, true, (.val 0), none, .none, .any, false⟩,
  -- FLT.GB_LOST
  ⟨0x0E30, 2, 1, 32, false, true, (.val 0), none, .none, .any, false⟩,
  -- FLT.SRAM_CORRECTED
  ⟨0x0E31, 0, 1, 32, false, true, (.val 0), none, .none, .any, false⟩]

/-- Parameters of subsystem 0x0F (16_calibration R340). -/
def paramRows0F : List PRow := [
  -- CAL.AUTO
  ⟨0x0F10, 0, 1, 1, false, false, (.val 1), (some (0, 1)), .none, .calIdle, false⟩,
  -- CAL.DELTA_T
  ⟨0x0F11, 0, 1, 12, false, false, (.val 400), (some (50, 2000)), .none, .calIdle, false⟩,
  -- CAL.AGREE
  ⟨0x0F12, 0, 1, 7, false, false, (.val 10), (some (2, 100)), .none, .calIdle, false⟩,
  -- CAL.TARGET_POS_NM
  ⟨0x0F13, 0, 1, 64, true, false, (.val 0), none, .none, .calIdle, false⟩,
  -- CAL.TARGET_TOL_NM
  ⟨0x0F13, 1, 1, 24, false, false, (.val 100000), (some (1000, 10000000)), .none, .calIdle, false⟩,
  -- CAL.GAP_MS
  ⟨0x0F14, 0, 1, 10, false, false, (.val 5), (some (1, 1000)), .none, .calIdle, false⟩,
  -- CAL.MEAS_W1_NS
  ⟨0x0F15, 0, 1, 14, false, false, (.val 2000), (some (500, 8000)), .measw, .calIdle, false⟩,
  -- CAL.MEAS_W2_NS
  ⟨0x0F15, 1, 1, 14, false, false, (.val 8000), (some (1500, 16000)), .measw, .calIdle, false⟩,
  -- CAL.MEAS_PERIOD_US
  ⟨0x0F16, 0, 1, 7, false, false, (.val 20), (some (20, 100)), .measw, .calIdle, false⟩,
  -- CAL.MIN_COUNTS
  ⟨0x0F17, 0, 1, 11, false, false, (.val 64), (some (16, 1024)), .none, .calIdle, false⟩,
  -- CAL.GAIN_LOW
  ⟨0x0F18, 0, 1, 8, false, false, (.val 70), (some (10, 95)), .none, .calIdle, false⟩,
  -- CAL.GAIN_HIGH
  ⟨0x0F18, 1, 1, 8, false, false, (.val 130), (some (105, 200)), .none, .calIdle, false⟩,
  -- CAL.SUSPECT_LIMIT
  ⟨0x0F19, 0, 1, 4, false, false, (.val 3), (some (1, 7)), .none, .calIdle, false⟩,
  -- CAL.REASSIGN
  ⟨0x0F1A, 0, 1, 1, false, false, (.val 1), (some (0, 1)), .none, .calIdle, false⟩,
  -- CAL.BRACKET_HYST
  ⟨0x0F1B, 0, 1, 10, false, false, (.val 50), (some (0, 500)), .none, .calIdle, false⟩,
  -- CAL.REFCAL_UV
  ⟨0x0F1C, 0, 1, 22, false, false, (.val 2500000), (some (2475000, 2525000)), .none, .calIdle, false⟩,
  -- CAL.REF_ROUNDS
  ⟨0x0F1C, 1, 1, 8, false, false, (.val 16), (some (4, 255)), .none, .calIdle, false⟩,
  -- CAL.TRACE_PULSES
  ⟨0x0F1D, 0, 1, 10, false, false, (.val 100), (some (1, 1000)), .none, .calIdle, false⟩,
  -- CAL.DUE_WARN_S
  ⟨0x0F1D, 1, 1, 16, false, false, (.val 3600), (some (60, 65535)), .none, .calIdle, false⟩,
  -- CAL.STATE
  ⟨0x0F20, 0, 1, 3, false, true, (.val 0), none, .none, .any, false⟩,
  -- CAL.T_LAST
  ⟨0x0F21, 0, 72, 16, true, true, (.val 32768), none, .none, .any, false⟩,
  -- CAL.RETIRED
  ⟨0x0F22, 0, 72, 13, false, true, (.val 0), none, .none, .any, false⟩,
  -- CAL.SUSPECT
  ⟨0x0F23, 0, 72, 13, false, true, (.val 0), none, .none, .any, false⟩,
  -- CAL.PD_GAIN
  ⟨0x0F24, 0, 72, 16, false, true, (.val 16384), none, .none, .any, true⟩,
  -- CAL.HK_GAIN
  ⟨0x0F25, 0, 5, 16, false, true, (.val 16384), none, .none, .any, true⟩,
  -- CAL.RUNS
  ⟨0x0F26, 0, 1, 32, false, true, (.val 0), none, .none, .any, false⟩]

/-- Parameters of subsystem 0x10 (18_selftest_security_reserves R386). -/
def paramRows10 : List PRow := [
  -- BIST.SHUTDOWN
  ⟨0x1010, 0, 1, 1, false, false, (.val 1), (some (0, 1)), .none, .any, true⟩,
  -- BIST.ECC_REPAIR
  ⟨0x1011, 0, 1, 8, false, false, (.val 4), (some (1, 255)), .none, .any, true⟩,
  -- BIST.RESULT
  ⟨0x1012, 0, 1, 8, false, true, (.val 0), none, .none, .any, false⟩,
  -- SEC.ROLLBACK
  ⟨0x1013, 0, 1, 6, false, true, (.val 0), none, .none, .any, false⟩,
  -- WEAR.POWER_HOURS
  ⟨0x1020, 0, 1, 32, false, true, (.val 0), none, .none, .any, true⟩,
  -- WEAR.SELF_TESTS
  ⟨0x1020, 1, 1, 32, false, true, (.val 0), none, .none, .any, true⟩,
  -- WEAR.LAYERS
  ⟨0x1020, 2, 1, 32, false, true, (.val 0), none, .none, .any, true⟩,
  -- WEAR.RETIRED_CELLS
  ⟨0x1020, 3, 1, 32, false, true, (.val 0), none, .none, .any, true⟩,
  -- WEAR.LANE_FAILOVERS
  ⟨0x1020, 4, 1, 32, false, true, (.val 0), none, .none, .any, true⟩,
  -- WEAR.BANK_ERASES_MAX
  ⟨0x1020, 5, 1, 32, false, true, (.val 0), none, .none, .any, true⟩]

/-- Every parameter of the manual, in the order of its index. -/
def paramTable : List PRow :=
  paramRows00 ++ paramRows01 ++ paramRows02 ++ paramRows03 ++ paramRows04
    ++ paramRows05 ++ paramRows06 ++ paramRows07 ++ paramRows08 ++ paramRows09 ++ paramRows09b
    ++ paramRows0A ++ paramRows0Ab ++ paramRows0B ++ paramRows0C ++ paramRows0D ++ paramRows0E ++ paramRows0F ++ paramRows10

/-! ### Fault sources (15 R308 to R311) -/

/-- The fault sources: ID, default class, SUBSYS (Table FLT-1 and the tables it names). -/
def faultSources : List (Nat × Nat × Nat) :=
  [(0x000, 3, 1), (0x001, 3, 1), (0x002, 1, 1), (0x003, 3, 1), (0x004, 3, 1), (0x005, 1, 1),
   (0x006, 1, 1), (0x007, 1, 1), (0x008, 0, 1), (0x009, 0, 1), (0x010, 1, 1), (0x011, 1, 1),
   (0x014, 1, 1), (0x015, 1, 1), (0x016, 0, 1), (0x017, 1, 1), (0x018, 1, 1)]
  ++ [(0x030, 3, 2), (0x031, 3, 2), (0x032, 1, 2), (0x033, 3, 2), (0x034, 3, 2), (0x035, 3, 2),
   (0x036, 2, 2), (0x037, 1, 2), (0x038, 1, 2), (0x039, 0, 2), (0x03A, 1, 2), (0x03B, 1, 2), (0x03C, 0, 2)]
  ++ [(0x040, 2, 3), (0x041, 2, 3), (0x042, 2, 3), (0x043, 2, 3), (0x044, 2, 3), (0x045, 1, 3),
   (0x046, 2, 4), (0x047, 2, 4), (0x048, 1, 4), (0x049, 0, 4), (0x04A, 1, 4), (0x04B, 0, 4),
   (0x04C, 0, 4), (0x04D, 0, 0x0E)]
  ++ [(0x080, 0, 5), (0x081, 0, 5), (0x082, 0, 5), (0x083, 0, 5), (0x084, 1, 5), (0x085, 0, 5),
   (0x086, 0, 5), (0x087, 0, 5), (0x088, 0, 5)]
  ++ [(0x0A0, 1, 6), (0x0A1, 2, 6), (0x0A2, 1, 6), (0x0A3, 2, 6), (0x0A4, 1, 6), (0x0A5, 1, 6),
   (0x0A6, 1, 6), (0x0A7, 0, 6), (0x0A8, 1, 6), (0x0AA, 1, 6), (0x0AB, 2, 6), (0x0AC, 0, 6),
   (0x0AD, 3, 6), (0x0AE, 2, 6), (0x0B0, 3, 6), (0x0B1, 1, 6), (0x0B2, 3, 6), (0x0B3, 1, 6), (0x0B4, 0, 6)]
  ++ [(0x0D0, 1, 7), (0x0D1, 1, 7), (0x0D2, 1, 7), (0x0D3, 0, 7), (0x0D4, 1, 7), (0x0D5, 1, 7),
   (0x0D6, 1, 7), (0x0D7, 1, 7), (0x0D8, 0, 7)]
  ++ [(0x0E0, 0, 8), (0x0E1, 0, 8), (0x0E2, 1, 8), (0x0E3, 1, 8), (0x0E4, 1, 8), (0x0E5, 1, 8),
   (0x0E6, 1, 8), (0x0E7, 1, 8), (0x0E8, 1, 8), (0x0E9, 0, 8)]
  ++ [(0x0F0, 3, 9), (0x0F1, 3, 9), (0x0F2, 3, 9), (0x0F3, 3, 9), (0x0F4, 1, 9), (0x0F5, 1, 9),
   (0x0F6, 1, 9), (0x0F7, 1, 9), (0x0F8, 3, 9), (0x0F9, 3, 9), (0x0FA, 1, 9), (0x0FB, 0, 9),
   (0x0FC, 1, 9), (0x0FD, 0, 9)]
  ++ [(0x100, 1, 0x0C), (0x101, 0, 0x0C), (0x102, 1, 0x0C), (0x103, 1, 0x0C), (0x104, 2, 0x0C),
   (0x105, 1, 0x0C), (0x106, 1, 0x0C), (0x107, 1, 0x0C)]
  ++ [(0x110, 2, 0x0A), (0x111, 2, 0x0A), (0x112, 1, 0x0A), (0x113, 1, 0x0A), (0x114, 1, 0x0A),
   (0x115, 1, 0x0A), (0x116, 1, 0x0A), (0x117, 1, 0x0A), (0x118, 1, 0x0A), (0x119, 2, 0x0A)]
  ++ [(0x120, 2, 0x0B), (0x121, 2, 0x0B), (0x122, 1, 0x0B), (0x123, 1, 0x0B), (0x124, 2, 0x0B)]
  ++ [(0x130, 0, 0x0D), (0x131, 1, 0x0D), (0x132, 2, 0x0D), (0x133, 3, 0x0D), (0x134, 4, 0x0D),
   (0x135, 1, 0x0D), (0x136, 0, 0x0D), (0x137, 1, 0x0D)]
  ++ [(0x138, 0, 0x0E), (0x139, 0, 0x0E), (0x13A, 1, 0x0E), (0x13B, 1, 0x0E), (0x13C, 1, 0x0E),
   (0x13D, 1, 0x0E), (0x13E, 3, 0x0E), (0x13F, 4, 0x0E)]

/-- Default class and SUBSYS of a source, `none` for a reserved one. -/
def faultSource (id : Nat) : Option (Nat × Nat) := (faultSources.find? fun r => r.1 == id).map (·.2)

/-- The source that a FLT.CLASS parameter holds (R311). -/
def classSource (idx sub : Nat) : Nat := if idx = 0x0E10 then sub else 0x100 + sub

/-! ### Reading parameters -/

/-- Nominal millivolts of the fixed slots (19 Table ELEC-2); 0 for the others (13 Table PWR-7). -/
def nomReset (slot : Nat) : Int := [750, 800, 1800, 1800, 900, 3300].getD slot 0

/-- Default DEP masks (13 Table PWR-1). -/
def depReset (slot : Nat) : Int :=
  if slot = 0 then 0
  else if slot ≤ 3 then 1
  else if slot = 4 then 5
  else if slot = 5 then 8
  else if slot < 8 then 0x20
  else if slot < 24 then
    let base := 8 + 4 * ((slot - 8) / 4)
    match (slot - 8) % 4 with
    | 0 => 0x20
    | 1 => (2 : Int) ^ base
    | _ => (2 : Int) ^ base + (2 : Int) ^ (base + 1)
  else 0x20

/-- Default PWR.GROUP: slots 6 and 7 in STANDBY entry, tile-lane slots with READY, machine slots manual
(Table PWR-1; DESIGN CHOICE, log entry 4). -/
def groupReset (slot : Nat) : Int := if slot < 8 then 1 else if slot < 28 then 2 else 0

/-- Reset value of a sub-index of a row. -/
def PRow.resetOf (r : PRow) (sub : Nat) : Int :=
  match r.reset with
  | .val v => v
  | .perNom => nomReset sub
  | .perDep => depReset sub
  | .perGroup => groupReset sub
  | .perClass => ((faultSource (classSource r.idx sub)).map (fun p => (p.1 : Int))).getD 0

/-- The row that defines an index and sub-index, if any (R358). -/
def findParam (idx sub : Nat) : Option PRow :=
  paramTable.find? fun r => r.idx == idx && decide (r.sub ≤ sub) && decide (sub < r.sub + r.n)

/-- Key of a parameter in `State.params`. -/
def pkey (idx sub : Nat) : Nat := idx * 256 + sub

/-- The field value of a stored parameter in a table of values. -/
def pread (m : AMap Nat) (idx sub : Nat) : Nat :=
  match AMap.find m (pkey idx sub) with
  | some v => v
  | none =>
    match findParam idx sub with
    | some r => toField r.bits (r.resetOf sub)
    | none => 0

/-- The same, read as a signed field of `w` bits. -/
def preadI (m : AMap Nat) (w idx sub : Nat) : Int := ofField w (pread m idx sub)

/-- The present value of a parameter. -/
def State.pv (s : State) (idx sub : Nat) : Nat := pread s.params idx sub

/-- The present value of a signed parameter of `w` bits. -/
def State.pvI (s : State) (w idx sub : Nat) : Int := preadI s.params w idx sub

/-- Sets a parameter; a value equal to its reset value is not listed. -/
def pset (m : AMap Nat) (idx sub v : Nat) : AMap Nat :=
  match findParam idx sub with
  | some r => if v = toField r.bits (r.resetOf sub) then AMap.del m (pkey idx sub) else AMap.put m (pkey idx sub) v
  | none => AMap.put m (pkey idx sub) v

/-- Sets a parameter of the block. -/
def State.pput (s : State) (idx sub v : Nat) : State := { s with params := pset s.params idx sub v }

/-- Adds to a 32-bit wrapping counter. -/
def State.count (s : State) (idx sub n : Nat) : State := s.pput idx sub (wrap32 (s.pv idx sub + n))

/-- Adds to a saturating wear counter (18 Table BIST-6). -/
def State.wear (s : State) (sub n : Nat) : State := s.pput 0x1020 sub (min (s.pv 0x1020 sub + n) 4294967295)

/-- Class of a source at this moment (R311). -/
def State.faultClass (s : State) (id : Nat) : Nat :=
  if id < 256 then s.pv 0x0E10 id else s.pv 0x0E11 (id - 256)

/-! ### Checks of a write (R358) -/

/-- Bytes of a value of a field of `w` bits. -/
def valueBytes (w : Nat) : Nat :=
  if w ≤ 8 then 1 else if w ≤ 16 then 2 else if w ≤ 32 then 4 else if w ≤ 64 then 8 else 16

/-- The value as it travels: sign copies above a signed field, zeros above an unsigned one. -/
def wireValue (r : PRow) (v : Nat) : List Byte :=
  if r.sgn then leI (valueBytes r.bits) (ofField r.bits v) else le (valueBytes r.bits) v

/-- The unit that moves an axis: its group, or itself (10 R230). -/
def unitOf (s : State) (axis : Nat) : Nat :=
  match (s.axes.getD axis {}).group with
  | some g => 8 + g
  | none => axis

/-- State of a unit. -/
def unitState (s : State) (u : Nat) : AxisState := (s.units.getD u {}).st

/-- The state condition of a parameter's chapter (step 4). -/
def gateOpen (s : State) (g : PGate) (idx sub : Nat) : Bool :=
  match g with
  | .any => true
  | .idle => s.layer.st == .idle
  | .window => if sub = 0 then s.emon.cap.st == .off else s.pv 0x0521 0 == 0
  | .capOff => s.emon.cap.st == .off
  | .slotOff =>
    match (s.pwr.rails.getD sub {}).st with
    | .off | .failed | .blocked => true
    | _ => false
  | .servoOff => !(s.servo.slots.getD sub {}).en
  | .drvOff => (s.drv.getD (sub % 8) {}).st == .disabled
  | .stepStill =>
    match unitState s (unitOf s (sub % 8)) with
    | .disabled | .idle | .stopped => idx < 0x10000
    | _ => false
  | .dmaIdle => (s.dma.getD sub {}).st == .idle
  | .calIdle => s.layer.st == .idle && s.cal.st == 0

/-- Slots that a mask set reaches in one step more. -/
def depGrow (m : AMap Nat) (reach : Nat) : Nat :=
  (List.range 32).foldl (fun acc k => if reach.testBit k then acc ||| pread m 0x0111 k else acc) reach

/-- Every slot a slot depends on, directly or through others. -/
def depReach (m : AMap Nat) (slot : Nat) : Nat :=
  (List.range 32).foldl (fun acc _ => depGrow m acc) (pread m 0x0111 slot)

/-- R269: a mask names the slot itself, closes a cycle, or lets a board slot depend on another group. -/
def depBad (m : AMap Nat) (slot : Nat) : Bool :=
  (depReach m slot).testBit slot || (decide (slot < 8) && decide (pread m 0x0111 slot / 256 ≠ 0))

/-- Limits beyond the plain range, judged against the values the whole write leaves. -/
def tagOk (m : AMap Nat) (t : PTag) (sub : Nat) (v : Int) : Bool :=
  match t with
  | .none | .ff | .zero | .class | .dep => true
  | .m16 => v % 16 == 0
  | .even => v % 2 == 0
  | .stream =>
    v == 0 || (decide (pread m 0x051C 1 ≤ pread m 0x051D 1) && decide (pread m 0x051E 1 ≤ pread m 0x051F 1))
  | .ethertype => !([0x0800, 0x0806, 0x86DD, 0x8100, 0x88F7].contains v)
  | .vlan => decide (v < 4096) || (decide (1 ≤ v - 4096) && decide (v - 4096 ≤ 4094))
  | .div | .phase => decide (pread m 0x0912 sub < pread m 0x0911 sub)
  | .outlim => decide (preadI m 32 0x091F sub ≤ preadI m 32 0x0920 sub)
  | .blank => decide (pread m 0x0A1C (8 + sub % 8) + 100 ≤ pread m 0x0A1C (sub % 8))
  | .curve => decide (v / 256 ≤ 2) && (decide (v / 256 ≠ 2) || decide (v % 256 < 128))
  | .onoff => decide (preadI m 32 0x0A23 (8 + sub % 8) ≤ preadI m 32 0x0A23 (sub % 8))
  | .starti => decide (pread m 0x0A28 sub ≤ pread m 0x0A1A sub)
  | .catcht => decide (pread m 0x0A2E sub ≤ pread m 0x0A19 sub)
  | .irun | .ihold => decide (pread m 0x0B10 (8 + sub % 8) ≤ pread m 0x0B10 (sub % 8))
  | .mains => decide (pread m 0x0C12 0 ≤ pread m 0x0C12 1)
  | .therm =>
    decide (preadI m 16 0x0D10 0 < pread m 0x0D11 0) && decide (pread m 0x0D11 0 + 200 ≤ pread m 0x0D12 0)
      && decide (pread m 0x0D12 0 + 200 ≤ pread m 0x0D13 0)
  | .measw =>
    decide (pread m 0x0F15 0 + 1000 ≤ pread m 0x0F15 1)
      && decide (pread m 0x0F15 1 + 4000 ≤ pread m 0x0F16 0 * 1000)

/-- Step 5: field, range and further limits; 0 when good, else the status. -/
def valueStatus (m : AMap Nat) (r : PRow) (sub : Nat) (raw : Nat) : U16 :=
  let w := valueBytes r.bits * 8
  let v : Int := if r.sgn then ofField w raw else raw
  let inField : Bool :=
    if r.sgn then decide (-(2 ^ (r.bits - 1) : Int) ≤ v) && decide (v < 2 ^ (r.bits - 1)) else decide (raw < 2 ^ r.bits)
  let inRange : Bool :=
    match r.range with
    | some (lo, hi) => decide (lo ≤ v) && decide (v ≤ hi)
    | none => true
  let excused : Bool := (r.tag == .ff && raw == 0xFF) || (r.tag == .zero && raw == 0)
  if !inField then 7
  else if !(inRange || excused) then 7
  else if r.tag == .class then
    let d := ((faultSource (classSource r.idx sub)).map (·.1)).getD 0
    if raw < d || 4 ≤ raw || (d == 3 && raw != 3) then 7 else 0
  else if r.tag == .dep then (if depBad m sub then 0x0101 else 0)
  else if r.idx == 0x0110 && decide (8 ≤ sub) && decide (sub < 28) && decide (5500 < raw) then 7
  else if !(tagOk m r.tag sub v) then 7
  else 0

/-- Step 3: refusals the chapter names DENIED or ranks with it; 0 when none. -/
def deniedStatus (s : State) (r : PRow) (sub : Nat) (raw : Nat) : U16 :=
  if r.ro then 8
  else if r.tag == .class then
    match faultSource (classSource r.idx sub) with
    | none => 7
    | some (4, _) => 8
    | _ => 0
  else if decide (0x0110 ≤ r.idx) && decide (r.idx ≤ 0x011C) && decide (sub < 6) then 8
  else if s.flt.c4.isSome && (r.idx == 0x0C30 || r.idx == 0x0C35) && decide (raw ≠ 0) then 8
  else 0

/-- Steps 1 to 5 of R358 for one entry; `after` holds the values the whole write would leave. FLT.CLASS
is gated by IDLE after its step 3 (R311). -/
def paramCheck (s : State) (after : AMap Nat) (e : ParamEntry) : U16 :=
  match findParam e.index.toNat e.sub.toNat with
  | none => 5
  | some r =>
    let raw := ofLe e.value
    let sub := e.sub.toNat
    if e.value.length ≠ valueBytes r.bits then 4
    else if deniedStatus s r sub raw ≠ 0 then deniedStatus s r sub raw
    else if !(gateOpen s (if r.tag == .class then .idle else r.gate) r.idx sub) then 6
    else valueStatus after r sub raw

/-- A written field without its reserved bits, which read 0 (00 R9): bits 11 to 8 of a servo selector (08 R190). -/
def writtenBits (idx v : Nat) : Nat := if 0x0913 ≤ idx ∧ idx ≤ 0x0916 then v &&& 0xF0FF else v

/-- The values after entries are applied in order, whatever their checks say. -/
def paramsAfter (m : AMap Nat) (es : List ParamEntry) : AMap Nat :=
  es.foldl (fun acc e =>
    match findParam e.index.toNat e.sub.toNat with
    | some r => pset acc r.idx e.sub.toNat (writtenBits r.idx (toField r.bits (ofLe e.value)))
    | none => acc) m

/-- Index and status of the first failing entry (R358). -/
def firstFailing (s : State) (after : AMap Nat) : Nat → List ParamEntry → Option (Nat × U16)
  | _, [] => none
  | k, e :: es => if paramCheck s after e = 0 then firstFailing s after (k + 1) es else some (k, paramCheck s after e)

end Sys2Proof.Machine
end

