-- ==== Sys2Proof/Machine/Flags.lean ====
section
/-!
DEFINITION. What the block shows of its state: pins, the status words of the register window, and the
read-only parameters that report a register or a state (`mirror`).
-/

namespace Sys2Proof.Machine

/-! ### Codes of states -/

/-- POWER_STATE (17 Table KEEP-1). -/
def powerCode : PowerState → Nat
  | .off => 0 | .porter => 1 | .standby => 2 | .ready => 3 | .doze => 4 | .expose => 5

/-- Layer state code (02 Table LAY-1). -/
def layerCode : LayerState → Nat
  | .idle => 0 | .armed => 1 | .runUp => 2 | .expose => 3 | .runOut => 4 | .commit => 5

/-- The layer state byte: code in bits [2:0], REPAIR in bit 7 (R34). -/
def layerByte (l : Layer) : Nat := layerCode l.st + 128 * bitN l.repair

/-- CAP_STATE (04 Table EMON-5). -/
def capCode : CapState → Nat
  | .off => 0 | .arming => 1 | .filling => 2 | .triggered => 3 | .done => 4

/-- CHAIN_STATE (05 Table TILE-10). -/
def chainCode : ChainState → Nat
  | .off => 0 | .powering => 1 | .bringup => 2 | .up => 3 | .doze => 4 | .reserve => 5 | .failed => 6

/-- The tiles that a chain has to show: none in OFF (05 Table TILE-10). -/
def shownTiles (c : Chain) : List Tile :=
  match c.st with
  | .off => []
  | _ => c.tiles

/-- DMA.STATE (06 Table HOST-7). -/
def dmaCode : DmaState → Nat
  | .idle => 0 | .running => 1 | .stopping => 2

/-- DRV.STATE (09 Table DRV-3). -/
def drvCode : DrvState → Nat
  | .disabled => 0 | .idle => 1 | .catch => 2 | .reverse => 3 | .brake => 4 | .start => 5 | .run => 6
  | .coast => 7 | .fault => 8

/-- STEP.STATE (10 Table STEP-1). -/
def axisCode : AxisState → Nat
  | .disabled => 0 | .idle => 1 | .moving => 2 | .stopping => 3 | .stopped => 4 | .homing => 5

/-- THERM.BAND (12 Table THERM-1). -/
def bandCode : Band → Nat
  | .cold => 0 | .normal => 1 | .warm => 2 | .hot => 3 | .critical => 4

/-- PWR.RAIL_STATE (13 Table PWR-2). -/
def railCode : RailState → Nat
  | .off => 0 | .wait => 1 | .ramp => 2 | .good => 3 | .retry => 4 | .decay => 5 | .failed => 6 | .blocked => 7

/-! ### Faults -/

/-- A source of the given class or above is active, at the class it is active at (R310, R319). -/
def State.activeAtLeast (s : State) (c : Nat) : Bool :=
  s.flt.clsNow.any fun e => (s.flt.active.getLsbD e.1) && decide (c ≤ e.2)

/-- RAIL04 supplies the SerDes and the reference clocks it: without either, host ports and tile lanes are unavailable (13
R271, 14 R288); an unlocked PLL gates its outputs (14 R292). k is 3 for the tile lanes and 4 for the host ports. -/
def State.serdesBy (s : State) (k : Nat) : Bool :=
  (s.pwr.rails.getD 4 {}).st == .good && !s.clk.refFallback && (s.clk.plls.getD k {}).locked

/-- The tile lanes run. -/
def State.serdesOn (s : State) : Bool := s.serdesBy 3

/-- The host ports are available: their SerDes runs, their partition is good (18 Table BIST-3), and no shut-down self-test
runs (18 Table BIST-1). -/
def State.portsOn (s : State) : Bool := s.serdesBy 4 && !(s.bist.failed.getLsbD 59) && !s.bist.running

/-- The Link domain is powered: the tile domain is, or a chain is being brought up for it (01 R25, 05 Table TILE-10). -/
def State.linkOn (s : State) : Bool := s.readyOn || s.link.chains.any fun c => c.st != .off

/-- Motion is available: its domain is powered, the reference is not on its fallback, and MOTPLL is locked (01 R25, 14 R288,
R292). -/
def State.motionOn (s : State) : Bool := s.readyOn && !s.clk.refFallback && (s.clk.plls.getD 2 {}).locked

/-- The Stageline is served: Main runs, and no shut-down self-test, which releases the repeater (18 Table BIST-1). -/
def State.stageOn (s : State) : Bool := s.mainOn && !s.bist.running

/-- The condition of a source ends (R310). -/
def clearCond (s : State) (id : Nat) : State :=
  { s with flt := { s.flt with cond := setBit s.flt.cond id false } }

/-- DMA channel engine `e` is faulty: by the self-test (18 Table BIST-3) or by a parity error in its state (06 R159). -/
def dmaFaulty (s : State) (e : Nat) : Bool := s.bist.failed.getLsbD (3 + e) || s.host.badEngines.contains e

/-- A DMA reserve, 32 to 35, that is good and free (06 R159). -/
def dmaFree (s : State) (r : Nat) : Bool := !(dmaFaulty s r) && s.dma.all fun c => c.phys != r

/-- Engine `e` of the inflaters or the compressors is faulty: CMP0 to CMP4 are partitions 39 to 43, INF0 to INF2 44 to 46 (18 Table
BIST-3); or a parity error was found in its state (07 R179). -/
def engBad (s : State) (inflater : Bool) (e : Nat) : Bool :=
  if inflater then s.bist.failed.getLsbD (44 + e) || s.data.engBad.contains e
  else s.bist.failed.getLsbD (39 + e) || s.data.engBad.contains (8 + e)

/-- The reserve INF2 or CMP4 is good and serves no place (07 R179). -/
def engineFree (s : State) (inflater : Bool) : Bool :=
  let r := if inflater then 2 else 4
  !(engBad s inflater r) && !((if inflater then s.data.engines.take 2 else s.data.engines.drop 2).contains r)

/-- A failed partition has no free reserve (R379): of each kind, those in service that failed outnumber the reserves free. -/
def noReserve (s : State) : Bool :=
  let f := s.bist.failed
  let short := fun (needed free : Nat) => decide (free < needed)
  short ((List.range 2).countP fun k => f.getLsbD k && s.keep.replaced != k + 1) (bitN (!(f.getLsbD 2) && s.keep.replaced == 0))
    || short (s.dma.countP fun c => f.getLsbD (3 + c.phys)) ([32, 33, 34, 35].countP (dmaFree s))
    || short ((List.range 4).countP fun k => f.getLsbD (39 + k) && s.data.engines.getD (2 + k) 0 != 4) (bitN (engineFree s false))
    || short ((List.range 2).countP fun k => f.getLsbD (44 + k) && s.data.engines.getD k 0 != 2) (bitN (engineFree s true))
    || short ((List.range 7).countP fun k => f.getLsbD (47 + k) && s.keep.mb7 != k) (bitN (!(f.getLsbD 54) && s.keep.mb7 == 0xFF))
    || (List.range 9).any fun k => f.getLsbD (55 + k)

/-- The condition of 0x13D follows the reserves as they are used. -/
def settleParts (s : State) : State :=
  if s.bist.failed = 0 then s else { s with flt := { s.flt with cond := setBit s.flt.cond 0x13D (noReserve s) } }

/-- nFAULT is low (R314). -/
def State.nFaultLow (s : State) : Bool :=
  match s.power with
  | .off => false
  | .porter => s.flt.c4.isSome || s.flt.initLow
  | _ => s.activeAtLeast 1 || s.flt.initLow

/-- Number of active sources, ACTIVE_COUNT (17 Table KEEP-1). -/
def State.activeCount (s : State) : Nat := (List.range 320).countP fun k => s.flt.active.getLsbD k

/-- FAULT_SUMMARY (17 Table KEEP-1). -/
def State.faultSummary (s : State) : Nat :=
  bitN s.nFaultLow + 2 * bitN (s.activeAtLeast 2) + 4 * bitN (s.activeAtLeast 3)
    + 8 * bitN s.flt.c4.isSome + 16 * bitN s.flt.inhibit

/-- An instant on EXPPLL's 125 ps grid, 32 units of 1/256 ns. -/
def onGrid (t : Nat) : Nat := t / 32 * 32

/-- An instant of the exposure domain as it is stamped (R295): that of a line marker, which is interpolated, exactly; any
other is captured on the 125 ps grid. -/
def State.stamp (s : State) (t : Nat) : Nat := if s.dose.markerTimes.contains t then t else onGrid t

/-- EXPFRAC that a source event of the present instant carries (R295): that of the exposure domain's sources of Table FLT-1,
but for EMIT_INHIBIT of the fault subsystem; 0 for every other (log entry 21). -/
def State.srcFrac (s : State) (id : Nat) : Nat :=
  if 0x040 ≤ id ∧ id < 0x0A0 ∧ id ≠ 0x04D then expFrac (s.stamp s.time) else 0

/-- The 16 bytes of FIRST_FAULT (15 Table FLT-5). -/
def firstFaultBytes (f : FirstFault) : List Byte :=
  le 2 f.id ++ le 1 f.cls ++ le 1 (bitN f.valid + 2 * bitN f.ovf + 4 * bitN f.sameCycle)
    ++ le 1 (if f.valid then f.frac else 0) ++ [0, 0, 0]
    ++ le 8 (if f.valid then time64 f.time else 0)

/-! ### Clocks, layer and thermal -/

/-- CLK.STATUS (14 Table CLK-6). -/
def clkStatusN (c : Clock) : Nat :=
  bitN c.refCrystal + 2 * bitN c.porterCrystal + 4 * bitN c.aligned + 8 * bitN c.holdover
    + 16 * bitN c.degraded + 32 * bitN c.phaseAligned

/-- CLK.FREQ_CORR: the law's corr with the crystal compensation added, which the slew bound does not limit (14 R298). -/
def Clock.freqCorr (c : Clock) : Int := c.corr + c.comp

/-- CLK.TIME_SRC (14 R296, R300). -/
def State.timeSrc (s : State) : Nat :=
  if s.stage.master then (if s.pv 0x071D 0 != 0 && s.host.ptpSynced then 2 else 0)
  else if s.clk.srcLost then 3
  else if s.clk.chained || s.stage.ports.any (·.up) then 1
  else 0

/-- Cycle skip of a band by the present parameters (12 Table THERM-1). -/
def State.bandSkip (s : State) (b : Band) : Nat :=
  match b with
  | .cold | .normal => 0
  | .warm => s.pv 0x0D15 0
  | .hot | .critical => s.pv 0x0D15 1

/-- LAY.ADMISSIBLE_RATE (12 R262), with the s of the last publication (R267). -/
def State.admissibleRate (s : State) : Nat :=
  match s.therm.band with
  | .critical => 0
  | _ => 3000 * (20 - s.therm.skip)

/-- The s and the admissible rate that an arming sees: at the instant of a publication those published before it (R262). -/
def State.armSkip (s : State) : Nat := if s.therm.lastPub = s.time then s.therm.skipWas else s.therm.skip
def State.armRate (s : State) : Nat := if s.therm.lastPub = s.time then s.therm.rateWas else s.admissibleRate

/-- THERM.TJ_MEAN: running mean of Tj (12 R265). -/
def tjMean (t : Therm) : Int := if t.tjCount = 0 then 0 else t.tjSum / t.tjCount

/-- EXPPLL is locked and phase aligned (R293; check 8 of Table LAY-2). -/
def State.expLocked (s : State) : Bool := (s.clk.plls.getD 1 {}).locked && s.clk.phaseAligned

/-! ### Keeper -/

/-- KEEP.LOAD: mean of the last ten windows (17 R344). -/
def keepLoad (k : Keeper) : Nat :=
  if k.loads.isEmpty then 0 else (k.loads.take 10).sum / (k.loads.take 10).length

/-- KEEP.DEFER_MS: length of the present deferral, saturating (17 Table KEEP-12). -/
def State.deferMs (s : State) : Nat :=
  match s.keep.deferAt with
  | some t => satN 32 ((s.time - t) / msU)
  | none => 0

/-- The KEEPER word (17 Table KEEP-1). -/
def State.keeperWord (s : State) : Nat :=
  bitN s.keep.running + 2 * bitN s.keep.deferAt.isSome + 4 * s.keep.replaced + 256 * keepLoad s.keep
    + 65536 * (s.keep.trips % 65536)

/-- SEQ of a bank (17 Table KEEP-11). -/
def Bank.seq (b : Bank) : U32 := BitVec.ofNat 32 (fieldAt b.header 8 4)

/-- SEQ of the newest bank, 0 with none. -/
def storeSeq (k : Keeper) : Nat :=
  match k.newest with
  | some b => ((AMap.find k.banks b).map (·.seq.toNat)).getD 0
  | none => 0

/-- The written bytes of an image slot from an offset; erased flash reads 0xFF (PRESUMED, log entry 69). -/
def slotByte (x : FwSlot) (a : Nat) : Byte :=
  match x.data.find? fun r => decide (r.1 ≤ a) && decide (a < r.1 + r.2.length) with
  | some r => r.2.getD (a - r.1) 0xFF
  | none => 0xFF

/-- `n` bytes of an image slot. -/
def slotBytes (x : FwSlot) (a n : Nat) : List Byte := (List.range n).map fun k => slotByte x (a + k)

/-- FW_VERSION of a slot: of the image written, or of the one it holds from manufacture (18 Table BIST-4). -/
def slotVersion (k : Keeper) (i : Nat) : Nat :=
  let x := k.fwSlots.getD i {}
  if x.data.isEmpty then (Config.factoryVersion i).toNat else ofLe (slotBytes x 8 4)

/-- SEC_VERSION of a slot (18 Table BIST-4). -/
def slotSec (k : Keeper) (i : Nat) : Nat :=
  let x := k.fwSlots.getD i {}
  if x.data.isEmpty then Config.factorySec i else (slotByte x 0xC).toNat

/-- FW_VERSION of the running image. -/
def fwVersion (k : Keeper) : Nat := slotVersion k k.fwRun

/-- PWR.NODE: 0x3FD while unnumbered (13 Table PWR-7). -/
def nodeN (s : Stage) : Nat := s.node.getD 0x3FD

/-! ### Calibration counts -/

/-- The user word of a cell (16 Table CAL-2). -/
def userWord (c : Cal) (cell : Nat) : Nat := AMap.get c.user cell 0x4000

/-- The cells of tile `18n + p`: rows 16p to 16p + 15, columns 256n to 256n + 255 (R13, R113). -/
def cellTile (cell : Nat) : Nat := 18 * ((cell % 1024) / 256) + (cell / 1024) / 16

/-- How many cells of a tile have a bit set in their user word. -/
def cellsWith (c : Cal) (tile bit : Nat) : Nat :=
  c.user.countP fun e => cellTile e.1 == tile && e.2.testBit bit

/-! ### Drives, steppers, encoders -/

/-- SERVO.ENC_STATUS (08 Table SERVO-6). -/
def encStatus (e : Encoder) : Nat :=
  bitN e.valid + 2 * bitN e.referenced + 4 * bitN e.lost + 8 * bitN e.amplitude + 16 * bitN e.quadrature

/-- Whole microsteps of an axis position. -/
def axisPos (a : Axis) : Int := a.posQ16 / 65536

/-- REMAIN of an axis: its share of the unit that moves it (10 R232). -/
def axisRemain (s : State) (k : Nat) : Int :=
  let u := s.units.getD (unitOf s k) {}
  u.remain.getD (u.members.idxOf k) 0

/-- HTR.STATE: 0 off, 1 running, 2 cut off, 3 line lost, 4 C4 (11 Table HKP-6). -/
def heaterState (s : State) (k : Nat) : Nat :=
  let h := s.house.heaters.getD k {}
  if h.c4Off then 4
  else if h.cut then 2
  else if h.mode = 0 then 0
  else if h.mode = 1 && (s.house.mains.getD h.line {}).lost then 3
  else 1

/-! ### Read-only parameters that report state -/

/-- Drive leg offset in use: DRV.OFS (09 R217). -/
def legOfs (s : State) (leg : Nat) : Offset := (s.drv.getD (leg / 3) {}).ofs.getD (leg % 3) {}

/-- Value of a leg's offset in use, 1/256 count (09 R217). -/
def ofsValue (s : State) (leg : Nat) : Int :=
  if (legOfs s leg).src = 0 then Config.shuntOffset leg else (legOfs s leg).val

/-- The value of a parameter that reports a state, by index and sub-index. -/
def mirror (s : State) (idx sub : Nat) : Option Int :=
  match idx with
  | 0x0020 => some (keepLoad s.keep)
  | 0x0021 => some s.deferMs
  | 0x0030 =>
    match sub with
    | 0 => some (storeSeq s.keep)
    | 1 => some (s.keep.newest.getD 0 / 2 : Nat)
    | 2 => some (s.keep.newest.getD 0 % 2 : Nat)
    | _ => none
  | 0x0031 => if sub = 0 then some s.keep.fwActive else some (bitN s.keep.fwTrial)
  | 0x0120 => some (railCode (s.pwr.rails.getD sub {}).st)
  | 0x0121 => some (s.pwr.rails.getD sub {}).mv.toNat
  | 0x0122 => some ((s.pwr.rails.getD sub {}).attempts - 1 : Nat)
  | 0x0150 => some (nodeN s.stage)
  | 0x0151 => some (bitN s.stage.master)
  | 0x0152 => some s.stage.chainNodes
  | 0x0220 => some s.timeSrc
  | 0x0221 => some (clkStatusN s.clk)
  | 0x0222 => some s.clk.taiUtc
  | 0x0223 => some s.clk.offsetPs
  | 0x0224 => some s.clk.freqCorr
  | 0x0225 => some (s.clk.segDelay.getD sub 0)
  | 0x0226 => some (s.clk.plls.getD sub {}).band.toNat
  | 0x031C => some s.layer.lastCommitted.toNat
  | 0x031E => some s.admissibleRate
  | 0x0419 => some s.dose.billetVersion.toNat
  | 0x041A => some s.dose.calGen.toNat
  | 0x041B => some s.dose.carryGroup
  | 0x0536 => some (capCode s.emon.cap.st)
  | 0x0540 => some (bitN s.emon.trimActive)
  | 0x0541 => some s.emon.gl
  | 0x0620 => some (chainCode (s.link.chains.getD sub {}).st)
  | 0x0621 => some ((shownTiles (s.link.chains.getD sub {})).countP (·.usable) : Nat)
  | 0x0622 => some (s.link.chains.getD sub {}).servedBy
  | 0x0627 => some (((shownTiles (s.link.chains.getD (sub / 18) {})).getD (sub % 18) {}).latency)
  | 0x071F => some (s.host.ports.getD sub {}).link
  | 0x0720 => some (Config.mac sub).toNat
  | 0x0742 => some (dmaCode (s.dma.getD sub {}).st)
  | 0x0743 => some (s.dma.getD sub {}).endCode
  | 0x0745 => some (s.dma.getD sub {}).phys
  | 0x0925 => some (bitN (s.servo.slots.getD sub {}).en)
  | 0x0926 => some (s.servo.slots.getD sub {}).out
  | 0x093C => some (s.servo.encs.getD sub {}).pos
  | 0x093D => some (encStatus (s.servo.encs.getD sub {}))
  | 0x0A40 => some (drvCode (s.drv.getD sub {}).st)
  | 0x0A41 => some (s.drv.getD sub {}).speed
  | 0x0A42 => some (s.drv.getD sub {}).tEst
  | 0x0A43 => some (ofsValue s sub)
  | 0x0A44 => some (legOfs s sub).src
  | 0x0A45 => some (satN 32 ((s.time - (legOfs s sub).setAt) / secU))
  | 0x0B40 => some (axisCode (unitState s (unitOf s sub)))
  | 0x0B41 => if sub < 8 then some (axisPos (s.axes.getD sub {})) else some (axisRemain s (sub - 8))
  | 0x0B42 => some (s.units.getD (unitOf s sub) {}).queue.length
  | 0x0B43 => some (bitN (s.axes.getD sub {}).homed)
  | 0x0B44 => some ((s.axes.getD sub {}).group.getD 7)
  | 0x0C14 => some s.house.rounds.toNat
  | 0x0C40 => some (heaterState s sub)
  | 0x0D20 => some (bandCode s.therm.band)
  | 0x0D21 => some s.therm.tj
  | 0x0D22 => some s.layer.skip
  | 0x0D23 => some (satN 32 (s.therm.bandTime.getD sub 0 / secU))
  | 0x0D24 => some (tjMean s.therm)
  | 0x0E22 => some (bitN s.flt.inhibit)
  | 0x0F20 => some s.cal.st
  | 0x0F22 => some (cellsWith s.cal sub 25)
  | 0x0F23 => some (cellsWith s.cal sub 24)
  | 0x1012 => some s.bist.result
  | 0x1020 => if sub = 0 then some (satN 32 (s.therm.bandTime.sum / secU / 3600)) else none
  | 0x1013 => some s.bist.rollback
  | _ => none

/-- What a parameter read returns: the reported state, or the stored value. -/
def readParam (s : State) (r : PRow) (sub : Nat) : Nat :=
  match mirror s r.idx sub with
  | some v => toField r.bits v
  | none => s.pv r.idx sub

end Sys2Proof.Machine
end

