-- ==== Sys2Proof/Machine/Geometry.lean ====
section
/-!
DEFINITION. Where the rows of the tiles lie, which of them a layer schedules, and the times of a pass
(02 R31 to R33, 03 R59 to R70, 05 R129).
-/

namespace Sys2Proof.Machine

/-! ### Tile descriptors (05 Tables TILE-8, TILE-9) -/

/-- An unsigned field of a tile's space. -/
def Tile.u (t : Tile) (off n : Nat) : Nat := fieldAt t.space off n

/-- A signed 32-bit field of a tile's space. -/
def Tile.s32 (t : Tile) (off : Nat) : Int := ofField 32 (t.u off 4)

/-- Along-scan position of a row of a tile: MOUNT_NM plus ROW_OFF_NM (R129). -/
def Tile.rowPos (t : Tile) (i : Nat) : Int := t.s32 0x100 + t.s32 (0x20 + 4 * i)

/-- Unit identity of a tile. -/
def Tile.serial (t : Tile) : Nat := t.u 0x10 8

/-- Level gain (R78). -/
def Tile.gain (t : Tile) (l : Nat) : Nat := t.u (0x60 + 2 * l) 2

/-- The usable tiles of a chain with their positions. -/
def usableTiles (c : Chain) : List (Nat × Tile) :=
  ((List.range c.tiles.length).zip c.tiles).filter fun e => e.2.usable

/-- The chain serves columns: it has a usable tile (R64). -/
def serves (c : Chain) : Bool := c.tiles.any (·.usable)

/-- A chain of the block. -/
def State.chain (s : State) (n : Nat) : Chain := s.link.chains.getD n {}

/-- A tile of the block. -/
def State.tile (s : State) (n p : Nat) : Tile := (s.chain n).tiles.getD p {}

/-- Position of physical row r of a chain; an absent row continues from the usable tiles (R64). -/
def rowPosition (us : List (Nat × Tile)) (r : Nat) : Int :=
  match us.find? (fun e => e.1 == r / 16) with
  | some e => e.2.rowPos (r % 16)
  | none =>
    match (us.filter (fun e => decide (e.1 < r / 16))).getLast? with
    | some e => e.2.rowPos 15 + (e.2.rowPos 15 - e.2.rowPos 14) * ((r : Int) - (16 * e.1 + 15 : Nat))
    | none =>
      match us.head? with
      | some e => e.2.rowPos 0 - (e.2.rowPos 1 - e.2.rowPos 0) * (((16 * e.1 : Nat) : Int) - r)
      | none => 0

/-- Positions of the 288 rows of a chain; none for a chain that serves no columns. -/
def rowPositions (c : Chain) : List Int :=
  if serves c then (List.range 288).map (rowPosition (usableTiles c)) else []

/-- Forward and reverse references: smallest row 0 position, largest row 287 position (R64). -/
def references (chains : List Chain) : Option (Int × Int) :=
  match (chains.map rowPositions).filter (fun l => !l.isEmpty) with
  | [] => none
  | l :: ls =>
    some (ls.foldl (fun a x => min a (x.getD 0 0)) (l.getD 0 0),
      ls.foldl (fun a x => max a (x.getD 287 0)) (l.getD 287 0))

/-- Row distances of every lane in the direction of travel, nm (R64). -/
def distances (chains : List Chain) (rev : Bool) : List (List Nat) :=
  match references chains with
  | none => chains.map fun _ => []
  | some (f, b) => chains.map fun c => (rowPositions c).map fun x => (if rev then b - x else x - f).toNat

/-- The row span D of R43. -/
def rowSpan (chains : List Chain) : Nat :=
  match references chains with
  | none => 0
  | some (f, b) => (b - f).toNat

/-! ### The billet map (R67, Table DOSE-2) -/

/-- Offset of a column record. -/
def billetAt (c : Nat) : Nat := 0x0A00000 + 512 * c

/-- Weight of a row in a column. -/
def weight (m : List Host.Cell) (c r : Nat) : Nat := (memGet m (billetAt c + r)).toNat

/-- The 288 weights of a column. -/
def weights (m : List Host.Cell) (c : Nat) : List Nat := (List.range 288).map (weight m c)

/-- The 512 bytes of a column record with its derived fields. -/
def billetRecord (ws : List Byte) (boundary : Nat) : List Byte :=
  let w := (padTo 288 ws).map (·.toNat)
  let all := w.sum
  let leadF := (w.take boundary).sum
  let leadR := (w.drop (288 - boundary)).sum
  withCrc (padTo 0x1FC (padTo 288 ws ++ le 4 leadF ++ le 4 (all - leadF) ++ le 4 leadR ++ le 4 (all - leadR)
    ++ le 2 (w.countP (· ≠ 0))))

/-- A column record passes R68: its CRC is right and N_SCHED is at most 256. -/
def billetGood (m : List Host.Cell) (c : Nat) : Bool :=
  let bs := memBytes m (billetAt c) 512
  ofLe (bs.drop 0x1FC) == crc32c (bs.take 0x1FC) && decide (fieldAt bs 0x130 2 ≤ 256)

/-- A row of a lane has weight in at least one column of its lane. -/
def rowScheduled (m : List Host.Cell) (n r : Nat) : Bool :=
  (List.range 256).any fun x => weight m (256 * n + x) r != 0

/-- Weights of a column with the held change, as the next arming will use them (R18). -/
def nextWeights (s : State) (c : Nat) : List Byte :=
  match AMap.find s.dose.billetHeld c with
  | some ws => ws
  | none => memBytes s.mem (billetAt c) 288

/-- A tile holds a row with weight in the map being armed (check 7 of Table LAY-2): the map with the held
changes for a main pass, the main pass's map for a repair pass (R43). -/
def tileScheduled (s : State) (repair : Bool) (n p : Nat) : Bool :=
  (List.range 256).any fun x =>
    let ws := if repair then memBytes s.mem (billetAt (256 * n + x)) 288 else nextWeights s (256 * n + x)
    ((ws.drop (16 * p)).take 16).any (· ≠ 0)

/-! ### Times of a pass (R32, R33, R61, R81) -/

/-- q of a row: row r serves line m − q in period m (R81). -/
def rowQ (dist pitch : Nat) : Nat := dist / pitch

/-- Distances of the scheduled rows of all lanes. -/
def scheduledDistances (m : List Host.Cell) (dist : List (List Nat)) : List Nat :=
  (List.range 4).flatMap fun n =>
    ((List.range 288).filter fun r => rowScheduled m n r).filterMap fun r => (dist.getD n [])[r]?

/-- d_last: the greatest distance of a scheduled row, 0 with none (R32). -/
def dLast (m : List Host.Cell) (dist : List (List Nat)) : Nat := (scheduledDistances m dist).foldl max 0

/-- m_final (R32). -/
def mFinalOf (lines pitch d : Nat) : Nat := (lines - 1) + divCeil d pitch

/-- N_under (R61). -/
def nUnderOf (pitch d : Nat) : Nat := divCeil d pitch + 1

/-- Carry grouping (R66). -/
def carryGroupOf (n : Nat) : Nat := if n ≤ 288 then 1 else divCeil n 287

/-- Position of marker m (R31). -/
def markerPos (d : LayerDesc) (m : Int) : Int :=
  ofField 64 d.firstPos.toNat + (if d.dir = 0 then m else -m) * d.pitch.toNat

/-- Columns of lane n that a column index lies in. -/
def laneOf (c : Nat) : Nat := c / 256

/-- The row of a pixel's column with the greatest distance (R65), over the rows with weight. -/
def lastRow (ws : List Nat) (dist : List Nat) : Option Nat :=
  ((List.range 288).filter fun r => ws.getD r 0 != 0).foldl
    (fun acc r =>
      match acc with
      | none => some r
      | some b => if dist.getD b 0 < dist.getD r 0 then some r else some b) none

/-- A row is in the lead zone of a pass (R65). -/
def inLead (boundary : Nat) (rev : Bool) (r : Nat) : Bool :=
  if rev then decide (288 - boundary ≤ r) else decide (r < boundary)

/-- Pass-order row k as a physical row (R92). -/
def passRow (rev : Bool) (k : Nat) : Nat := if rev then 287 - k else k

/-! ### The dose ring (R59) -/

/-- Line k is complete in the ring. -/
def lineComplete (d : Dose) (k : Nat) : Bool :=
  match AMap.find d.ring (k % 2048) with
  | some t => t.line == k && t.complete
  | none => false

/-- The dose of a pixel of a line in the ring. -/
def ringDose (m : List Host.Cell) (k c : Nat) : Nat := memLe m ((k % 2048) * 2048 + 2 * c) 2

/-- Lines complete in the dose ring. -/
def ringHeld (d : Dose) : Nat := d.ring.countP (fun e => e.2.complete)

/-- Lines that lay at the leading row or beyond it and have passed every scheduled row by the end of the
period before `stop` (R33, Table LAY-7 LINES_FULL). -/
def linesFull (l : Layer) (stop : Nat) : Nat :=
  min (stop - l.dLast / l.desc.pitch.toNat) l.desc.lineCount.toNat

end Sys2Proof.Machine
end

