-- ==== Sys2Proof/Machine/DoseCore.lean ====
section
/-!
DEFINITION. The arithmetic of one pixel (03 R66, R71 to R79), the deficits a pixel group gathers
(04 R97, R99) and what an emission stop makes of the lines under the array (04 R98).
-/

namespace Sys2Proof.Machine

/-! ### Stitch, shares, factors -/

/-- The rising ramp of R71. -/
def ramp (shape j n : Nat) : Nat :=
  let x := ((2 * j + 1) * 32768) / n
  if shape = 0 then x else (3 * x * x) / 65536 - (2 * x * x * x) / 4294967296

/-- Stitch weight of a column, Q0.16 (R71). -/
def stitch (s : State) (c : Nat) : Nat :=
  let nl := s.pv 0x0415 0
  let nr := s.pv 0x0416 0
  let sh := s.pv 0x0417 0
  if c < nl then ramp sh c nl
  else if 1024 - nr ≤ c then 65536 - ramp sh (c - (1024 - nr)) nr
  else 65536

/-- Stitched dose of a pixel of line k, in U (R73). -/
def doseU (s : State) (k c : Nat) : Nat := ringDose s.mem k c * stitch s c

/-- Lead-zone and trim-zone weight sums of a column for a pass direction (Table DOSE-2). -/
def weightSums (m : List Host.Cell) (rev : Bool) (c : Nat) : Nat × Nat :=
  let o := billetAt c + (if rev then 0x128 else 0x120)
  (memLe m o 4, memLe m (o + 4) 4)

/-- A column is dark: no weight in either zone (R75). -/
def isDark (w : Nat × Nat) : Bool := w.1 == 0 && w.2 == 0

/-- Lead share of a column (R75). -/
def leadShare (ls : Nat) (w : Nat × Nat) : Nat := if w.2 = 0 then 100 else if w.1 = 0 then 0 else ls

/-- Energy of a row's share of a pixel, U (R73): `w` the row's weight, `lead` its zone, `f` the factor. -/
def rowShare (dU ls f w : Nat) (sums : Nat × Nat) (lead : Bool) : Nat :=
  let dLead := dU * ls / 100
  if lead then (dLead * w + sums.1 / 2) / sums.1
  else (((dU - dLead) * f) / 16384 * w + sums.2 / 2) / sums.2

/-- Lower and upper clamp of a trim factor (R74). -/
def trimLo (s : State) : Nat := (16384 * (100 - s.pv 0x0412 0) + 50) / 100
def trimHi (s : State) : Nat := (16384 * (100 + s.pv 0x0412 0) + 50) / 100

/-- Key of the pixel group of a pixel (R88). -/
def groupKey (s : State) (k c : Nat) : Nat := (k / s.emon.gl) * 512 + c / 2

/-- A pixel group of the pass. -/
def State.group (s : State) (key : Nat) : Group := AMap.get s.emon.groups key {}

/-- The trim factor of a group as a trim row uses or would use it: fixed, else published and clamped,
else 0x4000 (R74, R98). -/
def groupFactor (s : State) (g : Group) : Nat :=
  if g.dead then 0x4000
  else
    match g.fixed with
    | some f => f
    | none =>
      match g.factor with
      | some (f, _) => min (max f (trimLo s)) (trimHi s)
      | none => 0x4000

/-- The factor of a pixel in a column with these sums (R75: 0x4000 with no lead weight). -/
def pixelFactor (s : State) (k c : Nat) (sums : Nat × Nat) : Nat :=
  if sums.1 = 0 then 0x4000 else groupFactor s (s.group (groupKey s k c))

/-- Energy in U brought to the carry unit C, rounded half up (R76). -/
def toC (u : Nat) : Nat := (u + 128) / 256

/-! ### Carries (R66) -/

/-- Entry of the carry of pixel (k, c) under grouping g. -/
def carryEntry (g k c : Nat) : Nat := ((k / g) % 288) * 1024 + c

/-- SRAM offset of a carry entry. -/
def carryAt (e : Nat) : Nat := 0x0400000 + 3 * e

/-- A carry, in C. -/
def carryGet (m : List Host.Cell) (e : Nat) : Nat := memLe m (carryAt e) 3

/-- Sets a carry, saturating at 0xFF_FFFF. -/
def carrySet (m : List Host.Cell) (e v : Nat) : List Host.Cell := memPuts m (carryAt e) (le 3 (min v 0xFFFFFF))

/-- Adds energy in U to a carry (R76). -/
def carryAdd (m : List Host.Cell) (e u : Nat) : List Host.Cell := carrySet m e (carryGet m e + toC u)

/-! ### Groups -/

/-- Changes a pixel group. -/
def State.onGroup (s : State) (key : Nat) (f : Group → Group) : State :=
  { s with emon := { s.emon with groups := AMap.put s.emon.groups key (f (s.group key)) } }

/-- Sets flag bits of a group (Table EMON-3). -/
def State.flagGroup (s : State) (key : Nat) (bits : Byte) : State :=
  s.onGroup key fun g => { g with flags := g.flags ||| bits }

/-- Adds a deficit in U to the group of a pixel (R97). -/
def State.addDeficit (s : State) (k c u : Nat) : State :=
  s.onGroup (groupKey s k c) fun g => { g with deficitC := g.deficitC + toC u }

/-- Columns of the lanes that serve columns. -/
def servedColumns (s : State) : List Nat :=
  (List.range 4).flatMap fun n => if serves (s.chain n) then (List.range 256).map (256 * n + ·) else []

/-- Every column of a dose line, those of a lane without a usable tile too. -/
def allColumns : List Nat := List.range 1024

/-- A column in which nothing is fired: no weight in either zone, as in a lane without a usable tile, whose rows
are all absent (R64, R69, R75; log entry 31). -/
def darkColumn (s : State) (rev : Bool) (c : Nat) : Bool :=
  !(serves (s.chain (laneOf c))) || isDark (weightSums s.mem rev c)

/-- Largest q over the scheduled rows, the period distance at which a line has its last row. -/
def qLast (s : State) : Nat := s.layer.dLast / s.layer.desc.pitch.toNat

/-- The pass runs in reverse. -/
def State.rev (s : State) : Bool := s.layer.desc.dir != 0

/-- Flags every group of a line (R97, R98). -/
def State.flagLine (s : State) (k : Nat) (bits : Byte) : State :=
  (allColumns.filter (· % 2 = 0)).foldl (fun s c => s.flagGroup (groupKey s k c) bits) s

/-- Largest q over the scheduled rows of a column: where its pixels have their last row (R65). -/
def columnQ (s : State) (c : Nat) : Option Nat :=
  let dist := s.dose.dist.getD (laneOf c) []
  (lastRow (weights s.mem c) dist).map fun r => rowQ (dist.getD r 0) s.layer.desc.pitch.toNat

/-- A pixel has a scheduled row in period `nb` or later (R76). -/
def rowAhead (s : State) (nb k c : Nat) : Bool :=
  match columnQ s c with
  | some q => decide (nb ≤ k + q)
  | none => false

/-- Energy given back to a pixel before the build of period `nb`: to its carry, or its deficit with no
scheduled row ahead (R76). -/
def giveBack (s : State) (nb k c u : Nat) : State :=
  if rowAhead s nb k c then { s with mem := carryAdd s.mem (carryEntry s.dose.carryGroup k c) u }
  else s.addDeficit k c u

/-- The share of one row that a late line has passed (R76). -/
def joinRow (s : State) (nb k c r : Nat) : State :=
  let sums := weightSums s.mem s.rev c
  giveBack s nb k c (rowShare (doseU s k c) (leadShare (s.pv 0x0410 0) sums) (pixelFactor s k c sums)
    (weight s.mem c r) sums (inLead (s.pv 0x0411 0) s.rev r))

/-- Every scheduled row of a column that a late line has passed before period `nb` (R76). -/
def joinColumn (s : State) (nb k c : Nat) : State :=
  if isDark (weightSums s.mem s.rev c) then s
  else
    let dist := s.dose.dist.getD (laneOf c) []
    ((List.range 288).filter fun r =>
        weight s.mem c r != 0 && decide (k + rowQ (dist.getD r 0) s.layer.desc.pitch.toNat < nb)).foldl
      (fun s r => joinRow s nb k c r) s

/-- A late line joins: the shares of the rows it has passed before period `nb` (R76). -/
def joinLine (s : State) (nb k : Nat) : State :=
  if lineComplete s.dose k then (servedColumns s).foldl (fun s c => joinColumn s nb k c) s else s

/-- Line k has passed its last row complete: a late line that no build has met joins with no row ahead, dark columns
become deficit, its slot is free (R61, R75, R76). -/
def lineDone (s : State) (k : Nat) : State :=
  let s := if s.dose.joins.contains k then joinLine s (k + qLast s + 1) k else s
  let s := { s with dose := { s.dose with joins := s.dose.joins.filter (· != k) } }
  let s := allColumns.foldl (fun s c =>
    if darkColumn s s.rev c && doseU s k c != 0 then s.addDeficit k c (doseU s k c) else s) s
  { s with
    layer := { s.layer with missRun := 0 }
    dose := { s.dose with ring := AMap.del s.dose.ring (k % 2048), passed := k + 1 } }

/-- The slot of a line that has passed its last row is free (R61), whatever was written to it. -/
def freeSlot (d : Dose) (k : Nat) : Dose :=
  if (AMap.find d.ring (k % 2048)).any fun t => t.line == k then { d with ring := AMap.del d.ring (k % 2048) } else d

/-- Line k has passed its last row without arriving (02 R46). -/
def lineAbsent (s : State) (k : Nat) : State :=
  let s := s.flagLine k 0x10
  let s := { s with dose := freeSlot s.dose k }
  { s with
    layer := { s.layer with record := { s.layer.record with missingLines := s.layer.record.missingLines + 1 } }
    dose := { s.dose with
      lines := AMap.put s.dose.lines k { AMap.get s.dose.lines k {} with missing := true }
      passed := k + 1 } }

/-- At a stop the lines whose last row lies before `mStop` have passed it (04 R98). -/
def passAtStop (s : State) (mStop : Nat) : State :=
  ((List.range (min (mStop - qLast s) s.layer.desc.lineCount.toNat)).filter fun k => decide (s.dose.passed ≤ k)).foldl
    (fun s k => if lineComplete s.dose k then lineDone s k else lineAbsent s k) s

/-- One more than the highest line that is or has been complete in the ring in this pass (04 R101). -/
def ringTop (s : State) : Nat :=
  let gone := ((List.range s.dose.passed).reverse.find? fun k => !((AMap.get s.dose.lines k {}).missing)).map (· + 1)
  (s.dose.ring.map (·.2)).foldl (fun a t => if t.complete then max a (t.line + 1) else a) (gone.getD 0)

/-! ### Words that were not delivered (05 R123, 04 R91) -/

/-- Next period whose build is to come. -/
def nextBuild (s : State) : Nat :=
  match s.layer.marker with
  | some m => m + 2
  | none => if s.layer.preMarker then 1 else 0

/-! ### Arrival of a line (02 R46) -/

/-- The line has passed its last row at the last marker (02 R46). -/
def lineStale (s : State) (k : Nat) : Bool :=
  match s.layer.marker with
  | some m => decide (k + qLast s + 1 ≤ m)
  | none => false

/-- Line k completes (07 R173, 02 R46): stale, late, or normal; one that missed builds joins at the next (R63), again if it
was delivered before (log entry 31). -/
def completeLine (s : State) (k : Nat) : State :=
  if lineStale s k then
    { s with layer := { s.layer with record := { s.layer.record with staleLines := s.layer.record.staleLines + 1 } } }
  else
    let late := match s.layer.marker with
      | some m => decide (k ≤ m)
      | none => false
    let joins := decide (k < nextBuild s)
    let s := { s with dose := { s.dose with
      ring := AMap.put s.dose.ring (k % 2048) { line := k, complete := true }
      joins := if joins then s.dose.joins ++ [k] else s.dose.joins } }
    if late then
      let s := s.flagLine k 0x08
      { s with
        layer := { s.layer with record := { s.layer.record with lateLines := s.layer.record.lateLines + 1 } }
        dose := { s.dose with lines := AMap.put s.dose.lines k { AMap.get s.dose.lines k {} with late := true } } }
    else s

/-- A built period. -/
def buildOf (s : State) (m : Nat) : Option PeriodBuild := s.dose.builds.find? fun b => b.m == m

/-- Changes the builds of a period. -/
def onBuild (s : State) (m : Nat) (f : PeriodBuild → PeriodBuild) : State :=
  { s with dose := { s.dose with builds := s.dose.builds.map fun b => if b.m == m then f b else b } }

/-- Energy of an undelivered word: it waits for the next build, or is deficit with no scheduled row ahead
or once emission has stopped (R123, 03 R76). -/
def returnEnergy (s : State) (k c u : Nat) : State :=
  if s.layer.stopped || !(rowAhead s (nextBuild s) k c) then s.addDeficit k c u
  else { s with dose := { s.dose with returned := (k, c, u) :: s.dose.returned } }

/-- Words that were not delivered: returned to the synthesiser, with LOST_FRAME in their groups (04 R91). -/
def returnWords (s : State) (ws : List WordRec) : State :=
  ws.foldl (fun s w =>
    (returnEnergy s w.line w.col (w.wid * w.rate)).flagGroup (groupKey s w.line w.col) 4) s

/-! ### Emission stop (R33, R54, R98) -/

/-- Takes back the builds of periods from `mStop` on: their words never fire and the carries they used
stand as before them. -/
def undoBuilds (s : State) (mStop : Nat) : State :=
  let late := s.dose.builds.filter fun b => decide (mStop ≤ b.m)
  let m := late.foldl (fun m b => b.undo.foldl (fun m u => carrySet m u.1 u.2) m) s.mem
  { s with mem := m, dose := { s.dose with builds := s.dose.builds.filter fun b => decide (b.m < mStop) } }

/-- Energy a pixel has not fired at a stop: its shares of rows whose period is not before the stop, or
its whole dose in a dark column (R98). -/
def unfired (s : State) (mStop k c : Nat) : Nat :=
  let sums := weightSums s.mem s.rev c
  let du := doseU s k c
  if darkColumn s s.rev c then (if mStop ≤ k + qLast s then du else 0)
  else
    let dist := s.dose.dist.getD (laneOf c) []
    let f := pixelFactor s k c sums
    let ls := leadShare (s.pv 0x0410 0) sums
    ((List.range 288).filter fun r =>
        weight s.mem c r != 0 && decide (mStop ≤ k + rowQ (dist.getD r 0) s.layer.desc.pitch.toNat)).foldl
      (fun a r => a + rowShare du ls f (weight s.mem c r) sums (inLead (s.pv 0x0411 0) s.rev r)) 0

/-- Deficits of a line that has entered and not passed its last row; a line absent from the ring is
missing instead (R98). -/
def stopLine (s : State) (mStop k : Nat) : State :=
  if lineComplete s.dose k then
    allColumns.foldl (fun s c => s.addDeficit k c (unfired s mStop k c)) s
  else
    let info := AMap.get s.dose.lines k {}
    let s := s.flagLine k 0x10
    if info.missing then s
    else { s with
      dose := { s.dose with lines := AMap.put s.dose.lines k { info with missing := true } }
      layer := { s.layer with record := { s.layer.record with missingLines := s.layer.record.missingLines + 1 } } }

/-- The returned energies join the carries when the build of period `nb` begins (05 R123). -/
def addReturned (s : State) (nb : Nat) : State :=
  let s' := s.dose.returned.reverse.foldl (fun s e => giveBack s nb e.1 e.2.1 e.2.2) s
  { s' with dose := { s'.dose with returned := [] } }

/-- The late lines join at the build of period `nb` (R63, R76). -/
def addJoins (s : State) (nb : Nat) : State :=
  let s' := s.dose.joins.foldl (fun s k => joinLine s nb k) s
  { s' with dose := { s'.dose with joins := [] } }

/-- One carry entry at a stop becomes deficit of the lowest line that shares it and has not passed its
last row in that column (R98). -/
def stopCarry (s : State) (mStop k c : Nat) : State :=
  let e := carryEntry s.dose.carryGroup k c
  let v := carryGet s.mem e
  if v = 0 || !(rowAhead s mStop k c) then s
  else
    let s := s.onGroup (groupKey s k c) fun g => { g with deficitC := g.deficitC + v }
    { s with mem := carrySet s.mem e 0 }

/-- The carries of the lines under the array at a stop, lowest line first (R98). -/
def stopCarries (s : State) (mStop : Nat) (lines : List Nat) : State :=
  lines.foldl (fun s k => (servedColumns s).foldl (fun s c => stopCarry s mStop k c) s) s

/-- A line that has not entered: UNREACHED, its full stitched dose if it is in the ring (R98). -/
def unreachedLine (s : State) (k : Nat) : State :=
  let s := s.flagLine k 0x20
  if lineComplete s.dose k then allColumns.foldl (fun s c => s.addDeficit k c (doseU s k c)) s
  else s.flagLine k 0x10

/-- Emission stops at marker `mStop` (R33): builds are taken back and every unfired share, every carry
and every line not entered is accounted. `firstRow` bounds the rows still to write (R101). -/
def stopEmission (s : State) (mStop : Nat) : State :=
  if s.layer.stopped then s
  else
    let s := addJoins (addReturned (undoBuilds (passAtStop s mStop) mStop) mStop) mStop
    let lc := s.layer.desc.lineCount.toNat
    let under := (List.range (min mStop lc)).filter fun k => decide (mStop ≤ k + qLast s)
    let rows := divCeil (ringTop s) s.emon.gl
    let s := under.foldl (fun s k => stopLine s mStop k) s
    let s := stopCarries s mStop under
    let s := ((List.range (min lc (rows * s.emon.gl))).filter fun k => decide (mStop ≤ k)).foldl unreachedLine s
    { s with
      layer := { s.layer with stopped := true }
      emon := { s.emon with rowsEnd := some rows } }

end Sys2Proof.Machine
end

