-- ==== Sys2Proof/Machine/EmonCore.lean ====
section
/-!
DEFINITION. What the emission monitor writes: the emission map's header, row blocks and trailer
(04 R99 to R101), line records (R103), and the header of a capture (R109).
-/

namespace Sys2Proof.Machine

/-! ### Emission map -/

/-- Group rows of a pass: ceil(LINE_COUNT / GL) (Table EMON-2). -/
def groupRows (s : State) : Nat := divCeil s.layer.desc.lineCount.toNat s.emon.gl

/-- Lines in group row h (Table EMON-2). -/
def rowLines (s : State) (h : Nat) : Nat := min s.emon.gl (s.layer.desc.lineCount.toNat - h * s.emon.gl)

/-- The 32 bytes of the map header (Table EMON-2). -/
def mapHeader (s : State) (tFirst : Nat) : List Byte :=
  withCrc (le 4 s.layer.desc.layerNo.toNat
    ++ le 1 (bitN s.layer.repair + 2 * bitN s.rev + 4 * bitN s.emon.trimActive + 8 * bitN s.emon.learnArmed)
    ++ [1] ++ le 2 s.emon.gl ++ le 4 s.layer.desc.lineCount.toNat ++ le 4 (groupRows s) ++ le 8 tFirst
    ++ le 2 (s.pv 0x0513 0) ++ le 1 (s.pv 0x0410 0) ++ le 1 (s.pv 0x0412 0))

/-- The monitor has made content of KIND 2 or 3, for the data engines to take (07 R177). -/
def make (s : State) (kind : Nat) (first : Nat) (bytes : List Byte) : State :=
  let x : Made := { first := BitVec.ofNat 32 first, layerNo := s.layer.desc.layerNo, bytes := bytes, since := s.time }
  { s with data := { s.data with made := s.data.made.modify (kind - 2) (· ++ [x]) } }

/-- Sends the header once per pass, with the TIME64 of marker 0 or 0 (R101). -/
def sendHeader (s : State) (tFirst : Nat) : State :=
  if s.emon.headerSent then s
  else { make s 2 0 (mapHeader s tFirst) with emon := { s.emon with headerSent := true } }

/-- Address of the learned value of a column pair (R96). -/
def learnAt (j : Nat) : Nat := 0x0980000 + 0x48000 + 2 * j

/-- The gain of a column pair, frozen at ARMED (R94): the learned value of then, or RESP_GAIN, which only IDLE writes. -/
def gainOf (s : State) (j : Nat) : Nat := if s.emon.learnArmed then s.emon.gains.getD j 0 else s.pv 0x0513 0

/-- DEFICIT field of a group: its deficit per pixel, unit 4 nJ, rounded half up (R99, Table EMON-3). -/
def deficitField (g : Group) (pixels : Nat) : Nat := satN 16 (divHalfUp g.deficitC (256 * pixels))

/-- TRIM_CLAMP test of R94: the published factor lies outside the clamp. -/
def clampsFactor (s : State) (f : Nat) : Bool := decide (f < trimLo s) || decide (trimHi s < f)

/-- The 12 bytes of a map entry (Table EMON-3). -/
def mapEntry (s : State) (h j : Nat) : List Byte :=
  let g := s.group (h * 512 + j)
  let px := 2 * rowLines s h
  let (trim, eta) := g.factor.getD (0, 0)
  let flags := g.flags ||| (if g.factor.isNone then 1 else if clampsFactor s trim then 2 else 0)
  le 2 (satN 16 (divHalfUp g.sumP (256 * px)))
    ++ le 2 (satN 16 (divHalfUp (g.sumM * gainOf s j) (16384 * 256 * px)))
    ++ le 2 (deficitField g px) ++ le 2 trim ++ le 2 eta ++ [flags, 0]

/-- A row block (Table EMON-2). -/
def mapRow (s : State) (h : Nat) : List Byte :=
  le 4 h ++ le 2 (rowLines s h) ++ le 2 0 ++ (List.range 512).flatMap (mapEntry s h)

/-- Closes a group row: sends its block, counts its deficits and drops its groups (R99, R101). The
groups with a deficit are returned for Keeper's list, in ascending j (R100). -/
def closeRow (s : State) (h : Nat) : State × List (Nat × Nat × Nat) :=
  let px := 2 * rowLines s h
  let short := ((List.range 512).map fun j => (j, s.group (h * 512 + j))).filter
    fun e => deficitField e.2 px != 0
  let total := (short.map fun e => divHalfUp e.2.deficitC 256).sum
  let learn := ((List.range 512).filterMap fun j => ((s.group (h * 512 + j)).factor).map fun f => (j, f.2)).foldl
    (fun m e => AMap.put m e.1 ((AMap.get m e.1 (0, 0)).1 + e.2, (AMap.get m e.1 (0, 0)).2 + 1)) s.emon.etaSums
  let s' := make s 2 (h + 1) (mapRow s h)
  ({ s' with emon := { s.emon with
      rowsWritten := s.emon.rowsWritten + 1
      defGroups := s.emon.defGroups + short.length
      defTotal := s.emon.defTotal + total
      etaSums := if s.layer.repair then s.emon.etaSums else learn
      groups := AMap.keep s.emon.groups fun k => k / 512 != h } },
    short.map fun e => (h, e.1, deficitField e.2 px))

/-- The 32 bytes of the map trailer (Table EMON-2). -/
def mapTrailer (s : State) (outcome : Byte) : List Byte :=
  withCrc (le 4 s.layer.desc.layerNo.toNat ++ [outcome, 0, 0, 0] ++ le 4 s.emon.rowsWritten
    ++ le 4 s.emon.defGroups ++ le 8 s.emon.defTotal ++ le 2 (satN 16 s.emon.mapGaps) ++ le 2 0)

/-- Header (with T_FIRST 0 if the pass never reached marker 0) and trailer at the end of a pass (R101). -/
def endMap (s : State) (outcome : Byte) : State :=
  let s := sendHeader s (if s.layer.record.tFirst = 0 then 0 else time64 s.layer.record.tFirst)
  make s 2 (groupRows s + 1) (mapTrailer s outcome)

/-! ### Line records (R103, Table EMON-4) -/

/-- A window of photodiodes: sub-index 0 capture, 1 stream. -/
def windowEmpty (s : State) (w : Nat) : Bool :=
  s.pv 0x051B w == 0 || decide (s.pv 0x051D w < s.pv 0x051C w) || decide (s.pv 0x051F w < s.pv 0x051E w)

/-- Samples in a window. -/
def windowCount (s : State) (w : Nat) : Nat :=
  if windowEmpty s w then 0
  else (bitsOf (s.pv 0x051B w) 4).length * (s.pv 0x051D w + 1 - s.pv 0x051C w) * (s.pv 0x051F w + 1 - s.pv 0x051E w)

/-- RECORD_LEN: header, packed samples, padding to 8 bytes (R103). -/
def recordLen (s : State) (w : Nat) : Nat := divCeil (16 + divCeil (windowCount s w) 2 * 3) 8 * 8

/-- Calibration entry of a photodiode: DARK and SCALE (Table EMON-1). -/
def pdEntry (s : State) (n i t : Nat) : Nat × Nat :=
  let e := s.peek (0x0980000 + 4 * (18432 * n + 128 * i + t)) 4
  (e % 4096, e / 65536)

/-- The raw sample of photodiode (n, i, t) of a period: none if it was not received (R87) or the photodiode is unusable,
whose samples are all missing (R90). -/
def sampleOf (s : State) (m n i t : Nat) : Option Nat :=
  if (pdEntry s n i t).2 = 0 then none
  else ((AMap.find s.emon.samples (m * 72 + 18 * n + i / 8)).bind fun l => l[(i % 8) * 128 + t]?).map (·.toNat)

/-- Samples of a window in their order (R103). -/
def windowSamples (s : State) (m w : Nat) : List (Option Nat) :=
  if windowEmpty s w then []
  else
    (bitsOf (s.pv 0x051B w) 4).flatMap fun n =>
      ((List.range (s.pv 0x051D w + 1)).filter fun i => decide (s.pv 0x051C w ≤ i)).flatMap fun i =>
        ((List.range (s.pv 0x051F w + 1)).filter fun t => decide (s.pv 0x051E w ≤ t)).map fun t => sampleOf s m n i t

/-- Two 12-bit samples in three bytes; an odd last one is paired with 0 (R103). -/
def pack12 : List Nat → List Byte
  | [] => []
  | [a] => [BitVec.ofNat 8 a, BitVec.ofNat 8 (a / 256), 0]
  | a :: b :: rest =>
    BitVec.ofNat 8 a :: BitVec.ofNat 8 (a / 256 + (b % 16) * 16) :: BitVec.ofNat 8 (b / 16) :: pack12 rest

/-- A line record of period m whose marker fell at a counter value (Table EMON-4). -/
def lineRecord (s : State) (m tMarker w : Nat) : List Byte :=
  let smp := windowSamples s m w
  let miss := smp.countP (·.isNone)
  padTo (recordLen s w) (le 4 m ++ le 8 (time64 tMarker) ++ le 1 (expFrac tMarker)
    ++ le 1 (bitN s.rev + 2 * bitN s.layer.repair + 4 * bitN (decide (0 < miss))) ++ le 2 (satN 16 miss)
    ++ pack12 (smp.map (·.getD 0)))

/-! ### Capture (R105 to R109) -/

/-- Base of the capture region. -/
def capBase : Nat := 0x0A80000

/-- Records the ring holds: floor(4 194 240 / RECORD_LEN) (R105). -/
def capRing (s : State) : Nat := 4194240 / recordLen s 0

/-- FIRST_OFFSET: region offset of the oldest record of a capture (Table EMON-6). -/
def capFirst (s : State) : Nat :=
  let n := capRing s
  64 + ((s.emon.cap.next + n - (s.emon.cap.preValid + s.emon.cap.post) % n) % n) * recordLen s 0

/-- The 64 bytes of the capture header (Table EMON-6). -/
def capHeader (s : State) : List Byte :=
  let c := s.emon.cap
  let pre := s.pv 0x0530 0
  withCrc (le 4 c.no ++ le 1 c.endCode ++ le 1 c.trigSrc
    ++ le 1 (bitN c.dir + 2 * bitN c.repair + 4 * bitN (decide (c.preValid < pre))) ++ [0]
    ++ le 4 c.layerNo.toNat ++ le 4 c.trigMarker ++ le 8 (time64 c.tTrig) ++ le 1 (expFrac c.tTrig)
    ++ le 1 (s.pv 0x051B 0) ++ le 1 (s.pv 0x051C 0) ++ le 1 (s.pv 0x051D 0) ++ le 1 (s.pv 0x051E 0)
    ++ le 1 (s.pv 0x051F 0) ++ le 1 (s.pv 0x0520 0 - 1) ++ [0] ++ le 4 pre ++ le 4 c.preValid
    ++ le 4 (s.pv 0x0531 0) ++ le 4 c.post ++ le 4 (recordLen s 0) ++ le 4 (capFirst s)
    ++ le 2 (satN 16 c.extra) ++ le 2 (satN 16 c.missed))

/-- Entry to DONE with an END code: the header is written (R109). -/
def capDone (s : State) (endCode : Nat) : State :=
  let s := { s with emon := { s.emon with cap := { s.emon.cap with st := .done, endCode := endCode } } }
  { s.poke capBase (capHeader s) with emon := { s.emon with cap := { s.emon.cap with missed := 0, missRaised := false } } }

/-- The layer leaves EXPOSE: a triggered capture is done with END 2 (Table EMON-5). -/
def capLeaveExpose (s : State) : State := if s.emon.cap.st = .triggered then capDone s 2 else s

/-- A capture begins its trigger (R106): `m` the trigger line, `t` the event's counter value. -/
def capStart (s : State) (src m t : Nat) : State :=
  let c := s.emon.cap
  { s with emon := { s.emon with cap := { c with
      st := .triggered
      no := wrap32 (c.no + 1)
      trigSrc := src
      trigMarker := m
      tTrig := s.stamp t
      preValid := min c.pre (s.pv 0x0530 0)
      post := 0
      extra := 0
      dir := s.rev
      repair := s.layer.repair
      layerNo := s.layer.desc.layerNo } } }

/-- A trigger in ARMING or DONE: counted, with the Guestbook record of R107. Whether it is the first since
the last capture is returned. -/
def capMissed (s : State) (src t : Nat) : State × Bool :=
  let c := s.emon.cap
  let s := s.count 0x0542 1 1
  let s := { s with emon := { s.emon with cap := { c with missed := c.missed + 1, missRaised := true } } }
  (gbWriteAt s t 1 5 5 0 (expFrac (s.stamp t)) src, !c.missRaised)

/-- The line period of an event: the last marker passed, 0 with none (log entry 32). -/
def lastMarker (s : State) : Nat := s.layer.marker.getD 0

/-- A trigger event of the pre-trigger capture (R106, R107): `src` the bit of its source, in line period m at counter
value t. Whether 0x087 is to be raised is returned. -/
def capTrigger (s : State) (src m t : Nat) : State × Bool :=
  if !((s.pv 0x0532 0).testBit src) then (s, false)
  else
    match s.emon.cap.st with
    | .off => (s, false)
    | .filling => (capStart s src m t, false)
    | .triggered =>
      ({ s with emon := { s.emon with cap := { s.emon.cap with extra := s.emon.cap.extra + 1 } } }, false)
    | .arming | .done => capMissed s src t

end Sys2Proof.Machine
end

