-- ==== Sys2Proof/Machine/HostCore.lean ====
section
/-!
DEFINITION. Sending on the host ports: which port carries a channel (06 R154, R155), the numbering,
window and retransmission of packets (06 R147, R150, R153), and messages cut into packets (17 R349).
-/

namespace Sys2Proof.Machine

/-- Value in use of a port parameter (R158). -/
def State.portParam (s : State) (idx sub : Nat) : Nat := pread s.host.inUse idx sub

/-- Largest LEN (R147). -/
def maxLen (s : State) : Nat :=
  s.portParam 0x0715 0 - 42 - (if s.portParam 0x0716 0 / 4096 = 1 then 4 else 0)
    - (match s.portParam 0x0712 0 with
      | 1 => 28
      | 2 => 48
      | _ => 0)

/-- The port to which HOST.PORT_MODE gives a channel (R154). -/
def basePort (s : State) (ch : Nat) : Nat :=
  match s.pv 0x0717 0 with
  | 0 => 0
  | 1 => 1
  | _ => ch % 2

/-- A port of the block. -/
def State.port (s : State) (p : Nat) : Port := s.host.ports.getD p {}

/-- Changes a port. -/
def State.onPort (s : State) (p : Nat) (f : Port → Port) : State :=
  { s with host := { s.host with ports := s.host.ports.modify p f } }

/-- The port that carries a channel: the other one once its channels have moved (R155). -/
def portFor (s : State) (ch : Nat) : Nat :=
  if (s.port (basePort s ch)).moved then 1 - basePort s ch else basePort s ch

/-- A port is up, and its SerDes has its supply (13 R271). -/
def State.portUp (s : State) (p : Nat) : Bool := (s.port p).link == 2 && s.portsOn

/-- A channel of the transport; one never opened is closed. -/
def State.chan (s : State) (ch : Nat) : Chan := AMap.get s.host.chans ch {}

/-- Changes a channel. -/
def State.onChan (s : State) (ch : Nat) (f : Chan → Chan) : State :=
  { s with host := { s.host with chans := AMap.put s.host.chans ch (f (s.chan ch)) } }

/-- SESSION of the packets sent on a channel: that of its mailbox, else 0 (17 R355). -/
def chanSession (s : State) (ch : Nat) : U16 :=
  if 1 ≤ ch ∧ ch ≤ 4 then (((s.keep.sessions.getD (ch - 1) none).map (·.id)).getD 0) else 0

/-- The VID of the frames of both ports, where HOST.VLAN enables tags (R146). -/
def State.vid (s : State) : Option Nat :=
  let v := s.portParam 0x0716 0
  if v / 4096 = 1 then some (v % 4096) else none

/-- The encapsulation of a port's transport packets (R147); a sent IPv4 packet carries DF set (R146). -/
def State.encap (s : State) (p : Nat) : PortEncap :=
  match s.portParam 0x0712 0 with
  | 1 => .udp4 (s.portParam 0x0710 p) true (s.portParam 0x0714 0)
  | 2 => .udp6 (s.portParam 0x0711 p) (s.portParam 0x0714 0)
  | _ => .ethernet (s.portParam 0x0713 0)

/-- One packet leaves a port, with ACK the next SEQ expected and bit 4 the port (Table HOST-1). A packet that
the spec numbers has a SEQ. -/
def emitPort (s : State) (p ch : Nat) (type flags : Byte) (seq : Option U32) (payload : List Byte) : State :=
  (s.onPort p fun x => { x with lastTx := s.time }).send
    (.packet p s.vid (s.encap p) type (flags ||| (if p = 1 then 16 else 0)) ch (chanSession s ch) seq (s.chan ch).rxNext
      (BitVec.ofNat 64 s.now64) payload)

/-- One packet leaves the port that carries its channel, if that port is up. -/
def emitPacket (s : State) (ch : Nat) (type flags : Byte) (seq : Option U32) (payload : List Byte) : State :=
  if s.portUp (portFor s ch) then emitPort s (portFor s ch) ch type flags seq payload else s

/-- Flags of a numbered packet: RELIABLE and ACK_VALID on a reliable channel. -/
def dataFlags (c : Chan) (flags : Byte) : Byte := if c.reliable then flags ||| 5 else flags

/-- Transmits a numbered packet for the first time. -/
def transmit (s : State) (ch : Nat) (type flags : Byte) (payload : List Byte) : State :=
  let c := s.chan ch
  let s := emitPacket s ch type (dataFlags c flags) (some c.txSeq) payload
  s.onChan ch fun c => { c with
    txSeq := c.txSeq + 1
    unacked := if c.reliable then c.unacked ++ [{
        seq := c.txSeq, type := type, flags := flags, payload := payload, first := s.time, last := s.time }]
      else c.unacked }

/-- The window of a channel has room (R150). -/
def windowOpen (s : State) (ch : Nat) : Bool :=
  !(s.chan ch).reliable || decide ((s.chan ch).unacked.length < s.pv 0x0719 0)

/-- Sends a numbered packet, or lets it wait for the window. -/
def chanSend (s : State) (ch : Nat) (type flags : Byte) (payload : List Byte) : State :=
  if windowOpen s ch && (s.chan ch).txWait.isEmpty then transmit s ch type flags payload
  else s.onChan ch fun c => { c with txWait := c.txWait ++ [{ seq := 0, type := type, flags := flags, payload := payload, first := 0, last := 0 }] }

/-- Waiting packets go out while the window has room. -/
def drainWait (s : State) (ch : Nat) : State :=
  ((s.chan ch).txWait).foldl (fun s w =>
    if windowOpen s ch then
      transmit (s.onChan ch fun c => { c with txWait := c.txWait.drop 1 }) ch w.type w.flags w.payload
    else s) s

/-- Takes bytes from the front of packets, at most up to one with LAST: the pieces taken, and what is left. -/
def takePieces : Nat → List Piece → List Piece × List Piece
  | _, [] => ([], [])
  | n, p :: ps =>
    if n < p.bytes.length then
      ([{ p with bytes := p.bytes.take n, ends := false, last := false }], { p with bytes := p.bytes.drop n, broken := false } :: ps)
    else if p.last then ([p], ps)
    else
      let (x, rest) := takePieces (n - p.bytes.length) ps
      (p :: x, rest)

/-- Bytes up to the first packet with LAST, and whether there is one. -/
def runOf : List Piece → Nat × Bool
  | [] => (0, false)
  | p :: ps => if p.last then (p.bytes.length, true) else (p.bytes.length + (runOf ps).1, (runOf ps).2)

/-- The bytes of packets. -/
def pieceBytes (ps : List Piece) : List Byte := ps.flatMap (·.bytes)

/-- Cuts bytes into pieces of at most n; `fuel` bounds their number. -/
def pieces (n : Nat) : Nat → List Byte → List (List Byte)
  | 0, bs => [bs]
  | fuel + 1, bs => if bs.length ≤ n then [bs] else bs.take n :: pieces n fuel (bs.drop n)

/-- Sends a message on a channel; its last packet carries LAST (17 R349). -/
def sendMessage (s : State) (ch : Nat) (bytes : List Byte) : State :=
  let ps := pieces (max 1 (maxLen s)) 64 bytes
  (ps.zipIdx).foldl (fun s e => chanSend s ch 0 (if e.2 + 1 = ps.length then 8 else 0) e.1) s

/-- A response as it travels (17 Table KEEP-4). -/
def responseBytes (r : Response) : List Byte :=
  let h := le 2 r.w.opcode.toNat ++ le 2 r.w.tag.toNat ++ le 2 r.data.length ++ [r.w.cls, r.w.flags]
    ++ le 2 r.status.toNat ++ [0, 0] ++ le 8 (time64 r.w.tRx) ++ le 8 (time64 r.tDone)
  h ++ le 4 (crc32c (h ++ r.data)) ++ r.data

/-- The next waiting response is written to MB4_RESP (17 R347). -/
def mb4Fill (s : State) : State :=
  if s.keep.respReady then s
  else
    match s.keep.mb4Wait with
    | [] => s
    | r :: rest => { s with keep := { s.keep with mb4Wait := rest, mb4Resp := padTo 1024 (responseBytes r), respReady := true } }

end Sys2Proof.Machine
end

