-- ==== Sys2Proof/Machine/FrameCore.lean ====
section
/-!
DEFINITION. How frames leave on a lane: headers, payloads and CRC of a frame (05 R116, Tables TILE-3 to TILE-5), and the
codewords that carry them (05 R115, Table TILE-2).
-/

namespace Sys2Proof.Machine

/-! ### Frames -/

/-- The header of a frame (Table TILE-3). -/
def frameHeader (type pos row period len : Nat) : Nat :=
  type + pos * 16 + row * 512 + (period % 256) * 65536 + len * 4294967296 + (65535 - len) * 281474976710656

/-- A frame: header, payload, CRC-32C, zeros to the next 8-byte boundary (R116). -/
def frameOf (type pos row period : Nat) (payload : List Byte) : List Byte :=
  let b := withCrc (le 8 (frameHeader type pos row period payload.length) ++ payload)
  padTo (divCeil b.length 8 * 8) b

/-- An idle frame is its header alone. -/
def idleFrame : List Byte := le 8 (frameHeader 0 0 0 0 0)

/-- The word of a lane column of a pulse frame. -/
def pulseWord (ws : List (Nat × U16)) (j : Nat) : Nat := ((ws.find? fun w => w.1 == j).map (·.2.toNat)).getD 0

/-- The bytes of what leaves for a tile (Table TILE-5); nothing for what does not travel on a lane. -/
def frameBytes : Out → List Byte
  | .pulse _ pos row period ws => frameOf 1 pos row period ((List.range 256).flatMap fun j => le 2 (pulseWord ws j))
  | .rowCommand _ pos period mask flags delays =>
    frameOf 2 pos 0 period (le 4 period ++ le 2 mask.toNat ++ le 2 flags.toNat
      ++ (List.range 16).flatMap fun i => le 2 (delays.getD i 0))
  | .sync _ marker tAdv kind flags tMark =>
    frameOf 3 31 0 marker (le 4 marker ++ le 2 tAdv.toNat ++ [kind, flags] ++ le 8 tMark.toNat)
  | .management _ pos op tag addr data => frameOf 4 pos 0 0 ([op, tag] ++ le 2 data.length ++ le 4 addr ++ data)
  | _ => []

/-! ### Codewords -/

/-- The 8-byte words of a frame, each with whether it starts one. -/
def frameWords (bs : List Byte) : List (Bool × List Byte) :=
  (pieces 8 (bs.length / 8) bs).mapIdx fun k w => (k == 0, w)

/-- FIRST_HDR of a block of words: the first that starts a frame, 127 if none does. -/
def firstHdr (ws : List (Bool × List Byte)) : Nat := ((ws.findIdx? (·.1))).getD 127

/-- A codeword header (Table TILE-2): CW_SEQ, FIRST_HDR, SLOT_FREE 0 downstream, CHK. -/
def codewordHeader (seq first : Nat) : BitVec 20 :=
  let x := seq % 256 + first * 256
  BitVec.ofNat 20 (x + ((x % 16) ^^^ (x / 16 % 16) ^^^ (x / 256 % 16) ^^^ (x / 4096 % 16)) * 65536)

/-- A codeword of a lane: 80 words, filled with idle frames, and the 30 parity symbols of RS(544,514) over its 514 symbols
(log entry 33). -/
def codeword (lane seq : Nat) (ws : List (Bool × List Byte)) : Out :=
  let b := (ws ++ List.replicate (80 - ws.length) (true, idleFrame))
  let h := codewordHeader seq (firstHdr b)
  .codeword lane h (b.flatMap (·.2)) (Config.rsParity h (b.flatMap (·.2)))

/-- The codewords that carry frames, the first with counter `seq`. -/
def codewords (lane seq : Nat) (fs : List Out) : List Out :=
  let ws := fs.flatMap fun f => frameWords (frameBytes f)
  (List.range (divCeil ws.length 80)).map fun k => codeword lane (seq + k) ((ws.drop (80 * k)).take 80)

/-- Codewords sent on a lane at a counter value, one every 87 040 / 7 units (48.57 ns): those gone by, idle ones too, or more
where the frames before have not left yet. -/
def cwNext (t : LaneTx) (now : Nat) : Nat :=
  match t.since with
  | none => 0
  | some t0 => max t.sent (divCeil ((now - t0) * 7) 87040)

/-- A lane of the block. -/
def State.lane (s : State) (k : Nat) : LaneTx := s.link.lanes.getD k {}

/-- Frames leave on a lane, back to back from the first word of a codeword (log entry 33): as what they say and as the
codewords that carry them. A lane's stream begins with its first frame. -/
def laneSend (s : State) (k : Nat) (fs : List Out) : State :=
  if fs.isEmpty then s
  else
    let t := s.lane k
    let n := cwNext t s.time
    let cs := codewords k n fs
    { s.sendAll (fs ++ cs) with link := { s.link with
        lanes := s.link.lanes.set k { since := some (t.since.getD s.time), sent := n + cs.length } } }

/-- Frames leave on the lane that serves chain n (R113), where the lanes have their supply (13 R271) and the Link
domain its clock (12 R264). -/
def linkSend (s : State) (n : Nat) (fs : List Out) : State := if s.serdesOn && !s.therm.tripped then laneSend s (s.chain n).servedBy fs else s

/-- The stream of a lane ends: its counter starts anew (Table TILE-2, reset). -/
def laneReset (s : State) (k : Nat) : State :=
  { s with link := { s.link with lanes := s.link.lanes.set k {} } }

end Sys2Proof.Machine
end

