-- ==== Sys2Proof/Machine/LayerCore.lean ====
section
/-!
DEFINITION. The transitions of the layer cycle that faults share with commands: RUN_OUT, COMMIT, IDLE
(02 R34 to R55), emitter enable (05 R125), and the carriage profile (08 R194).
-/

namespace Sys2Proof.Machine

/-! ### Carriage profile (R194). Positions nm, velocities nm/s, accelerations nm/s². -/

/-- Position and velocity `τ` counter units into a segment, cut to whole units (log entry 20). -/
def segAt (g : Seg) (τ : Nat) : Int × Int :=
  (g.p0 + (g.v0 * τ) / secU + (g.a * (τ * τ : Nat)) / (2 * secU * secU : Nat), g.v0 + (g.a * τ) / secU)

/-- Position and velocity of a list of segments; beyond the last one it rests at its end. -/
def segsAt : List Seg → Nat → Int → Int × Int
  | [], _, rest => (rest, 0)
  | g :: gs, τ, rest => if τ < g.dur then segAt g τ else segsAt gs (τ - g.dur) rest

/-- Position and velocity of the profile at a counter value. -/
def profAt (p : Profile) (t : Nat) : Int × Int := segsAt p.segs (t - p.t0) p.restPos

/-- The profile has run through its segments. -/
def profOver (p : Profile) (t : Nat) : Bool := decide ((p.segs.map (·.dur)).sum ≤ t - p.t0)

/-- Where a run of segments ends. -/
def segsEnd (gs : List Seg) (rest : Int) : Int :=
  match gs.getLast? with
  | some g => (segAt g g.dur).1
  | none => rest

/-- A new profile from segments that start at a counter value. -/
def profRun (kind : ProfKind) (t : Nat) (gs : List Seg) (rest : Int) : Profile :=
  { kind := kind, t0 := t, segs := gs, restPos := segsEnd gs rest, inPos := false }

/-- Deceleration to rest from position p and velocity v at `a` > 0. -/
def decelSegs (p v : Int) (a : Nat) : List Seg :=
  if v = 0 then [] else [{ dur := divCeil (v.natAbs * secU) a, p0 := p, v0 := v, a := if 0 < v then -a else a }]

/-- SPEED_UM_S² / (2 × distance_um), in nm/s² (R194). -/
def rampAccel (speed dist : Nat) : Nat := max 1 (speed * speed * 1000 / (2 * dist))

/-- The profile decelerates to rest from where it is (R194). -/
def profDecel (s : State) (kind : ProfKind) (a : Nat) : State :=
  let (p, v) := profAt s.servo.prof s.time
  { s with servo := { s.servo with prof :=
      { profRun kind s.time (decelSegs p v (max 1 a)) p with stop := s.servo.prof.stop } } }

/-- This device commands the carriage (R30). -/
def State.driver (s : State) : Bool := s.pv 0x0310 0 == 1

/-- SERVO.STOP_DECEL in nm/s². -/
def stopDecel (s : State) : Nat := s.pv 0x0942 0 * 1000000

/-! ### Emitter enable (R16, R125) -/

/-- Emitter enable is removed: every TLn_nEMIT goes high. -/
def emitOff (s : State) : State :=
  { s with
    layer := { s.layer with emitEnable := false }
    link := { s.link with chains := s.link.chains.map fun c => { c with nEmit := true } } }

/-- Emitter enable is given to the chains that carry frames (R16, R122). -/
def emitOn (s : State) : State :=
  { s with
    layer := { s.layer with emitEnable := true }
    link := { s.link with chains := s.link.chains.map fun c =>
        match c.st with
        | .up | .reserve => { c with nEmit := false }
        | _ => c } }

/-- Frames flow on a chain: UP or RESERVE (05 Table TILE-10), with no failover in progress. -/
def chainLive (c : Chain) : Bool :=
  match c.st with
  | .up | .reserve => !c.moving
  | _ => false

/-- One END sync frame per live chain when EXPOSE is left (05 Table TILE-4), with MARKER m_final and T_ADV 0 (log
entry 33). -/
def sendEnd (s : State) : State :=
  ((List.range 4).filter fun n => chainLive (s.chain n)).foldl (fun s n =>
    linkSend s n [.sync n s.layer.mFinal 0 1 0 (BitVec.ofNat 64 s.now64)]) s

/-! ### Responses that a state change answers -/

/-- Pushes a completion to a mailbox's history (17 R362). -/
def pushHist (k : Keeper) (r : Response) : Keeper :=
  { k with hist := k.hist.modify r.w.mb fun l => (r :: l).take 32 }

/-- Answers a waiting request (17 Table KEEP-4): MB0 to MB3 in packets on channels 1 to 4 (17 R348), MB4 when
its buffer is free (17 R347), MB5 when the master polls (13 R281), as the result of a SEQ does (`mb` 7; 13 R283). -/
def answer (s : State) (w : Waiting) (status : U16) (data : List Byte) : State :=
  let r : Response := { w := w, status := status, tDone := s.time, data := data }
  let k := pushHist s.keep r
  let s : State := { s with
    keep := if w.mb = 4 then { k with mb4Wait := k.mb4Wait ++ [r] } else k
    stage := if w.mb = 5 ∨ w.mb = 7 then { s.stage with mb5Out := s.stage.mb5Out ++ [r] } else s.stage
    sent := .response r :: s.sent }
  if w.mb < 4 then sendMessage s (w.mb + 1) (responseBytes r) else if w.mb = 4 then mb4Fill s else s

/-- Largest request and response payload of a mailbox (17 Table KEEP-2). -/
def payloadLimit (mb : Nat) : Nat × Nat :=
  if mb < 4 then (4096, 4096) else if mb = 4 then (1008, 992) else if mb = 5 then (240, 224) else (4096, 4096)

/-- Answers OK with data, or RANGE where they do not fit the mailbox (17 Table KEEP-2; log entry 71). -/
def answerFit (s : State) (w : Waiting) (data : List Byte) : State :=
  if (payloadLimit w.mb).2 < data.length then answer s w 7 [] else answer s w 0 data

/-- A pending abort is sampled at or after the later of its arrival and AT_TIME (R49). -/
def abortDue (s : State) : Option AbortReq :=
  match s.layer.abort with
  | some a => if max a.tReq a.atTime ≤ s.time then some a else none
  | none => none

/-- The record of the pass's first abort as it is sampled: T_ABORT_SAMPLE and ABORT_RESULT (R51, Table LAY-7). -/
def abortRecord (s : State) (tReq : Nat) (result : Byte) : LayRec :=
  let r := s.layer.record
  if r.tAbortSample = 0 ∧ r.tAbortReq = tReq then { r with tAbortSample := s.stamp s.time, abortResult := result } else r

/-- The pending abort is sampled and answered. -/
def endAbort (s : State) (result : Byte) (status : U16) : State :=
  match s.layer.abort with
  | none => s
  | some a =>
    answer { s with layer := { s.layer with abort := none, record := abortRecord s a.tReq result } } a.w status []

/-- The abort is sampled now: taken (`stop`) or too late (R50). -/
def takeAbort (s : State) (stop : Bool) : State := if stop then endAbort s 1 0 else endAbort s 2 9

/-- RUN_OUT or COMMIT answers the pending abort, if any: OK only for an outcome already ABORTED, which the abort did not
bring about, so that ABORT_RESULT stays 0 (R50; log entry 30). -/
def answerAbort (s : State) : State := if s.layer.record.outcome = 1 then endAbort s 0 0 else endAbort s 2 9

/-- A waiting EMON_CAP_STOP is sampled (04 R108). -/
def sampleCapStop (s : State) : State :=
  match s.emon.cap.stop with
  | none => s
  | some w =>
    let s := { s with emon := { s.emon with cap := { s.emon.cap with stop := none } } }
    match s.emon.cap.st with
    | .off => answer s w 6 []
    | .arming => answer { s with emon := { s.emon with cap := { s.emon.cap with stopAfterClear := true } } } w 0 []
    | .filling => answer { s with emon := { s.emon with cap := { s.emon.cap with st := .off } } } w 0 []
    | .triggered => answer (capDone s 1) w 0 []
    | .done => answer s w 9 []

/-! ### Live table (01 R17, 03 R77) -/

/-- A swap of the live calibration buffer takes effect. -/
def swapLive (s : State) : State :=
  clearCond { s with dose := { s.dose with
    calBuf := !s.dose.calBuf, calGen := s.dose.calGen + 1, swapReq := false, staleRounds := 0, staleRaised := false } } 0x048

/-- A requested swap takes effect: at a marker, or with the end of RUN_UP and EXPOSE. -/
def takeSwap (s : State) : State := if s.dose.swapReq then swapLive s else s

/-! ### RUN_OUT, COMMIT, IDLE -/

/-- The column pitch stays fixed while any chain has usable tiles (05 R129). -/
def settlePitch (s : State) : State :=
  if s.link.chains.any serves then s else { s with link := { s.link with colPitch := none } }

/-- A chain that went to OFF in the layer has no tiles any more (05 R135, Table TILE-10). -/
def forgetOff (s : State) : State :=
  settlePitch { s with link := { s.link with chains := s.link.chains.map fun c => { c with tiles := shownTiles c } } }

/-- How the carriage comes to rest: run-out distance, run-up acceleration, or the stop ramp. -/
inductive StopHow where
  | runOut | runUp | ramp
  deriving DecidableEq, Repr

/-- The record ends ABORTED with this cause and stop marker, unless it already does (R51, R52). -/
def markAborted (s : State) (cause : Byte) (stop : U32) : State :=
  if s.layer.record.outcome = 1 then s
  else { s with layer := { s.layer with record := { s.layer.record with
          outcome := 1, endCause := cause, stopMarker := stop } } }

/-- Deceleration at RUN_OUT entry (R34, R50, R194). A stop ramp in progress is not replaced (R312). -/
def runOutProfile (s : State) (how : StopHow) : State :=
  if !s.driver then s
  else
    let d := s.layer.desc
    match how with
    | .runOut => profDecel s .layer (rampAccel d.speed.toNat d.runOut.toNat)
    | .runUp => profDecel s .layer (rampAccel d.speed.toNat d.runUp.toNat)
    | .ramp => profDecel s .stopRamp (stopDecel s)

/-- Entry to RUN_OUT (Table LAY-1): enable off, carriage to rest, a pending abort answered, a pending swap taken. From
EXPOSE, END is sent and a triggered capture is done; what was built before EXPOSE never fires. -/
def enterRunOut (s : State) (how : StopHow) : State :=
  let fromExpose := s.layer.st = .expose
  let s := emitOff s
  let s := if fromExpose then sendEnd s else { s with dose := { s.dose with builds := [] } }
  let s := sampleCapStop (if fromExpose then capLeaveExpose s else s)
  let s := runOutProfile s how
  let s := { s with layer := { s.layer with st := .runOut, tState := s.time, atRest := false, c2Wait := none } }
  takeSwap (answerAbort s)

/-- The chains go to DOZE with the power state (05 Table TILE-10). -/
def dozeChains (s : State) : State :=
  { s with link := { s.link with chains := s.link.chains.map fun c =>
      match c.st with
      | .up | .reserve => { c with st := .doze, wakeTo := c.st }
      | _ => c } }

/-- The chains leave DOZE (05 Table TILE-10). -/
def wakeChains (s : State) : State :=
  { s with link := { s.link with chains := s.link.chains.map fun c =>
      match c.st with
      | .doze => { c with st := c.wakeTo }
      | _ => c } }

/-- The power state in IDLE: DOZE with LAY.AUTO_DOZE, else READY (R34). -/
def idlePower (s : State) : State :=
  if s.pv 0x031A 0 = 1 then (dozeChains s).toPower .doze else (wakeChains s).toPower .ready

/-- Entry to IDLE. -/
def toIdle (s : State) : State :=
  idlePower { s with layer := { s.layer with
      st := .idle, repair := false, tState := s.time, marker := none, preMarker := false, c2Wait := none, cutCause := none } }

/-- The outcome a pass closes with (R42). -/
def closingOutcome (s : State) : Byte :=
  if s.layer.record.outcome = 1 then 1 else if s.emon.defGroups = 0 then 0 else 2

/-- LINES_FULL of a pass that closes (Table LAY-7): all lines unless emission stopped or never began. -/
def closingFull (s : State) (outcome : Byte) : U32 :=
  if s.layer.stopped || outcome = 1 then s.layer.record.linesFull else s.layer.desc.lineCount

/-- COMMIT (Table LAY-1): a pending abort is answered; the map's trailer, the record's end, LAY.LAST_COMMITTED. `skipped` is
REPAIR_SKIPPED. The record is held while Keeper is unavailable (R35). -/
def commitRecord (s : State) (skipped : Bool) : State :=
  let s := answerAbort s
  let out := closingOutcome s
  let s := endMap s out
  let rec0 := { s.layer.record with
    outcome := out
    linesFull := closingFull s out
    deficitGroups := BitVec.ofNat 32 s.emon.defGroups
    deficitTotal := BitVec.ofNat 64 s.emon.defTotal
    repairSkipped := skipped
    tCommit := s.time }
  let main := !s.layer.repair
  let s := if main then s.wear 2 1 else s
  forgetOff { s with
    layer := { s.layer with
      record := rec0
      lastCommitted := if main then s.layer.desc.layerNo else s.layer.lastCommitted
      records := if s.keep.running then (rec0 :: s.layer.records).take 64 else s.layer.records
      held := if s.keep.running then s.layer.held else s.layer.held ++ [rec0] }
    emon := { s.emon with
      learnDue := s.emon.learnDue || (main && out != 1 && s.emon.trimActive && s.pv 0x0517 0 == 1) } }

/-- COMMIT without a repair pass, and IDLE after it. -/
def commitToIdle (s : State) : State := toIdle (commitRecord s false)

/-- From ARMED: COMMIT with outcome ABORTED, no motion (R50, Table LAY-1). -/
def commitAborted (s : State) (cause : Byte) : State := commitToIdle (emitOff (markAborted s cause 0xFFFFFFFF))

/-- The record while a C1 to C4 source is raised in a pass (Table LAY-7). -/
def noteFault (s : State) (id cls : Nat) : State :=
  if s.layer.st = .idle || cls = 0 then s
  else
    let r := s.layer.record
    let r := if r.faultId = 0xFFFF then { r with faultId := BitVec.ofNat 16 id, faultClass := BitVec.ofNat 8 cls } else r
    let r := if cls = 1 && r.c1Count != 255 then { r with c1Count := r.c1Count + 1 } else r
    { s with layer := { s.layer with record := r } }

/-- The pulse frame of row r of lane n in period m was not delivered: counted, its words returned and taken from the planned
energies, a trigger of the capture (05 R123, 04 R106). One whose ROW_MASK bit was clear, or already counted, is none. What
it raises is `lossRaises`. -/
def loseRow (s : State) (m n r : Nat) : State :=
  match (buildOf s m).bind fun b => b.rows.find? fun x => x.lane == n && x.row == r && x.mask && !x.lost with
  | none => s
  | some row =>
    let s := s.count 0x0623 n 1
    let s := { s with
      layer := { s.layer with record := { s.layer.record with lostFrames := s.layer.record.lostFrames + 1 } }
      link := { s.link with firsts := s.link.firsts.set 0 true } }
    let s := onBuild (returnWords s row.words) m fun b => { b with rows := b.rows.map fun x =>
      if x.lane == n && x.row == r then { x with words := [], lost := true } else x }
    (capTrigger s 5 (lastMarker s) s.time).1

/-- Rows of a period whose fire instant has not come. DELAY has the unit 0.25 ns. -/
def rowsAhead (s : State) (b : PeriodBuild) : List RowBuild := b.rows.filter fun x => decide (s.time ≤ b.t + 64 * x.delay)

/-- Rows of the period in progress whose fire instant has not come when enable is removed are lost (05 R125). -/
def cutRows (s : State) (m : Nat) : State :=
  match buildOf s m with
  | none => s
  | some b => (rowsAhead s b).foldl (fun s x => loseRow s m x.lane x.row) s

/-- Removal of enable in EXPOSE between markers by a C3 or C4 fault or EMIT_INHIBIT (Table LAY-6): emission
stops at the marker after the last one passed, rows still to fire in the period in progress are lost, and STOP_MARKER is the
last marker passed; before m_final the pass is ABORTED. -/
def cutEmission (s : State) (cause : Byte) : State :=
  let last := lastMarker s
  let s := emitOff s
  let s := if last < s.layer.mFinal then markAborted s cause (BitVec.ofNat 32 last) else s
  if s.layer.stopped then s
  else
    let s := cutRows (stopEmission s (last + 1)) last
    { s with layer := { s.layer with record := { s.layer.record with
        stopMarker := BitVec.ofNat 32 last, linesFull := BitVec.ofNat 32 (linesFull s.layer last) } } }

/-- The layer's part of a C2 reaction (Tables LAY-1, LAY-6). In EXPOSE the fault waits for the next
marker (R52). -/
def layerC2 (s : State) (id : Nat) : State :=
  match s.layer.st with
  | .armed => commitAborted s 2
  | .runUp => enterRunOut (markAborted s 2 0xFFFFFFFF) .runOut
  | .expose =>
    match s.layer.c2Wait with
    | some _ => s
    | none => { s with layer := { s.layer with c2Wait := some id } }
  | _ => s

/-- The layer's part of a C3 or C4 reaction (Tables LAY-1, LAY-6). -/
def layerC3 (s : State) : State :=
  match s.layer.st with
  | .armed => commitAborted s 2
  | .runUp => enterRunOut (markAborted s 2 0xFFFFFFFF) .ramp
  | .expose => enterRunOut (cutEmission s 2) .ramp
  | .runOut => emitOff (runOutProfile s .ramp)
  | _ => emitOff s

/-! ### Time passes -/

/-- An abort that waits for its instant in ARMED or RUN_UP, where no marker samples it, is sampled once it has come (R50;
log entry 30). -/
def sampleEarly (s : State) : State :=
  match abortDue s with
  | none => s
  | some _ =>
    match s.layer.st with
    | .armed => commitAborted (takeAbort s true) 1
    | .runUp => enterRunOut (markAborted (takeAbort s true) 1 0xFFFFFFFF) .runUp
    | _ => s

/-- How long until the abort that waits in ARMED or RUN_UP is to be sampled. -/
def abortIn (s : State) : Option Nat :=
  match s.layer.st with
  | .armed | .runUp => s.layer.abort.map fun a => a.atTime - s.time
  | _ => none

/-- Time passes (`State.advance`), and an abort that waits in ARMED or RUN_UP is sampled at its instant. -/
def State.pass (s : State) (dt : Nat) : State :=
  match abortIn s with
  | some d => if d ≤ dt then (sampleEarly (s.advance d)).advance (dt - d) else s.advance dt
  | none => s.advance dt

end Sys2Proof.Machine
end

