-- ==== Sys2Proof/Machine/RailCore.lean ====
section
/-!
DEFINITION. What the rail slots share: starting, releasing and blocking a slot (13 R268 to R275), and
TLn_DISCH.
-/

namespace Sys2Proof.Machine

/-- The slots of chain n: logic, bias, drive A, drive B (Table PWR-1). -/
def chainSlots (n : Nat) : List Nat := [8 + 4 * n, 9 + 4 * n, 10 + 4 * n, 11 + 4 * n]

/-- A drive A or drive B slot (Table PWR-1). -/
def driveSlot (k : Nat) : Bool := decide (8 ≤ k) && decide (k < 24) && decide (2 ≤ (k - 8) % 4)

/-- A slot of the block. -/
def State.rail (s : State) (k : Nat) : Rail := s.pwr.rails.getD k {}

/-- Changes a slot. -/
def State.onRail (s : State) (k : Nat) (f : Rail → Rail) : State :=
  { s with pwr := { s.pwr with rails := s.pwr.rails.modify k f } }

/-- Changes a chain. -/
def State.onChain (s : State) (n : Nat) (f : Chain → Chain) : State :=
  { s with link := { s.link with chains := s.link.chains.modify n f } }

/-- The enable of a slot in this state is off and stays off by itself. -/
def railIdle : RailState → Bool
  | .off | .decay | .failed | .blocked => true
  | _ => false

/-- A slot in this state no longer needs the slots it depends on (R273). -/
def railDown : RailState → Bool
  | .off | .failed | .blocked => true
  | _ => false

/-- Slot j depends on slot k. -/
def State.needs (s : State) (j k : Nat) : Bool := (s.pv 0x0111 j).testBit k

/-- Every slot it depends on is GOOD (Table PWR-2, WAIT). -/
def State.depsGood (s : State) (k : Nat) : Bool :=
  (bitsOf (s.pv 0x0111 k) 32).all fun j => (s.rail j).st == .good

/-- A margin ends when its slot is released (R278); a PWR_MARGIN still trimming answers MARGIN_FAIL. -/
def endMargin (s : State) (k : Nat) : State :=
  let w := (s.rail k).w
  let s := s.onRail k fun r => { r with margin := none, trim := 0x800, w := none }
  match w with
  | some w => answer s w 0x0103 []
  | none => s

/-- TLn_DISCH follows the chain's slots: asserted once every one is released (R274). -/
def updateDisch (s : State) (k : Nat) : State :=
  if 8 ≤ k ∧ k < 24 then
    let n := (k - 8) / 4
    s.onChain n fun c => { c with disch := (chainSlots n).all fun j => railIdle (s.rail j).st }
  else s

/-- Releases the enable of a slot (Table PWR-2): GOOD, RAMP and RETRY go to DECAY, WAIT to OFF. -/
def releaseSlot (s : State) (k : Nat) : State :=
  let s := s.onRail k fun r =>
    match r.st with
    | .good | .ramp | .retry => { r with st := .decay, release := false, again := false }
    | .wait => { r with st := .off, release := false }
    | _ => { r with release := false, again := false }
  updateDisch (endMargin s k) k

/-- No slot that still needs slot k is powered (R273). -/
def dependantsDown (s : State) (k : Nat) : Bool :=
  (List.range 32).all fun j => !(s.needs j k) || railDown (s.rail j).st

/-- Releases every slot that is asked to go and whose dependants are all down (R273). -/
def settleReleases (s : State) : State :=
  (List.range 32).reverse.foldl (fun s k =>
    if (s.rail k).release && dependantsDown s k then releaseSlot s k else s) s

/-- The condition of 0x000 ends with the last FAILED slot (15 R310). -/
def settleFailed (s : State) : State :=
  if (s.pwr.rails.any fun r => r.st == .failed) || !(s.flt.cond.getLsbD 0) then s
  else { s with flt := { s.flt with cond := setBit s.flt.cond 0 false } }

/-- Asks slots to go in decay order (R273). FAILED and BLOCKED slots go to OFF (Table PWR-2). -/
def releaseSlots (s : State) (ks : List Nat) : State :=
  let s := ks.foldl (fun s k => s.onRail k fun r =>
    match r.st with
    | .failed | .blocked => { r with st := .off, release := false }
    | .wait => { r with st := .off, release := false }
    | .good | .ramp | .retry => { r with release := true }
    | _ => { r with again := false }) s
  settleFailed (settleReleases s)

/-- Releases slots whatever depends on them (R272, R274). -/
def dropSlots (s : State) (ks : List Nat) : State := ks.foldl releaseSlot s

/-- A slot that depends on a FAILED or BLOCKED slot, directly or through others, enters BLOCKED (R271). -/
def blockDependants (s : State) (k : Nat) : State :=
  (List.range 32).foldl (fun s j =>
    if (depReach s.params j).testBit k then
      s.onRail j fun r =>
        match r.st with
        | .off | .wait => { r with st := .blocked, release := false }
        | _ => r
    else s) s

/-- A slot in WAIT that depends on a FAILED or BLOCKED slot, directly or through others, enters BLOCKED (Table PWR-2, R271). -/
def blockWaiting (s : State) : State :=
  let bad := (List.range 32).filter fun k => (s.rail k).st == .failed || (s.rail k).st == .blocked
  if bad = [] then s
  else
    (List.range 32).foldl (fun s k =>
      if (s.rail k).st = .wait ∧ (bad.any fun j => (depReach s.params k).testBit j) then
        s.onRail k fun r => { r with st := .blocked, release := false }
      else s) s

/-- Starts slots: OFF → WAIT, or BLOCKED where a dependency is FAILED or BLOCKED. A slot that was asked to go keeps
running; one in DECAY starts once it is OFF. -/
def startSlots (s : State) (ks : List Nat) : State :=
  blockWaiting (ks.foldl (fun s k =>
    s.onRail k fun r =>
      match r.st with
      | .off => { r with st := .wait, attempts := 0, release := false }
      | .decay => { r with again := true }
      | _ => { r with release := false }) s)

/-- The enable of a slot is asserted (Table PWR-2, RAMP); DISCH of its chain goes off. -/
def enableSlot (s : State) (k : Nat) : State :=
  updateDisch (s.onRail k fun r => { r with st := .ramp, attempts := r.attempts + 1 }) k

end Sys2Proof.Machine
end

