-- ==== Sys2Proof/Machine/MotionCore.lean ====
section
/-!
DEFINITION. How motion stops: the carriage (08 R194), a servo test (08 R204), the stepper axes (10 R231,
R234), the drive channels (09 R222) and the heater outputs (11 R254).
-/

namespace Sys2Proof.Machine

/-! ### Servo -/

def State.slot (s : State) (n : Nat) : Slot := s.servo.slots.getD n {}

/-- Changes a loop slot. -/
def State.onSlot (s : State) (n : Nat) (f : Slot → Slot) : State :=
  { s with servo := { s.servo with slots := s.servo.slots.modify n f } }

/-- Base of the servo capture region (R204). -/
def testBase : Nat := 0x10C8000

/-- The 64 bytes of the servo capture header (Table SERVO-4). -/
def testHeader (s : State) (r : TestRun) (endCode : Nat) : List Byte :=
  withCrc (padTo 0x3C (le 4 r.no ++ [r.t.loop, BitVec.ofNat 8 endCode, r.t.nsig, r.t.decim]
    ++ padTo 4 r.t.sig ++ le 4 r.t.samples.toNat ++ le 4 r.taken ++ le 4 r.injSample ++ le 8 (time64 r.tFirst)
    ++ le 4 (r.t.decim.toNat * s.pv 0x0911 r.t.loop.toNat * 10000)))

/-- The test in progress ends with an END code and its header is written; a stop that waits is answered (R204): OK
where it is what ends the test, else TOO_LATE (log entry 63). -/
def endTest (s : State) (endCode : Nat) : State :=
  match s.servo.test with
  | none => s
  | some r =>
    let s := s.poke testBase (testHeader s r endCode)
    let s := { s with servo := { s.servo with
        test := none, testEnd := if endCode = 0 then some r.t.loop.toNat else none } }
    match r.stop with
    | some w => answer s w (if endCode = 1 then 0 else 9) []
    | none => s

/-- The carriage profile under C3 and C4 outside a layer's own transitions: whatever else still runs decelerates at
STOP_DECEL (R194). -/
def carriageStop (s : State) : State :=
  let p := s.servo.prof
  let s := { s with servo := { s.servo with prof := { p with moveTo := none } } }
  if p.kind = .layer then s
  else if !(profOver p s.time) then profDecel s .stopRamp (stopDecel s)
  else if p.kind = .move then { s with servo := { s.servo with prof := { s.servo.prof with kind := .none } } }
  else s

/-! ### Stepper units -/

def State.axis (s : State) (k : Nat) : Axis := s.axes.getD k {}

/-- Changes an axis. -/
def State.onAxis (s : State) (k : Nat) (f : Axis → Axis) : State := { s with axes := s.axes.modify k f }

def State.unit (s : State) (u : Nat) : StepUnit := s.units.getD u {}

/-- Changes a unit. -/
def State.onUnit (s : State) (u : Nat) (f : StepUnit → StepUnit) : State := { s with units := s.units.modify u f }

/-- Homing of a unit's axes ends. -/
def homingOff (s : State) (u : Nat) : State :=
  (s.unit u).members.foldl (fun s k => s.onAxis k fun a => { a with homeStep := 0, homeWait := false }) s

/-- A stop sampled on a unit (R232): MOVING keeps REMAIN, HOMING loses the homing and ends IDLE. -/
def unitStop (s : State) (u : Nat) : State :=
  match (s.unit u).st with
  | .moving => s.onUnit u fun x => { x with st := .stopping, stopWhy := 1 }
  | .homing => homingOff (s.onUnit u fun x => { x with st := .stopping, stopWhy := 3 }) u
  | _ => s

/-- An axis goes to DISABLED: bridges off, HOMED lost, position kept, queue discarded (R227, Table STEP-1). -/
def unitDisable (s : State) (u : Nat) : State :=
  let ms := (s.unit u).members
  let s := s.onUnit u fun x => { x with
    st := .disabled, queue := [], cur := none, joint := none, prog := 0, vel := 0, acc := 0, remain := [], stopWhy := 0, doneNow := false }
  ms.foldl (fun s k => s.onAxis k fun a => { a with homed := false, homeStep := 0, homeWait := false, dutyA := 0, dutyB := 0, satAt := none }) s

/-! ### Drive channels -/

def State.drive (s : State) (k : Nat) : Drive := s.drv.getD k {}

/-- Changes a drive channel. -/
def State.onDrive (s : State) (k : Nat) (f : Drive → Drive) : State := { s with drv := s.drv.modify k f }

/-- A drive parameter 0x0A20 to 0x0A34 as the channel's last decision took it (R224). -/
def State.dpv (s : State) (idx k off : Nat) : Nat := pread (s.drive k).params idx (k + off)

/-- The start ramp of a channel up to now, in mHz × ticks per ms: START_RAMP as it was in use (R220). -/
def rampNow (s : State) (k : Nat) : Nat := (s.drive k).rampAcc + s.dpv 0x0A29 k 0 * (s.time - (s.drive k).rampAt)

/-- A decision takes what was written since the last one: the servo's demands (R209) and parameters 0x0A20 to 0x0A34
(R224). -/
def latchDrive (s : State) (k : Nat) : State :=
  let acc := rampNow s k
  s.onDrive k fun d => { d with
    torqueUse := d.torqueIn, speedUse := d.speedIn
    rampAcc := acc, rampAt := s.time
    params := AMap.keep s.params fun key => decide (0x0A20 * 256 ≤ key) && decide (key < 0x0A35 * 256) && key % 8 == k }

/-- The condition of a drive source ends when it holds on no channel (R223, R310). -/
def driveConds (s : State) : State :=
  let off (s : State) (id : Nat) (p : Drive → Bool) : State := if s.drv.any p then s else clearCond s id
  off (off (off s 0x111 (·.busHi)) 0x112 (·.busLo)) 0x119 (·.gdf)

/-- The failed catches in a row end with an attempt that does not fail: CATCH left but for RUN, or RUN left but for COAST (R219).
-/
def catchKept (st : DrvState) : Bool := st == .coast || st == .catch || st == .run || st == .fault

/-- A channel enters a state at a counter value; gates are off in every state this serves, and what belongs
to the state left behind ends. The speed ramp of a C3 goes on (R222). The bus is looked at in DISABLED and FAULT no more. -/
def driveTo (d : Drive) (st : DrvState) (t : Nat) : Drive :=
  { d with st := st, tState := t, gates := false, vec := 0, track := none, ramping := false, lockRun := 0, zc := []
           badRun := 0, crossed := false, chop := false, busLo := false
           busHi := d.busHi && st != .disabled && st != .fault
           catchFails := if catchKept st then d.catchFails else 0, caughtAt := none }

/-- A channel goes to FAULT (Table DRV-3). -/
def driveFault (s : State) (k : Nat) : State :=
  driveConds (s.onDrive k fun d => { driveTo d .fault s.time with c3Ramp := false })

/-- A channel goes to DISABLED; an alignment in progress ends with the given status (R225). -/
def driveDisable (s : State) (k : Nat) (status : U16) : State :=
  let w := (s.drive k).align
  let s := driveConds (s.onDrive k fun d =>
    { driveTo d .disabled s.time with align := none, runReq := false, spd := 0, target := 0, c3Ramp := false })
  match w with
  | some w => answer s w status []
  | none => s

/-- A channel under C3 (R222). -/
def driveC3 (s : State) (k : Nat) : State :=
  let d := s.drive k
  if d.st = .disabled ∨ d.st = .fault ∨ s.pv 0x0A10 k = 3 ∨ s.pv 0x0A10 k = 0 then s
  else
    match s.dpv 0x0A33 k 0 with
    | 0 => driveFault s k
    | 2 => s.onDrive k fun d => { d with c3Ramp := true }
    | _ => s

/-! ### Heaters -/

def State.heater (s : State) (k : Nat) : Heater := s.house.heaters.getD k {}

/-- Changes a heater output. -/
def State.onHeater (s : State) (k : Nat) (f : Heater → Heater) : State :=
  { s with house := { s.house with heaters := s.house.heaters.modify k f } }

/-- Every heater output off under C4 (R254), and every type 7 slot's output 0 (R197). -/
def heatersC4 (s : State) : State :=
  let h := s.house.heaters.map fun h => { h with on := false, onUs := 0, c4Off := true }
  let sl := ((List.range 24).zip s.servo.slots).map fun e => if s.pv 0x0910 e.1 = 7 then { e.2 with out := 0 } else e.2
  { s with house := { s.house with heaters := h }, servo := { s.servo with slots := sl } }

end Sys2Proof.Machine
end

