-- ==== Sys2Proof/Machine/Raise.lean ====
section
/-!
DEFINITION. Raising and clearing a fault source (15 R308 to R320): the one shared operation through which
every event reaches fault collection, with the reaction of its class, FIRST_FAULT, the counters and the
Guestbook entry.
-/

namespace Sys2Proof.Machine

/-- A source event: source, event data, whether its condition is present, whether it was injected, and the
least class at which this raise is taken (R319; 0 elsewhere). -/
structure Raised where
  id : Nat
  data : Nat := 0
  cond : Bool := false
  injected : Bool := false
  floor : Nat := 0
  deriving DecidableEq, Repr

/-- Class at which a raise is taken (R311, R319). -/
def State.raisedClass (s : State) (r : Raised) : Nat := max (s.faultClass r.id) r.floor

/-- FIRST_FAULT after a raise at counter value t with EXPFRAC x (R315): in one fabric cycle (equal counter value) the
higher class, then the lower ID. -/
def latchFirst (f : FirstFault) (id c t x : Nat) : FirstFault :=
  if c = 0 then f
  else if !f.valid then { id := id, cls := c, valid := true, ovf := false, sameCycle := false, time := t, frac := x }
  else if f.time = t then
    if f.cls < c ∨ (f.cls = c ∧ id < f.id) then { f with id := id, cls := c, sameCycle := true, frac := x }
    else { f with sameCycle := true }
  else { f with ovf := true }

/-- A KIND 0 entry is written on the transition to active, and at most once a second after (R320). -/
def raiseLogged (s : State) (id : Nat) : Bool :=
  !(s.flt.active.getLsbD id) ||
    (match AMap.find s.flt.gbLast id with
     | some t => decide (t + secU ≤ s.time)
     | none => true)

/-- The flags, counters, FIRST_FAULT and Guestbook entry of a raise at class c (R310, R315, R320). A source already active stays
at the higher class (R312, R319). -/
def recordRaise (s : State) (r : Raised) (c : Nat) : State :=
  let f := s.flt
  let logged := raiseLogged s r.id
  let f' : Flt := { f with
    active := setBit f.active r.id true
    cond := setBit f.cond r.id (r.cond || f.cond.getLsbD r.id)
    raised := setBit f.raised r.id true
    raises := AMap.put f.raises r.id (satN 16 (AMap.get f.raises r.id 0 + 1))
    tLast := AMap.put f.tLast r.id s.time
    gbLast := if logged then AMap.put f.gbLast r.id s.time else f.gbLast
    clsNow := AMap.put f.clsNow r.id (if f.active.getLsbD r.id then max (AMap.get f.clsNow r.id 0) c else c)
    first := latchFirst f.first r.id c s.time (s.srcFrac r.id) }
  let s := { s with flt := f' }
  let s := s.count 0x0E30 0 1
  if logged then
    gbWriteAt s s.time r.id (((faultSource r.id).map (·.2)).getD 0) 0 c (s.srcFrac r.id)
      (if r.injected then r.data % 2 ^ 63 + 2 ^ 63 else r.data % 2 ^ 64)
  else s

/-- Motion, drives and drive rails under C3 (Table FLT-3). Each raise has its check, but for 0x13F (R312). -/
def reactC3 (s : State) (id : Nat) : State :=
  let s := carriageStop (layerC3 s)
  let s := (List.range 12).foldl unitStop s
  let s := (List.range 8).foldl driveC3 s
  let s := dropSlots s ((List.range 32).filter driveSlot)
  { s with flt := { s.flt with
      c3Src := setBit s.flt.c3Src id true
      checks := if id = 0x13F then s.flt.checks else s.flt.checks ++ [s.time] } }

/-- C4 (Table FLT-3, R318): as C3, axes and drives DISABLED, heaters off, job keys cleared, the Porter latch
set. -/
def reactC4 (s : State) (id : Nat) : State :=
  let s := reactC3 s id
  let s := (List.range 12).foldl unitDisable s
  let s := (List.range 8).foldl (fun s k => driveDisable s k 8) s
  let s := heatersC4 s
  { s with
    data := { s.data with keys := List.replicate 4 {} }
    flt := { s.flt with c4 := match s.flt.c4 with
      | some l => some l
      | none => some (id, s.time) } }

/-- The reaction of a class (Table FLT-3). -/
def react (s : State) (id c : Nat) : State :=
  let s := noteFault s id c
  match c with
  | 0 | 1 => s
  | 2 => layerC2 s id
  | 3 => reactC3 s id
  | _ => reactC4 s id

/-- A fault as a capture trigger (04 R106, bit 1). -/
def faultTrigger (s : State) (c : Nat) : State × Bool :=
  if s.pv 0x0533 0 ≤ c then capTrigger s 1 (lastMarker s) s.time else (s, false)

/-- First losses and missed triggers between two states, which raise 0x0A7 (05 R123) and 0x087 (04 R107). -/
def lossRaises (s t : State) : List Raised :=
  (if !(s.link.firsts.getD 0 false) && t.link.firsts.getD 0 false then [{ id := 0x0A7 }] else [])
    ++ (if !s.emon.cap.missRaised && t.emon.cap.missRaised then [{ id := 0x087 }] else [])

/-- Record, trigger and reaction of one raise; what it raises in turn is returned: 0x087 (R107), 0x0A7 for rows that its
reaction kept from firing (05 R125) and, where it ends a servo test, 0x0FD (R204). -/
def raiseOne (s : State) (r : Raised) : State × List Raised :=
  if (faultSource r.id).isNone then (s, [])
  else if !(s.mainOn || s.flt.initLow) then (s, [])
  else
    let c := s.raisedClass r
    let (s, miss) := faultTrigger (recordRaise s r c) c
    let testEnds := decide (2 ≤ c) && s.servo.test.isSome
    let loop := (s.servo.test.map (·.t.loop.toNat)).getD 0
    let t := react s r.id c
    let more := lossRaises s t
    let t := if testEnds then endTest t 2 else t
    (t, (if miss then [{ id := 0x087 }] else []) ++ more ++ (if testEnds then [{ id := 0x0FD, data := loop }] else []))

/-- Raises without a further cascade. -/
def raiseList (s : State) (rs : List Raised) : State := rs.foldl (fun s r => (raiseOne s r).1) s

/-- A source event reaches fault collection (R312). What it raises in turn may raise 0x087 once more. -/
def raiseR (s : State) (r : Raised) : State :=
  let (s, more) := raiseOne s r
  more.foldl (fun s r => let (s, m) := raiseOne s r; raiseList s m) s

/-- Raises a source with its event data; its condition is present where `cond`. -/
def raise (s : State) (id data : Nat) (cond : Bool) : State := raiseR s { id := id, data := data, cond := cond }

/-- An accepted clear of one source (R316): it is no longer active, heater and roller set-points return
(R197), and a KIND 1 entry is written. -/
def clearSource (s : State) (id : Nat) : State :=
  let f := s.flt
  let c := AMap.get f.clsNow id 0
  let s := { s with flt := { f with
    active := setBit f.active id false
    clsNow := AMap.del f.clsNow id
    c3Src := setBit f.c3Src id false } }
  let s := if 0x110 ≤ id ∧ id < 0x11A then
      { s with flt := { s.flt with drvOwn := s.flt.drvOwn.map fun o => setBit o (id - 0x110) false } }
    else s
  let s := s.count 0x0E30 1 1
  gbWriteAt s s.time id (((faultSource id).map (·.2)).getD 0) 1 c (s.srcFrac id) 0

/-- FIRST_FAULT is re-armed when no source of class C1 to C4 is left active (R315). -/
def rearmFirst (s : State) : State :=
  if s.activeAtLeast 1 then s else { s with flt := { s.flt with first := {} } }

/-- Raises what a change of state calls for (`lossRaises`). -/
def raiseLosses (s t : State) : State := (lossRaises s t).foldl raiseR t

/-- A trigger of the capture in a line period at an instant, with the 0x087 it may raise (04 R106, R107). -/
def triggerAt (s : State) (src m t : Nat) : State :=
  let (s, miss) := capTrigger s src m t
  if miss then raise s 0x087 0 false else s

/-- A trigger of the capture now. -/
def trigger (s : State) (src : Nat) : State := triggerAt s src (lastMarker s) s.time

end Sys2Proof.Machine
end

