-- ==== Sys2Proof/Machine/EncCore.lean ====
section
/-!
DEFINITION. What the encoders say of the carriage: positions in nm and velocities (08 R198, R199), the
carriage loop, and the slots that read an encoder (08 R194).
-/

namespace Sys2Proof.Machine

/-- An encoder of the block. -/
def State.enc (s : State) (k : Nat) : Encoder := s.servo.encs.getD k {}

/-- Changes an encoder. -/
def State.onEnc (s : State) (k : Nat) (f : Encoder → Encoder) : State :=
  { s with servo := { s.servo with encs := s.servo.encs.modify k f } }

/-- Position in nm of a position in 1/4096 period (R198). -/
def encNm (s : State) (k : Nat) (pos : Int) : Int :=
  let x := divr (pos * s.pv 0x0931 k) 4096000
  if s.pv 0x0932 k = 1 then -x else x

/-- Velocity over two changes in nm/s, rounded half up (R199). -/
def encRate (s : State) (k : Nat) (new old : Nat × Int) : Int :=
  let d := (new.2 - old.2) * s.pv 0x0931 k * secU
  divr (if s.pv 0x0932 k = 1 then -d else d) (4096000 * (new.1 - old.1) : Nat)

/-- Velocity of an encoder at a counter value, nm/s (R199). -/
def encVel (s : State) (k t : Nat) : Int :=
  let win := s.pv 0x0939 k * usU
  match (s.enc k).changes with
  | [] => 0
  | new :: older =>
    if 4 * win < t - new.1 then 0
    else
      match older.find? fun c => decide (c.1 + win ≤ new.1) with
      | some old => encRate s k new old
      | none => Config.velocityShort new.1 new.2

/-- Velocity over two changes in µm/s, rounded half up (R199). -/
def encRateUm (s : State) (k : Nat) (new old : Nat × Int) : Int :=
  let d := (new.2 - old.2) * s.pv 0x0931 k * secU
  divr (if s.pv 0x0932 k = 1 then -d else d) (4096000000 * (new.1 - old.1) : Nat)

/-- Velocity of an encoder at a counter value, µm/s (R199). -/
def encVelUm (s : State) (k t : Nat) : Int :=
  let win := s.pv 0x0939 k * usU
  match (s.enc k).changes with
  | [] => 0
  | new :: older =>
    if 4 * win < t - new.1 then 0
    else
      match older.find? fun c => decide (c.1 + win ≤ new.1) with
      | some old => encRateUm s k new old
      | none => divr (Config.velocityShort new.1 new.2) 1000

/-- Changes kept for the velocity: those of the longest window before the newest, and one older (R199). -/
def keepChanges (t : Nat) : List (Nat × Int) → List (Nat × Int)
  | [] => []
  | c :: cs => if c.1 + 200 * usU ≤ t then [c] else c :: keepChanges t cs

/-- The speed of an encoder after a change: at LAY.REST_SPEED or above it is not at rest before its velocity reads 0 without a
further change (R199, 02 R41). -/
def noteRest (s : State) (k t : Nat) : State :=
  let fast := decide (s.pv 0x031B 0 * 1000 ≤ (encVel s k t).natAbs)
  s.onEnc k fun e => { e with restFrom := if fast then t + 4 * s.pv 0x0939 k * usU else min e.restFrom t }

/-- An encoder's position changes at a counter value, captured on the 125 ps grid (R198, R199, 14 R295). -/
def encMove (s : State) (k t : Nat) (pos : Int) : State :=
  if pos = (s.enc k).pos then s
  else
    noteRest (s.onEnc k fun e => { e with pos := pos, changes := (onGrid t, pos) :: keepChanges (onGrid t) e.changes }) k (onGrid t)

/-- The exposure encoder, SERVO.EXP_ENC. -/
def expEnc (s : State) : Nat := s.pv 0x0940 0

/-- Carriage position in nm. -/
def carriagePos (s : State) : Int := encNm s (expEnc s) (s.enc (expEnc s)).pos

/-- Magnitude of the carriage velocity, nm/s (03 R81, 05 R121). -/
def carriageSpeed (s : State) : Nat := (encVel s (expEnc s) s.time).natAbs

/-- The rest rule of a follower: the measured speed has stayed below LAY.REST_SPEED for 1 ms without a break (02 R41). -/
def followerRest (s : State) : Bool :=
  decide (carriageSpeed s < s.pv 0x031B 0 * 1000) && decide ((s.enc (expEnc s)).restFrom + msU ≤ s.time)

/-- When the exposure encoder reached a marker position: interpolated between the two changes that bracket it (R199), else
now (log entry 63). -/
def markerInstant (s : State) (m : Int) : Nat :=
  let k := expEnc s
  let goal := markerPos s.layer.desc m
  let sg : Int := if s.layer.desc.dir = 0 then 1 else -1
  match (s.enc k).changes with
  | new :: old :: _ =>
    let a := sg * (goal - encNm s k old.2)
    let b := sg * (encNm s k new.2 - encNm s k old.2)
    if 0 < a ∧ a ≤ b then old.1 + (new.1 - old.1) * a.toNat / b.toNat else s.time
  | _ => s.time

/-- What a state does at an instant that has been found afterwards (08 R199): it carries that instant. -/
def atInstant (s : State) (t : Nat) (f : State → State) : State := { f { s with time := t } with time := s.time }

/-- Encoder a slot reads as its feedback, selector kind 3 (Table SERVO-2). -/
def slotEnc (s : State) (n : Nat) : Option Nat :=
  if s.pv 0x0914 n / 4096 = 3 then some (s.pv 0x0914 n % 256) else none

/-- The carriage loop: the enabled slot of type 2 or 4 (R191). -/
def carriageSlot (s : State) : Option Nat :=
  (List.range 24).find? fun n => (s.slot n).en && (s.pv 0x0910 n == 2 || s.pv 0x0910 n == 4)

/-- Check 8 of Table LAY-2 as far as the encoder goes: valid, referenced, incremental or sin/cos, and on a
driver read by an enabled slot of type 2 or 4 (R194). -/
def positionKnown (s : State) : Bool :=
  let e := expEnc s
  let x := s.enc e
  x.valid && x.referenced && (s.pv 0x0930 e == 1 || s.pv 0x0930 e == 2)
    && (!s.driver || (List.range 24).any fun n =>
        (s.slot n).en && (s.pv 0x0910 n == 2 || s.pv 0x0910 n == 4) && slotEnc s n == some e)

/-- A position in nm lies within the 48-bit range of the carriage loop's encoder (Table LAY-3). -/
def posInRange (s : State) (nm : Int) : Bool :=
  let x := divr (nm * 4096000) (s.pv 0x0931 (expEnc s))
  decide (-(2 ^ 47 : Int) ≤ x) && decide (x < 2 ^ 47)

end Sys2Proof.Machine
end

