-- ==== Sys2Proof/Machine/LinkCore.lean ====
section
/-!
DEFINITION. What the tile link controller does for several commands: management writes, latencies
(05 R127), and frames that were not delivered (05 R123, R124, 03 R76, 04 R91).
-/

namespace Sys2Proof.Machine

/-- Changes a tile. -/
def State.onTile (s : State) (n p : Nat) (f : Tile → Tile) : State :=
  s.onChain n fun c => { c with tiles := c.tiles.modify p f }

/-- A management request leaves; nobody waits for its response. -/
def mgmtSend (s : State) (n p : Nat) (op : Byte) (addr : Nat) (data : List Byte) : State :=
  let s := linkSend s n [.management n p op s.link.mgmtTag addr data]
  { s with link := { s.link with mgmtTag := s.link.mgmtTag + 1 } }

/-- A READ request with its length in two data bytes (log entry 33). -/
def mgmtRead (s : State) (n p addr len : Nat) : State := mgmtSend s n p 1 addr (le 2 len)

/-- A management request whose response is waited for (R119). -/
def mgmtAsk (s : State) (w : Option Waiting) (n p : Nat) (op : Byte) (addr : Nat) (data : List Byte) : State :=
  let m : Mgmt := { w := w, chain := n, pos := p, op := op, tag := s.link.mgmtTag, addr := addr, data := data }
  let s := mgmtSend s n p op addr data
  { s with link := { s.link with mgmt := s.link.mgmt ++ [m] } }

/-- A chain whose discovery has ended and whose tiles answer requests. -/
def tilesAnswer (s : State) (n : Nat) : Bool :=
  (s.chain n).ended && (chainLive (s.chain n) || (s.chain n).st == .doze || (s.chain n).st == .bringup)

/-- TELEM_US is written to every tile of a chain. -/
def sendTelem (s : State) (n : Nat) : State := mgmtSend s n 31 2 0x20C (le 2 (s.pv 0x0612 0))

/-! ### Latencies (R127) -/

/-- D_p in ps from a round trip in unit intervals of 17.86 ps, rounded half up. -/
def latencyPs (rtt turn : Nat) : Nat := divHalfUp ((rtt - turn) * 893) 100

/-- A latency is applied and written to the tile; a drift raises 0x0A6. -/
def applyLatency (s : State) (n p d : Nat) : State :=
  let old := (s.tile n p).latency
  let s := mgmtSend (s.onTile n p fun t => { t with latency := d }) n p 2 0x204 (le 4 d)
  if old ≠ 0 ∧ (s.pv 0x0613 0 < d - old ∨ s.pv 0x0613 0 < old - d) then raise s 0x0A6 0 false else s

/-- The round trip of tile p is measured: LOOPBACK is sent to it, its turnaround is known. -/
def measureTile (s : State) (n p rtt : Nat) : State :=
  applyLatency (mgmtSend s n p 4 0 []) n p (latencyPs rtt ((s.tile n p).u 0x68 2))

/-- Latencies of the tiles of a chain from a list of round trips; what is left of the list is returned. -/
def measureChain (s : State) (n : Nat) (rtt : List Nat) : State × List Nat :=
  (List.range (s.chain n).tiles.length).foldl (fun acc p =>
    match acc.2 with
    | [] => acc
    | r :: rest => (measureTile acc.1 n p r, rest)) (s, rtt)

/-- Latencies of every chain that carries frames, chain by chain. -/
def measureAll (s : State) (rtt : List Nat) : State :=
  ((List.range 4).foldl (fun acc n =>
    if chainLive (acc.1.chain n) then measureChain acc.1 n acc.2 else acc) (s, rtt)).1

/-! ### Frames that were not delivered -/

/-- First-in-layer raise of a list of flags. -/
def linkFirst (s : State) (k id data : Nat) : State :=
  if s.link.firsts.getD k false then s
  else raise { s with link := { s.link with firsts := s.link.firsts.set k true } } id data false

/-- The pulse frame of row r of lane n in period m was not delivered (R123), with what its loss raises. -/
def loseFrame (s : State) (m n r : Nat) : State := raiseLosses s (loseRow s m n r)

/-- Every frame of a tile in a period is lost. -/
def loseTile (s : State) (m n p : Nat) : State :=
  (List.range 16).foldl (fun s i => loseFrame s m n (16 * p + i)) s

/-- The words of faulty cells in a period are returned as undelivered (R138). No frame is counted lost. -/
def loseCells (s : State) (m n p : Nat) (cells : List (Nat × Nat)) : State :=
  match buildOf s m with
  | none => s
  | some b =>
    let bad := fun (r c : Nat) => cells.any fun x => r == 16 * p + x.1 && c == 256 * n + x.2
    let ws := (b.rows.filter fun x => x.lane == n).flatMap fun x => x.words.filter fun w => bad x.row w.col
    let s := returnWords s ws
    onBuild s m fun b => { b with rows := b.rows.map fun x =>
      if x.lane == n then { x with words := x.words.filter fun w => !(bad x.row w.col) } else x }

/-- The first position of a chain that frames no longer reach: that of its first lost tile (R140). -/
def deadFrom (c : Chain) : Nat := c.tiles.findIdx (·.lost)

/-- Frames can be sent to a tile: its chain carries frames, and neither it nor a tile before it is lost (R124, R140). -/
def tileReached (s : State) (n p : Nat) : Bool := chainLive (s.chain n) && decide (p < deadFrom (s.chain n))

/-- The tiles that frames do not reach now. -/
def tilesUnreached (s : State) : List (Nat × Nat) :=
  (List.range 4).flatMap fun n => ((List.range (s.chain n).tiles.length).filter fun p => !(tileReached s n p)).map fun p => (n, p)

/-- The frames of a period were not sent to a tile. -/
def unsentTo (s : State) (m n p : Nat) : Bool := ((buildOf s m).map fun b => b.unsent.contains (n, p)).getD false

/-- What period m loses as it begins: the rows of the tiles to which its frames, or its sync frame, were not sent (R124,
R140), and the cells reported faulty (R138). -/
def beginLosses (s : State) (m : Nat) : State :=
  (List.range 4).foldl (fun s n =>
    let c := s.chain n
    (List.range c.tiles.length).foldl (fun s p =>
      if !(chainLive c) || unsentTo s m n p then loseTile s m n p
      else loseCells s m n p (((s.tile n p).cellFaults).map fun f => (f.1, f.2.1))) s) s

end Sys2Proof.Machine
end

