-- ==== Sys2Proof/Machine/BuildCore.lean ====
section
/-!
DEFINITION. The build of a line period (03 R63 to R83) and the frames it hands to the tiles (05 R120).
-/

namespace Sys2Proof.Machine

/-! ### One pulse word (R79) -/

/-- What R79 makes of the energy owed by a pixel at a row. `cut` is deficit, `capped` counts CAP_HITS. -/
structure Pulse where
  word : Nat
  wid : Nat
  rate : Nat
  carry : Nat
  cut : Nat
  capped : Bool
  deriving DecidableEq, Repr

/-- Lowest level with a rate at which the energy fits under the width limit. -/
def levelFor (rates : List Nat) (e wmax : Nat) : Option Nat :=
  (List.range 4).find? fun l => rates.getD l 0 != 0 && decide (e / rates.getD l 0 ≤ wmax)

/-- Width limit: the share of the marker interval, at most 16 383 ns, less the turn-on time. -/
def widthMax (tPrev duty ton : Nat) : Nat := min 16383 (tPrev * duty / 100) - ton

/-- The conversion of R79. -/
def convert (e : Nat) (rates : List Nat) (wmax ton minW : Nat) (last : Bool) : Pulse :=
  let l := levelFor rates e wmax
  let lvl := l.getD 3
  let rate := rates.getD lvl 0
  let fit := if l.isNone then wmax else e / rate
  let half := decide (minW * rate ≤ 2 * e)
  let wid := if fit < minW then (if last && half && decide (minW ≤ wmax) then minW else 0) else fit
  let left := e - wid * rate
  let short := last && (l.isNone || (wid == 0 && half))
  { word := if wid = 0 then 0 else lvl * 16384 + (wid + ton)
    wid := wid
    rate := rate
    carry := if last then 0 else min (toC left) 0xFFFFFF
    cut := if short then left else 0
    capped := short }

/-! ### Inputs of a build -/

/-- A live calibration entry in the active buffer (Table DOSE-3). -/
def calEntry (s : State) (r c : Nat) : Nat :=
  s.peek ((if s.dose.calBuf then 0x0860000 else 0x0740000) + 4 * (r * 1024 + c)) 4

/-- Rates of a cell at the four levels (R78). -/
def cellRates (s : State) (n r entry : Nat) : List Nat :=
  (List.range 4).map fun l => (entry % 65536) * (s.tile n (r / 16)).gain l / 16384

/-- Delay of a row, or none where R83 skips it (R81). -/
def rowDelay (dist pitch v : Nat) : Option Nat :=
  let ph := dist % pitch
  if ph = 0 then some 0
  else if v = 0 then none
  else
    let dq := (ph * 4000000000 + v / 2) / v
    if 0xFFFF < dq then none else some dq

/-- Per-layer dose counters saturate (R84). -/
def doseCount (s : State) (sub n : Nat) : State := s.pput 0x041C sub (min (s.pv 0x041C sub + n) 0xFFFFFFFF)

/-! ### Building -/

/-- A build in progress: the state, the carries overwritten, the deficits to come and the first-in-layer
faults met, newest first. -/
structure BuildAcc where
  s : State
  undo : List (Nat × Nat) := []
  defs : List (Nat × Nat × Nat × Bool) := []
  faults : List Nat := []

/-- A first-in-layer fault of the synthesiser is met (R84); it is raised when the build is whole. -/
def BuildAcc.first (a : BuildAcc) (k id : Nat) : BuildAcc :=
  if a.s.dose.firsts.getD k false then a
  else { a with
    s := { a.s with dose := { a.s.dose with firsts := a.s.dose.firsts.set k true } }
    faults := id :: a.faults }

/-- A dose counter of a build. -/
def BuildAcc.tally (a : BuildAcc) (sub : Nat) : BuildAcc := { a with s := doseCount a.s sub 1 }

/-- One cell with energy owed: its word, what stays in carry, what becomes deficit (R76, R79, R80). -/
def buildCell (a : BuildAcc) (n r c k e v : Nat) (delay : Option Nat) (last : Bool) (tPrev : Nat) :
    BuildAcc × Option WordRec :=
  let s := a.s
  let entry := calEntry s r c
  let ce := carryEntry s.dose.carryGroup k c
  let undo := (ce, v) :: a.undo
  let bad := entry.testBit 25 || entry % 65536 == 0
  if bad || delay.isNone then
    let a := { a with
      s := { s with mem := carrySet s.mem ce (if last then 0 else toC e) }
      undo := undo
      defs := if last then (k, c, e, false) :: a.defs else a.defs }
    (if bad then (a.tally 3).first 1 0x04A else a, none)
  else
    let ton := (entry / 65536 % 256 + 2) / 4
    let p := convert e (cellRates s n r entry) (widthMax tPrev (s.pv 0x0414 0) ton) ton (s.pv 0x0413 0) last
    let a := { a with
      s := { s with mem := carrySet s.mem ce p.carry }
      undo := undo
      defs := if p.cut = 0 && !p.capped then a.defs else (k, c, p.cut, p.capped) :: a.defs }
    let a := if p.word ≠ 0 ∧ entry.testBit 26 then (a.tally 4).first 2 0x04B else a
    let a := if p.capped then (a.tally 1).first 3 0x04C else a
    (a, if p.word = 0 then none
      else some { col := c, line := k, word := BitVec.ofNat 16 p.word, rate := p.rate, wid := p.wid, last := last })

/-- One column of a row of period m: the pixel of line m − q, if its line is there (R63, R73). -/
def buildPixel (a : BuildAcc) (m n r c q : Nat) (delay : Option Nat) (tPrev : Nat) : BuildAcc × Option WordRec :=
  let s := a.s
  let w := weight s.mem c r
  let k := m - q
  if w = 0 || decide (m < q) || decide (s.layer.desc.lineCount.toNat ≤ k) || !(lineComplete s.dose k) then (a, none)
  else
    let sums := weightSums s.mem s.rev c
    let v := carryGet s.mem (carryEntry s.dose.carryGroup k c)
    let e := rowShare (doseU s k c) (leadShare (s.pv 0x0410 0) sums) (pixelFactor s k c sums) w sums
      (inLead (s.pv 0x0411 0) s.rev r) + 256 * v
    if e = 0 then (a, none)
    else buildCell a n r c k e v delay (lastRow (weights s.mem c) (s.dose.dist.getD n []) == some r) tPrev

/-- One row of period m on lane n (R63, R83): its words and delay. -/
def buildRow (a : BuildAcc) (m n r v tPrev : Nat) : BuildAcc × RowBuild :=
  let dist := (a.s.dose.dist.getD n []).getD r 0
  let pitch := a.s.layer.desc.pitch.toNat
  let delay := rowDelay dist pitch v
  let a := if delay.isNone && rowScheduled a.s.mem n r then (a.tally 0).first 0 0x049 else a
  let out := (List.range 256).foldl (fun acc x =>
    let b := buildPixel acc.1 m n r (256 * n + x) (rowQ dist pitch) delay tPrev
    (b.1, match b.2 with
      | some w => w :: acc.2
      | none => acc.2)) (a, ([] : List WordRec))
  (out.1, { lane := n, row := r, delay := delay.getD (Config.skippedDelay m (288 * n + r) % 65536), words := out.2.reverse
            mask := !out.2.isEmpty })

/-- The last measured marker interval in whole ns, rounded half up as in the worked example of R80; before there is
one, the pitch at the latched speed (log entry 11). -/
def lastInterval (s : State) (v : Nat) : Nat :=
  match s.dose.markerTimes with
  | a :: b :: _ => divHalfUp (a - b) 256
  | _ => if v = 0 then 0 else divHalfUp (s.layer.desc.pitch.toNat * 1000000000) v

/-! ### Trim factors fixed (R74) -/

/-- q of pass-order row k on lane n. -/
def passQ (s : State) (n k : Nat) : Nat :=
  rowQ ((s.dose.dist.getD n []).getD (passRow s.rev k) 0) s.layer.desc.pitch.toNat

/-- A group's factor becomes fixed; a clamp is counted once. -/
def fixGroup (s : State) (key : Nat) : State :=
  let g := s.group key
  let f := match g.factor with
    | some (f, _) => if g.dead then 0x4000 else f
    | none => 0x4000
  let x := min (max f (trimLo s)) (trimHi s)
  let s := s.onGroup key fun g => { g with fixed := some (if g.factor.isNone || g.dead then 0x4000 else x) }
  if (g.factor.isSome && !g.dead) && x != f then doseCount s 2 1 else s

/-- Fixes the factors of the groups whose first line enters the trim zone in period m. -/
def fixFactors (s : State) (m : Nat) : State :=
  (List.range 4).foldl (fun s n =>
    let q := passQ s n (s.pv 0x0411 0)
    if serves (s.chain n) && decide (q ≤ m) && (m - q) % s.emon.gl == 0
        && decide (m - q < s.layer.desc.lineCount.toNat) then
      (List.range 128).foldl (fun s t => fixGroup s (((m - q) / s.emon.gl) * 512 + 128 * n + t)) s
    else s) s

/-- The carries of a new line group start at 0 (R66). -/
def clearCarries (s : State) (m : Nat) : State :=
  let g := s.dose.carryGroup
  if m % g = 0 ∧ m < s.layer.desc.lineCount.toNat then
    { s with mem := memClear s.mem (carryAt (carryEntry g m 0)) 3072 }
  else s

/-! ### Handing over (R120) -/

/-- ROW_MASK of a tile. -/
def rowMask (rows : List RowBuild) : Nat := (rows.map fun x => if x.mask then 2 ^ (x.row % 16) else 0).sum

/-- The row command of a tile in a period. -/
def rowCommandOf (s : State) (b : PeriodBuild) (n p : Nat) : Out :=
  let rows := b.rows.filter fun x => x.lane == n && x.row / 16 == p
  .rowCommand n p b.m (BitVec.ofNat 16 (rowMask rows)) (BitVec.ofNat 16 (bitN s.rev + 2 * bitN s.layer.repair)) (rows.map (·.delay))

/-- The pulse frames of a tile in a period, one for each row with words. -/
def pulsesOf (b : PeriodBuild) (n p : Nat) : List Out :=
  (b.rows.filter fun x => x.lane == n && x.row / 16 == p && x.mask).map fun x =>
    .pulse n p (x.row % 16) b.m (x.words.map fun w => (w.col % 256, w.word))

/-- The frames of a chain in a period: a row command to every tile that frames reach, then their pulse frames (R120). -/
def chainFrames (s : State) (b : PeriodBuild) (n : Nat) : List Out :=
  let ps := (List.range (s.chain n).tiles.length).filter (tileReached s n)
  ps.map (rowCommandOf s b n) ++ ps.flatMap (pulsesOf b n)

/-- Sends a period's frames on every chain that carries frames. -/
def sendFrames (s : State) (b : PeriodBuild) : State :=
  (List.range 4).foldl (fun s n => linkSend s n (chainFrames s b n)) s

/-- The build of period m (Table DOSE-1), begun at marker m − 1. -/
def buildPeriod (s : State) (m : Nat) : State :=
  let v := carriageSpeed s
  let tPrev := lastInterval s v
  let s := clearCarries s m
  let s := addJoins (addReturned s m) m
  let s := fixFactors s m
  let lanes := (List.range 4).filter fun n => serves (s.chain n)
  let out := lanes.foldl (fun acc n =>
    (List.range 288).foldl (fun acc r =>
      let x := buildRow acc.1 m n r v tPrev
      (x.1, x.2 :: acc.2)) acc) (({ s := s } : BuildAcc), ([] : List RowBuild))
  let b : PeriodBuild := { m := m, v := v, tPrev := tPrev, rows := out.2.reverse, undo := out.1.undo, defs := out.1.defs.reverse,
                            unsent := tilesUnreached out.1.s, calBuf := s.dose.calBuf }
  let s := out.1.s
  let s := sendFrames { s with dose := { s.dose with builds := b :: s.dose.builds } } b
  out.1.faults.reverse.foldl (fun s id => raise s id 0 false) s

/-- The deficits of a period's build pass to the monitor as the period begins (R80, 04 R97). -/
def beginDeficits (s : State) (m : Nat) : State :=
  match buildOf s m with
  | none => s
  | some b =>
    let s := b.defs.foldl (fun s d =>
      let s := s.addDeficit d.1 d.2.1 d.2.2.1
      if d.2.2.2 then s.flagGroup (groupKey s d.1 d.2.1) 0x40 else s) s
    onBuild s m fun b => { b with defs := [] }

end Sys2Proof.Machine
end

