-- ==== Sys2Proof/Machine/MonitorCore.lean ====
section
/-!
DEFINITION. What the emission monitor does at a marker: attribution (04 R89 to R91), factors (R92 to R95),
map rows (R99 to R101), the learned response (R96), line records and the capture (R103 to R108).
-/

namespace Sys2Proof.Machine

/-- First-in-layer raise of the monitor (R110). -/
def emonFirst (s : State) (k id : Nat) : State :=
  if s.emon.firsts.getD k false then s
  else raise { s with emon := { s.emon with firsts := s.emon.firsts.set k true } } id 0 false

/-! ### Attribution (R89 to R91) -/

/-- Planned energy of a cell in a built period, unit C. -/
def plannedC (b : PeriodBuild) (n r c : Nat) : Nat :=
  match (b.rows.find? fun x => x.lane == n && x.row == r).bind fun x => x.words.find? fun w => w.col == c with
  | some w => toC (w.wid * w.rate)
  | none => 0

/-- The four cells of photodiode (n, i, t): row and column (R87). -/
def pdCells (n i t : Nat) : List (Nat × Nat) :=
  let c := 256 * n + 2 * t
  [(2 * i, c), (2 * i, c + 1), (2 * i + 1, c), (2 * i + 1, c + 1)]

/-- A row is in the sense zone (R92). -/
def inSense (s : State) (r : Nat) : Bool :=
  let k := if s.rev then 287 - r else r
  decide (s.pv 0x0510 0 ≤ k) && decide (k < s.pv 0x0510 0 + s.pv 0x0511 0)

/-- The line that row r of lane n serves in period p, if it is a line of the layer. -/
def servedLine (s : State) (p n r : Nat) : Option Nat :=
  let q := rowQ ((s.dose.dist.getD n []).getD r 0) s.layer.desc.pitch.toNat
  if q ≤ p ∧ p - q < s.layer.desc.lineCount.toNat then some (p - q) else none

/-- Adds one cell's part of a sample to its group. -/
def creditCell (s : State) (k c r e p pt : Nat) : State :=
  let share := e * p / pt
  s.onGroup (groupKey s k c) fun g =>
    if g.dead then g
    else if inSense s r then
      { g with sumM := g.sumM + share, sumP := g.sumP + p, senseM := g.senseM + share, senseP := g.senseP + p }
    else { g with sumM := g.sumM + share, sumP := g.sumP + p }

/-- A missing sample marks the groups its cells served (R91). -/
def sampleMissing (s : State) (p n i t : Nat) : State :=
  let s := (pdCells n i t).foldl (fun s x =>
    match servedLine s p n x.1 with
    | some k => s.flagGroup (groupKey s k x.2) 0x80
    | none => s) s
  emonFirst s 0 0x081

/-- Attribution of one photodiode's sample of a built period (R89). -/
def attributePd (s : State) (b : PeriodBuild) (n i t : Nat) : State :=
  let (dark, scale) := pdEntry s n i t
  match sampleOf s b.m n i t with
  | none => sampleMissing s b.m n i t
  | some raw =>
    let s := if raw = 4095 then trigger (emonFirst s 2 0x083) 4 else s
    let e := (raw - dark) * scale * 4
    let cells := (pdCells n i t).map fun x => (x.1, x.2, plannedC b n x.1 x.2)
    let pt := (cells.map (·.2.2)).sum
    if pt = 0 then s
    else cells.foldl (fun s x =>
      match servedLine s b.m n x.1 with
      | some k => if x.2.2 = 0 then s else creditCell s k x.2.1 x.1 e x.2.2 pt
      | none => s) s

/-- Attribution of a period over the photodiodes of the usable tiles (R89). -/
def attributePeriod (s : State) (p : Nat) : State :=
  match buildOf s p with
  | none => s
  | some b =>
    (List.range 4).foldl (fun s n =>
      (List.range 144).foldl (fun s i =>
        if (s.tile n (i / 8)).usable then (List.range 128).foldl (fun s t => attributePd s b n i t) s else s) s) s

/-- Builds and samples of a period that has been attributed are dropped. -/
def forgetPeriod (s : State) (p : Nat) : State :=
  { s with
    dose := { s.dose with builds := s.dose.builds.filter fun b => decide (p < b.m) }
    emon := { s.emon with samples := AMap.keep s.emon.samples fun k => decide (p < k / 72) } }

/-! ### Factors (R93 to R95) -/

/-- η of R94. -/
def etaOf (senseM senseP gain : Nat) : Nat := min (max ((senseM * gain + senseP / 2) / senseP) 1) 0xFFFF

/-- f of R94 from η, the lead share and the loop gain. -/
def factorOf (eta ls gain : Nat) : Nat :=
  let num : Int := 1638400 - (eta * ls : Nat)
  let den := eta * (100 - ls)
  let fi : Int := if num ≤ 0 then 0 else ((num.toNat * 16384 + den / 2) / den : Nat)
  let f := 16384 + ((fi - 16384) * gain).tdiv 256
  (min (max f 1) 0xFFFF).toNat

/-- Publishes the factor of one group, with its faults and triggers (R94, R95). -/
def publishGroup (s : State) (key : Nat) : State :=
  let g := s.group key
  if !s.emon.trimActive || decide (g.senseP < s.pv 0x0515 0 * 256) || g.dead then s
  else
    let eta := etaOf g.senseM g.senseP (gainOf s (key % 512))
    let f := factorOf eta (s.pv 0x0410 0) (s.pv 0x0514 0)
    let s := s.onGroup key fun g => { g with factor := some (f, eta) }
    let s := if clampsFactor s f then trigger s 2 else s
    if eta < s.pv 0x051A 0 ∨ s.pv 0x051A 1 < eta then trigger (emonFirst s 1 0x082) 3 else s

/-- Last line of a group row. -/
def lastLine (s : State) (h : Nat) : Nat := min ((h + 1) * s.emon.gl) s.layer.desc.lineCount.toNat - 1

/-- Publishes the factors due at marker m: group rows whose last line was served by the last sense row of
the lane in period m − 2 (R93). -/
def publishFactors (s : State) (m : Nat) : State :=
  (List.range 4).foldl (fun s n =>
    let q := passQ s n (s.pv 0x0510 0 + s.pv 0x0511 0 - 1)
    if serves (s.chain n) then
      ((List.range (groupRows s)).filter fun h => lastLine s h + q + 2 == m).foldl (fun s h =>
        (List.range 128).foldl (fun s t => publishGroup s (h * 512 + 128 * n + t)) s) s
    else s) s

/-- TRIM_ACTIVE at arming (R92). -/
def trimCondition (s : State) : Bool :=
  let lanes := (List.range 4).filter fun n => serves (s.chain n)
  let sl := lanes.map fun n => passQ s n (s.pv 0x0510 0 + s.pv 0x0511 0 - 1)
  let tb := lanes.map fun n => passQ s n (s.pv 0x0411 0)
  s.pv 0x0516 0 == 1 && decide (s.pv 0x0510 0 + s.pv 0x0511 0 ≤ s.pv 0x0411 0) && !lanes.isEmpty
    && decide (sl.foldl max 0 + s.emon.gl + 2 ≤ tb.foldl min 0xFFFFFFFF)

/-! ### Map rows (R99 to R101) -/

/-- A row's groups reach Keeper's repair list; overflow and a lost row raise 0x085 (R100). A repair pass
is followed by none, so its groups do not enter the list. -/
def postDeficits (s : State) (gs : List (Nat × Nat × Nat)) : State :=
  if gs.isEmpty then s
  else if !s.keep.running then
    raise { s with emon := { s.emon with listLost := true } } 0x085 0 false
  else if s.layer.repair then s
  else
    let room := 131072 - s.emon.repairList.length
    let s := { s with emon := { s.emon with repairList := s.emon.repairList ++ gs.take room } }
    if room < gs.length then raise { s with emon := { s.emon with listLost := true } } 0x085 0 false else s

/-- Closes the next map row. -/
def closeNext (s : State) : State :=
  let (s, gs) := closeRow s s.emon.rowsWritten
  postDeficits s gs

/-- The rows this pass writes: all of them, or up to the last row held in the ring after a stop (R101). -/
def rowsToWrite (s : State) : Nat := min (s.emon.rowsEnd.getD (groupRows s)) (groupRows s)

/-- Closes the rows due at marker m, at most `fuel` of them (R101). -/
def closeDue (s : State) (m : Nat) : Nat → State
  | 0 => s
  | fuel + 1 =>
    if s.emon.rowsWritten < rowsToWrite s ∧ lastLine s s.emon.rowsWritten + qLast s + 2 ≤ m then
      closeDue (closeNext s) m fuel
    else s

/-- The monitor's work at marker m for period m − 2. -/
def monitorMarker (s : State) (m : Nat) : State :=
  if m < 2 then s
  else closeDue (publishFactors (attributePeriod s (m - 2)) m) m (groupRows s)

/-- What is still to be attributed and written once the carriage is at rest (R101, Table LAY-1). -/
def drainPass (s : State) : State :=
  let last := (s.dose.builds.map (·.m)).foldl max (s.layer.marker.getD 0)
  let from1 := s.layer.marker.getD 0 + 1
  let s := ((List.range (last + 3)).filter fun m => decide (from1 ≤ m)).foldl (fun s m =>
    if m < 2 then s else publishFactors (attributePeriod s (m - 2)) m) s
  let s := (List.range (rowsToWrite s - s.emon.rowsWritten)).foldl (fun s _ => closeNext s) s
  { s with dose := { s.dose with builds := [], returned := [], joins := [] }, emon := { s.emon with samples := [] } }

/-! ### The learned response (R96) -/

/-- Learned value of a column pair after an update, and whether it was clamped. -/
def learnValue (s : State) (g sum count : Nat) : Nat × Bool :=
  let t : Int := ((g * 16384 * count : Nat) : Int) - (g * sum : Nat)
  let x : Int := g + (t * s.pv 0x0518 0).tdiv (256 * sum : Nat)
  let rg := s.pv 0x0513 0
  let lo := rg * (100 - s.pv 0x0519 0) / 100
  let hi := rg * (100 + s.pv 0x0519 0) / 100
  let y := (clampI x lo hi).toNat
  (y, x != y)

/-- Keeper updates the learned table after a COMMIT that calls for it; a clamp raises 0x088. -/
def learnUpdate (s : State) : State :=
  if !s.emon.learnDue then s
  else
    let s := { s with emon := { s.emon with learnDue := false } }
    let r := s.emon.etaSums.foldl (fun (acc : State × Bool) e =>
      let v := learnValue acc.1 (acc.1.peek (learnAt e.1) 2) e.2.1 e.2.2
      (acc.1.poke (learnAt e.1) (le 2 v.1), acc.2 || v.2)) (s, false)
    if r.2 then raise r.1 0x088 0 false else r.1

/-- The learned table is set to RESP_GAIN (R96). -/
def learnReset (s : State) : State :=
  (List.range 512).foldl (fun s j => s.poke (learnAt j) (le 2 (s.pv 0x0513 0))) s

/-! ### Line records (R103 to R108) -/

/-- The raw stream's record of period p (R103, R104). -/
def streamRecord (s : State) (b : PeriodBuild) (noBuffer : Bool) : State :=
  if !s.emon.streaming || b.m % s.pv 0x0520 1 != 0 then s
  else if noBuffer then emonFirst (s.count 0x0542 0 1) 3 0x086
  else make s 3 b.m (lineRecord s b.m b.t 1)

/-- Writes a record into the capture ring (R105). -/
def capWrite (s : State) (b : PeriodBuild) : State :=
  let c := s.emon.cap
  let s := s.poke (capBase + 64 + c.next * recordLen s 0) (lineRecord s b.m b.t 0)
  { s with emon := { s.emon with cap := { c with next := (c.next + 1) % capRing s } } }

/-- The capture's record of period p (Table EMON-5). -/
def capRecord (s : State) (b : PeriodBuild) : State :=
  let c := s.emon.cap
  if b.m % s.pv 0x0520 0 != 0 || decide (b.m < c.since) then s
  else
    match c.st with
    | .filling =>
      let s := capWrite s b
      { s with emon := { s.emon with cap := { s.emon.cap with pre := min (c.pre + 1) (s.pv 0x0530 0) } } }
    | .triggered =>
      let s := capWrite s b
      if b.m < c.trigMarker then
        let n := min (c.pre + 1) (s.pv 0x0530 0)
        { s with emon := { s.emon with cap := { s.emon.cap with pre := n, preValid := n } } }
      else
        let s := { s with emon := { s.emon with cap := { s.emon.cap with post := c.post + 1 } } }
        if c.post + 1 = s.pv 0x0531 0 then capDone s 0 else s
    | _ => s

/-- The records of a period of EXPOSE, at marker p + 2. -/
def lineRecords (s : State) (p : Nat) (noBuffer : Bool) : State :=
  match buildOf s p with
  | none => s
  | some b => capRecord (streamRecord s b noBuffer) b

end Sys2Proof.Machine
end

