-- ==== Sys2Proof/Machine/Arming.lean ====
section
/-!
DEFINITION. Arming a pass (02 R36, R37, R43, R44; 03 R61 to R68; 04 R88, R92), starting it (R38, R194) and
closing it with or without a repair pass.
-/

namespace Sys2Proof.Machine

/-! ### Checks of Table LAY-2 -/

/-- Check 4: the fields of Table LAY-3. -/
def descOk (s : State) (d : LayerDesc) : Bool :=
  let run := fun (x : U32) => decide (1000 ≤ x.toNat) && decide (x.toNat ≤ 1000000)
  decide (1 ≤ d.lineCount.toNat) && decide (d.lineCount.toNat ≤ 1048575)
    && decide (d.dir.toNat ≤ 1) && decide (d.startSrc.toNat ≤ 2)
    && decide (5000 ≤ d.pitch.toNat) && decide (d.pitch.toNat ≤ 200000)
    && posInRange s (ofField 64 d.firstPos.toNat)
    && decide (1000 ≤ d.speed.toNat) && decide (d.speed.toNat ≤ 12000000)
    && (!s.driver || (run d.runUp && run d.runOut))

/-- Rail slots that power a tile position of a chain (05 R134). -/
def chainRailsGood (s : State) (n : Nat) : Bool := (chainSlots n).all fun k => (s.rail k).st == .good

/-- Check 7: every tile with a scheduled row is served. -/
def tilesReady (s : State) (repair : Bool) : Bool :=
  (List.range 4).all fun n => (List.range 18).all fun p =>
    !(tileScheduled s repair n p)
      || (((s.tile n p).usable && (s.tile n p).lsw && !(s.tile n p).lost) && chainRailsGood s n
        && (match (s.chain n).st with
          | .up | .doze | .reserve => true
          | _ => false))

/-- Line rate of a descriptor, rounded up (check 9). -/
def lineRate (d : LayerDesc) : Nat := divCeil (d.speed.toNat * 1000) d.pitch.toNat

/-- The self-test found the synthesiser, the monitor or the link controller faulty (18 Table BIST-3). -/
def partFailed (s : State) : Bool := s.bist.failed.getLsbD 55 || s.bist.failed.getLsbD 56 || s.bist.failed.getLsbD 57

/-- Checks 6 to 9, which a repair pass meets again (R44). -/
def readyChecks (s : State) (d : LayerDesc) (repair : Bool) : U16 :=
  if s.activeAtLeast 2 || s.flt.inForce then 0x0008
  else if !(tilesReady s repair) || partFailed s then 0x0302
  else if !(s.expLocked && positionKnown s) then 0x0303
  else if s.armRate < lineRate d then 0x0301
  else 0

/-- Keeper is in load deferral for more than 1 s (check 3). -/
def deferLong (s : State) : Bool :=
  match s.keep.deferAt with
  | some t => decide (t + secU < s.time)
  | none => false

/-- Checks 2 to 9 of Table LAY-2; 0 when every one passes. -/
def armChecks (s : State) (d : LayerDesc) : U16 :=
  if s.layer.st ≠ .idle then 0x0006
  else if !s.keep.running || deferLong s then 0x0002
  else if !(descOk s d) then 0x0007
  else if !(serialLater d.layerNo s.layer.lastCommitted) then 0x0304
  else readyChecks s d false

/-! ### Entry to ARMED -/

/-- Writes the weights of a column record with its derived fields (R67). -/
def writeBillet (s : State) (c : Nat) (ws : List Byte) : State :=
  s.poke (billetAt c) (billetRecord ws (s.pv 0x0411 0))

/-- Held billet changes are applied; every record is recomputed when the boundary has changed since the last arming, and
those written since under whatever boundary was then set (R68). -/
def applyBillet (s : State) : State :=
  let b := s.pv 0x0411 0
  let stale := if s.dose.lastBoundary.getD 192 = b then s.dose.touched else List.range 1024
  let s' := stale.foldl (fun s c => writeBillet s c (memBytes s.mem (billetAt c) 288)) s
  let s' := s.dose.billetHeld.foldl (fun s e => writeBillet s e.1 e.2) s'
  { s' with dose := { s'.dose with billetHeld := [], touched := [], lastBoundary := some b } }

/-- BILLET_VERSION as armed: a repair pass keeps the map of its main pass (R43, Table LAY-7). -/
def armedVersion (s : State) (repair : Bool) : U16 := if repair then s.layer.record.billetVersion else s.dose.billetVersion

/-- The sequencer's part: descriptor frozen, a new record (R34, R55). -/
def armSequencer (s : State) (d : LayerDesc) (repair : Bool) : State :=
  let r : LayRec := {
    layerNo := d.layerNo, repair := repair, dir := d.dir != 0, follower := !s.driver, lineCount := d.lineCount
    tArm := s.time, billetVersion := armedVersion s repair }
  { s.toPower .expose with
    layer := { s.layer with
      st := .armed, repair := repair, desc := d, record := r, marker := none, preMarker := false
      stopped := false, c2Wait := none, cutCause := none, abort := none, overRun := 0, missRun := 0
      skip := s.armSkip, tState := s.time, atRest := false, emitEnable := false } }

/-- The synthesiser's part: distances, N_under, carry grouping, an empty ring (R62, R64, R66, R84). -/
def armDose (s : State) : State :=
  let d := s.layer.desc
  let dist := distances s.link.chains s.rev
  let dl := dLast s.mem dist
  let n := nUnderOf d.pitch.toNat dl
  let s := { s with
    layer := { s.layer with dLast := dl, mFinal := mFinalOf d.lineCount.toNat d.pitch.toNat dl }
    dose := { s.dose with
      ring := [], dist := dist, nUnder := n, carryGroup := carryGroupOf n, builds := [], markerTimes := []
      returned := [], lines := [], passed := 0, joins := [], firsts := [false, false, false, false] } }
  (List.range 5).foldl (fun s k => s.pput 0x041C k 0) s

/-- The monitor's part: GL, TRIM_ACTIVE, an empty pass state (R88, R92, R94). No row is written unless the pass
reaches EXPOSE (R101). -/
def armMonitor (s : State) (repair : Bool) : State :=
  let gl := max (s.pv 0x0512 0) (divCeil s.dose.nUnder 15)
  let s := { s with emon := { s.emon with
    gl := gl, groups := [], samples := [], rowsWritten := 0, rowsEnd := some 0, headerSent := false, mapGaps := 0
    defGroups := 0, defTotal := 0, firsts := [false, false, false, false]
    learnArmed := s.pv 0x0517 0 == 1
    gains := if s.pv 0x0517 0 = 1 then (List.range 512).map fun j => s.peek (learnAt j) 2 else []
    repairList := if repair then s.emon.repairList else []
    repairGl := if repair then s.emon.repairGl else gl
    listLost := if repair then s.emon.listLost else false
    etaSums := if repair then s.emon.etaSums else [] } }
  { s with emon := { s.emon with trimActive := trimCondition s } }

/-- The link controller's part: the advance, a pre-training given up (05 R121, R133). -/
def armLink (s : State) : State :=
  { s with link := { s.link with
    advNm := divHalfUp (s.pv 0x0610 0 * s.layer.desc.speed.toNat) 1000000
    nextAdvance := 0, firsts := [false, false, false], pretrain := none
    tl4Sel := if s.link.pretrain.isSome then s.pv 0x0616 0 else s.link.tl4Sel } }

/-- The data engines at an arming: both inflate queues enter RESYNC and give up any inflation (07 R172, R173). -/
def armData (s : State) : State :=
  { s with data := { s.data with
    bypassFirst := false
    outSeq := (s.data.outSeq.set 0 0).set 1 0
    queues := s.data.queues.map fun q => { q with sequenced := false, lastSeq := none, cur := none } } }

/-- A carriage move in motion is ended by an arming (08 R194). -/
def armCarriage (s : State) : State :=
  let p := s.servo.prof
  let s := { s with servo := { s.servo with prof := { p with moveTo := none } } }
  if p.kind = .move ∧ profOver p s.time = false then profDecel s .none (s.pv 0x0946 1 * 1000000)
  else { s with servo := { s.servo with prof := { s.servo.prof with kind := .none } } }

/-- Records that fail R68 on entry to ARMED. -/
def billetBad (s : State) : Bool := (List.range 1024).any fun c => !(billetGood s.mem c)

/-- Entry to ARMED of a main or a repair pass (Table LAY-1, R62, R68, R92, R127). `rtt` holds the round trips
of the latency measurement. -/
def armLayer (s : State) (d : LayerDesc) (repair : Bool) (rtt : List Nat) : State :=
  let s := if repair then s else applyBillet (learnUpdate s)
  let s := armCarriage (wakeChains s)
  let s := armData (armLink (armMonitor (armDose (armSequencer s d repair)) repair))
  let s := measureAll s rtt
  let ring := decide (2047 < s.dose.nUnder)
  let billet := billetBad s
  let trim := !s.emon.trimActive
  let s := if ring then raise s 0x046 0 false else s
  let s := if billet then raise s 0x047 0 false else s
  if trim then raise s 0x080 0 false else s

/-! ### Start (R38) -/

/-- Run-up and cruise of a driver (R194): velocities nm/s, along the direction of travel. -/
def runUpSegs (s : State) : List Seg :=
  let d := s.layer.desc
  let a := rampAccel d.speed.toNat d.runUp.toNat
  let v := d.speed.toNat * 1000
  let sg : Int := if s.rev then -1 else 1
  let up : Seg := { dur := divCeil (v * secU) a, p0 := carriagePos s, v0 := 0, a := sg * a }
  [up, { dur := 1000000000000000000, p0 := (segAt up up.dur).1, v0 := sg * v, a := 0 }]

/-- The start trigger: ARMED → RUN_UP. -/
def startLayer (s : State) (short : Bool) : State :=
  let s := { s with layer := { s.layer with
    st := .runUp, tState := s.time
    record := { s.layer.record with
      tStart := s.time, linesAtStart := BitVec.ofNat 32 (ringHeld s.dose), primeShort := short } } }
  if s.driver then
    { s with servo := { s.servo with prof :=
      { profRun .layer s.time (runUpSegs s) (carriagePos s) with stop := s.servo.prof.stop } } }
  else s

/-- LAY.PRIME_LINES lines are in the dose ring. -/
def primed (s : State) : Bool := decide (s.pv 0x0315 0 ≤ ringHeld s.dose)

/-! ### COMMIT with the repair pass (R43, R44) -/

/-- Sign of the direction of travel. -/
def travel (d : LayerDesc) : Int := if d.dir = 0 then 1 else -1

/-- FIRST_POS_NM of the repair pass. -/
def repairFirst (s : State) : Int :=
  let d := s.layer.desc
  ofField 64 d.firstPos.toNat + travel d * (((d.lineCount.toNat - 1) * d.pitch.toNat + rowSpan s.link.chains : Nat) : Int)

/-- The derived descriptor. -/
def repairDesc (s : State) : LayerDesc :=
  let d := s.layer.desc
  let up := (repairFirst s - s.layer.restPos).natAbs / 1000
  { d with
    dir := if d.dir = 0 then 1 else 0
    startSrc := if s.pv 0x0318 0 = 1 then d.startSrc else 0
    firstPos := BitVec.ofInt 64 (repairFirst s)
    runOut := d.runUp
    runUp := if s.driver then BitVec.ofNat 32 up else 0 }

/-- The pass calls for a repair pass (R43, R54). -/
def repairWanted (s : State) : Bool :=
  !s.layer.repair && s.pv 0x0318 0 != 0 && closingOutcome s == 2

/-- The re-check within COMMIT (R35, R44, R100). -/
def repairOk (s : State) : Bool :=
  let d := repairDesc s
  let up := (repairFirst s - s.layer.restPos).natAbs / 1000
  s.keep.running && !s.emon.listLost && readyChecks s d true == 0
    && (!s.driver || (s.layer.atRest && decide (1000 ≤ up) && decide (up ≤ 1000000)
      && decide (0 < travel d * (repairFirst s - s.layer.restPos))))

/-- The carriage is at rest in RUN_OUT (R41, R43): what is left of the pass is attributed and its map rows are written. -/
def restReached (s : State) : State :=
  drainPass { s with layer := { s.layer with atRest := true, restPos := carriagePos s } }

/-- RUN_OUT ends: COMMIT, then IDLE or the repair pass (Table LAY-1). A carriage that never came to rest leaves the rows to
write. REPAIR_SKIPPED says that no repair pass follows where one was called for, or that its list is not whole (R44, 04
R100). -/
def finishPass (s : State) (rtt : List Nat) : State :=
  let s := if s.layer.atRest then s else drainPass s
  let want := repairWanted s
  let ok := want && repairOk s
  let d := repairDesc s
  let s := commitRecord s ((want && !ok) || s.emon.listLost)
  if ok then armLayer s d true rtt else toIdle s

end Sys2Proof.Machine
end

