-- ==== Sys2Proof/Machine/Marker.lean ====
section
/-!
DEFINITION. What happens at a line marker in each layer state (02 R31 to R54, 03 Table DOSE-1).
-/

namespace Sys2Proof.Machine

/-! ### Sampling an abort and a C2 fault (R49 to R52) -/

/-- END_CAUSE where an abort and a C2 fault are sampled together: the earlier one (log entry 16). -/
def stopCause (s : State) : Byte :=
  match abortDue s, s.layer.c2Wait with
  | some a, some f => if max a.tReq a.atTime < AMap.get s.flt.tLast f 0 then 1 else 2
  | some _, none => 1
  | none, _ => 2

/-- Line k has passed its last row without arriving (R46, R48). -/
def lineMissing (s : State) (k : Nat) : State :=
  let n := s.layer.missRun + 1
  let s := lineAbsent s k
  let s := { s with layer := { s.layer with missRun := n } }
  if s.pv 0x0316 0 = 1 ∧ n = s.pv 0x0317 0 then raise s 0x040 0 false else s

/-- The line that has passed its last row at marker m. -/
def passLine (s : State) (m : Nat) : State :=
  if qLast s + 1 ≤ m ∧ m - 1 - qLast s < s.layer.desc.lineCount.toNat then
    let k := m - 1 - qLast s
    if lineComplete s.dose k then lineDone s k else lineMissing s k
  else s

/-- Applies only while EXPOSE lasts: a fault raised on the way may have ended it. -/
def inExpose (s : State) (f : State → State) : State := if s.layer.st = .expose then f s else s

/-- Emission stops at marker m (R33): rows of the last period whose computed instant has not come are suppressed with the
enable (05 R125), and the line that has its last row among them is not full. -/
def stopAt (s : State) (m : Nat) : State :=
  let t := stopEmission s m
  match buildOf t (m - 1) with
  | none => t
  | some b =>
    let cut := (rowsAhead t b).any fun x => rowQ ((t.dose.dist.getD x.lane []).getD x.row 0) t.layer.desc.pitch.toNat == qLast t && x.mask
    let t := cutRows t (m - 1)
    if cut then { t with layer := { t.layer with record := { t.layer.record with linesFull := BitVec.ofNat 32 (linesFull t.layer (m - 1)) } } }
    else t

/-- An abort or a C2 fault is sampled at marker m of EXPOSE (R50, R52). A line whose last row fired before m passes first. -/
def sampleAt (s : State) (m : Nat) : State :=
  match s.layer.cutCause with
  | some _ =>
    let s := if (abortDue s).isSome then takeAbort s (s.layer.record.outcome == 1) else s
    enterRunOut s .runOut
  | none =>
    if (abortDue s).isNone && s.layer.c2Wait.isNone then s
    else if m < s.layer.mFinal then
      let s := markAborted s (stopCause s) (BitVec.ofNat 32 m)
      let s := { s with layer := { s.layer with record := { s.layer.record with linesFull := BitVec.ofNat 32 (linesFull s.layer m) } } }
      let s := if (abortDue s).isSome then takeAbort s true else s
      inExpose (passLine s m) fun s => enterRunOut (stopAt s m) .runOut
    else
      let s := if (abortDue s).isSome then takeAbort s false else s
      { s with layer := { s.layer with c2Wait := none } }

/-! ### Pieces of a marker -/

/-- The pre-trigger count restarts at marker 0 (Table EMON-5). -/
def capRestart (s : State) : State :=
  if s.emon.cap.st = .filling then
    { s with emon := { s.emon with cap := { s.emon.cap with pre := 0, since := 0 } } }
  else s

/-- The marker is passed: its instant (08 R199), and that of its period; STREAM_ENABLE takes effect (04 R103), the pre-trigger count
restarts at marker 0, and marker EMON.CAP_MARKER is a trigger (04 R106). -/
def passMarker (s : State) (m : Nat) : State :=
  let s := { s with
    layer := { s.layer with marker := some m }
    dose := { s.dose with markerTimes := markerInstant s m :: s.dose.markerTimes.take 1 }
    emon := { s.emon with streaming := s.pv 0x0521 0 == 1 } }
  let s := onBuild s m fun b => { b with t := markerInstant s m }
  let s := if m = 0 then capRestart s else s
  if m = s.pv 0x0534 0 then trigger s 6 else s

/-- RATE_MAX and RATE_MIN (Table LAY-7). -/
def noteRate (s : State) : State :=
  let x := satN 16 (carriageSpeed s / s.layer.desc.pitch.toNat)
  let r := s.layer.record
  let lo := if r.rateMin = 0 ∧ r.rateMax = 0 then x else min r.rateMin.toNat x
  { s with layer := { s.layer with record :=
    { r with rateMax := BitVec.ofNat 16 (max r.rateMax.toNat x), rateMin := BitVec.ofNat 16 lo } } }

/-- Over-speed: 8 consecutive markers above the limit raise 0x043 (R40). -/
def checkSpeed (s : State) : State :=
  if s.layer.desc.speed.toNat * 1000 * (100 + s.pv 0x0312 0) < carriageSpeed s * 100 then
    let n := s.layer.overRun + 1
    let s := { s with layer := { s.layer with overRun := n } }
    if n = 8 then raise s 0x043 0 false else s
  else { s with layer := { s.layer with overRun := 0 } }

/-- Next half-chain of the rotation whose chain is UP (07 R182). -/
def nextHalf (s : State) : Option Nat :=
  ((List.range 8).map fun i => (s.data.shadowNext + i) % 8).find? fun x => (s.chain (x / 2)).st == .up

/-- Where the snapshot area lies: 1 MiB of the general pool below the 64 KiB that spare rows may take (log entry 36). -/
def shadowArea : Nat := 0x1400000 + 64 * (Config.shadowSlot % ((0x3F0000 - 0x100000) / 64))

/-- The pulse words that period m's build gives a half of a chain, by row and column. -/
def halfWords (b : PeriodBuild) (n h : Nat) : List (Nat × Nat × U16) :=
  (b.rows.filter fun r => r.lane == n).flatMap fun r =>
    (r.words.filter fun w => w.col / 128 == 2 * n + h).map fun w => (r.row, w.col, w.word)

/-- What the synthesiser copies (R182), in the order in which R182 lists it: doses of the lines under the array, carries, trim
factors as the trim rows use them, calibration entries, billet records, latched velocity, T_prev, pulse words and delays (log entry 36). -/
def snapshot (s : State) (b : PeriodBuild) (n h : Nat) : List Byte :=
  let c0 := 256 * n + 128 * h
  let lines := (List.range s.dose.nUnder).filterMap fun i => if i ≤ b.m then some (b.m - i) else none
  let rows := List.range 288
  let cols := (List.range 128).map (c0 + ·)
  let words := halfWords b n h
  let before := b.undo.foldl (fun m u => carrySet m u.1 u.2) s.mem
  lines.flatMap (fun k => memBytes s.mem ((k % 2048) * 2048 + 2 * c0) 256)
    ++ rows.flatMap (fun g => cols.flatMap fun c => memBytes before (carryAt (g * 1024 + c)) 3)
    ++ ((lines.map fun k => k / s.emon.gl).eraseDups).flatMap (fun g => (List.range 64).flatMap fun t =>
        le 2 (groupFactor s (s.group (g * 512 + c0 / 2 + t))))
    ++ rows.flatMap (fun r => cols.flatMap fun c => le 4 (calEntry { s with dose := { s.dose with calBuf := b.calBuf } } r c))
    ++ cols.flatMap (fun c => memBytes s.mem (billetAt c) 512)
    ++ le 4 b.v ++ le 4 b.tPrev
    ++ rows.flatMap (fun r => cols.flatMap fun c => le 2 (((words.find? fun w => w.1 == r && w.2.1 == c).map (·.2.2.toNat)).getD 0))
    ++ rows.flatMap fun r => le 2 (((b.rows.find? fun x => x.lane == n && x.row == r).map (·.delay)).getD 0)

/-- The shadow sample of marker m (07 R182). -/
def shadowSample (s : State) (m : Nat) : State :=
  let n := s.pv 0x0814 0
  if n = 0 ∨ m = 0 ∨ m % n ≠ 0 then s
  else if s.data.shadow.isSome || s.keep.deferAt.isSome then s.count 0x0822 4 1
  else
    match nextHalf s with
    | none => s
    | some x =>
      match buildOf s m with
      | none => s
      | some b =>
        let s := (s.count 0x0822 3 1).poke shadowArea (snapshot s b (x / 2) (x % 2))
        let y : Shadow := { m := m, chain := x / 2, half := x % 2, words := halfWords b (x / 2) (x % 2) }
        { s with data := { s.data with shadow := some y, shadowNext := (x + 1) % 8 } }

/-! ### EXPOSE -/

/-- Monitor, records and capture for period m − 2 (04 R87, R101, R103, R105). -/
def markerBehind (s : State) (m : Nat) (noBuffer : Bool) : State :=
  let s := monitorMarker s m
  if m < 2 then s else forgetPeriod (lineRecords s (m - 2) noBuffer) (m - 2)

/-- Period m begins: its deficits, the shadow sample, the build of period m + 1 (Table DOSE-1), and its losses, whose energy
waits for the build of period m + 2 (05 R123). -/
def beginPeriod (s : State) (m : Nat) : State :=
  let s := shadowSample (beginDeficits s m) m
  let s := inExpose s fun s => if m + 1 ≤ s.layer.mFinal then buildPeriod s (m + 1) else s
  beginLosses s m

/-- Marker m of EXPOSE, once passed. -/
def exposeMarker (s : State) (m : Nat) (noBuffer : Bool) : State :=
  let s := markerBehind (noteRate (takeSwap s)) m noBuffer
  let s := inExpose (sampleCapStop s) fun s => sampleAt s m
  let s := inExpose s fun s => passLine s m
  let s := inExpose s fun s =>
    if m = s.layer.mFinal then
      { s with layer := { s.layer with record := { s.layer.record with tFinal := markerInstant s m } } } else s
  inExpose s fun s =>
    if m = s.layer.mFinal + 1 then enterRunOut s .runOut
    else inExpose (checkSpeed s) fun s => beginPeriod s m

/-! ### Marker 0 (R39, R40) -/

/-- T_FIRST, CAL_GENERATION and the map header at marker 0 (Table LAY-7, 04 R101). -/
def firstMarker (s : State) : State :=
  let s := { s with layer := { s.layer with record :=
    { s.layer.record with tFirst := markerInstant s 0, calGeneration := s.dose.calGen } } }
  sendHeader s (time64 (markerInstant s 0))

/-- The speed at marker 0 lies within LAY.SPEED_TOL. -/
def speedOk (s : State) : Bool :=
  let v := s.layer.desc.speed.toNat * 1000
  decide ((carriageSpeed s - v) * 100 ≤ v * s.pv 0x0311 0) && decide ((v - carriageSpeed s) * 100 ≤ v * s.pv 0x0311 0)

/-- Period 0 without a build: no row, no frame, only the marker and the samples (log entry 31). -/
def emptyPeriod (s : State) : PeriodBuild :=
  { m := 0, v := carriageSpeed s, tPrev := lastInterval s (carriageSpeed s), rows := [], t := markerInstant s 0
    unsent := (List.range 4).flatMap fun n => (List.range (s.chain n).tiles.length).map fun p => (n, p) }

/-- Marker 0 of RUN_UP: entry to EXPOSE, from which on map rows are written (04 R101). Where marker −1 was not passed in
RUN_UP, period 0 has no build: its group's carries start at 0 and line 0 joins the next build as a late line (log entry
31). -/
def runUpMarker (s : State) (noBuffer : Bool) : State :=
  let late := !s.layer.preMarker
  let s := firstMarker (takeSwap s)
  match s.layer.cutCause with
  | some c => enterRunOut (markAborted s c 0xFFFFFFFF) .runOut
  | none =>
    if speedOk s then
      let s := if late then clearCarries s 0 else s
      let s := { s with
        layer := { s.layer with st := .expose, tState := s.time }
        emon := { s.emon with rowsEnd := none }
        dose := { s.dose with
          joins := if late then 0 :: s.dose.joins else s.dose.joins
          builds := if late then emptyPeriod s :: s.dose.builds else s.dose.builds } }
      exposeMarker (emitOn s) 0 noBuffer
    else raise (enterRunOut (markAborted s 2 0xFFFFFFFF) .runOut) 0x041 0 false

/-- A follower in ARMED at marker 0 has missed the stroke (R39). -/
def strokeMissed (s : State) : State :=
  raise (enterRunOut (markAborted (firstMarker s) 2 0xFFFFFFFF) .runOut) 0x042 0 false

/-- The marker that comes next: −1 and 0 start a pass, then each follows the last. -/
def markerExpected (s : State) (m : Int) : Bool :=
  match s.layer.marker with
  | some k => m == (k : Int) + 1
  | none => m == 0 || (m == -1 && !s.layer.preMarker)

/-- Marker −1: the build of period 0 begins (03 R63). -/
def preMarker (s : State) : State :=
  let s := takeSwap { s with
    layer := { s.layer with preMarker := true }
    dose := { s.dose with markerTimes := [markerInstant s (-1)] } }
  buildPeriod s 0

/-- A marker of RUN_OUT: the slot of the line that has passed its last row is free (03 R61). -/
def runOutPass (s : State) (m : Nat) : State :=
  if qLast s + 1 ≤ m ∧ s.dose.passed ≤ m - 1 - qLast s then
    { s with dose := { freeSlot s.dose (m - 1 - qLast s) with passed := m - qLast s } }
  else s

/-- Marker m ≥ 0, once passed, by layer state: its trigger may have changed it. -/
def markerPassed (s : State) (m : Nat) (noBuffer : Bool) : State :=
  match s.layer.st with
  | .armed => strokeMissed s
  | .runUp => runUpMarker s noBuffer
  | .expose => exposeMarker s m noBuffer
  | .runOut => markerBehind (runOutPass s m) m noBuffer
  | _ => s

/-- LINE_MARKER by layer state. -/
def lineMarker (s : State) (m : Int) (noBuffer : Bool) : State :=
  if !(markerExpected s m) then s
  else
    match s.layer.st with
    | .armed => if m = 0 ∧ s.driver = false then markerPassed (passMarker s 0) 0 noBuffer else s
    | .runUp => if m = -1 then preMarker s else markerPassed (passMarker s 0) 0 noBuffer
    | .expose | .runOut => if m < 0 then s else markerPassed (passMarker s m.toNat) m.toNat noBuffer
    | _ => s

end Sys2Proof.Machine
end

