-- ==== Sys2Proof/Machine/BilletCore.lean ====
section
/-!
DEFINITION. Changes of the billet map (03 R69, R70, 16 R335).
-/

namespace Sys2Proof.Machine

/-- A physical row of a lane is present: it belongs to a usable tile (R64). -/
def rowPresent (s : State) (n r : Nat) : Bool := (s.tile n (r / 16)).usable

/-- A cell is retired in its user word (16 Table CAL-2). -/
def cellRetired (s : State) (r c : Nat) : Bool := (userWord s.cal (r * 1024 + c)).testBit 25

/-- A cell is marked retired in the live calibration table (R70). -/
def liveRetired (s : State) (r c : Nat) : Bool := (calEntry s r c).testBit 25

/-- New weights of a column: written at once in IDLE, where they take the place of a change still held, else held for the
next arming (01 R18; log entry 31). -/
def setWeights (s : State) (c : Nat) (ws : List Byte) : State :=
  if s.layer.st = .idle then
    let s := writeBillet s c ws
    { s with dose := { s.dose with billetHeld := AMap.del s.dose.billetHeld c, touched := (s.dose.touched.filter (· != c)) ++ [c] } }
  else { s with dose := { s.dose with billetHeld := AMap.put s.dose.billetHeld c ws } }

/-- One accepted change (R70). -/
def billetChanged (s : State) : State :=
  { s with dose := { s.dose with billetVersion := s.dose.billetVersion + 1 } }

/-- Present rows of a lane, ascending. -/
def presentRows (s : State) (n : Nat) : List Nat := (List.range 288).filter fun r => rowPresent s n r

/-- Reserve rows among `k` present rows: their numbers e (R69). -/
def reserveNumbers (k : Nat) : List Nat :=
  let nres := k - 256
  (List.range nres).map fun j => (2 * j + 1) * k / (2 * nres)

/-- The default weights of a lane's columns (R69). -/
def defaultWeights (s : State) (n : Nat) : List Byte :=
  let rows := presentRows s n
  let res := (reserveNumbers rows.length).map fun e => rows.getD e 0
  (List.range 288).map fun r => if rows.contains r && !(res.contains r) then 128 else 0

/-- The row nearest r with weight 0 in the column, present and not retired; the lower on a tie (R335). -/
def freeRow (s : State) (c r : Nat) (ws : List Byte) : Option Nat :=
  ((List.range 288).filter fun x =>
      x != r && ws.getD x 0 == 0 && rowPresent s (laneOf c) x && !(cellRetired s x c)).foldl
    (fun acc x =>
      match acc with
      | none => some x
      | some b => if (x - r) + (r - x) < (b - r) + (r - b) then some x else some b) none

/-- The weight of a retired cell moves to the nearest free row (R335). -/
def moveWeight (s : State) (c r : Nat) (ws : List Byte) : List Byte :=
  let w := ws.getD r 0
  if w = 0 then ws
  else
    let ws := ws.set r 0
    match freeRow s c r ws with
    | some x => ws.set x w
    | none => ws

/-- A retirement's reassignment, one change of the map (R70, R335). -/
def reassign (s : State) (r c : Nat) : State :=
  if s.pv 0x0F1A 0 = 0 || (nextWeights s c).getD r 0 == 0 then s
  else billetChanged (setWeights s c (moveWeight s c r (nextWeights s c)))

/-- The default map of a lane with the reassignment of its retired cells (R69). -/
def buildLane (s : State) (n : Nat) : State :=
  let ws := defaultWeights s n
  (List.range 256).foldl (fun s x =>
    let c := 256 * n + x
    let ws := if s.pv 0x0F1A 0 = 0 then ws
      else ((List.range 288).filter fun r => cellRetired s r c).foldl (fun ws r => moveWeight s c r ws) ws
    setWeights s c ws) s

end Sys2Proof.Machine
end

