-- ==== Sys2Proof/Machine/CalCore.lean ====
section
/-!
DEFINITION. User words, retirement and the calibration blocks of a tile (16 R324, R326, R331, R335; 05 R130).
-/

namespace Sys2Proof.Machine

/-- Sets a user word; one at its reset value is not listed. -/
def setUserWord (s : State) (cell w : Nat) : State :=
  { s with cal := { s.cal with user :=
      if w = 0x4000 then AMap.del s.cal.user cell else AMap.put s.cal.user cell w } }

/-- A cell index r × 1 024 + c. -/
def cellIndex (r c : Nat) : Nat := r * 1024 + c

/-- A tile becomes due for measurement, for more than its drift (R331). -/
def makeDue (s : State) (tile : Nat) : State :=
  let s := { s with cal := { s.cal with drift := setBit s.cal.drift tile false } }
  if s.cal.due.getLsbD tile then s
  else { s with cal := { s.cal with
    due := setBit s.cal.due tile true
    dueSince := AMap.put s.cal.dueSince tile s.time
    warned := setBit s.cal.warned tile false } }

/-- A tile is no longer due. -/
def clearDue (c : Cal) (tile : Nat) : Cal :=
  { c with
    due := setBit c.due tile false, forced := setBit c.forced tile false, drift := setBit c.drift tile false
    warned := setBit c.warned tile false, dueSince := AMap.del c.dueSince tile }

/-- Record 0x0004 (Table CAL-3): `repl` the replacement row, 0x1FF if none. -/
def recordRetired (s : State) (r c reason repl : Nat) : State :=
  gbRecord s 0x0F 4 (laneOf c + 256 * (r / 16) + 65536 * (r % 16) + 16777216 * reason + 4294967296 * c
    + 281474976710656 * repl)

/-- A cell is retired with a REASON: its user word, its reassignment and record 0x0004 (R335). -/
def retireCell (s : State) (r c reason : Nat) : State :=
  let w := userWord s.cal (cellIndex r c)
  if w.testBit 25 then s
  else
    let s := (setUserWord s (cellIndex r c) ((w % 2 ^ 25) + 2 ^ 25 + reason * 2 ^ 26 + (w / 2 ^ 29) * 2 ^ 29)).wear 3 1
    let on := s.pv 0x0F1A 0 == 1 && (nextWeights s c).getD r 0 != 0
    let repl := if on then (freeRow s c r ((nextWeights s c).set r 0)).getD 0x1FF else 0x1FF
    markDirty (recordRetired (reassign s r c) r c reason repl)

/-- A cell of a tile whose blocks are invalid is RETIRED with reason 5, whatever it was (R324). -/
def retireInvalid (s : State) (r c : Nat) : State :=
  let w := userWord s.cal (cellIndex r c)
  if w.testBit 25 then setUserWord s (cellIndex r c) (w % 2 ^ 26 + 5 * 2 ^ 26 + (w / 2 ^ 29) * 2 ^ 29) else retireCell s r c 5

/-! ### Blocks (Table CAL-1) -/

/-- The blocks of tile 18n + p. -/
def blocksOf (s : State) (tile : Nat) : List Byte := ((AMap.find s.cal.blocks tile).map (·.2.2)).getD []

/-- SETS of blocks. -/
def setsOf (b : List Byte) : Nat := fieldAt b 1 1

/-- T_SET[k] in 0.01 °C. -/
def tSet (b : List Byte) (k : Nat) : Int := ofField 16 (fieldAt b (4 + 2 * k) 2)

/-- CELL[k] of row i, column j. -/
def cellBlock (b : List Byte) (k i j : Nat) : Nat := fieldAt b (0x40 + k * 0x4000 + 4 * (256 * i + j)) 4

/-- PD[k] of photodiode row i, pair t. -/
def pdBlock (b : List Byte) (k i t : Nat) : Nat :=
  fieldAt b (0x40 + setsOf b * 0x4000 + k * 0x1000 + 4 * (128 * i + t)) 4

/-- Bits 31 to 24 of each 32-bit entry are 0. -/
def topsZero : List Byte → Bool
  | _ :: _ :: _ :: d :: bs => d == 0 && topsZero bs
  | _ => true

/-- The blocks pass CAL_CRC, CAL_LENGTH and Table CAL-1 (R324). -/
def blocksGood (t : Tile) (b : List Byte) : Bool :=
  let n := setsOf b
  b.length == t.u 0x80 4 && crc32c b == t.u 0x84 4 && fieldAt b 0 1 == 1 && n == t.u 0x7A 1
    && decide (2 ≤ n) && decide (n ≤ 4) && b.length == 0x40 + n * 0x5000
    && (List.range 3).all (fun k => !(decide (k + 1 < n)) || decide (tSet b k + 500 ≤ tSet b (k + 1)))
    && (List.range 4).all (fun k => decide (k < n) || fieldAt b (4 + 2 * k) 2 == 0x8000)
    && topsZero ((b.drop 0x40).take (n * 0x4000))

/-! ### User words by SERIAL (R326) -/

/-- The user words of a tile position, by cell in the tile. -/
def wordsOf (c : Cal) (tile : Nat) : AMap Nat :=
  (c.user.filter fun e => cellTile e.1 == tile).map fun e => (((e.1 / 1024) % 16) * 256 + (e.1 % 1024) % 256, e.2)

/-- The words of a tile position leave it. -/
def dropWords (c : Cal) (tile : Nat) : Cal := { c with user := c.user.filter fun e => cellTile e.1 != tile }

/-- A stored user word as it is read: REASON 6 and 7 are read as 0 (Table CAL-2). -/
def storedWord (w : Nat) : Nat := if 6 ≤ w / 2 ^ 26 % 8 then w % 2 ^ 26 + (w / 2 ^ 29) * 2 ^ 29 else w

/-- Words are put at a tile position. -/
def placeWords (s : State) (tile : Nat) (ws : AMap Nat) : State :=
  ws.foldl (fun s e =>
    setUserWord s (cellIndex (16 * (tile % 18) + e.1 / 256) (256 * (tile / 18) + e.1 % 256)) (storedWord e.2)) s

/-- Tiles that are held at another position than `tile` by their SERIAL go to the shelf: the tile has been moved (R326). -/
def unplace (s : State) (tile serial : Nat) : State :=
  match s.cal.blocks.find? fun e => e.1 != tile && e.2.1.toNat == serial with
  | none => s
  | some e =>
    let c := dropWords s.cal e.1
    { s with cal := { c with
        shelf := AMap.put c.shelf serial (wordsOf s.cal e.1, s.pv 0x0F24 e.1)
        blocks := AMap.del c.blocks e.1, bracket := c.bracket.set e.1 none } }

/-- A tile whose SERIAL differs from the one last seen at its position: the old one's values go to the shelf,
its own come from there, or it starts reset and due (R326, R331). -/
def swapSerial (s : State) (tile serial : Nat) : State :=
  let old := (AMap.find s.cal.blocks tile).map (·.1.toNat)
  if old = some serial then s
  else
    let s := unplace s tile serial
    let shelf := match old with
      | some o => AMap.put s.cal.shelf o (wordsOf s.cal tile, s.pv 0x0F24 tile)
      | none => s.cal.shelf
    let s := { s with cal := { dropWords s.cal tile with shelf := AMap.del shelf serial, bracket := s.cal.bracket.set tile none } }
    match AMap.find shelf serial with
    | some (ws, g) => (placeWords s tile ws).pput 0x0F24 tile g
    | none => markDirty (makeDue ((s.pput 0x0F24 tile 0x4000).pput 0x0F21 tile 0x8000) tile)

/-- READ requests for the CAL_LENGTH bytes of blocks at CAL_OFFSET, in pieces of at most 256 bytes (05 R119, R130; log entry 33). -/
def calRead (s : State) (n p : Nat) : State :=
  let at0 := (s.tile n p).u 0x7C 4
  let len := min ((s.tile n p).u 0x80 4) 0x20000
  (List.range (divCeil len 256)).foldl (fun s k => mgmtRead s n p (at0 + 256 * k) (min 256 (len - 256 * k))) s

/-- A tile has been discovered: SERIAL, CAL_CRC and blocks, read only if either differs (05 R130, R324). -/
def calDiscovered (s : State) (n p : Nat) (block : List Byte) : State :=
  let t := s.tile n p
  let k := 18 * n + p
  let serial := t.serial
  let crc := t.u 0x84 4
  let held := (AMap.find s.cal.blocks k).any fun b => b.1.toNat == serial && b.2.1.toNat == crc
  let s := swapSerial s k serial
  let s := if held then s
    else
      markDirty (calRead { s with cal := { s.cal with
        blocks := AMap.put s.cal.blocks k (BitVec.ofNat 64 serial, BitVec.ofNat 32 crc, block)
        bracket := s.cal.bracket.set k none } } n p)
  if blocksGood t (blocksOf s k) then { s with cal := { s.cal with badBlocks := setBit s.cal.badBlocks k false } }
  else
    let s := { s with cal := { s.cal with badBlocks := setBit s.cal.badBlocks k true } }
    let s := (List.range 4096).foldl (fun s x => retireInvalid s (16 * p + x / 256) (256 * n + x % 256)) s
    gbRecord s 0x0F 7 (n + 256 * p)

/-! ### CAL.STATE and the end of a run (R330, R331, R336) -/

/-- A chain whose tiles a run can measure: UP or RESERVE, dozing or not. -/
def measurable (c : Chain) : Bool :=
  match c.st with
  | .up | .reserve | .doze => !c.moving
  | _ => false

/-- The tiles that a run would measure now. -/
def dueTiles (s : State) : List Nat :=
  (List.range 72).filter fun k =>
    s.cal.due.getLsbD k && measurable (s.chain (k / 18)) && (s.tile (k / 18) (k % 18)).usable

/-- A run is to take the next gap: CAL.AUTO schedules it, or CAL_RUN named a tile (DEDUCED, log entry 73). -/
def runWanted (s : State) : Bool := (dueTiles s).any fun k => s.pv 0x0F10 0 == 1 || s.cal.forced.getLsbD k

/-- CAL.STATE between runs: idle, or waiting for a gap. -/
def settleCal (s : State) : State :=
  if 1 < s.cal.st then s else { s with cal := { s.cal with st := if runWanted s then 1 else 0 } }

/-- A run ends with nothing applied; its tiles stay due (R336). -/
def abandonRun (s : State) (cause : Nat) : State :=
  let s := emitOff s
  settleCal (gbRecord { s with cal := { s.cal with st := 0, run := none } } 0x0F 2 cause)

end Sys2Proof.Machine
end

