-- ==== Sys2Proof/Machine/Operands.lean ====
section
/-!
DEFINITION. How a command reaches its subsystem: the request's checks, rights, queues and fast path
(17 R348 to R357), and how an event does (`event`).
-/

namespace Sys2Proof.Machine

/-! ### Status codes (17 Table KEEP-5) -/

def sOK : U16 := 0
def sPending : U16 := 1
def sBusy : U16 := 2
def sBadLength : U16 := 4
def sBadParam : U16 := 5
def sBadState : U16 := 6
def sRange : U16 := 7
def sDenied : U16 := 8
def sTooLate : U16 := 9
def sStale : U16 := 10
def sNotPresent : U16 := 11
def sConflict : U16 := 12
def sStoreFail : U16 := 13
def sAuthFail : U16 := 14
def sCheckFail : U16 := 15
def sKeeperRestart : U16 := 16
def sTrialPending : U16 := 17

/-! ### Opcodes with a rule of their own -/

/-- The fast path (R353): LAY_START, LAY_ABORT, EMON_CAP_TRIGGER, EMON_CAP_STOP, DMA_STOP, DMA_DISABLE,
STEP_STOP, SERVO_CARRIAGE_STOP, SERVO_TEST_STOP. -/
def fastOps : List U16 :=
  [0x0302, 0x0303, 0x0502, 0x0503, 0x0711, 0x0712, 0x0B03, 0x0906, 0x0908]

/-- Always Bulk (R351): WAYBILL_READ, GB_READ, STORE_COMMIT, FW_WRITE, FW_VERIFY, LINK_DESC_READ,
LINK_DESC_WRITE, CAL_CELL_READ, SERVO_TABLE_WRITE, DATA_COMPRESS, FAULT_STATUS. -/
def bulkOps : List U16 :=
  [0x000A, 0x000B, 0x000D, 0x0010, 0x0011, 0x0602, 0x0603, 0x0F04, 0x0903, 0x0807, 0x0E02]

/-- Observer opcodes (R356): the eleven it names, then every name that ends in _STATUS, _READ, _GET, _HEADER
or _REPORT. -/
def observerOps : List U16 :=
  [0x0001, 0x0002, 0x0003, 0x0006, 0x0007, 0x0008, 0x0009, 0x000A, 0x000B, 0x000E, 0x0E03]
  ++ [0x0104, 0x0201, 0x0204, 0x0304, 0x0305, 0x0401, 0x0504, 0x0602, 0x0607, 0x0701, 0x0713]
  ++ [0x0804, 0x0805, 0x0806, 0x0909, 0x0A04, 0x0B09, 0x0C01, 0x0E02, 0x0F03, 0x0F04, 0x1001, 0x1002, 0x1003]

/-! ### Rights (R356) -/

/-- The session of a transport mailbox. -/
def State.session (s : State) (mb : Nat) : Option Session := (s.keep.sessions.getD mb none)

/-- The mailbox's rights allow an opcode (Table KEEP-2, R356). A transport mailbox without a session accepts
SESSION_OPEN only (log entry 12). -/
def allowed (s : State) (mb : Nat) (op : U16) : Bool :=
  if mb < 4 then
    match s.session mb with
    | some x => x.id == s.keep.primary || observerOps.contains op
    | none => op == 0x0006
  else if mb = 4 then s.keep.primary == 0 || observerOps.contains op
  else if mb = 5 then (op.toNat / 256 == 1 || op.toNat / 256 == 2) || observerOps.contains op
  else true

/-! ### Queues (R351) -/

/-- Effective class of an opcode (R351). -/
def effClass (op : U16) (cls : Byte) : Byte := if bulkOps.contains op then 0 else cls

/-- The request that a row presents again, from its queue or, on the fast path, from the hardware: same mailbox, opcode and tag. -/
def queued (s : State) (op : U16) (q : Req) : Option QEntry :=
  let same := fun (e : QEntry) => e.opcode == op && e.tag == q.tag
  if fastOps.contains op then (s.keep.fast.find? fun e => e.1 == q.mb.val && same e.2).map (·.2)
  else (s.keep.queues.getD q.mb []).find? same

/-- Takes a request out of its queue, and out of the buffer of its mailbox, which may show a parity error (R348). -/
def dequeue (s : State) (op : U16) (q : Req) : State :=
  let same := fun (e : QEntry) => e.opcode == op && e.tag == q.tag
  let rest := s.keep.queues.modify q.mb fun l => l.eraseP same
  let fast := s.keep.fast.eraseP fun e => e.1 == q.mb.val && same e.2
  { s with keep := { s.keep with queues := rest, fast := fast, mbBad := if q.parity then setBit s.keep.mbBad q.mb.val true else s.keep.mbBad } }

/-- Puts a request into its queue. -/
def enqueue (s : State) (mb : Nat) (e : QEntry) : State :=
  { s with keep := { s.keep with queues := s.keep.queues.modify mb fun l => l ++ [e] } }

/-- Requests whose execution has begun and which Keeper was to answer. -/
def begun (s : State) : List Waiting :=
  let l := s.keep.busy ++ s.pwr.w.toList ++ s.pwr.rails.filterMap (·.w) ++ s.link.mgmt.filterMap (·.w) ++ s.drv.filterMap (·.align)
  let l := l ++ s.stage.discover.toList ++ (s.stage.claim.bind (·.2.1)).toList
  let l := l ++ (s.cal.hkTrace.map (·.1)).toList ++ ((s.keep.claims.map (·.2)).getD []).map (·.w)
  let l := l ++ (s.keep.commitWait.bind (·.2)).toList ++ (s.data.cmp.filterMap id ++ s.data.cmpWait).filterMap (·.w)
  l.filter fun w => w.mb != 6

/-- A mailbox whose previous request is still executing is passed over (R351). -/
def executing (s : State) (mb : Nat) : Bool := (begun s).any fun w => w.mb == mb

/-- A request of a class and T_RX in a mailbox is taken after a waiting one: of a higher class, else earlier, else in a lower
mailbox (R351). -/
def entryFirst (e : QEntry) (mb' : Nat) (mb : Nat) (cls : Byte) (t : Nat) : Bool :=
  decide (cls.toNat < e.cls.toNat)
    || (cls == e.cls && (decide (e.tRx < t) || (e.tRx == t && decide (mb' < mb))))

/-- A packet of the session has arrived on a transport mailbox (R355). -/
def touchSession (s : State) (mb : Nat) : State :=
  if mb < 4 then
    { s with keep := { s.keep with sessions := s.keep.sessions.modify mb fun x => x.map fun y => { y with lastRx := s.time } } }
  else s

/-! ### The checks of a request (R350 to R353) -/

/-- What the mailbox does with a request. -/
inductive Verdict where
  | refuse (w : Waiting) (status : U16)
  | hold (e : QEntry)
  | wait
  | run (w : Waiting)
  deriving DecidableEq, Repr

/-- The opcodes that the recovery loader serves, on MB4 and MB5 (18 R381). -/
def recoveryOps : List U16 := [0x0001, 0x0009, 0x000A, 0x000F, 0x0010, 0x0011, 0x0012]

/-- A mailbox that answers nothing: its buffer failed and MB7 does not serve it (18 Table BIST-3), the recovery loader
serves only MB4 and MB5 (18 R381), or the shut-down self-test runs (18 Table BIST-1). -/
def mailboxDead (s : State) (mb : Nat) : Bool :=
  (decide (mb < 6) && s.bist.failed.getLsbD (47 + mb) && s.keep.mb7 != mb) || (s.keep.recovery && (decide (mb < 4) || mb == 6))
    || s.bist.running

/-- Keeper takes another request before one of a mailbox, class and T_RX (R351). -/
def notYet (s : State) (mb : Nat) (cls : Byte) (t : Nat) : Bool :=
  executing s mb || (s.keep.queues.zipIdx).any fun l => !(executing s l.2) && !(mailboxDead s l.2) && l.1.any fun e => entryFirst e l.2 mb cls t

/-- Rights and payload length, checks 4 and 5 of R350. -/
def bodyChecks (s : State) (w : Waiting) (q : Req) (lenOk : Bool) : Verdict :=
  if s.keep.recovery && !(recoveryOps.contains w.opcode) then .refuse w sBadState
  else if !s.keep.recovery && !(allowed s q.mb w.opcode) then .refuse w sDenied
  else if !lenOk || decide ((payloadLimit q.mb).1 < q.len) then .refuse w sBadLength
  else .run w

/-- The header of a request as the answer carries it. -/
def waitingOf (s : State) (op : U16) (q : Req) (cls flags : Byte) : Waiting :=
  { mb := q.mb, opcode := op, tag := q.tag, cls := cls, flags := flags, tRx := s.time, line := s.layer.marker }

/-- FLAGS of a response: bit 0 AGED, bits 1 and 2 the fast path (R352, R353, Table KEEP-4). -/
def respFlags (op : U16) (aged : Bool) : Byte := if fastOps.contains op then 6 else if aged then 1 else 0

/-- The entry of a request in its queue. -/
def entryOf (s : State) (op : U16) (q : Req) : QEntry :=
  { opcode := op, tag := q.tag, cls := effClass op q.cls, aged := false, tRx := s.time, since := s.time, payload := [], line := s.layer.marker }

/-- The fate of a request of an opcode at the present instant. A request that a message has already put into its queue is
presented again by the row of its opcode, and runs when its turn has come (R351, log entry 40). Keeper's own work, MB6, competes
with the others, without a mailbox's checks (R348). -/
def verdict (s : State) (op : U16) (q : Req) (lenOk : Bool) : Verdict :=
  if q.mb = 6 then
    match queued s op q with
    | some e =>
      if !s.keep.running || notYet s 6 e.cls e.tRx then .wait
      else .run { waitingOf s op q e.cls (respFlags op e.aged) with tRx := e.tRx, line := e.line }
    | none =>
      if fastOps.contains op then .run (waitingOf s op q q.cls 0)
      else if !s.keep.running || notYet s 6 (effClass op q.cls) s.time then .hold (entryOf s op q)
      else .run (waitingOf s op q (effClass op q.cls) 0)
  else
    match (if s.keep.running || fastOps.contains op then queued s op q else none) with
    | some e =>
      if !(fastOps.contains op) && notYet s q.mb e.cls e.tRx then .wait
      else bodyChecks s { waitingOf s op q e.cls (respFlags op e.aged) with tRx := e.tRx, line := e.line } q lenOk
    | none =>
      if !q.crcOk then .refuse (waitingOf s op q q.cls 4) sCheckFail
      else if 2 < q.cls.toNat then .refuse (waitingOf s op q q.cls 4) sBadParam
      else if fastOps.contains op then bodyChecks s (waitingOf s op q q.cls 6) q lenOk
      else if 16 ≤ (s.keep.queues.getD q.mb []).length then .refuse (waitingOf s op q (effClass op q.cls) 4) sBusy
      else if effClass op q.cls = 0 && s.keep.deferAt.isSome then .refuse (waitingOf s op q (effClass op q.cls) 4) sBusy
      else if !s.keep.running || notYet s q.mb (effClass op q.cls) s.time then .hold (entryOf s op q)
      else bodyChecks s (waitingOf s op q (effClass op q.cls) 0) q lenOk

/-- What a subsystem does with a request: answers now, or later. -/
inductive Answer where
  | now (s : State) (status : U16) (data : List Byte)
  | later (s : State)

/-- The state after a subsystem's answer. -/
def finish (w : Waiting) : Answer → State
  | .now s status data => answer s w status data
  | .later s => s

/-- A refusal changes nothing. -/
def refuse (s : State) (status : U16) : Answer := .now s status []

/-- Done as requested. -/
def done (s : State) : Answer := .now s sOK []

/-- Data as read, or RANGE where it does not fit the mailbox (R348; log entry 71). -/
def sized (s : State) (w : Waiting) (data : List Byte) : Answer :=
  if (payloadLimit w.mb).2 < data.length then refuse s sRange else .now s sOK data

/-- A request arrives in a packet of its session, unless it was here before; SESSION_OPEN carries SESSION 0 (R355). -/
def arrive (op : U16) (q : Req) (s : State) : State :=
  if (queued s op q).isSome || op == 0x0006 then s else touchSession s q.mb

/-- A request of an opcode (R350). `lenOk`: its payload length is right for the opcode; `body`: what its
subsystem does. Without Main there is no mailbox. -/
def request (op : U16) (q : Req) (s : State) (lenOk : Bool) (body : State → Waiting → Answer) : Result :=
  let s := s.pass q.dt
  if !s.mainOn || mailboxDead s q.mb then .next s
  else
    match verdict s op q lenOk with
    | .refuse w st =>
      let s := if st = sBusy then s.count 0x0022 3 1 else s
      .next (answer (arrive op q s) w st [])
    | .wait => .next s
    | .hold e => .next (enqueue (arrive op q s) q.mb e)
    | .run w => .next (finish w (body (dequeue (arrive op q s) op q) w))

/-! ### Events -/

/-- An event: time passes, then its effect where its condition holds; else nothing more (log entry 14). -/
def event (dt : Nat) (s : State) (cond : State → Bool) (f : State → State) : Result :=
  let s := s.pass dt
  .next (if cond s then f s else s)

/-- An event of the Exposure, Link or Data engine domain, whose clock the analogue trip gates (12 R264). -/
def clocked (dt : Nat) (s : State) (cond : State → Bool) (f : State → State) : Result :=
  event dt s (fun s => !s.therm.tripped && cond s) f

/-! ### Frames received (05 R117) -/

/-- Frames are discarded on a lane: counted. -/
def discardFrames (s : State) (lane k : Nat) : State :=
  { s with link := { s.link with discards := s.link.discards.modify lane (· + k) } }

/-- A frame is received from a tile of a chain: one whose LEN_CHK does not match, whose TYPE is reserved or whose CRC fails is
discarded; else its effect where its condition holds. -/
def received (dt : Nat) (chain : Nat) (rx : RxFrame) (s : State) (cond : State → Bool) (f : State → State) : Result :=
  if rx.good then clocked dt s (fun s => s.serdesOn && cond s) f
  else clocked dt s (fun s => s.serdesOn && s.linkOn) fun s => discardFrames s (s.chain chain).servedBy 1

end Sys2Proof.Machine
end

