-- ==== Sys2Proof/Machine/Layer.lean ====
section
/-!
DEFINITION. The commands and events of the layer cycle (02 R36 to R56).
-/

namespace Sys2Proof.Machine

/-- LAY_ARM (R36): the checks of Table LAY-2, then ARMED. It ends a measurement run (16 R336). -/
def execLayArm (q : Req) (d : LayerDesc) (rtt : List Nat) (s : State) : Result :=
  request 0x0301 q s (q.len == 40) fun s _ =>
    if armChecks s d ≠ 0 then refuse s (armChecks s d)
    else done (armLayer (if s.cal.st = 2 then abandonRun s 1 else s) d false rtt)

/-- LAY_START (R38, R56). -/
def execLayStart (q : Req) (s : State) : Result :=
  request 0x0302 q s (q.len == 0) fun s _ =>
    if s.layer.st ≠ .armed ∨ s.layer.desc.startSrc ≠ 0 then refuse s sBadState
    else if !(primed s) then refuse s sBusy
    else done (startLayer s false)

/-- A start marker heard goes on out of the other port (13 R279); which port it came by is open (log entry 68). -/
def repeatStart (s : State) : State :=
  (s.send (.stageMarker (s.freeBits 1 == 1) (s.freeBits 1 == 0) 1)).freeTaken

/-- The start marker that START scheduled at this node is emitted when it is due (13 R283); one heard is repeated. -/
def emitStart (s : State) : State :=
  match s.stage.startAt with
  | some t =>
    if t ≤ s.time then { s.send (.stageMarker true true 1) with stage := { s.stage with startAt := none } } else repeatStart s
  | none => repeatStart s

/-- The Stageline start marker starts an armed layer, primed or not (R38); a node whose START instant has come emits
it (13 R283). -/
def execStagelineStartMarker (dt : Nat) (s : State) : Result :=
  event dt s State.mainOn fun s =>
    let s := emitStart s
    if s.layer.st = .armed ∧ s.layer.desc.startSrc = 1 then startLayer s (!(primed s)) else s

/-- The dose ring has reached LAY.PRIME_LINES (R38). -/
def execDoseRingPrimed (dt : Nat) (s : State) : Result :=
  clocked dt s (fun s => s.layer.st == .armed && s.layer.desc.startSrc == 2 && primed s) fun s => startLayer s false

/-- An abort that arrives in ARMED, RUN_UP or EXPOSE (R49, R51). -/
def armAbort (s : State) (w : Waiting) (atTime : U64) : State :=
  let r := s.layer.record
  let r := if r.tAbortReq = 0 then { r with tAbortReq := w.tRx } else r
  { s with layer := { s.layer with
    record := r
    abort := some { w := w, atTime := if atTime = 0 then 0 else ofTime64 atTime.toNat, tReq := w.tRx } } }

/-- An abort that arrives in RUN_OUT or COMMIT changes nothing of the pass; the first one is recorded (R50, R51, Table
LAY-7). -/
def lateAbort (s : State) (w : Waiting) : State :=
  let r := s.layer.record
  if r.tAbortReq ≠ 0 then s
  else { s with layer := { s.layer with record :=
          { r with tAbortReq := w.tRx, tAbortSample := s.stamp s.time, abortResult := if r.outcome = 1 then 0 else 2 } } }

/-- LAY_ABORT (R49 to R51). -/
def execLayAbort (q : Req) (atTime : U64) (s : State) : Result :=
  request 0x0303 q s (q.len == 8) fun s w =>
    match s.layer.st with
    | .idle => refuse s sBadState
    | .runOut | .commit => .now (lateAbort s w) (if s.layer.record.outcome = 1 then sOK else sTooLate) []
    | _ => if s.layer.abort.isSome then refuse s sPending else .later (sampleEarly (armAbort s w atTime))

/-- LAY_STATUS (Table LAY-8). With no marker passed the current marker is an open value; in IDLE, LAYER_NO and m_final are
those of the last pass (log entry 30). -/
def execLayStatus (q : Req) (s : State) : Result :=
  request 0x0304 q s (q.len == 0) fun s _ =>
    let m := s.layer.marker.getD (s.freeBits 32)
    let s' := if s.layer.marker.isSome then s else s.freeTaken
    .now s' sOK (le 1 (layerByte s.layer) ++ le 4 s.layer.desc.layerNo.toNat ++ le 4 m ++ le 4 s.layer.mFinal)

/-- The 128 bytes of a layer record (Table LAY-7). -/
def recordBytes (r : LayRec) : List Byte :=
  withCrc (le 4 r.layerNo.toNat
    ++ le 1 (bitN r.repair + 2 * bitN r.dir + 4 * bitN r.follower + 8 * bitN r.primeShort + 16 * bitN r.repairSkipped)
    ++ [r.outcome, r.endCause, r.abortResult] ++ le 4 r.lineCount.toNat ++ le 4 r.linesFull.toNat
    ++ le 4 r.stopMarker.toNat ++ le 2 r.faultId.toNat ++ [r.faultClass, r.c1Count]
    ++ ([r.tArm, r.tStart, r.tFirst, r.tFinal, r.tAbortReq, r.tAbortSample, r.tCommit].flatMap fun t =>
        le 8 (if t = 0 then 0 else time64 t))
    ++ le 1 (expFrac r.tFirst) ++ le 1 (expFrac r.tFinal) ++ le 1 (expFrac r.tAbortSample) ++ [0]
    ++ le 4 r.lateLines.toNat ++ le 4 r.missingLines.toNat ++ le 4 r.staleLines.toNat ++ le 4 r.lostFrames.toNat
    ++ le 4 r.deficitGroups.toNat ++ le 8 r.deficitTotal.toNat ++ le 2 r.billetVersion.toNat
    ++ le 2 r.calGeneration.toNat ++ le 2 r.rateMax.toNat ++ le 2 r.rateMin.toNat ++ le 4 r.linesAtStart.toNat)

/-- LAY_RECORD_GET (R55): one of the 64 most recent records. -/
def execLayRecordGet (q : Req) (layerNo : U32) (repair : Byte) (s : State) : Result :=
  request 0x0305 q s (q.len == 5) fun s _ =>
    if 1 < repair.toNat then refuse s sRange
    else
      match s.layer.records.find? fun r => r.layerNo == layerNo && r.repair == (repair == 1) with
      | some r => .now s sOK (recordBytes r)
      | none => refuse s sNotPresent

/-- The measured carriage position reaches marker m (R31). What happens there carries the marker's instant (R49, R58). -/
def execLineMarker (dt : Nat) (m : Int) (noBuffer : Bool) (s : State) : Result :=
  clocked dt s (fun s => markerExpected s m) fun s => atInstant s (markerInstant s m) fun s => lineMarker s m noBuffer

/-- The marker interval has grown beyond the stall limit (R40). -/
def stalled (s : State) : Bool :=
  match s.dose.markerTimes with
  | t :: _ => decide (s.layer.desc.pitch.toNat * 100 * secU < (s.time - t) * (s.layer.desc.speed.toNat * 1000 * s.pv 0x0313 0))
  | [] => false

/-- A stall raises 0x044; no marker may follow, so its C2 reaction is sampled at once as at the marker after
the last one passed (log entry 16). -/
def execCarriageStall (dt : Nat) (s : State) : Result :=
  event dt s (fun s => s.layer.st == .expose && stalled s) fun s =>
    let s := raise s 0x044 0 false
    inExpose s fun s => if s.layer.c2Wait.isSome then sampleAt s (s.layer.marker.getD 0 + 1) else s

/-- LAY.RUNUP_TIMEOUT has passed since the state was entered. -/
def timedOut (s : State) : Bool := decide (s.layer.tState + s.pv 0x0314 0 * msU ≤ s.time)

/-- LAY.RUNUP_TIMEOUT expires in RUN_UP (0x042) or in RUN_OUT (0x045) (Table LAY-1). -/
def execRunupTimeout (dt : Nat) (rtt : List Nat) (s : State) : Result :=
  event dt s (fun s => (s.layer.st == .runUp || s.layer.st == .runOut) && timedOut s) fun s =>
    if s.layer.st = .runUp then raise (enterRunOut (markAborted s 2 0xFFFFFFFF) .runOut) 0x042 0 false
    else finishPass (raise s 0x045 0 false) rtt

/-- A follower's measured speed has stayed below LAY.REST_SPEED for 1 ms (R41). -/
def execFollowerAtRest (dt : Nat) (s : State) : Result :=
  event dt s (fun s => s.layer.st == .runOut && !s.driver && followerRest s) restReached

/-- The carriage is at rest and the map drained: COMMIT (R34, R42 to R45). -/
def execRunOutDone (dt : Nat) (rtt : List Nat) (s : State) : Result :=
  event dt s (fun s => s.layer.st == .runOut && s.layer.atRest) fun s => finishPass s rtt

/-- Line of the main pass that repair line k lies on, and its group row (R43). -/
def repairRow (s : State) (k : Nat) : Nat := (s.layer.desc.lineCount.toNat - 1 - k) / s.emon.repairGl

/-- Dose of a column in repair line k (R43). -/
def repairDose (s : State) (k c : Nat) : Nat :=
  match s.emon.repairList.find? fun e => e.1 == repairRow s k && e.2.1 == c / 2 with
  | some e => if s.pv 0x0319 0 ≤ e.2.2 then e.2.2 else 0
  | none => 0

/-- A slot of the dose ring is free for line k (03 R61). -/
def slotFree (s : State) (k : Nat) : Bool :=
  match AMap.find s.dose.ring (k % 2048) with
  | some t => t.line == k
  | none => true

/-- Keeper has built a dose line of an armed repair pass from the deficit list (R43). It is handled by its arrival as any
other line (R46). -/
def execRepairLineBuilt (dt : Nat) (line : Nat) (s : State) : Result :=
  event dt s (fun s =>
      s.layer.repair && s.keep.running && s.layer.st != .idle && decide (line < s.layer.desc.lineCount.toNat)
        && !(lineComplete s.dose line) && (lineStale s line || slotFree s line)) fun s =>
    completeLine (if lineStale s line then s
      else s.poke ((line % 2048) * 2048) ((List.range 1024).flatMap fun c => le 2 (repairDose s line c))) line

end Sys2Proof.Machine
end

