-- ==== Sys2Proof/Machine/Trig.lean ====
section
/-!
DEFINITION. Sine, cosine and the angle of a vector (08 R203, 09 R212, 10 R226). The rules name the functions and not their
rounding: a result is one of the two integers beside the exact value, and which one is an open value.
-/

namespace Sys2Proof.Machine

/-- The terms of the sine's series at an angle in 2^-96, by index; `t` is the term before it. -/
def sineTerms (sq : Nat) : Nat → Nat → Int → Int
  | 0, _, _ => 0
  | n + 1, k, t => t + sineTerms sq n (k + 1) (-(t * sq / ((2 * k + 2) * (2 * k + 3) * 2 ^ 96 : Nat)))

/-- sin of a part `num / den` of a quarter turn, 0 to 1, in 2^-60. -/
def quarterSine (num den : Nat) : Nat :=
  let x := num * 124451306656115542615260972311 / den
  ((sineTerms (x * x / 2 ^ 96) 24 0 x + 2 ^ 35) / 2 ^ 36).toNat

/-- sin of `num / den` of a turn, in 2^-60. -/
def sineQ60 (num den : Nat) : Int :=
  let r := 4 * (num % den) % den
  match 4 * (num % den) / den with
  | 0 => quarterSine r den
  | 1 => quarterSine (den - r) den
  | 2 => -quarterSine r den
  | _ => -quarterSine (den - r) den

/-- a × sin of `num / den` of a turn: exact where it is an integer, else one of the two integers beside it. -/
def sineTimes (a : Int) (num den : Nat) : Int :=
  let x := a * sineQ60 num den
  x / 2 ^ 60 + if x % 2 ^ 60 = 0 then 0 else if Config.sineUp a num den then 1 else 0

/-- a × cos of `num / den` of a turn. -/
def cosineTimes (a : Int) (num den : Nat) : Int := sineTimes a (4 * num + den) (4 * den)

/-- The terms of the arctangent's series at a tangent in 2^-64, by index; `p` is the power before it. -/
def atanTerms (sq : Nat) : Nat → Nat → Int → Int
  | 0, _, _ => 0
  | n + 1, k, p => p / (2 * k + 1 : Nat) + atanTerms sq n (k + 1) (-(p * sq / 2 ^ 64))

/-- Angle of a tangent of 0 to 1 in 2^-64, in 2^-64: about the angle of 1/2 where the tangent is above 1/4. -/
def atanQ64 (t : Nat) : Int :=
  if t ≤ 2 ^ 62 then atanTerms (t * t / 2 ^ 64) 24 0 t
  else
    let u := ((t : Int) - 2 ^ 63) * 2 ^ 65 / (2 ^ 65 + t : Int)
    8552788783625223586 + atanTerms (u * u / 2 ^ 64).toNat 24 0 u

/-- Angle of (a, b) in 2^-32 turn: exact on the axes and the diagonals, else one of the two values beside it; of (0, 0) an
open value. -/
def vectorAngle (a b : Int) : Nat :=
  if a = 0 ∧ b = 0 then Config.zeroAngle % 2 ^ 32
  else
    let m := a.natAbs
    let n := b.natAbs
    let first : Nat :=
      if n = 0 then 0 else if m = 0 then 2 ^ 30 else if m = n then 2 ^ 29
      else if n < m then (atanQ64 (n * 2 ^ 64 / m) * 2935890503282001226 / 2 ^ 96).toNat
      else 2 ^ 30 - 1 - (atanQ64 (m * 2 ^ 64 / n) * 2935890503282001226 / 2 ^ 96).toNat
    let exact := n = 0 ∨ m = 0 ∨ m = n
    let turned : Int :=
      if 0 ≤ a ∧ 0 ≤ b then first
      else if a < 0 ∧ 0 ≤ b then 2 ^ 31 - first - (if exact then 0 else 1)
      else if a < 0 then 2 ^ 31 + first
      else -first - (if exact then 0 else 1)
    ((turned + if exact then 0 else if Config.angleUp a b then 1 else 0) % 2 ^ 32).toNat

end Sys2Proof.Machine
end

