-- ==== Sys2Proof/Machine/ServoCore.lean ====
section
/-!
DEFINITION. The servo engine at a base tick: sources, the slot's law, tables, the carriage profile, encoder loss and
the observer, and test signals (08 R186 to R204).
-/

namespace Sys2Proof.Machine

/-! ### Signals and coefficients (R187) -/

/-- `mul` of R187 on a 37-bit coefficient: bits 31 to 0 the coefficient, bits 36 to 32 the shift. -/
def coefMul (x : Int) (c : Nat) : Int :=
  let sh := c / 4294967296
  let p := x * ofField 32 (c % 4294967296)
  sat32 (if sh = 0 then p else (p + 2 ^ (sh - 1)) / 2 ^ sh)

/-- Coefficients of a slot as its parameters hold them, the shadow set (R189). -/
def shadowCoef (s : State) (n : Nat) : Coef :=
  { kp := s.pv 0x0918 n, ki := s.pv 0x0919 n, kd := s.pv 0x091A n, kff := s.pv 0x091B n, ffMode := s.pv 0x091C n
    vnom := s.pv 0x091D n, iLim := s.pv 0x091E n, outMin := s.pvI 32 0x091F n, outMax := s.pvI 32 0x0920 n
    cogTab := s.pv 0x0921 n, fricTab := s.pv 0x0922 n, fricVband := s.pv 0x0923 n }

/-! ### Sources (Table SERVO-2) -/

/-- Kind and index of a selector. -/
def selKind (x : Nat) : Nat := x / 4096
def selIdx (x : Nat) : Nat := x % 256

/-- Latched position of an encoder in nm. -/
def latchedNm (s : State) (k : Nat) : Int := encNm s k (s.enc k).latched

/-- Acceleration of the carriage profile at a counter value, nm/s². -/
def segsAcc : List Seg → Nat → Int
  | [], _ => 0
  | g :: gs, τ => if τ < g.dur then g.a else segsAcc gs (τ - g.dur)

/-- The value of a source for a slot. -/
def sourceVal (s : State) (n sel : Nat) : Int :=
  let i := selIdx sel
  match selKind sel with
  | 1 => s.pvI 32 0x0917 n
  | 2 => (s.slot i).out
  | 3 => sat32 (latchedNm s i)
  | 4 => sat32 (encVelUm s i s.time)
  | 5 => sat32 (s.house.ch.getD i {}).value
  | 6 => sat32 (profAt s.servo.tickProf s.time).1
  | 7 => sat32 (divr (profAt s.servo.tickProf s.time).2 1000)
  | 8 => sat32 (divr (segsAcc s.servo.tickProf.segs (s.time - s.servo.tickProf.t0)) 1000000)
  | 9 => (s.drive i).speed
  | _ => 0

/-- Type of a slot (Table SERVO-3). -/
def slotType (s : State) (n : Nat) : Nat := s.pv 0x0910 n

/-- The C4 lockout is in force. -/
def State.c4On (s : State) : Bool := s.flt.c4.isSome

/-- A C3 or C4 reaction is in force (R197). -/
def State.c3On (s : State) : Bool := s.flt.c3Src != 0

/-- What a base tick fixes for its set-points at its start: the profile and the C3 reaction (Table SERVO-1). -/
def latchSetPoints (s : State) : State := { s with servo := { s.servo with tickProf := s.servo.prof, tickC3 := s.c3On } }

/-- Set-point of a slot (R191, R197). -/
def slotSp (s : State) (n : Nat) : Int :=
  match slotType s n with
  | 2 | 4 => sat32 (profAt s.servo.tickProf s.time).1
  | 5 => 0
  | 6 => if s.servo.tickC3 then 0 else sourceVal s n (s.pv 0x0913 n)
  | 7 => if s.servo.tickC3 then s.pvI 32 0x0924 n else sourceVal s n (s.pv 0x0913 n)
  | _ => sourceVal s n (s.pv 0x0913 n)

/-- The first slot of the gantry pair that a slot belongs to: a type 4 slot and a type 5 slot after it (R195). -/
def gantryOf (s : State) (n : Nat) : Option Nat :=
  if slotType s n = 4 ∧ slotType s (n + 1) = 5 ∧ n < 23 then some n
  else if slotType s n = 5 ∧ 0 < n ∧ slotType s (n - 1) = 4 then some (n - 1)
  else none

/-- Feedback of a slot (R188, R195). -/
def slotFb (s : State) (n : Nat) : Int :=
  match gantryOf s n with
  | some a =>
    let pa := sourceVal s a (s.pv 0x0914 a)
    let pb := sourceVal s (a + 1) (s.pv 0x0914 (a + 1))
    if n = a then (pa + pb) / 2 else sat32 (pa - pb)
  | none => sourceVal s n (s.pv 0x0914 n)

/-- Encoder that a selector reads, kinds 3 and 4. -/
def selEnc (sel : Nat) : Option Nat := if selKind sel = 3 ∨ selKind sel = 4 then some (selIdx sel) else none

/-- Encoders that a slot reads as feedback: both of a gantry pair (R195, R201). -/
def slotEncs (s : State) (n : Nat) : List Nat :=
  match gantryOf s n with
  | some a => [selEnc (s.pv 0x0914 a), selEnc (s.pv 0x0914 (a + 1))].filterMap id
  | none => [selEnc (s.pv 0x0914 n)].filterMap id

/-! ### Position tables (R192) -/

/-- An entry of table t, 1 to 8. -/
def tabEntry (s : State) (t i : Nat) : Int := ofField 32 (s.peek (0x10C0000 + (t - 1) * 4096 + 4 * i) 4)

/-- `tab` of R192. -/
def tabAt (s : State) (t : Nat) (x : Int) : Int :=
  let step := s.pv 0x0951 t
  let wrap := s.pv 0x0952 t == 1
  let r0 := x - s.pvI 32 0x0950 t
  let r := if wrap then (r0 % (1024 * step : Nat)).toNat else (clampI r0 0 (1023 * step : Nat)).toNat
  let i := r / step
  let j := if wrap then (i + 1) % 1024 else min (i + 1) 1023
  tabEntry s t i + divr ((tabEntry s t j - tabEntry s t i) * (r - i * step : Nat)) step

/-- Position (nm) and velocity (µm/s) that a slot's tables take (R188). -/
def tabInputs (s : State) (n : Nat) : Int × Int :=
  match selEnc (s.pv 0x0914 n) with
  | some k => (sat32 (latchedNm s k), encVelUm s k s.time)
  | none => (Config.tabPos, Config.tabVel)

/-- `cog` + `fric` of R192. -/
def tabTerm (s : State) (c : Coef) (pos vel : Int) : Int :=
  let cog := if c.cogTab = 0 then 0 else tabAt s c.cogTab pos
  let fric := if c.fricTab = 0 then 0
    else divr (tabAt s c.fricTab pos * clampI vel (-c.fricVband) c.fricVband) c.fricVband
  cog + fric

/-! ### The slot's law (R188) -/

/-- The FF value in the scaling modes: not below VNOM / 4 (R193). -/
def ffFloor (c : Coef) (ffv : Int) : Int := max ffv (c.vnom / 4 : Nat)

/-- Feed-forward scaling of R188; the manual gives no result where the divisor is 0. -/
def ffScale (c : Coef) (ffv u : Int) : Int :=
  if c.ffMode = 0 then u
  else
    let v := ffFloor c ffv
    if v = 0 then Config.scaleZero u c.ffMode c.vnom
    else if c.ffMode = 1 then divr (u * c.vnom) v
    else divr (u * c.vnom * c.vnom) (v * v)

/-- What a slot computes on a due tick: error, integrator, output before the clamp and after it. -/
structure LoopOut where
  e : Int
  ic : Int
  u : Int
  y : Int
  iAcc : Int
  deriving DecidableEq, Repr

/-- R188 with coefficients c on set-point, feedback, FF value and table term; `injE` and `injU` are what a test adds
to the error and to the output before the clamp (R203). -/
def loopLaw (c : Coef) (iAcc fbPrev sp fb ffv tabs injE injU : Int) : LoopOut :=
  let e := sat32 (sp - fb + injE)
  let ic := clampI (iAcc + coefMul e c.ki) (-c.iLim) c.iLim
  let u := coefMul e c.kp + ic + coefMul (sat32 (fbPrev - fb)) c.kd
  let u := if c.ffMode = 0 then u + coefMul ffv c.kff else u
  let u := ffScale c ffv (u + tabs) + injU
  let y := clampI u c.outMin c.outMax
  { e := e, ic := ic, u := u, y := y
    iAcc := if u = y ∨ (y < u ∧ e ≤ 0) ∨ (u < y ∧ 0 ≤ e) then ic else iAcc }

/-- i_acc for which the first output equals a demand, clamped to ±I_LIM (R189). In a scaling mode the demand is scaled
back, rounded half up (log entry 63). -/
def enableAcc (c : Coef) (sp fb ffv tabs want : Int) : Int :=
  let e := sat32 (sp - fb)
  let v := ffFloor c ffv
  let u := if c.ffMode = 0 then want - coefMul ffv c.kff
    else if c.ffMode = 1 then divr (want * v) c.vnom
    else divr (want * v * v) (c.vnom * c.vnom : Nat)
  clampI (u - tabs - coefMul e c.kp - coefMul e c.ki) (-c.iLim) c.iLim

/-! ### Destinations (Table SERVO-2) -/

/-- The demand a destination holds. An internal one and none hold the slot's last output (log entry 63). -/
def destDemand (s : State) (n : Nat) : Int :=
  let d := s.pv 0x0916 n
  let i := selIdx d
  match selKind d with
  | 1 => (s.drive i).torqueIn
  | 2 => (s.drive i).speedIn
  | 3 => (((s.heater i).slotDemand.getD (s.pv 0x0C35 i) : Nat) : Int)
  | _ => (s.slot n).out

/-- Writes a value to a destination. -/
def destPut (s : State) (d : Nat) (y : Int) : State :=
  match selKind d with
  | 1 => s.onDrive (selIdx d) fun x => { x with torqueIn := y }
  | 2 => s.onDrive (selIdx d) fun x => { x with speedIn := y }
  | 3 => s.onHeater (selIdx d) fun x => { x with slotDemand := some (clampI y 0 65535).toNat }
  | _ => s

/-- The output of a slot goes to its destination, that of a gantry pair to both (R195). -/
def applyOut (s : State) (n : Nat) : State :=
  match gantryOf s n with
  | some a =>
    let x := if (s.slot a).en then (s.slot a).out else 0
    let y := if (s.slot (a + 1)).en then (s.slot (a + 1)).out else 0
    destPut (destPut s (s.pv 0x0916 a) (sat32 (x + y))) (s.pv 0x0916 (a + 1)) (sat32 (x - y))
  | none => destPut s (s.pv 0x0916 n) (s.slot n).out

/-- Enabling rule of R189 on the present values. -/
def slotStart (s : State) (n : Nat) (want : Int) : State :=
  let c := (s.slot n).coef
  let sp := slotSp s n
  let fb := slotFb s n
  let ffv := sourceVal s n (s.pv 0x0915 n)
  let t := tabInputs s n
  let acc := enableAcc c sp fb ffv (tabTerm s c t.1 t.2) want
  s.onSlot n fun x => { x with fbPrev := fb, iAcc := acc }

/-- A slot that runs on its encoder, or still decelerates on its observer. -/
def slotMoves (s : State) (n : Nat) : Bool :=
  (s.slot n).en && (match (s.slot n).observer with
    | some o => o.2 != 0
    | none => true)

/-- The following error of the carriage loop passes FOLLOW_MAX (R194), the skew of a gantry SKEW_MAX (R195), and the input of a
heater slot is invalid (R196). -/
def followBad (s : State) (n : Nat) : Bool :=
  (slotType s n == 2 || slotType s n == 4) && slotMoves s n && decide (s.pv 0x0943 0 < ((s.slot n).sp - (s.slot n).fb).natAbs)
def skewBad (s : State) (n : Nat) : Bool :=
  slotType s n == 5 && (gantryOf s n).isSome && slotMoves s n && decide (s.pv 0x0945 0 < (s.slot n).fb.natAbs)
def heaterBad (s : State) (n : Nat) : Bool := slotType s n == 7 && (s.slot n).en && (s.slot n).invalid

/-- The conditions of 0x0F8, 0x0F9 and 0x0FA end where they hold on no slot (15 R310). -/
def settleServoConds (s : State) : State :=
  let off (s : State) (id : Nat) (p : State → Nat → Bool) : State :=
    if s.flt.cond.getLsbD id && !((List.range 24).any (p s)) then clearCond s id else s
  off (off (off s 0x0F8 followBad) 0x0F9 skewBad) 0x0FA heaterBad

/-- A slot is disabled: its destination holds no demand of a slot any more (R189, 11 R251), and no stop of an ended test can be
too late on it (R204). -/
def slotOff (s : State) (n : Nat) : State :=
  let s := s.onSlot n fun x => { x with en := false, observer := none, invalid := false, satRun := 0, still := [0, 0, 0, 0] }
  let s := if s.servo.testEnd = some n then { s with servo := { s.servo with testEnd := none } } else s
  let d := s.pv 0x0916 n
  settleServoConds (if selKind d = 3 then s.onHeater (selIdx d) fun x => { x with slotDemand := none } else s)

/-! ### Encoders at a tick (R198) -/

/-- Duration of an SSI frame in counter units: SSI_BITS clocks of SSI_CLK_KHZ. -/
def ssiDur (s : State) (k : Nat) : Nat := divCeil (s.pv 0x0934 k * msU) (s.pv 0x0935 k)

/-- The binary number of a Gray code of n bits. -/
def unGray : Nat → Nat → Nat
  | 0, _ => 0
  | n + 1, w => w ^^^ unGray n (w / 2)

/-- Position that an SSI word gives: SSI_BITS bits, binary or Gray, one LSB 4 096 units, as s48 (R198). -/
def ssiPos (s : State) (k : Nat) (raw : Int) : Int :=
  let w := toField (s.pv 0x0934 k) raw
  ofField 48 ((4096 * (if s.pv 0x0936 k = 1 then unGray (s.pv 0x0934 k) w else w)) % 2 ^ 48)

/-- SSI at a tick: a complete frame brings the position that the encoder held at its start, at the frame's end, and makes the
interface valid and referenced, but for a frozen one whose position stands still; the next frame starts after the gap. -/
def ssiTick (s : State) (k : Nat) : State :=
  let x := s.enc k
  let s := match x.ssiStart with
    | some t0 =>
      if t0 + ssiDur s k ≤ s.time then
        let pos := ssiPos s k x.ssiWord
        let good := !x.frozen || x.armed || pos != x.pos
        let s := encMove s k (t0 + ssiDur s k) pos
        let s := if x.lost && good then clearCond s (0x0F0 + k) else s
        s.onEnc k fun e => { e with
          latched := e.pos, ssiStart := none, ssiEnd := t0 + ssiDur s k
          valid := good, referenced := good, lost := e.lost && !good, frozen := e.frozen && !good, armed := e.armed && !good }
      else s
    | none => s
  let x := s.enc k
  if x.ssiStart.isNone && (x.ssiEnd == 0 || decide (x.ssiEnd + s.pv 0x0936 (k + 4) * usU ≤ s.time)) then
    s.onEnc k fun e => { e with ssiStart := some s.time, ssiWord := e.raw }
  else s

/-- Latching of an encoder at a base tick (Table SERVO-1). -/
def latchEnc (s : State) (k : Nat) : State :=
  match s.pv 0x0930 k with
  | 0 => s.onEnc k fun e => { e with valid := false, latched := e.pos }
  | 3 => ssiTick s k
  | _ => s.onEnc k fun e => { e with valid := !e.lost, latched := e.pos }

/-! ### Loss of feedback (R201, R202) -/

/-- Start of the observer on an encoder: the velocity of the last change, and its position advanced to now (R202). -/
def observerStart (s : State) (k : Nat) : Int × Int :=
  let x := s.enc k
  let c := x.changes.headD (s.time, x.pos)
  let v := encVel s k c.1
  (encNm s k c.2 + divr (v * (s.time - c.1 : Nat)) secU, v)

/-- An encoder is lost: flags, the observers of the slots of type 2 to 5 that read it, its fault, and the end of a servo test
(R200 to R202, R204). -/
def encLost (s : State) (k : Nat) (cause : EncLoss) : State :=
  let o := observerStart s k
  let ns := (List.range 24).filter fun n =>
    (s.slot n).en && decide (2 ≤ slotType s n) && decide (slotType s n ≤ 5) && (slotEncs s n).contains k
  let s := s.onEnc k fun e => { e with
    valid := false, referenced := false, lost := true, armed := false, ssiStart := none, frozen := decide (cause = .frozen)
    ssiEnd := (e.ssiStart.map fun t0 => t0 + ssiDur s k).getD e.ssiEnd
    amplitude := e.amplitude || decide (cause = .amplitude) }
  let s := ns.foldl (fun s n => s.onSlot n fun x => { x with observer := some o, obsSince := s.time }) s
  let s := raise s (0x0F0 + k) 0 true
  match s.servo.test with
  | some r => raise (endTest s 2) 0x0FD r.t.loop.toNat false
  | none => s

/-- Commanded speed of a motor slot, µm/s: the profile's for the carriage positions, the set-point for a speed (R201). -/
def commandedUm (s : State) (n : Nat) : Option Nat :=
  match slotType s n with
  | 2 | 4 | 5 => some ((profAt s.servo.tickProf s.time).2.natAbs / 1000)
  | 3 | 6 => some (slotSp s n).natAbs
  | _ => none

/-- A due tick of a motor slot without a change of its encoder since the previous due tick (R201). -/
def slotFrozen (s : State) (n k : Nat) : Bool :=
  match commandedUm s n with
  | none => false
  | some v =>
    decide (s.pv 0x093A k < v) && (s.enc k).valid
      && (match (s.enc k).changes with
          | [] => true
          | c :: _ => decide (c.1 ≤ (s.slot n).lastDue))

/-- Freeze detection on a due tick of a slot, for each encoder that it reads: three in a row lose the encoder. -/
def freezeSlot (s : State) (n : Nat) : State :=
  let frozen := (slotEncs s n).eraseDups.filter (slotFrozen s n)
  let runs := (s.slot n).still.mapIdx fun k r => if frozen.contains k then r + 1 else 0
  let s := s.onSlot n fun x => { x with still := runs.map fun r => if 3 ≤ r then 0 else r, lastDue := s.time }
  (frozen.filter fun k => decide (3 ≤ runs.getD k 0)).foldl (fun s k => encLost s k .frozen) s

/-- The follower's check of the exposure encoder in EXPOSE on every base tick (R201). -/
def freezeFollower (s : State) : State :=
  let k := expEnc s
  let x := s.enc k
  if s.driver ∨ s.layer.st ≠ .expose ∨ x.valid = false then s.onEnc k fun e => { e with still := 0, lastTick := s.time }
  else
    let moved := match x.changes with
      | [] => false
      | c :: _ => decide (x.lastTick < c.1)
    let run := if moved || decide (s.layer.desc.speed.toNat ≤ s.pv 0x093A k) then 0 else x.still + 1
    let s := s.onEnc k fun e => { e with still := if 3 ≤ run then 0 else run, lastTick := s.time }
    if 3 ≤ run then encLost s k .frozen else s

/-- One update of the observer of a slot (R202): (position, velocity, whether the drive is disabled). -/
def observerStep (s : State) (n : Nat) (o : Int × Int) : Int × Int × Bool :=
  let div := s.pv 0x0911 n
  let sg : Int := o.2.sign
  let v := o.2 - sg * (s.pv 0x0942 0 * 10 * div : Nat)
  (o.1 + divr (v * div) 100000, v, v = 0 || v.sign != sg)

/-- Force feed-forward of the observer in mN against a direction of motion (R202). -/
def observerForce (s : State) (v : Int) : Int := -(v.sign * divr (s.pv 0x0941 0 * s.pv 0x0942 0 : Nat) 1000)

/-- The drives behind a slot's destinations are disabled; a driver in RUN_OUT takes the carriage to be at rest (R202). -/
def observerEnd (s : State) (n : Nat) : State :=
  let ns := match gantryOf s n with
    | some a => [a, a + 1]
    | none => [n]
  let ks := ns.filterMap fun m =>
    let d := s.pv 0x0916 m
    if selKind d = 1 ∨ selKind d = 2 then some (selIdx d) else none
  let s := ks.foldl (fun s k => driveDisable s k sDenied) s
  if s.driver ∧ s.layer.st = .runOut ∧ s.layer.atRest = false then restReached s else s

/-! ### Test signals (R203, R204) -/

/-- A sine of an amplitude at `mhzTicks / den` mHz × due ticks of a slot. -/
def testSine (s : State) (r : TestRun) (a : Int) (mhzTicks den : Nat) : Int :=
  sineTimes a (mhzTicks * s.pv 0x0911 r.t.loop.toNat) (den * 100000000)

/-- One step of the LFSR x¹⁵ + x¹⁴ + 1. -/
def lfsrStep (x : Nat) : Nat := (x * 2 + (bitN (x.testBit 14) + bitN (x.testBit 13)) % 2) % 32768

/-- The injected value at the k-th injected tick. -/
def testWave (s : State) (r : TestRun) (k : Nat) : Int :=
  let a : Int := r.t.a.toInt
  match r.t.wave.toNat with
  | 0 => a
  | 1 => testSine s r a (r.t.f0.toNat * k) 1
  | 2 =>
    let n := 2 * max 1 r.t.duration.toNat
    testSine s r a (n * r.t.f0.toNat * k + ((r.t.f1.toNat : Int) - r.t.f0.toNat) * (k * k : Nat)).toNat n
  | _ => if r.lfsr.testBit 14 then a else -a

/-- The test injects on this due tick: after PRE samples, for DURATION due ticks. -/
def testInjects (r : TestRun) : Bool :=
  decide (r.t.pre.toNat * r.t.decim.toNat ≤ r.ticks) && decide (r.injected < r.t.duration.toNat)

/-- The value a test adds on this due tick. -/
def testValue (s : State) (r : TestRun) : Int := if testInjects r then testWave s r r.injected else 0

/-- What a test adds at one of its points, on a slot's due tick. -/
def injectAt (s : State) (n point : Nat) : Int :=
  match s.servo.test with
  | some r => if r.t.loop.toNat = n ∧ r.t.point.toNat = point ∧ r.stop.isNone then testValue s r else 0
  | none => 0

/-- A recorded signal, in the order of R203. -/
def testSignal (s : State) (n code : Nat) (e ffv inj : Int) : Int :=
  let x := s.slot n
  match code with
  | 0 => x.sp
  | 1 => x.fb
  | 2 => e
  | 3 => x.out
  | 4 => inj
  | 5 => ffv
  | 6 => x.iAcc
  | _ => match selEnc (s.pv 0x0914 n) with
    | some k => sat32 (encVelUm s k s.time)
    | none => 0

/-- The test on a due tick of its slot, after the slot's law: record, count, end. -/
def testTick (s : State) (n : Nat) (e ffv : Int) : State :=
  match s.servo.test with
  | none => if s.servo.testEnd = some n then { s with servo := { s.servo with testEnd := none } } else s
  | some r =>
    if r.t.loop.toNat ≠ n then s
    else if r.stop.isSome then endTest s 1
    else
      let inj := testValue s r
      let due := decide (r.ticks % r.t.decim.toNat = 0) && decide (r.taken < r.t.samples.toNat)
      let words := ((r.t.sig.take r.t.nsig.toNat).map fun c => leI 4 (testSignal s n c.toNat e ffv inj)).flatten
      let s := if due then s.poke (testBase + 64 + r.taken * 4 * r.t.nsig.toNat) words else s
      let injected := if testInjects r then r.injected + 1 else r.injected
      let r' : TestRun := { r with
        ticks := r.ticks + 1
        taken := if due then r.taken + 1 else r.taken
        tFirst := if due && r.taken == 0 then s.time else r.tFirst
        injected := injected
        injSample := r.t.pre.toNat
        lfsr := if testInjects r && injected % max 1 r.t.hold.toNat == 0 then lfsrStep r.lfsr else r.lfsr }
      let s := { s with servo := { s.servo with test := some r' } }
      if r.t.samples.toNat ≤ r'.taken then endTest s 0 else s

/-! ### A due slot -/

/-- Following error of the carriage loop (R194): 0x0F8 as the error passes FOLLOW_MAX. -/
def checkFollow (s : State) (n : Nat) : State :=
  if followBad s n && !(s.flt.cond.getLsbD 0x0F8) then raise s 0x0F8 n true else s

/-- Gantry skew (R195): 0x0F9 as |posA − posB| passes SKEW_MAX. -/
def checkSkew (s : State) (n : Nat) : State :=
  if skewBad s n && !(s.flt.cond.getLsbD 0x0F9) then raise s 0x0F9 n true else s

/-- Consecutive due ticks at a limit (R205). -/
def satCount (s : State) (n : Nat) (c : Coef) (y : Int) : Nat :=
  if decide (2 ≤ slotType s n) && decide (slotType s n ≤ 7) && (y == c.outMin || y == c.outMax) then (s.slot n).satRun + 1 else 0

/-- A due tick of a slot on its observer (R202): an update, but on the tick that detects the loss. The skew slot of a pair
commands nothing (log entry 63). A test on the slot goes on (R203). -/
def observerTick (s : State) (n : Nat) (o : Int × Int) : State :=
  let (p, v, stop) := if (s.slot n).obsSince = s.time then (o.1, o.2, false) else observerStep s n o
  let c := (s.slot n).coef
  let sp := sat32 (slotSp s n + injectAt s n 0)
  let fb := slotFb s n
  let f := (if slotType s n = 5 then 0 else observerForce s o.2) + injectAt s n 2
  let v' := if stop then 0 else v
  let y := if stop then 0 else clampI f c.outMin c.outMax
  let sat := satCount s n c y
  let s := s.onSlot n fun x => { x with observer := some (p, v'), out := y, sp := sp, fb := fb, satRun := sat }
  let s := testTick (applyOut s n) n (sat32 (sp - fb + injectAt s n 1)) (sourceVal s n (s.pv 0x0915 n))
  settleServoConds (if stop then observerEnd s n else s)

/-- The law of a slot on its due tick with the present signals (R188, R203). -/
def runLaw (s : State) (n : Nat) : State :=
  let x := s.slot n
  let c := x.coef
  let sp := sat32 (slotSp s n + injectAt s n 0)
  let fb := slotFb s n
  let ffv := sourceVal s n (s.pv 0x0915 n)
  let t := tabInputs s n
  let o := loopLaw c x.iAcc x.fbPrev sp fb ffv (tabTerm s c t.1 t.2) (injectAt s n 1) (injectAt s n 2)
  let y := if slotType s n = 7 ∧ s.c4On then 0 else o.y
  let sat := satCount s n c o.y
  let s := s.onSlot n fun x => { x with iAcc := o.iAcc, fbPrev := fb, out := y, sp := sp, fb := fb, satRun := sat }
  testTick (applyOut s n) n o.e ffv

/-- A heater slot whose input is invalid: output 0, i_acc held, 0x0FA at the first invalid value (R196). -/
def heaterInvalid (s : State) (n : Nat) : State :=
  let first := !(s.slot n).invalid
  let sp := sat32 (slotSp s n + injectAt s n 0)
  let fb := slotFb s n
  let sat := satCount s n (s.slot n).coef 0
  let s := applyOut (s.onSlot n fun x => { x with invalid := true, out := 0, sp := sp, fb := fb, satRun := sat }) n
  let s := testTick s n (sat32 (sp - fb + injectAt s n 1)) (sourceVal s n (s.pv 0x0915 n))
  if first then raise s 0x0FA n true else s

/-- The FB channel of a heater slot is valid: bit 0 of its flags (11 Table HKP-5). -/
def inputValid (s : State) (n : Nat) : Bool := (s.house.ch.getD (selIdx (s.pv 0x0914 n)) {}).flags.getLsbD 0

/-- The carriage loop at its due tick: since when the profile is complete and |sp − fb| stays within SERVO.INPOS_NM (R194). -/
def noteInPos (s : State) (n : Nat) : State :=
  if slotType s n ≠ 2 ∧ slotType s n ≠ 4 then s
  else
    let p := s.servo.prof
    let within := profOver p s.time && decide (((s.slot n).sp - (s.slot n).fb).natAbs ≤ s.pv 0x0944 0)
    { s with servo := { s.servo with prof := { p with inSince := if within then some (p.inSince.getD s.time) else none } } }

/-- A due slot that is enabled (R188 to R204): freeze detection, the observer or the law, and the carriage checks. -/
def slotTick (s : State) (n : Nat) : State :=
  let s := freezeSlot s n
  match (s.slot n).observer with
  | some o => observerTick s n o
  | none =>
    if slotType s n = 7 ∧ inputValid s n = false then heaterInvalid s n
    else
      let s := if (s.slot n).invalid then slotStart (s.onSlot n fun x => { x with invalid := false }) n 0 else s
      settleServoConds (checkSkew (checkFollow (noteInPos (runLaw s n) n) n) n)

/-- Slot n is due on the tick with number t (R186). -/
def slotDue (s : State) (n t : Nat) : Bool := t % s.pv 0x0911 n == s.pv 0x0912 n

/-! ### The carriage profile at a tick (R194) -/

/-- Integer square root: the largest r below `2 ^ bits` with r² ≤ n. -/
def isqrt (n : Nat) : Nat → Nat → Nat
  | 0, r => r
  | b + 1, r => isqrt n b (if (r + 2 ^ b) * (r + 2 ^ b) ≤ n then r + 2 ^ b else r)

/-- A segment that changes speed from v to w (same sign) at `a`, from position p. -/
def speedSeg (p v w : Int) (a : Nat) : Seg :=
  { dur := divCeil ((w - v).natAbs * secU) a, p0 := p, v0 := v, a := (w - v).sign * a }

/-- A segment at constant speed v over a distance. -/
def cruiseSeg (p v : Int) (d : Nat) : Seg := { dur := d * secU / max 1 v.natAbs, p0 := p, v0 := v, a := 0 }

/-- A trapezoid from speed v, already toward the target, over a distance that lets it stop; sg the direction. -/
def trapezoid (p v : Int) (sg : Int) (d vmax a : Nat) : List Seg :=
  let v0 := v.natAbs
  let peak := max (min vmax (isqrt (a * d + v0 * v0 / 2) 64 0)) (min v0 vmax)
  let up := speedSeg p v (sg * peak) a
  let d1 := (v0 * v0 - peak * peak + (peak * peak - v0 * v0)) / (2 * a)
  let d3 := peak * peak / (2 * a)
  let p1 := p + sg * d1
  let d2 := d - d1 - d3
  [up, cruiseSeg p1 (sg * peak) d2, speedSeg (p1 + sg * d2) (sg * peak) 0 a].filter fun g => g.dur != 0

/-- A move from position p and speed v to a target: along the way where the target lies beyond the stopping point, else to rest
and back. -/
def moveSegs (p v target : Int) (vmax a : Nat) : List Seg :=
  let stopAt := p + v.sign * ((v.natAbs * v.natAbs / (2 * a) : Nat) : Int)
  if v = 0 then trapezoid p 0 (target - p).sign (target - p).natAbs vmax a
  else if 0 ≤ (target - stopAt) * v.sign then trapezoid p v v.sign (target - p).natAbs vmax a
  else decelSegs p v a ++ trapezoid stopAt 0 (target - stopAt).sign (target - stopAt).natAbs vmax a

/-- A carriage move taken at a base tick: planned from the present profile position and velocity. -/
def takeMove (s : State) : State :=
  match s.servo.prof.moveTo with
  | none => s
  | some t =>
    let (p, v) := profAt s.servo.prof s.time
    let gs := moveSegs p v t (s.pv 0x0946 0 * 1000) (s.pv 0x0946 1 * 1000000)
    { s with servo := { s.servo with prof :=
        { kind := .move, t0 := s.time, segs := gs, restPos := t, inPos := false, stop := s.servo.prof.stop } } }

/-- A carriage move is in motion: not yet complete and in position (R194). -/
def moveRuns (p : Profile) : Bool := p.moveTo.isSome || (decide (p.kind = .move) && !p.inPos)

/-- SERVO_CARRIAGE_STOP is sampled at a base tick (R194): completion wins. -/
def takeStop (s : State) : State :=
  match s.servo.prof.stop with
  | none => s
  | some w =>
    let p := s.servo.prof
    let s := { s with servo := { s.servo with prof := { p with stop := none } } }
    if moveRuns p then answer (profDecel s .stopRamp (s.pv 0x0946 1 * 1000000)) w sOK []
    else answer s w (if p.kind = .move then sTooLate else sOK) []

/-- Writes of SERVO_TABLE_WRITE reach the tables between two ticks (R192). -/
def takeTables (s : State) : State :=
  let m := s.servo.tabWrites.foldl (fun m e => memPuts m e.1 (le 4 e.2.toNat)) s.mem
  { s with mem := m, servo := { s.servo with tabWrites := [] } }

/-- Number of the base tick at a counter value (R186). -/
def tickNo (t : Nat) : Nat := t / 2560000

/-- Committed coefficients of the slots that are due come into use (R189). -/
def takeCommits (s : State) : State :=
  let slots := s.servo.slots.mapIdx fun n x =>
    if x.commit && slotDue s n (tickNo s.time) then { x with commit := false, coef := shadowCoef s n } else x
  { s with servo := { s.servo with slots := slots } }

/-- A base tick (Table SERVO-1): positions, set-points and coefficients are fixed at its start, then the enabled slots that are
due are computed in ascending number (R186). -/
def baseTick (s : State) : State :=
  let s := (List.range 4).foldl latchEnc (takeTables s)
  let s := takeCommits (latchSetPoints (takeStop (takeMove s)))
  let s := freezeFollower s
  (List.range 24).foldl (fun s n => if (s.slot n).en && slotDue s n (tickNo s.time) then slotTick s n else s) s

end Sys2Proof.Machine
end

