-- ==== Sys2Proof/Machine/DriveCore.lean ====
section
/-!
DEFINITION. The drive channels: estimators, comparators, switching table, speed loop, offsets and state transitions
(09 R208 to R222).
-/

namespace Sys2Proof.Machine

/-! ### Inputs -/

/-- DRV.MODE of a channel (R208). -/
def driveMode (s : State) (k : Nat) : Nat := s.pv 0x0A10 k

/-- Raises a drive source with the channel as event data, remembered as the channel's own (R223). -/
def driveRaise (s : State) (k id : Nat) (cond : Bool) : State :=
  raise { s with flt := { s.flt with drvOwn := s.flt.drvOwn.modify k fun o => setBit o (id - 0x110) true } } id k cond

/-- Current of a leg in mA from its average in 1/256 count (R211). -/
def legCurrent (s : State) (k leg : Nat) (avg : Int) : Int :=
  divr ((avg - ofsValue s (3 * k + leg)) * s.pv 0x0A1D k) 256000

/-- The curve's result for an input (R215). -/
def curveAt : List (Int × Int) → Int → Int
  | [], _ => 0
  | [p], _ => p.2
  | p :: q :: rest, x =>
    if x < p.1 then p.2
    else if x < q.1 then p.2 + divr ((q.2 - p.2) * (x - p.1)) (q.1 - p.1)
    else curveAt (q :: rest) x

/-- Curve input of a channel (R215). -/
def curveInput (s : State) (k : Nat) : Int :=
  let src := s.dpv 0x0A21 k 0
  match src / 256 with
  | 0 => ofField 32 (s.dpv 0x0A22 k 0)
  | 1 => (s.drive k).speedUse
  | _ => (s.house.ch.getD (src % 256) {}).value

/-- Target speed of mode 1: the curve's result while the run request is on, else 0 (R215). -/
def driveTarget (s : State) (k : Nat) : Int :=
  let d := s.drive k
  if d.c3Ramp || !d.runReq then 0 else curveAt d.curve (curveInput s k)

/-- Run request of a channel: in modes 2 and 3 it is on while the channel is enabled (Table DRV-3). -/
def wantsRun (s : State) (k : Nat) : Bool := driveMode s k != 1 || (s.drive k).runReq

/-- Sign of the demand that the last decision took: of the speed demand or its target in mode 1, of the torque demand in mode 2
(R209, R219). -/
def demandPositive (s : State) (k : Nat) : Bool :=
  let d := s.drive k
  if driveMode s k = 1 then decide (0 ≤ if d.spd = 0 then d.target else d.spd) else decide (0 ≤ d.torqueUse)

/-- x moves toward a target by at most `by`. -/
def moveToward (x target : Int) (step : Nat) : Int := clampI target (x - step) (x + step)

/-- Curve, run request and speed ramp at a decision in mode 1 (R215). -/
def speedDemand (s : State) (k : Nat) : State :=
  let s := s.onDrive k fun d => match d.curveNew with
    | some c => { d with curve := c, curveNew := none }
    | none => d
  if driveMode s k ≠ 1 then s
  else
    let x := curveInput s k
    let on := decide (ofField 32 (s.dpv 0x0A23 k 0) ≤ x)
    let off := decide (x < ofField 32 (s.dpv 0x0A23 k 8))
    let s := s.onDrive k fun d => { d with runReq := on || (d.runReq && !off) }
    let target := driveTarget s k
    s.onDrive k fun d =>
      let n := d.rampRem + s.dpv 0x0A24 k 0 * s.pv 0x0A1B k
      { d with target := target, spd := moveToward d.spd target (n / 1000000), rampRem := n % 1000000 }

/-! ### Estimators (R212) -/

/-- Leg states U, V, W of a vector (R214). -/
def legsOf (vec : Nat) : Int × Int × Int :=
  match vec with
  | 1 => (1, 0, 0)
  | 2 => (1, 1, 0)
  | 3 => (0, 1, 0)
  | 4 => (0, 1, 1)
  | 5 => (0, 0, 1)
  | 6 => (1, 0, 1)
  | 7 => (1, 1, 1)
  | _ => (0, 0, 0)

/-- Time of the chosen vector in a period, ns (Table DRV-1). -/
def vectorTime (s : State) (k : Nat) : Nat := s.pv 0x0A1B k - (s.pv 0x0A1C k + 300 + s.pv 0x0A1C (k + 16))

/-- `ib_` of the Clarke transform (R212). -/
def clarkeB (ia ib : Int) : Int := divr ((ia + 2 * ib) * 37837) 65536

/-- Flux and torque by the leaky integrator (R212), modes 1 and 2. -/
def fluxStep (s : State) (k : Nat) (ia ib : Int) : State :=
  let d := s.drive k
  let td : Int := s.pv 0x0A1B k
  let ton : Int := vectorTime s k
  let (su, sv, sw) := legsOf (if d.gates then d.vec else 0)
  let ib' := clarkeB ia ib
  let va := divr (d.vbus * (2 * su - sv - sw) * ton) (3 * td)
  let vb := divr (d.vbus * (sv - sw) * ton * 37837) (65536 * td)
  let rs : Int := s.pv 0x0A13 k
  let leak (x : Int) : Int := divr (x * td) (s.pv 0x0A1E k * 1000000)
  let a := d.psiA + divr ((va * 1000 - rs * ia) * td) 1000 - leak d.psiA
  let b := d.psiB + divr ((vb * 1000 - rs * ib') * td) 1000 - leak d.psiB
  s.onDrive k fun d => { d with
    psiA := a, psiB := b
    tEst := sat32 (divr (3 * s.pv 0x0A11 k * (a * ib' - b * ia)) 2000000000000) }

/-- A flux of a magnitude (µWb) at an angle of `num / den` of a turn, pWb. -/
def fluxAt (uwb num den : Nat) : Int × Int :=
  (cosineTimes (uwb * 1000000 : Nat) num den, sineTimes (uwb * 1000000 : Nat) num den)

/-- Pole-pair pitch of mode 3 in nm, and the position within it: the angle θ of R212 is their quotient of a turn. -/
def commPitch (s : State) (k : Nat) : Nat := 2000 * s.pv 0x0A12 k
def commPos (s : State) (k : Nat) : Nat :=
  let e := s.pv 0x0A1F k
  ((encNm s e (s.enc e).pos - ofField 32 (s.dpv 0x0A20 k 0)) % commPitch s k).toNat

/-- Flux and force modelled from the encoder (R212), mode 3. -/
def forceStep (s : State) (k : Nat) (ia ib : Int) : State :=
  let ib' := clarkeB ia ib
  let f := fluxAt (s.pv 0x0A15 k) (commPos s k) (commPitch s k)
  let l : Int := s.pv 0x0A14 k * 1000
  let a := f.1 + l * ia
  let b := f.2 + l * ib'
  s.onDrive k fun d => { d with
    psiA := a, psiB := b
    tEst := sat32 (divr (3 * 355 * (a * ib' - b * ia)) (2 * 113 * s.pv 0x0A12 k * 1000000)) }

/-- Sector 1 to 6 of a flux (R212): sector k holds the angles from (k − 1) × 60° − 30° inclusive to
(k − 1) × 60° + 30°. -/
def sectorOf (a b : Int) : Nat :=
  if a = 0 ∧ b = 0 then ((12 * vectorAngle a b + 4294967296) / 8589934592) % 6 + 1
  else if 0 < a ∧ (3 * b * b < a * a ∨ (b < 0 ∧ 3 * b * b = a * a)) then 1
  else if a < 0 ∧ (3 * b * b < a * a ∨ (0 < b ∧ 3 * b * b = a * a)) then 4
  else if 0 < b then (if 0 < a then 2 else 3)
  else if a < 0 then 5 else 6

/-- Difference of two angles as a signed part of a turn. -/
def angleDiff (x y : Nat) : Int :=
  let d := ((x : Int) - y) % 4294967296
  if d < 2147483648 then d else d - 4294967296

/-- Sum of the successive differences of angles, newest first. -/
def angleRun : List Nat → Int
  | [] => 0
  | [_] => 0
  | x :: y :: rest => angleDiff x y + angleRun (y :: rest)

/-- A decision whose estimates were discarded (R211): the angle and SPEED keep their values, and its time counts. -/
def keepAngle (s : State) (k : Nat) : State :=
  s.onDrive k fun d => { d with angles := (d.angles.take 1 ++ d.angles).take (s.dpv 0x0A26 k 0 + 1) }

/-- DRV.SPEED and the sector after a decision (R212); before a second decision SPEED keeps its value. -/
def speedStep (s : State) (k : Nat) : State :=
  s.onDrive k fun d =>
    let xs := (vectorAngle d.psiA d.psiB :: d.angles).take (s.dpv 0x0A26 k 0 + 1)
    let span := (xs.length - 1) * s.pv 0x0A1B k
    { d with
      angles := xs
      speed := if span = 0 then d.speed else sat32 (divr (angleRun xs * 1000000000000) (4294967296 * span : Nat)) }

/-! ### Comparators and vector (R213, R214) -/

/-- ψref in pWb, and |ψ| against a bound of per mille of ψref: whether |ψ|² × 10⁶ is below (ψref × m)². -/
def psiRef (s : State) (k : Nat) : Nat := s.pv 0x0A16 k * 1000000

/-- |ψ| × 100 < ψref × m, for a percentage m. -/
def psiBelow (s : State) (k m : Nat) : Bool :=
  let d := s.drive k
  decide ((d.psiA * d.psiA + d.psiB * d.psiB) * 10000 < ((psiRef s k * m * (psiRef s k * m) : Nat) : Int))

/-- |ψ| × 100 > ψref × m. -/
def psiAbove (s : State) (k m : Nat) : Bool :=
  let d := s.drive k
  decide (((psiRef s k * m * (psiRef s k * m) : Nat) : Int) < (d.psiA * d.psiA + d.psiB * d.psiB) * 10000)

/-- Torque or force reference of a channel (R208, R215, Table DRV-3). -/
def torqueRef (s : State) (k : Nat) : Int × Int :=
  let d := s.drive k
  let tm : Int := s.pv 0x0A19 k
  if d.st = .reverse then ((if demandPositive s k then 1 else -1) * (s.dpv 0x0A2E k 0 : Int), d.iAcc)
  else if driveMode s k = 1 then
    let c : Coef := { kp := s.dpv 0x0A25 k 0, ki := s.dpv 0x0A25 k 8, outMin := -tm, outMax := tm }
    let o := loopLaw c d.iAcc d.speed d.spd d.speed 0 0 0 0
    (o.y, o.iAcc)
  else (clampI d.torqueUse (-tm) tm, d.iAcc)

/-- Comparator outputs (R213). -/
def compare (s : State) (k : Nat) (tref : Int) : State :=
  let h := s.pv 0x0A17 k
  let dPsi := if psiBelow s k (100 - h) then true else if psiAbove s k (100 + h) then false else (s.drive k).dPsi
  let ht : Int := (s.pv 0x0A19 k * s.pv 0x0A18 k : Nat)
  s.onDrive k fun d =>
    let err := (tref - d.tEst) * 100
    let dT := if ht < err then 1 else if err < -ht then -1
      else if (d.dTLast = 1 ∧ err ≤ 0) ∨ (d.dTLast = -1 ∧ 0 ≤ err) then 0 else d.dT
    { d with dPsi := dPsi, dT := dT, dTLast := if dT = 0 then d.dTLast else dT, tRef := tref }

/-- Active vector of an index taken modulo 6 (Table DRV-2). -/
def vecMod (n : Nat) : Nat := (n + 5) % 6 + 1

/-- Switching table (R214). -/
def chooseVector (d : Drive) : Nat :=
  let k := d.sector
  if d.dT = 0 then (if d.lastActive % 2 = 1 then 0 else 7)
  else if d.dPsi then (if d.dT = 1 then vecMod (k + 1) else vecMod (k + 5))
  else (if d.dT = 1 then vecMod (k + 2) else vecMod (k + 4))

/-- A vector is applied; an active one is the previous active vector of the next zero entry (R214). -/
def withVector (d : Drive) (v : Nat) : Drive := { d with vec := v, lastActive := if v = 0 ∨ v = 7 then d.lastActive else v }

/-- The chosen vector is applied. -/
def applyVector (s : State) (k : Nat) : State := s.onDrive k fun d => withVector d (chooseVector d)

/-! ### Offsets (R217, R218) -/

/-- A leg's offset from a measurement. -/
def setOffset (s : State) (k leg : Nat) (v : Int) (src : Nat) : State :=
  s.onDrive k fun d => { d with ofs := d.ofs.modify leg fun o => { o with val := v, src := src, setAt := s.time } }

/-- The close of a tracking window for one leg: its mean is added to its offset, or rejected (R218). -/
def closeLeg (s : State) (k leg : Nat) (sum : Int) (n : Nat) : State :=
  let v := ofsValue s (3 * k + leg) + divr sum n
  if s.dpv 0x0A32 k 0 < (v - Config.shuntOffset (3 * k + leg)).natAbs then
    driveRaise (s.count 0x0A46 (k + 16) 1) k 0x116 false
  else setOffset s k leg v 2

/-- Offset tracking on a decision in RUN (R218): `came` the sector before it, `xs` the offset-corrected samples. -/
def trackStep (s : State) (k came : Nat) (xs : List Int) : State :=
  let d := s.drive k
  let entry := decide (d.sector = 1) && came != 1
  let fresh : Option (Int × List Int × Nat × Nat) := if entry then some (d.speed, [0, 0, 0], 0, 0) else none
  match d.track with
  | none => s.onDrive k fun d => { d with track := fresh }
  | some (f0, sums, n, revs) =>
    if f0.natAbs * s.dpv 0x0A30 k 0 < (d.speed - f0).natAbs * 100 then s.onDrive k fun d => { d with track := fresh }
    else
      let sums := sums.zipWith (· + ·) xs
      let n := n + 1
      let revs := if entry then revs + 1 else revs
      if entry ∧ s.dpv 0x0A31 k 0 ≤ revs then
        let s := (List.range 3).foldl (fun s leg => closeLeg s k leg (sums.getD leg 0) n) s
        s.onDrive k fun d => { d with track := fresh }
      else s.onDrive k fun d => { d with track := some (f0, sums, n, revs) }

/-! ### Transitions (Table DRV-3) -/

/-- A channel enters a state with a vector held. -/
def driveOn (s : State) (k : Nat) (st : DrvState) (vec : Nat) : State :=
  driveConds (s.onDrive k fun d => withVector { driveTo d st s.time with gates := true, angles := [] } vec)

/-- A channel enters a state with gates off. -/
def driveFree (s : State) (k : Nat) (st : DrvState) : State := driveConds (s.onDrive k fun d => driveTo d st s.time)

/-- Entry to CATCH counts an attempt (R219). -/
def enterCatch (s : State) (k : Nat) : State := (driveFree s k .catch).count 0x0A46 k 1

/-- Flux angle at a zero crossing of a phase's back-EMF, in sixths of a turn: in the frame of R212 the flux is at right angles
to the phase's axis a quarter turn ago, so the back-EMF of phase p falls through zero with the flux on the axis of p, and
rises through it on the opposite side (log entry 64). -/
def crossSixth (phase : Nat) (rising : Bool) : Nat := (2 * phase + if rising then 3 else 0) % 6

/-- Entry to RUN with the flux at PSI_PM and the angle of a crossing, at a frequency (R219, R220). -/
def enterRun (s : State) (k phase : Nat) (rising : Bool) (f : Int) : State :=
  let p := fluxAt (s.pv 0x0A15 k) (crossSixth phase rising) 6
  (driveOn s k .run 0).onDrive k fun d => { d with psiA := p.1, psiB := p.2, speed := f, sector := sectorOf p.1 p.2 }

/-- The motor is lost in RUN: COAST, or FAULT with 0x114 once CATCH_TRIES catches in a row have failed (R219, R221). -/
def loseMotor (s : State) (k : Nat) : State :=
  let d := s.drive k
  let failed := match d.caughtAt with
    | some t => decide (s.time ≤ t + 100 * msU)
    | none => false
  let fails := if failed then d.catchFails + 1 else 0
  let s := driveFree (s.count 0x0A46 (k + 8) 1) k .coast
  let s := s.onDrive k fun d => { d with catchFails := fails, caughtAt := none, coastToStart := false }
  let s := driveRaise s k 0x115 false
  if s.dpv 0x0A2C k 8 ≤ fails then
    driveRaise ((driveFault s k).onDrive k fun d => { d with catchFails := 0 }) k 0x114 false
  else s

/-- Back-EMF validity is not given in this decision (R221). -/
def bemfBad (s : State) (k : Nat) : Bool :=
  let d := s.drive k
  let h := 4 * s.pv 0x0A17 k
  (decide (2 * d.speed.natAbs < s.dpv 0x0A2A k 0) && decide (s.pv 0x0A19 k * s.pv 0x0A18 k ≤ d.tRef.natAbs * 100))
    || psiAbove s k (100 + h) || psiBelow s k (100 - h)

/-- Bus voltage of a period against its limits (Table DRV-4), raised as the condition comes; VBUS_MIN counts in RUN. -/
def checkBus (s : State) (k vbus : Nat) : State :=
  let d := s.drive k
  let hi := decide (s.dpv 0x0A34 k 8 < vbus)
  let lo := d.st == .run && decide (vbus < s.dpv 0x0A34 k 0)
  let s := driveConds (s.onDrive k fun d => { d with vbus := vbus, busHi := hi, busLo := lo })
  let s := if hi && !d.busHi then driveRaise s k 0x111 true else s
  if lo && !d.busLo then driveRaise s k 0x112 true else s

/-- The estimates, comparators and vector of a decision in RUN or REVERSE (R211 to R214). -/
def drivenDecision (s : State) (k : Nat) (avgs : List Int) (ia ib : Int) : State :=
  let came := (s.drive k).sector
  let s := if driveMode s k = 3 then forceStep s k ia ib else fluxStep s k ia ib
  let s := speedStep s k
  let s := s.onDrive k fun d => { d with sector := sectorOf d.psiA d.psiB }
  let (tref, acc) := torqueRef s k
  let s := compare s k tref
  let s := applyVector (s.onDrive k fun d => { d with iAcc := acc }) k
  if (s.drive k).st = .run then
    trackStep s k came (((List.range 3).zip avgs).map fun e => e.2 - ofsValue s (3 * k + e.1))
  else s

/-- The transitions after a decision in RUN or REVERSE (Table DRV-3, R221); estimates that were discarded say nothing of the
back-EMF. -/
def drivenExit (s : State) (k : Nat) (kept : Bool) : State :=
  let d := s.drive k
  let slow := decide (d.speed.natAbs < s.dpv 0x0A2A k 0)
  if d.st = .reverse then (if slow then driveOn s k .brake 0 else s)
  else if driveMode s k = 3 then s
  else if driveMode s k = 1 && !d.runReq && slow then driveFree s k .idle
  else if !kept then s
  else
    let run := if bemfBad s k then d.badRun + 1 else 0
    let s := s.onDrive k fun d => { d with badRun := run }
    if 8 ≤ run then loseMotor s k else s

/-- A decision with gates driven (R210, R211). -/
def sampledDecision (s : State) (k : Nat) (avgs : List Int) : State :=
  let i := (List.range 3).map fun leg => legCurrent s k leg (avgs.getD leg 0)
  if s.pv 0x0A1A k < 8 * (i.getD 0 0 + i.getD 1 0 + i.getD 2 0).natAbs then
    let run := (s.drive k).isumRun + 1
    let s := (s.onDrive k fun d => { d with isumRun := run }).count 0x0A46 (k + 24) 1
    drivenExit (keepAngle (if run = 16 then driveRaise s k 0x117 false else s) k) k false
  else
    let s := s.onDrive k fun d => { d with isumRun := 0 }
    drivenExit (drivenDecision s k avgs (i.getD 0 0) (i.getD 1 0)) k true

/-- The phase that a six-step vector leaves floating: with it, the two legs that V(n) drives make the voltage that leads V(n) by
30 degrees in the direction of rotation (R214, R220). -/
def floatPhase (positive : Bool) (vec : Nat) : Nat :=
  if positive then (match (vec + 4) % 3 with
    | 0 => 0
    | 1 => 2
    | _ => 1)
  else (12 - vec) % 3

/-- Chopping at START_I (R220, R225): the low switches of the vector conduct, but for the floating phase of a six-step vector. -/
def chopStep (s : State) (k : Nat) (avgs : List Int) : State :=
  let d := s.drive k
  let (su, sv, sw) := legsOf d.vec
  let low (leg : Nat) (x : Int) : Bool :=
    x == 0 && !(d.ramping && floatPhase (demandPositive s k) d.stepVec == leg)
      && decide (s.dpv 0x0A28 k 0 < (legCurrent s k leg (avgs.getD leg 0)).natAbs)
  s.onDrive k fun d => { d with chop := low 0 su || low 1 sv || low 2 sw }

/-- An idle channel at a decision (Table DRV-3): CATCH in modes 1 and 2 with a run request, RUN in mode 3 with an encoder
that is valid and referenced. -/
def idleDecision (s : State) (k : Nat) : State :=
  let e := s.enc (s.pv 0x0A1F k)
  if driveMode s k = 3 then (if e.valid && e.referenced then driveOn s k .run 0 else s)
  else if wantsRun s k then enterCatch s k else s

/-- A decision period of an enabled channel (R210 to R222), or of one that aligns. The bus is looked at in each (R223). -/
def decision (s : State) (k : Nat) (avgs : List Int) (vbus : Nat) : State :=
  let s := checkBus (latchDrive s k) k vbus
  if (s.drive k).st = .disabled then (if (s.drive k).align.isSome then chopStep s k avgs else s)
  else
    let s := speedDemand s k
    let d := s.drive k
    if d.c3Ramp && d.spd = 0 then driveFault s k
    else
      match d.st with
      | .idle => idleDecision s k
      | .catch | .brake => if wantsRun s k then s else driveFree s k .idle
      | .start => if wantsRun s k then chopStep s k avgs else driveFree s k .idle
      | .reverse => if wantsRun s k then sampledDecision s k avgs else driveFree s k .idle
      | .run => sampledDecision s k avgs
      | .coast | .disabled | .fault => s

/-! ### Zero crossings (R219, R220) -/

/-- Direction of two successive phases: U, V, W positive. -/
def phaseStep (p q : Nat) : Option Bool := if (p + 1) % 3 = q then some true else if (q + 1) % 3 = p then some false else none

/-- Frequency in mHz of three crossings, newest first, in a consistent phase order (R219). -/
def crossFreq : List (Nat × Nat × Bool) → Option Int
  | (t3, p3, _) :: (_, p2, _) :: (t1, p1, _) :: _ =>
    match phaseStep p1 p2, phaseStep p2 p3 with
    | some true, some true => some (divr (1000 * secU : Nat) (3 * max 1 (t3 - t1) : Nat))
    | some false, some false => some (-(divr (1000 * secU : Nat) (3 * max 1 (t3 - t1) : Nat)))
    | _, _ => none
  | _ => none

/-- A crossing in CATCH (R219). -/
def catchCross (s : State) (k phase : Nat) (rising : Bool) : State :=
  let s := s.onDrive k fun d => { d with zc := ((s.time, phase, rising) :: d.zc).take 3 }
  match crossFreq (s.drive k).zc with
  | none => s
  | some f =>
    if f.natAbs < s.dpv 0x0A2A k 8 then driveOn s k .brake 0
    else if demandPositive s k = decide (0 < f) then
      (enterRun s k phase rising f).onDrive k fun d => { d with iAcc := 0, caughtAt := some s.time }
    else (driveOn s k .reverse 0).onDrive k fun d => { d with speed := f }

/-- A try of START fails (R220): COAST and BRAKE again, or FAULT with 0x113 after START_TRIES. -/
def startFail (s : State) (k : Nat) : State :=
  let fails := (s.drive k).startFails + 1
  if s.dpv 0x0A2C k 0 ≤ fails then
    driveRaise ((driveFault s k).onDrive k fun d => { d with startFails := 0 }) k 0x113 false
  else (driveFree s k .coast).onDrive k fun d => { d with startFails := fails, coastToStart := true }

/-- Frequency of the start ramp, mHz (R220). -/
def rampFreq (s : State) (k : Nat) : Nat := rampNow s k / msU

/-- A crossing falls within ±25 % of its expected time, 30° after the commutation (R220). -/
def crossTimely (s : State) (k : Nat) : Bool :=
  let f := rampFreq s k
  let x := 12 * f * (s.time - (s.drive k).lastComm)
  decide (3 * (1000 * secU) ≤ 4 * x) && decide (4 * x ≤ 5 * (1000 * secU))

/-- A crossing in START (R220): only the floating phase is looked at, and one timely crossing counts for a step. -/
def startCross (s : State) (k phase : Nat) (rising : Bool) : State :=
  let pos := demandPositive s k
  if floatPhase pos (s.drive k).stepVec ≠ phase ∨ (s.drive k).crossed then s
  else
    let timely := crossTimely s k
    let run := if timely then (s.drive k).lockRun + 1 else 0
    let f := rampFreq s k
    let s := s.onDrive k fun d => { d with lockRun := run, crossed := timely, rampHz := f }
    if s.dpv 0x0A2B k 0 ≤ run ∧ s.dpv 0x0A2A k 0 ≤ f then
      (enterRun s k phase rising (if pos then f else -f)).onDrive k fun d => { d with startFails := 0, caughtAt := none }
    else s

/-- A six-step commutation in START (R220): the next vector in the demand's direction; a step without a timely crossing ends the
run of valid ones, and a try that is not locked when the ramp reaches 1.5 × HANDOVER fails. -/
def sixStep (s : State) (k : Nat) : State :=
  let f := rampFreq s k
  let s := s.onDrive k fun d => { d with lockRun := if d.crossed then d.lockRun else 0, crossed := false }
  if 3 * s.dpv 0x0A2A k 0 ≤ 2 * f ∧ (s.drive k).lockRun < s.dpv 0x0A2B k 0 then startFail s k
  else
    let pos := demandPositive s k
    s.onDrive k fun d =>
      let v := if pos then vecMod (d.stepVec + 1) else vecMod (d.stepVec + 5)
      withVector { d with stepVec := v, lastComm := s.time, rampHz := f, chop := false } v

end Sys2Proof.Machine
end

