-- ==== Sys2Proof/Machine/StepCore.lean ====
section
/-!
DEFINITION. The stepper axes: the jerk-limited profile, the queue and its joints, switches and homing (10 R226 to R238).

The profile runs along the dominant member in fine units, so that one evaluation of 10 µs is integer addition: distance in
10^-15 microstep, velocity in 10^-10 microstep/s, acceleration in 10^-5 microstep/s²; a jerk of J microsteps/s³ changes the
acceleration by J per evaluation. Its arithmetic is the model's (log entry 20); its limits and its end are the manual's.
-/

namespace Sys2Proof.Machine

/-! ### The profile (R228) -/

/-- Fine units of distance and velocity. -/
def fineX : Nat := 1000000000000000
def fineV : Nat := 10000000000
def fineA : Nat := 100000

/-- Distance of an S ramp from speed v, without acceleration, to speed vj below it. -/
def rampDist (v vj : Int) (a j : Nat) : Int :=
  let dv := v - vj
  if dv ≤ 0 then 0
  else if dv * j ≤ (a * a : Nat) then (v + vj) * (isqrt (dv * 1048576 / j).toNat 80 0 + 1 : Nat) / 1024
  else (v + vj) * (dv * j + (a * a : Nat)) / (2 * a * j : Nat)

/-- Distance that a profile at speed v and acceleration acc still needs to come to speed vj. -/
def stopDist (v acc vj : Int) (a j : Nat) : Int :=
  let b := acc.natAbs
  let top := v + (b * b / (2 * j) : Nat)
  let part : Int := (b * b * b / (j * j) : Nat)
  if 0 ≤ acc then v * b / j + part / 3 + rampDist top vj a j
  else rampDist top vj a j - (top * b / j - part / 6)

/-- A profile may take acceleration x in this evaluation: it can still ease off below VMAX and come to speed vj within `rem`. -/
def mayTake (v rem vj : Int) (vmax a j : Nat) (x : Int) : Bool :=
  decide (0 ≤ v + x) && decide (x.natAbs ≤ a)
    && (decide (x ≤ 0) || decide (v + x + x * x / (2 * j : Nat) ≤ vmax))
    && (decide (0 ≤ x) || decide (vj + x * x / (2 * j : Nat) ≤ v + x))
    && decide (stopDist (v + x) x vj a j ≤ rem - (v + x))

/-- Acceleration of a deceleration to speed vj at up to `a` (R231). -/
def brakeAcc (v acc vj : Int) (a j : Nat) : Int :=
  let good := fun (x : Int) => decide (x ≤ 0) && decide (vj + x * x / (2 * j : Nat) ≤ v + x)
  let x := max (acc - j) (-a)
  if 0 < x then x else if good x then x else if good acc then acc else min 0 (acc + j)

/-- Accelerations that a move may take in this evaluation, the largest first: at most a jerk of j away from the last one and at most
a, in sixteenths, and 0 where it lies between. -/
def accChoices (acc : Int) (a j : Nat) : List Int :=
  let hi := min (acc + j) a
  let lo := max (acc - j) (-(a : Int))
  let xs := (List.range 17).map fun i => hi - (hi - lo) * i / 16
  xs.filter (0 < ·) ++ (if lo ≤ 0 ∧ 0 ≤ hi then [0] else []) ++ xs.filter (· < 0)

/-- Acceleration of a move in this evaluation: the largest it may take, else that of a deceleration. -/
def moveAcc (v acc rem vj : Int) (vmax a j : Nat) : Int :=
  match (accChoices acc a j).find? (mayTake v rem vj vmax a j) with
  | some x => x
  | none => brakeAcc v acc vj a j

/-! ### Moves -/

/-- Distances of a move from positions in 1/65536 microstep, per member in 1/65536 microstep. -/
def moveDelta (m : Move) (start : List Int) : List Int := List.zipWith (fun t p => t * 65536 - p) m.targets start

/-- The largest distance of a move, that of its dominant member (R230). -/
def domDist (d : List Int) : Nat := (d.map Int.natAbs).foldl max 0

/-- Index of the dominant member: the first with the largest distance. -/
def domIndex (d : List Int) : Nat := d.findIdx fun x => x.natAbs == domDist d

/-- Positions of a unit's members, 1/65536 microstep. -/
def unitPos (s : State) (u : Nat) : List Int := (s.unit u).members.map fun k => (s.axis k).posQ16

/-- Distance of the current move in fine units. -/
def curDist (x : StepUnit) : Int :=
  match x.cur with
  | some m => (domDist (moveDelta m m.start) * fineX / 65536 : Nat)
  | none => 0

/-- Signed speed of a member, microsteps/s, rounded toward negative infinity (R226). -/
def memberVel (x : StepUnit) (i : Nat) : Int :=
  match x.cur with
  | some m =>
    let d := moveDelta m m.start
    if domDist d = 0 then 0 else x.vel * d.getD i 0 / (domDist d * fineV : Nat)
  | none => 0

/-- Positions of the members at a distance along the current move: dominant × Δi / Δdom, rounded half up (R230). -/
def posAt (m : Move) (prog : Int) : List Int :=
  let d := moveDelta m m.start
  let dom := domDist d
  if dom = 0 then m.start
  else List.zipWith (fun p x => p + divr (prog * x * 65536) (dom * fineX : Nat)) m.start d

/-- Puts positions into the members of a unit. -/
def putPos (s : State) (u : Nat) (ps : List Int) : State :=
  ((s.unit u).members.zip ps).foldl (fun s e => s.onAxis e.1 fun a => { a with posQ16 := e.2 }) s

/-- The next move of the queue becomes the current one, from the present positions (R229). -/
def beginMove (s : State) (u : Nat) : State :=
  match (s.unit u).queue with
  | [] => s
  | m :: rest =>
    let ps := unitPos s u
    s.onUnit u fun x => { x with queue := rest, cur := some { m with start := ps }, joint := none, prog := 0 }

/-- Both moves run in the same direction on every member, with the same ratio of distances (R229). -/
def sameRatio (d e : List Int) : Bool :=
  let dd := domDist d
  let de := domDist e
  d.length == e.length && (List.zip d e).all fun p => decide (p.1 * de = p.2 * dd)

/-- Joint speed of the current move with the next (R229), microsteps/s: the largest that fits both and lets the next move come to
rest at its own target. -/
def jointSpeed (s : State) (u : Nat) : Nat :=
  let x := s.unit u
  match x.cur, x.queue with
  | some m, n :: _ =>
    let d := moveDelta m m.start
    let e := moveDelta n (m.targets.map (· * 65536))
    if !sameRatio d e || domDist e = 0 then 0
    else
      let k := x.members.getD (domIndex d) 0
      let top := min (min m.vmax n.vmax) (s.pv 0x0B19 k)
      let room : Int := (domDist e * fineX / 65536 : Nat)
      (List.range 21).foldr (fun b r =>
        let v := r + 2 ^ b
        if v ≤ top ∧ stopDist (v * fineV : Nat) 0 0 (n.amax * fineA) n.jmax ≤ room then v else r) 0
  | _, _ => 0

/-! ### Switches (R235) -/

/-- A switch input is active: its level is that of STEP.SW_POL, or it is taken as active after chatter (R237). -/
def swActive (s : State) (k i : Nat) : Bool :=
  let w := (s.axis k).sw.getD i {}
  w.unstable || w.level == (s.pv 0x0B28 k).testBit i

/-- The qualified level of a switch input is the active one. -/
def swQualified (s : State) (k i : Nat) : Bool := ((s.axis k).sw.getD i {}).qual == (s.pv 0x0B28 k).testBit i

/-- An enabled limit in a direction is active. -/
def limitActive (s : State) (k : Nat) (positive : Bool) : Bool :=
  let i := bitN positive
  (s.pv 0x0B2A k).testBit i && swActive s k i

/-- A motion of a unit is toward an active limit. -/
def towardLimit (s : State) (u : Nat) (d : List Int) : Bool :=
  ((s.unit u).members.zip d).any fun e => e.2 != 0 && limitActive s e.1 (decide (0 < e.2))

/-! ### Homing (R238) -/

/-- Home switch of an axis, STEP.HOME_SRC. -/
def homeSrc (s : State) (k : Nat) : Nat := s.pv 0x0B20 k

/-- A homing motion over a distance in microsteps at a speed. -/
def homeMove (s : State) (k : Nat) (target : Int) (v : Nat) : State :=
  let m : Move := { abs := true, vmax := v, amax := s.pv 0x0B17 k, jmax := s.pv 0x0B18 k, targets := [target], start := [(s.axis k).posQ16] }
  s.onUnit k fun x => { x with cur := some m, joint := some 0, prog := 0, vel := 0, acc := 0 }

/-- A distance that no axis runs. -/
def farAway : Int := 1000000000000000

/-- Begins a step of Table STEP-2 at rest. The speed of steps 3 and 5 is the model's (log entry 65). -/
def homeBegin (s : State) (k : Nat) : State :=
  let a := s.axis k
  let pos := axisPos a
  let sg : Int := if a.homeDir then 1 else -1
  let s := s.onAxis k fun a => { a with homeWait := false }
  match a.homeStep with
  | 1 => homeMove s k (pos - sg * farAway) (s.pv 0x0B22 (k + 8))
  | 2 => homeMove (s.onAxis k fun a => { a with homeFrom := pos }) k (pos + sg * farAway) (s.pv 0x0B22 k)
  | 3 => homeMove s k (pos - sg * s.pv 0x0B23 k) (s.pv 0x0B22 (k + 8))
  | 4 => homeMove s k (pos + sg * farAway) (s.pv 0x0B22 (k + 8))
  | _ => homeMove s k (s.pvI 48 0x0B24 (k + 8)) (s.pv 0x0B16 k)

/-- The axis stops and goes on with a step of the sequence once at rest. -/
def homeNext (s : State) (k step : Nat) : State :=
  s.onAxis k fun a => { a with homeStep := step, homeWait := true }

/-- A homing fails: the axis stops, then it is IDLE without HOMED (Table STEP-1, R238). -/
def homeFail (s : State) (k : Nat) : State := homeNext s k 6

/-- The home switch was not found (Table STEP-2). -/
def homeLost (s : State) (k : Nat) : State := raise (homeFail s k) 0x121 k false

/-! ### An evaluation (R228 to R232) -/

/-- A unit is at rest after STOPPING (Table STEP-1). -/
def unitRest (s : State) (u : Nat) : State :=
  let s := s.onUnit u fun x => { x with vel := 0, acc := 0 }
  match (s.unit u).stopWhy with
  | 1 =>
    let s := if (s.unit u).cur.isNone then beginMove s u else s
    let ts := ((s.unit u).cur.map (·.targets)).getD []
    let rs := List.zipWith (fun t p => t - p / 65536) ts (unitPos s u)
    s.onUnit u fun x => { x with st := .stopped, stopWhy := 0, remain := rs, joint := none }
  | _ => s.onUnit u fun x => { x with st := .idle, stopWhy := 0, queue := [], cur := none, joint := none, prog := 0, remain := [] }

/-- The current move is committed at its target; distance beyond it belongs to the next one (R228, R229). -/
def commitMove (s : State) (u : Nat) (past : Int) : State :=
  let x := s.unit u
  let ts := ((x.cur.map (·.targets)).getD []).map (· * 65536)
  let s := putPos s u ts
  let moving := x.vel != 0
  match x.queue with
  | [] => s.onUnit u fun x => { x with cur := none, joint := none, prog := 0, vel := 0, acc := 0, remain := [] }
  | _ :: _ =>
    let s := beginMove s u
    let s := s.onUnit u fun x => { x with
      prog := past, vel := if moving then x.vel else 0, acc := if moving then x.acc else 0, remain := if moving then x.remain else [] }
    match (s.unit u).cur with
    | some m => putPos s u (posAt m past)
    | none => s

/-- Runs the profile of a unit for one evaluation with an acceleration; whether the target is reached, and the distance beyond. -/
def runProfile (s : State) (u : Nat) (acc : Int) : State × Option Int :=
  let x := s.unit u
  let v := max 0 (x.vel + acc)
  let p := x.prog + v
  let past := p - curDist x
  let s := s.onUnit u fun x => { x with prog := p, vel := v, acc := if v = 0 then 0 else acc }
  if 0 ≤ past then (s, some past)
  else
    match x.cur with
    | some m => (putPos s u (posAt m p), none)
    | none => (s, none)

/-- Whether a profile ends at rest within the last microstep before its target. -/
def lastStep (x : StepUnit) : Bool :=
  decide (curDist x - x.prog < (fineX / 64 : Nat)) && decide (x.vel ≤ 4 * (((x.cur.map (·.jmax)).getD 1 : Nat) : Int))

/-- One evaluation of a moving unit. -/
def moveEval (s : State) (u : Nat) : State :=
  match (s.unit u).cur with
  | none => s
  | some m =>
    let x := s.unit u
    let a := m.amax * fineA
    let rem := curDist x - x.prog
    let vmax := m.vmax * fineV
    let vj0 : Int := (x.joint.getD 0 * fineV : Nat)
    let acc := moveAcc x.vel x.acc rem vj0 vmax a m.jmax
    -- the joint speed is fixed where the deceleration toward rest begins
    let free := moveAcc x.vel x.acc (farAway * fineX) vj0 vmax a m.jmax
    let fix := x.joint.isNone && decide (acc < 0) && decide (acc < free)
    let j := if fix then jointSpeed s u else 0
    let s := if fix then s.onUnit u fun x => { x with joint := some j } else s
    let vj : Int := if fix then (j * fineV : Nat) else vj0
    let acc := if fix then moveAcc x.vel x.acc rem vj vmax a m.jmax else acc
    match runProfile s u acc with
    | (s, some past) => if vj = 0 then commitMove (s.onUnit u fun x => { x with vel := 0 }) u 0 else commitMove s u past
    | (s, none) => if vj = 0 ∧ lastStep (s.unit u) then commitMove (s.onUnit u fun x => { x with vel := 0 }) u 0 else s

/-- One evaluation of a unit that comes to rest: past the target of a joint, inside the next move (R231), or on the same line where a
limit discarded the queue. -/
def stopEval (s : State) (u : Nat) (a : Nat) : State × Bool :=
  let x := s.unit u
  let j : Nat := (x.cur.map (·.jmax)).getD 1
  if x.vel ≤ 2 * (j : Int) ∧ x.acc ≤ 0 then (s, true)
  else
    match runProfile s u (brakeAcc x.vel x.acc 0 (a * fineA) j) with
    | (s, some past) =>
      if x.joint.getD 0 = 0 then (commitMove (s.onUnit u fun x => { x with vel := 0 }) u 0, true)
      else if x.queue.isEmpty then
        (match x.cur with
          | some m => putPos s u (posAt m (s.unit u).prog)
          | none => s, decide ((s.unit u).vel = 0))
      else (commitMove s u past, false)
    | (s, none) => (s, decide ((s.unit u).vel = 0))

/-- Deceleration of STOPPING: max(STOP_DECEL, AMAX of the move) of the unit's dominant member (Table STEP-1). -/
def stopAcc (s : State) (u : Nat) : Nat :=
  let x := s.unit u
  match x.cur with
  | some m => max (s.pv 0x0B17 (x.members.getD (domIndex (moveDelta m m.start)) 0 + 8)) m.amax
  | none => 1

/-- The homing sequence of an axis at rest within HOMING. -/
def homeAtRest (s : State) (k : Nat) : State :=
  let a := s.axis k
  let src := homeSrc s k
  if a.homeStep = 6 then homingOff (s.onUnit k fun x => { x with st := .idle, cur := none, joint := none, remain := [] }) k
  else if a.homeWait then homeBegin s k
  else
    match a.homeStep with
    | 3 =>
      if swActive s k src then homeLost s k
      else if swQualified s k src then s
      else homeBegin (s.onAxis k fun a => { a with homeStep := 4 }) k
    | 5 =>
      let s := s.onUnit k fun x => { x with st := .idle, cur := none, joint := none, remain := [] }
      s.onAxis k fun a => { a with homed := true, homeStep := 0, homeWait := false }
    | _ => s

/-- One evaluation of an axis in HOMING (Table STEP-2). -/
def homeEval (s : State) (k : Nat) : State :=
  let a := s.axis k
  if (s.unit k).cur.isNone then homeAtRest s k
  else if a.homeWait then
    match stopEval s k (max (s.pv 0x0B17 (k + 8)) (s.pv 0x0B17 k)) with
    | (s, true) => homeAtRest (s.onUnit k fun x => { x with vel := 0, acc := 0, cur := none }) k
    | (s, false) => s
  else
    let s := moveEval s k
    if a.homeStep = 2 ∧ s.pvI 48 0x0B25 k ≤ (axisPos (s.axis k) - a.homeFrom).natAbs then homeLost s k
    else if (s.unit k).cur.isNone then homeAtRest s k else s

/-- One evaluation of a unit in MOVING (Table STEP-1). -/
def runEval (s : State) (u : Nat) : State :=
  let s := if (s.unit u).cur.isNone then beginMove s u else s
  let s := moveEval s u
  if (s.unit u).cur.isNone then s.onUnit u fun x => { x with st := .idle, doneNow := true } else s

/-- A waiting STEP_STOP is sampled (R232). -/
def sampleStop (s : State) (u : Nat) : State :=
  match (s.unit u).stop with
  | none => s
  | some w =>
    let s := s.onUnit u fun x => { x with stop := none }
    match (s.unit u).st with
    | .moving | .homing => answer (unitStop s u) w sOK []
    | .stopping => answer s w sPending []
    | _ => answer s w (if (s.unit u).doneNow then sTooLate else sBadState) []

/-- One evaluation of a unit (R228). -/
def unitEval (s : State) (u : Nat) : State :=
  let s := sampleStop s u
  let s := s.onUnit u fun x => { x with doneNow := false }
  match (s.unit u).st with
  | .moving => runEval s u
  | .stopping =>
    match stopEval s u (stopAcc s u) with
    | (s, true) => unitRest s u
    | (s, false) => s
  | .homing => homeEval s u
  | _ => s

/-- A limit trips on a unit (R235): STOPPING, queue and REMAIN discarded, 0x120. -/
def limitTrip (s : State) (k : Nat) : State :=
  let u := unitOf s k
  let homing := decide ((s.unit u).st = .homing)
  let s := s.onUnit u fun x => { x with st := .stopping, stopWhy := 2, queue := [], remain := [] }
  let s := if homing then homingOff s u else s
  raise s 0x120 k false

/-- An axis moves in a direction now. -/
def movesToward (s : State) (k : Nat) (positive : Bool) : Bool :=
  let x := s.unit (unitOf s k)
  let v : Int := match x.cur with
    | some m => (moveDelta m m.start).getD (x.members.idxOf k) 0
    | none => 0
  match x.st with
  | .moving | .homing | .stopping => decide (0 < x.vel) && (if positive then decide (0 < v) else decide (v < 0))
  | _ => false

/-- What an active limit sample does (R235, Table STEP-2): the far limit of step 2 reverses the search, whatever LIMIT_EN says,
and stays without effect while the axis stops for that, and after its second time while the failed homing ends. -/
def limitSample (s : State) (k i : Nat) : State :=
  let a := s.axis k
  let u := unitOf s k
  let x := s.unit u
  let positive := decide (i = 1)
  let homing := decide (x.st = .homing)
  if !swActive s k i || !movesToward s k positive || decide (x.st = .stopping ∧ x.stopWhy = 2) then s
  else if homing && homeSrc s k == i then s
  else if homing && a.homeStep == 2 && a.homeDir == positive && !a.homeWait then
    if a.homeRev then homeLost s k
    else homeNext (s.onAxis k fun a => { a with homeRev := true, homeDir := !a.homeDir }) k 2
  else if homing && a.homeStep == 2 && a.homeDir != positive && a.homeWait && a.homeRev then s
  else if homing && a.homeStep == 6 && a.homeDir == positive && a.homeRev then s
  else if (s.pv 0x0B2A k).testBit i then limitTrip s k
  else s

/-- The home switch is active at a sample: step 2 ends (Table STEP-2). -/
def homeSample (s : State) (k : Nat) : State :=
  let a := s.axis k
  if (s.unit (unitOf s k)).st = .homing ∧ a.homeStep = 2 ∧ a.homeWait = false ∧ swActive s k (homeSrc s k) then homeNext s k 3 else s

/-- An input takes a new level: an edge, with its position and time, and the chatter check (R236, R237). -/
def swEdge (s : State) (k i : Nat) (level : Bool) : State :=
  let win := s.pv 0x0B27 (k + 8) * msU
  let pos := axisPos (s.axis k)
  let s := s.onAxis k fun a => { a with sw := a.sw.modify i fun w => { w with
    level := level, edgeAt := some s.time, edgePos := pos
    edges := s.time :: w.edges.filter fun t => decide (s.time < t + win) } }
  let w := (s.axis k).sw.getD i {}
  if s.pv 0x0B27 k < w.edges.length ∧ w.unstable = false then
    let s := (s.onAxis k fun a => { a with sw := a.sw.modify i fun w => { w with unstable := true } }).count 0x0B45 k 1
    let s := if (s.unit (unitOf s k)).st = .homing ∧ homeSrc s k = i then homeFail s k else s
    raise s 0x122 k true
  else s

/-- One sample of an axis's three inputs (R235). -/
def swSample (s : State) (k : Nat) (levels : BitVec 3) : State :=
  let s := (List.range 3).foldl (fun s i =>
    let l := levels.getLsbD i
    if ((s.axis k).sw.getD i {}).level = l then s else swEdge s k i l) s
  homeSample (limitSample (limitSample s k 0) k 1) k

/-- A transition is qualified (R236): homing goes on where it waits for it (Table STEP-2). -/
def swQualify (s : State) (k i : Nat) : State :=
  let w := (s.axis k).sw.getD i {}
  let s := s.onAxis k fun a => { a with sw := a.sw.modify i fun w => { w with qual := w.level } }
  let a := s.axis k
  let u := unitOf s k
  if (s.unit u).st ≠ .homing ∨ homeSrc s k ≠ i then s
  else if a.homeStep = 1 ∧ a.homeWait = false ∧ swQualified s k i = false then homeNext s k 2
  else if a.homeStep = 4 ∧ a.homeWait = false ∧ swQualified s k i then
    let shift := (s.pvI 48 0x0B24 k - w.edgePos) * 65536
    let s := s.onAxis k fun a => { a with posQ16 := a.posQ16 + shift }
    let s := s.onUnit u fun x => { x with cur := x.cur.map fun m => { m with
      start := m.start.map (· + shift), targets := m.targets.map (· + shift / 65536) } }
    homeNext s k 5
  else s

/-! ### Coil drive (R226) -/

/-- Position of an axis between two evaluations, 1/65536 microstep. -/
def pwmPos (s : State) (k : Nat) : Int :=
  let x := s.unit (unitOf s k)
  (s.axis k).posQ16 + memberVel x (x.members.idxOf k) * 65536 * (s.time - s.stepAt : Nat) / (secU : Int)

/-- SINE[th], Q1.15 (R226): whether the table holds 1 as 0x7FFF is open. -/
def stepSine (th : Nat) : Int :=
  let v := sineTimes 32768 th 1024
  if v = 32768 ∧ Config.sineTop then 32767 else v

/-- Coil voltages of an axis in µV (R226). -/
def coilVolts (s : State) (k : Nat) : Int × Int :=
  let x := s.unit (unitOf s k)
  let th := ((pwmPos s k / 65536) % 1024).toNat
  let sa := stepSine th
  let sb := stepSine ((th + 256) % 1024)
  let moving := match x.st with
    | .moving | .stopping | .homing => true
    | _ => false
  let i : Int := if moving then s.pv 0x0B10 k else s.pv 0x0B10 (k + 8)
  let f := divr (memberVel x (x.members.idxOf k) * 1000) 1024
  let vr := s.pv 0x0B11 k * i + divr (s.pv 0x0B13 k * f) 1000
  let vl := divr (2 * 355 * f * s.pv 0x0B12 k * i) 113000000
  ((vr * sa + vl * sb) / 32768, (vr * sb - vl * sa) / 32768)

/-- Duty of a bridge before its clamp. -/
def dutyOf (v : Int) (vbus : Nat) : Int := if vbus = 0 then Config.dutyNoSupply v else divr (v * 32768) vbus

/-- One PWM period of an axis. -/
def pwmStep (s : State) (k vbus : Nat) : State :=
  let v := coilVolts s k
  let a := dutyOf v.1 vbus
  let b := dutyOf v.2 vbus
  let a' := clampI a (-32768) 32767
  let b' := clampI b (-32768) 32767
  s.onAxis k fun x => { x with
    dutyA := a', dutyB := b', satAt := if a' = a ∧ b' = b then none else some (x.satAt.getD s.time) }

end Sys2Proof.Machine
end

