-- ==== Sys2Proof/Machine/HouseCore.lean ====
section
/-!
DEFINITION. The housekeeping round: chamber channels, tile temperatures, mains, the sensor policy, the over-temperature
cut-off and the junction band (11 R242 to R253, 12 R258 to R265, 16 R338).
-/

namespace Sys2Proof.Machine

/-! ### Flags of a channel entry (Table HKP-5) -/

def fValid : Byte := 1
def fSubst : Byte := 2
def fOpen : Byte := 4
def fShort : Byte := 8
def fRange : Byte := 16
def fStale : Byte := 32
def fHot : Byte := 64
def fUnchecked : Byte := 128

/-- A channel as published. -/
def State.hk (s : State) (i : Nat) : ChEntry := s.house.ch.getD i {}

/-- Sets a channel; its value is an s32 (R242). -/
def hkSet (s : State) (i : Nat) (e : ChEntry) : State :=
  { s with house := { s.house with ch := s.house.ch.set i { e with value := ofField 32 (toField 32 e.value) } } }

/-- A raise with its condition, once as it begins; the end of the condition. -/
def onEdge (s : State) (id data : Nat) (now : Bool) : State :=
  if now && !(s.flt.cond.getLsbD id) then raise s id data true
  else if !now && s.flt.cond.getLsbD id then clearCond s id else s

/-! ### Converters (R243, 16 R338) -/

/-- Reading of a converter in µV from its digital difference (16 R338). -/
def convRead (s : State) (conv : Nat) (d : Int) : Int :=
  let x := divr (d * Config.convGain conv) 16384
  let x := divr (x * s.pv 0x0F25 conv) 16384
  divr (x * Config.bandGain conv (bandCode s.therm.band)) 16384

/-- Window of a chamber channel in counter units (R243). -/
def chWindow (s : State) : Nat := (s.house.roundMs * 1000 - 200) / 8 * usU

/-- Midpoint of the window of chamber channel c (R244). -/
def chMid (s : State) (c : Nat) : Nat := s.house.roundAt + (c % 8) * chWindow s + chWindow s / 2

/-- A chamber parameter in effect in this round (R256). -/
def cio (s : State) (idx c : Nat) : Nat := pread s.house.cio idx c
def cioI (s : State) (idx c : Nat) : Int := preadI s.house.cio 32 idx c

/-! ### Chamber channels (R245, R247) -/

/-- A measurement within a range, in the given units; RANGE outside. -/
def ranged (x lo hi v : Int) : Int × Byte := if x < lo ∨ hi < x then (v, fRange) else (v, 0)

/-- Scaling of types 6 and 7 (R245); a result outside s32 is open. -/
def scaled (s : State) (c : Nat) (x : Int) : Int :=
  let v := divr (x * cioI s 0x0C24 c) 65536 + cioI s 0x0C25 c
  if sat32 v = v then v else (Config.scaledOver v).toInt

/-- Resistance ratio of a platinum RTD at n hundredths of a degree, in 10^-23 (IEC 60751, which Pt100 and Pt1000 name). -/
def rtdRatio (n : Int) : Int :=
  100000000000000000000000 + 3908300000000000000 * n - 5775000000000 * (n * n)
    - (if n < 0 then 4183 * ((n - 10000) * (n * n * n)) else 0)

/-- Resistance ratio of a reading in µV, in 10^-23: 1.000 mA in 100 Ω and 0.100 mA in 1 kΩ give the same voltage (Table HKP-3). -/
def rtdRead (uv : Int) : Int := uv * 1000000000000000000

/-- The largest n from −200 °C up, within 2^17 hundredths, whose ratio is at most r. -/
def rtdFloor (r : Int) : Int :=
  (List.range 17).foldr (fun b (n : Int) => if rtdRatio (n + 2 ^ b) ≤ r ∧ n + 2 ^ b ≤ 85000 then n + 2 ^ b else n) (-20000)

/-- Temperature of an RTD and its flag: OPEN above 110 % of the resistance at 850 °C, SHORT below 90 % of that at −200 °C, RANGE in
what lies between and the valid range. -/
def rtdValue (uv : Int) : Int × Byte :=
  let r := rtdRead uv
  if 11 * rtdRatio 85000 < 10 * r then (0, fOpen)
  else if 10 * r < 9 * rtdRatio (-20000) then (0, fShort)
  else if r < rtdRatio (-20000) ∨ rtdRatio 85000 < r then (0, fRange)
  else
    let n := rtdFloor r
    (n + if rtdRatio n = r then 0 else if Config.rtdUp uv then 1 else 0, 0)

/-- Valid range of a thermocouple, 0.01 °C (Table HKP-3). -/
def tcRange (type : Nat) : Int × Int :=
  match type with
  | 3 => (-20000, 137200)
  | 4 => (-20000, 130000)
  | _ => (-21000, 120000)

/-- Value and fault flag of a chamber channel that is not off, from its reading in µV; `cold` is the cold junction where
its channel is a valid RTD (Table HKP-3). -/
def chamberValue (s : State) (c : Nat) (uv : Int) (cold : Option Int) : Int × Byte :=
  let type := cio s 0x0C20 c
  match type with
  | 1 | 2 => rtdValue uv
  | 3 | 4 | 5 =>
    if 100000 < uv then (0, if cold.isNone then fOpen ||| fRange else fOpen)
    else
      match cold with
      | none => (0, fRange)
      | some t =>
        let v := Config.thermocouple type uv t
        ranged v (tcRange type).1 (tcRange type).2 v
  | 6 =>
    let x := divr uv 50
    if x < 3600 then (0, fOpen) else ranged x 3600 21000 (scaled s c x)
  | 7 => let x := divr uv 1000; ranged x (-200) 10500 (scaled s c x)
  | 8 =>
    let x := Config.proxCurrent uv
    if x < 150 then (0, fOpen) else if 6000 < x then (0, fShort)
    else (bitN (if 2100 ≤ x then true else if x ≤ 1200 then false else s.house.prox.getLsbD c), 0)
  | _ => (0, 0)

/-- Cold junction of a thermocouple: the RTD channel of CIO.CJ_SRC as measured in this round (R245). -/
def coldOf (s : State) (ds : List Int) (c : Nat) : Option Int :=
  let j := cio s 0x0C23 c
  if cio s 0x0C20 j = 1 ∨ cio s 0x0C20 j = 2 then
    let (v, f) := chamberValue s j (convRead s (j / 8) (ds.getD j 0)) none
    if f = 0 then some v else none
  else none

/-- A channel carries a fault flag of the sensor policy. -/
def chBad (e : ChEntry) : Bool := e.flags &&& (fOpen ||| fShort ||| fRange) != 0

/-- A valid value of a chamber channel is kept: what an invalid channel holds, and the state of a switch between its limits. -/
def keepGood (s : State) (c : Nat) (v : Int) : State :=
  let h := s.house
  { s with house := { h with
    lastGood := h.lastGood.set c v, lastAt := h.lastAt.set c (chMid s c)
    prox := if cio s 0x0C20 c = 8 then setBit h.prox c (v = 1) else h.prox } }

/-- Publishes chamber channel c (R245, R247). -/
def pubChamber (ds : List Int) (s : State) (c : Nat) : State :=
  if cio s 0x0C20 c = 0 then hkSet s c { value := 0, flags := 0, t := chMid s c }
  else
    let was := s.hk c
    let prot := cio s 0x0C22 c == 1
    let (v, f) := chamberValue s c (convRead s (c / 8) (ds.getD c 0)) (coldOf s ds c)
    if f = 0 then keepGood (hkSet s c { value := v, flags := fValid, t := chMid s c }) c v
    else
      let s := hkSet s c (if prot then { value := cioI s 0x0C27 c, flags := f ||| fHot, t := chMid s c }
        else { value := s.house.lastGood.getD c 0, flags := f, t := s.house.lastAt.getD c 0 })
      if chBad was then s else raise s (if prot then 0x103 else 0x100) c true

/-- The conditions of 0x100 and 0x103 end when no channel has them. -/
def chamberConds (s : State) : State :=
  let bad := fun (prot : Nat) => (List.range 32).any fun c => chBad (s.hk c) && cio s 0x0C22 c == prot
  let s := if bad 0 then s else clearCond s 0x100
  if bad 1 then s else clearCond s 0x103

/-! ### Tile temperatures (R248) -/

/-- Puts an integer into a rising list. -/
def insertI (x : Int) : List Int → List Int
  | [] => [x]
  | y :: ys => if x ≤ y then x :: y :: ys else y :: insertI x ys

/-- A list in rising order. -/
def sortI (xs : List Int) : List Int := xs.foldr insertI []

/-- Median; of an even count the floor of the mean of the middle two. -/
def median (xs : List Int) : Int :=
  let ys := sortI xs
  let n := ys.length
  if n % 2 = 1 then ys.getD (n / 2) 0 else (ys.getD (n / 2 - 1) 0 + ys.getD (n / 2) 0) / 2

/-- A chain whose tiles send telemetry (R248). -/
def chainTalks (s : State) (n : Nat) : Bool :=
  match (s.chain n).st with
  | .up | .doze | .reserve => true
  | _ => false

/-- Raw readings of the present sensors of a tile: (sensor, 1/64 °C). -/
def rawTemps (s : State) (n p : Nat) : List (Nat × Int) :=
  if !chainTalks s n then []
  else
    match (s.tile n p).telem with
    | none => []
    | some (f, t) =>
      if 3 * s.pv 0x0612 0 * usU < s.time - t then []
      else ((List.range f.temps.length).zip f.temps).filter fun e => e.2 != -32768

/-- Raw readings of a tile where the chain has one at the position. -/
def rawAt (s : State) (n p : Nat) : List (Nat × Int) := if p < (s.chain n).tiles.length then rawTemps s n p else []

/-- Neighbour set of a sensor: every other present one of tiles p − 1, p and p + 1. -/
def neighbours (s : State) (n p i : Nat) : List Int :=
  (if p = 0 then [] else (rawAt s n (p - 1)).map (·.2))
    ++ ((rawAt s n p).filter fun e => e.1 != i).map (·.2) ++ (rawAt s n (p + 1)).map (·.2)

/-- A sensor after its check: value, substituted, unchecked. -/
def checkSensor (s : State) (n p : Nat) (e : Nat × Int) : Int × Bool × Bool :=
  let ns := neighbours s n p e.1
  if ns.length < 2 then (e.2, false, true)
  else
    let m := median ns
    if s.pv 0x0C11 0 * 64 < (e.2 - m).natAbs * 100 then (m, true, false) else (e.2, false, false)

/-- Publishes the channel of tile 18n + p from the checked sensors of the round. -/
def pubTile (s : State) (k : Nat) (es : List (Nat × Int × Bool × Bool)) (came : Nat) : State :=
  let was := s.hk (32 + k)
  if es = [] then
    let s := hkSet s (32 + k) { was with flags := fStale }
    if was.flags &&& fStale == 0 then raise s 0x102 k true else s
  else
    let v := divr (median (es.map (·.2.1)) * 100) 64
    let f := fValid ||| (if es.any (·.2.2.1) then fSubst else 0) ||| (if es.any (·.2.2.2) then fUnchecked else 0)
    let s := hkSet s (32 + k) { value := v, flags := f, t := came }
    es.foldl (fun s e =>
      if e.2.2.1 ∧ s.house.subst.contains (k * 16 + e.1) = false then
        raise { s with house := { s.house with subst := (k * 16 + e.1) :: s.house.subst } } 0x101 k false
      else s) s

/-- All tile channels; every set is formed before any substitution (R248). -/
def pubTiles (s : State) : State :=
  let work := (List.range 72).map fun k =>
    ((rawAt s (k / 18) (k % 18)).map fun e => (e.1, checkSensor s (k / 18) (k % 18) e), ((s.tile (k / 18) (k % 18)).telem.map (·.2)).getD 0)
  let s := ((List.range 72).zip work).foldl (fun s e => pubTile s e.1 e.2.1 e.2.2) s
  if (List.range 72).any fun k => (s.hk (32 + k)).flags == fStale then s else clearCond s 0x102

/-! ### Internal channels and mains (R242, R249, R250) -/

/-- The internal converter's reading of a channel but REFCAL, in its unit of Table HKP-1, from its digital difference (16 R338). -/
def internalRead (s : State) (i : Nat) (d : Int) : Int := Config.internalUnit i (convRead s 4 d)

/-- Publishes a value of the internal converter. -/
def pubInternal (s : State) (i : Nat) (v : Int) : State :=
  hkSet s i { value := v, flags := fValid, t := s.house.roundAt + (s.house.roundMs * 1000 - 200) * usU / 2 }

/-- A line of the mains. -/
def State.line (s : State) (l : Nat) : Mains := s.house.mains.getD l {}

/-- Changes a mains line. -/
def State.onLine (s : State) (l : Nat) (f : Mains → Mains) : State :=
  { s with house := { s.house with mains := s.house.mains.modify l f } }

/-- A line is lost: its burst-fire heaters go off with acc and bal 0 (R250, R251). -/
def loseLine (s : State) (l : Nat) : State :=
  let s := s.onLine l fun m => { m with lost := true, good := 0 }
  let hs := s.house.heaters.map fun h => if h.mode = 1 ∧ h.line = l then { h with on := false, acc := 0, bal := 0 } else h
  raise { s with house := { s.house with heaters := hs } } (0x105 + l) l true

/-- Channels of a line: frequency and RMS. -/
def lineChans (l : Nat) : Nat × Nat := if l = 0 then (124, 125) else (127, 126)

/-- Measures a line over the half-cycles since the previous round, from the RMS of its sense input over them, and publishes it (R249,
R250); 0x107 as the RMS leaves the band. -/
def pubLine (xs : List Nat) (s : State) (l : Nat) : State :=
  let raw := xs.getD l 0
  let (halves, dur) := ((s.line l).halves, (s.line l).dur)
  let s := s.onLine l fun m => { m with halves := 0, dur := 0 }
  let s := if halves = 0 ∨ dur = 0 then s
    else
      let rms := divHalfUp (raw * s.pv 0x0C13 l) 16384
      let f := divHalfUp (halves * secU * 50) dur
      let was := (s.line l).bad
      let bad := decide (rms < s.pv 0x0C12 0) || decide (s.pv 0x0C12 1 < rms)
      let s := s.onLine l fun m => { m with rms := rms, freq := f, bad := bad }
      let s := if bad && !was then raise s 0x107 l true else s
      if (s.line l).lost = false ∧ (f < 4500 ∨ 6500 < f) then loseLine s l else s
  let m := s.line l
  let fl := if m.lost then fStale else if m.freq = 0 then 0 else fValid
  let t := m.lastZc.getD 0
  let s := hkSet s (lineChans l).1 { value := m.freq, flags := fl, t := t }
  hkSet s (lineChans l).2 { value := m.rms, flags := fl, t := t }

/-! ### Die sensors, bands and stops (12 R258 to R265) -/

/-- Publishes die sensor k; a broken one reads as the highest band, TOO_HOT (R247, R258). -/
def pubDie (xs : List (Option Int)) (s : State) (k : Nat) : State :=
  match xs.getD k none with
  | some d => pubInternal s (104 + k) (internalRead s (104 + k) d)
  | none =>
    let s := pubInternal s (104 + k) (s.pv 0x0D13 0)
    let s := hkSet s (104 + k) { s.hk (104 + k) with flags := fHot }
    if s.house.dieBad.getD k false then s
    else raise { s with house := { s.house with dieBad := s.house.dieBad.set k true } } 0x135 k true

/-- Valid die sensors. -/
def dieValid (s : State) : List Int :=
  (List.range 8).filterMap fun k => if (s.hk (104 + k)).flags &&& fValid != 0 then some (s.hk (104 + k)).value else none

/-- Spread of the valid die sensors against THERM.SPREAD (Table THERM-2). -/
def dieSpread (s : State) : Bool :=
  match dieValid s with
  | [] => false
  | x :: xs => decide ((s.pv 0x0D17 0 : Int) < xs.foldl max x - xs.foldl min x)

/-- Tj: the highest of HK104 to HK111 (R258). -/
def junction (s : State) : Int := ((List.range 8).map fun k => (s.hk (104 + k)).value).foldl max (s.hk 104).value

/-- Highest band whose lower threshold Tj has reached, from NORMAL up. -/
def risingBand (s : State) (tj : Int) : Nat :=
  if (s.pv 0x0D13 0 : Int) ≤ tj then 4 else if (s.pv 0x0D12 0 : Int) ≤ tj then 3 else if (s.pv 0x0D11 0 : Int) ≤ tj then 2 else 1

/-- Lower threshold of WARM, HOT and CRITICAL. -/
def bandLow (s : State) (b : Nat) : Int := s.pv (0x0D0F + b) 0

/-- The band after a publication (R259). -/
def nextBand (s : State) (b : Nat) (tj : Int) : Nat :=
  let up := risingBand s tj
  let cold := s.pvI 16 0x0D10 0
  if b = 0 then (if cold + s.pv 0x0D14 0 ≤ tj then up else 0)
  else if b < up then up
  else if 2 ≤ b then (if tj < bandLow s b - s.pv 0x0D14 0 then b - 1 else b)
  else if tj < cold then 0 else 1

/-- Band of a code. -/
def bandOf (n : Nat) : Band :=
  match n with
  | 0 => .cold
  | 1 => .normal
  | 2 => .warm
  | 3 => .hot
  | _ => .critical

/-- The stop decision of R263: immediate or orderly. -/
def stopsNow (s : State) : Bool :=
  let tj := s.therm.tj
  let old := s.therm.hist.getLast?.getD tj
  let dT := if s.therm.hist.length ≤ 1 then 0 else tj - old
  if (s.pv 0x0D13 0 : Int) + 200 ≤ tj then true
  else if dT ≤ 0 then false
  else decide ((11500 - tj) * (10 * s.pv 0x0C10 0 : Nat) / dT < s.pv 0x0D16 0)

/-- CRITICAL (R263): the decision on entry, and 0x133 in a later round in which Tj reaches CRIT + 2 °C. -/
def criticalStop (s : State) (entered : Bool) : State :=
  let reached := decide ((s.pv 0x0D13 0 : Int) + 200 ≤ s.therm.tj)
  let was := s.therm.beyond
  let now := stopsNow s
  let s := { s with therm := { s.therm with beyond := reached, immediate := if entered then now else s.therm.immediate } }
  if entered then raise s (if now then 0x133 else 0x132) 0 true
  else if reached && !was then raise s 0x133 0 true
  else s

/-- Settings of a band (Table THERM-1). -/
def bandSettings (b : Band) : BandSettings :=
  match b with
  | .cold => { writeAssist := true }
  | .normal => {}
  | .warm => { readAssist := true, stepDouble := true }
  | .hot | .critical => { readAssist := true, senseLong := true, scrubDouble := true, stepDouble := true }

/-- Sources whose condition is a band, as a band is left (Table THERM-2). -/
def bandConds (s : State) (b : Nat) : State :=
  let s := if b < 2 then clearCond s 0x130 else s
  let s := if b < 3 then clearCond s 0x131 else s
  let s := if b < 4 then clearCond (clearCond s 0x132) 0x133 else s
  if b ≠ 0 then clearCond s 0x136 else s

/-- The band and its effects at a publication (R258 to R263, R265). -/
def thermUpdate (s : State) : State :=
  let tj := junction s
  let old := bandCode s.therm.band
  let b := nextBand s old tj
  let th := s.therm
  let s := { s with therm := { th with
    band := bandOf b, tj := tj, hist := (tj :: th.hist).take 11
    set := bandSettings (bandOf b), skip := s.bandSkip (bandOf b), skipWas := th.skip, rateWas := s.admissibleRate
    div2 := decide (3 ≤ b) || th.tripped
    bandTime := th.bandTime.modify old fun x => x + (s.time - th.lastPub)
    tjSum := th.tjSum + tj, tjCount := th.tjCount + 1
    immediate := th.immediate && b == 4, beyond := th.beyond && b == 4, lastPub := s.time } }
  let plls := if b = old then s.clk.plls else s.clk.plls.mapIdx fun k p => if k = 3 ∨ k = 4 then { p with research := true } else p
  let s := { s with clk := { s.clk with comp := Config.crystalComp b tj, plls := plls } }
  let s := bandConds s b
  let s := if old < 2 ∧ 2 ≤ b then raise s 0x130 0 true else s
  let s := if old < 3 ∧ 3 ≤ b then raise s 0x131 0 true else s
  let s := if b = 0 ∧ old ≠ 0 then raise s 0x136 0 true else s
  let s := if b = 4 then criticalStop s (old != 4) else s
  onEdge s 0x137 0 (dieSpread s)

/-! ### Over-temperature cut-off (R253) -/

/-- The protective channel of an output is invalid or at its limit. -/
def tooHotAt (s : State) (k : Nat) : Bool :=
  let src := s.pv 0x0C36 k
  src != 255 && ((s.hk src).flags &&& fValid == 0 || decide (s.pvI 32 0x0C37 k ≤ (s.hk src).value))

/-- Cut-off of an output at a publication. -/
def cutHeater (s : State) (k : Nat) : State :=
  if tooHotAt s k ∧ (s.heater k).cut = false then
    raise (s.onHeater k fun h => { h with cut := true, on := false, onUs := 0 }) 0x104 k true
  else s

/-! ### Converter tracing (16 R338) -/

/-- A round of CAL_HK_TRACE: the reading of REFCAL on each converter is added. -/
def traceRound (s : State) (inp : RoundInputs) : State :=
  match s.cal.hkTrace with
  | none => s
  | some (w, n, sums) =>
    let xs := ((List.range 4).map fun c => convRead s c (inp.refcalChamber.getD c 0)) ++ [convRead s 4 inp.refcal]
    { s with cal := { s.cal with hkTrace := some (w, n + 1, List.zipWith (· + ·) sums xs) } }

/-- A round is published whole (Table HKP-2): channels, HK.ROUNDS, cut-off, band. -/
def publishRound (s : State) (inp : RoundInputs) : State :=
  let s := chamberConds ((List.range 32).foldl (pubChamber inp.chamber) s)
  let s := pubTiles s
  let s := (List.range 8).foldl (pubDie inp.die) s
  let s := (List.range 8).foldl (fun s k => pubInternal s (112 + k) (internalRead s (112 + k) (inp.drvBus.getD k 0))) s
  let s := pubInternal s 120 (internalRead s 120 inp.stpBus)
  let s := pubInternal s 121 (convRead s 4 inp.refcal)
  let s := pubInternal (pubInternal s 122 (internalRead s 122 inp.vstby)) 123 (internalRead s 123 inp.phantom)
  let s := (List.range 2).foldl (pubLine inp.mains) s
  let s := if (s.line 0).bad || (s.line 1).bad then s else clearCond s 0x107
  let s := if (dieValid s).length = 8 then clearCond s 0x135 else s
  let s := traceRound s inp
  let s := { s with
    house := { s.house with rounds := s.house.rounds + 1 }
    dose := { s.dose with staleRounds := s.dose.staleRounds + 1 } }
  thermUpdate ((List.range 32).foldl cutHeater s)

/-! ### Heater outputs (R251, R252) -/

/-- Demand of an output: its enabled servo slot's, else HTR.DEMAND. -/
def heaterDemand (s : State) (k : Nat) : Nat := (s.heater k).slotDemand.getD (s.pv 0x0C35 k)

/-- MODE, LINE and PWM_HZ take effect; a change sets acc and bal to 0 (R252). -/
def heaterSync (s : State) (k : Nat) : State :=
  let mode := s.pv 0x0C30 k
  let line := s.pv 0x0C31 k
  let hz := s.pv 0x0C32 k
  s.onHeater k fun h =>
    if h.mode = mode ∧ h.line = line ∧ h.pwmHz = hz then h
    else { h with mode := mode, line := line, pwmHz := hz, acc := 0, bal := 0, on := false, onUs := 0 }

/-- The output is held off: cut, C4, or its line lost. -/
def heldOff (s : State) (h : Heater) : Bool := !s.readyOn || h.cut || h.c4Off || (h.mode == 1 && (s.line h.line).lost)

/-- Burst-fire decision at a crossing (R251). -/
def burstFire (s : State) (k : Nat) (positive : Bool) : State :=
  let demand := heaterDemand s k
  let d := demand + bitN (demand == 65535)
  let pol : Int := if positive then 1 else -1
  let delay := s.pv 0x0C34 k
  s.onHeater k fun h =>
    if (s.line h.line).lost then { h with on := false, acc := 0, bal := 0 }
    else
      let acc := min (h.acc + d) 131071
      if 65536 ≤ acc ∧ (h.bal + pol).natAbs ≤ 1 then
        { h with acc := acc - 65536, bal := h.bal + pol, on := !(heldOff s h), delayUs := delay }
      else { h with acc := acc, on := false }

/-- A crossing for one output: parameters take effect where it is the output's next crossing, and a burst-fire output on the
line decides. -/
def crossHeater (l : Nat) (positive : Bool) (s : State) (k : Nat) : State :=
  let h := s.heater k
  let mine := (h.mode == 1 && h.line == l) || (h.mode == 0 && s.pv 0x0C30 k == 1 && s.pv 0x0C31 k == l)
  if !mine then s
  else
    let s := heaterSync s k
    let h := s.heater k
    if h.mode = 1 ∧ h.line = l then burstFire s k positive else s

/-- A PWM period of an output (R252). -/
def pwmPeriod (s : State) (k : Nat) : State :=
  let s := heaterSync s k
  let demand := heaterDemand s k
  let least := s.pv 0x0C33 k
  s.onHeater k fun h =>
    if h.mode ≠ 2 then h
    else
      let period := 1000000 / max 1 h.pwmHz
      let t := divHalfUp (demand * 1000000) (65535 * max 1 h.pwmHz)
      let t := if t < least then 0 else if period - t < least then period else t
      if heldOff s h then { h with on := false, onUs := 0 } else { h with on := decide (0 < t), onUs := t }

end Sys2Proof.Machine
end

