-- ==== Sys2Proof/Machine/CalRun.lean ====
section
/-!
DEFINITION. The live table, the bracketing sets, and measurement runs (16 R327 to R336).
-/

namespace Sys2Proof.Machine

/-! ### Temperature and sets (R327, R328) -/

/-- The temperature channel of a tile (R327). -/
def tileTemp (s : State) (tile : Nat) : ChEntry := s.hk (32 + tile)

/-- A tile in place whose cells have live entries. -/
def tileLive (s : State) (tile : Nat) : Bool :=
  decide (tile % 18 < (s.chain (tile / 18)).tiles.length) && (s.tile (tile / 18) (tile % 18)).usable

/-- A cell of a tile by its number 256 i + j in the tile. -/
def tileCell (tile x : Nat) : Nat := cellIndex (16 * (tile % 18) + x / 256) (256 * (tile / 18) + x % 256)

/-- The pair that contains a temperature, or the outermost pair. -/
def pickSet (b : List Byte) (t : Int) : Nat :=
  ((List.range (setsOf b - 1)).filter fun k => decide (tSet b k ≤ t)).foldl max 0

/-- The pair in use holds a temperature with CAL.BRACKET_HYST (R327). -/
def setHolds (s : State) (b : List Byte) (k : Nat) (t : Int) : Bool :=
  decide (tSet b k - s.pv 0x0F1B 0 ≤ t) && decide (t ≤ tSet b (k + 1) + s.pv 0x0F1B 0)

/-- RATE_eff and TON_eff of a factory entry under a user word. -/
def effEntry (f w : Nat) : Nat :=
  let rate := divr ((f % 65536 * (w % 65536) : Nat)) 16384
  let ton : Int := (f / 65536 % 256 : Nat) + ofField 8 (w / 65536 % 256)
  (min rate 65535).toNat + 65536 * (clampI ton 0 255).toNat

/-- Bases of the bracketing sets k and k + 1. -/
def setLo : Nat := 0x500000
def setHi : Nat := 0x620000

/-- Writes the pair of entries of cell x of a tile into the bracketing region. -/
def writeSet (b : List Byte) (tile k : Nat) (s : State) (x : Nat) : State :=
  let cell := tileCell tile x
  let w := userWord s.cal cell
  let s := s.poke (setLo + 4 * cell) (le 4 (effEntry (cellBlock b k (x / 256) (x % 256)) w))
  s.poke (setHi + 4 * cell) (le 4 (effEntry (cellBlock b (k + 1) (x / 256) (x % 256)) w))

/-- Writes the pair of a tile into the bracketing region. -/
def writeSets (s : State) (tile k : Nat) : State := (List.range 4096).foldl (writeSet (blocksOf s tile) tile k) s

/-- Words of the bracketing sets that an error took are written again, two cells each (15 Table FLT-6). -/
def restoreSets (s : State) : State :=
  let cells := s.cal.setLost.flatMap fun w => let c := (w - setLo) % 0x120000 / 4; [c, c + 1]
  cells.foldl (fun s cell =>
    let tile := cellTile cell
    match s.cal.bracket.getD tile none with
    | some k => writeSet (blocksOf s tile) tile k s (cell / 1024 % 16 * 256 + cell % 256)
    | none => s) { s with cal := { s.cal with setLost := [] } }

/-- The pair of a tile is written again after a change of its user words. -/
def refreshSets (s : State) (tile : Nat) : State :=
  match s.cal.bracket.getD tile none with
  | some k => writeSets s tile k
  | none => s

/-- A tile needs another pair than the one it has. -/
def wantsSet (s : State) (tile : Nat) : Bool :=
  let b := blocksOf s tile
  let t := (tileTemp s tile).value
  tileLive s tile && !(s.cal.badBlocks.getLsbD tile) && !b.isEmpty
    && (match s.cal.bracket.getD tile none with
      | none => true
      | some k => !(setHolds s b k t) && pickSet b t != k)

/-- BRACKET_LOAD (R327). -/
def execBracketLoad (dt : Nat) (chain : Fin 4) (pos : Fin 18) (s : State) : Result :=
  let tile := 18 * chain.val + pos.val
  event dt s (fun s => s.mainOn && s.keep.running && wantsSet s tile) fun s =>
    let k := pickSet (blocksOf s tile) (tileTemp s tile).value
    writeSets { s with cal := { s.cal with bracket := s.cal.bracket.set tile (some k) } } tile k

/-! ### Interpolation (R328, R329) -/

/-- Where a temperature lies between two sets: the clamped temperature and CLAMPED. -/
def clampTemp (b : List Byte) (k : Nat) (t : Int) : Int × Bool :=
  let lo := tSet b k
  let hi := tSet b (k + 1)
  if t < lo then (lo, k == 0) else if hi < t then (hi, k + 2 == setsOf b) else (t, false)

/-- Linear interpolation of R328. -/
def interp (lo hi t tlo thi : Int) : Int := lo + divr ((hi - lo) * (t - tlo)) (thi - tlo)

/-- Interpolates a field of two entries at a clamped temperature. -/
def interpField (b : List Byte) (k lo hi : Nat) (t : Int) : Int := interp lo hi t (tSet b k) (tSet b (k + 1))

/-- The live entry of a cell (Table DOSE-3). Without sets, RATE 0 with the flags. -/
def liveEntry (s : State) (tile cell : Nat) : Nat :=
  let w := userWord s.cal cell
  let flags := 16777216 * bitN (w.testBit 24) + 33554432 * bitN (w.testBit 25)
  if s.cal.badBlocks.getLsbD tile then flags
  else
    match s.cal.bracket.getD tile none with
    | none => flags
    | some k =>
      let b := blocksOf s tile
      let (t, clamped) := clampTemp b k (tileTemp s tile).value
      let lo := s.peek (setLo + 4 * cell) 4
      let hi := s.peek (setHi + 4 * cell) 4
      let rate := interpField b k (lo % 65536) (hi % 65536) t
      let ton := interpField b k (lo / 65536 % 256) (hi / 65536 % 256) t
      rate.toNat + 65536 * ton.toNat + flags + 67108864 * bitN clamped

/-- The live entry of photodiode (i, t) of a tile (R329, 04 Table EMON-1). -/
def livePd (s : State) (tile i t : Nat) : Nat :=
  if s.cal.badBlocks.getLsbD tile then 0
  else
    match s.cal.bracket.getD tile none with
    | none => 0
    | some k =>
      let b := blocksOf s tile
      let (x, _) := clampTemp b k (tileTemp s tile).value
      let lo := pdBlock b k i t
      let hi := pdBlock b (k + 1) i t
      let dark := interpField b k (lo % 4096) (hi % 4096) x
      let scale := divr (interpField b k (lo / 65536) (hi / 65536) x * s.pv 0x0F24 tile) 16384
      dark.toNat + 65536 * (min scale 65535).toNat

/-! ### The rebuild of each round (R328) -/

/-- Writes the live entries of a tile into a buffer. -/
def rebuildTile (base : Nat) (s : State) (tile : Nat) : State :=
  (List.range 4096).foldl (fun s x => s.poke (base + 4 * tileCell tile x) (le 4 (liveEntry s tile (tileCell tile x)))) s

/-- Writes the photodiode entries of a tile. -/
def rebuildPds (s : State) (tile : Nat) : State :=
  (List.range 1024).foldl (fun s x =>
    let i := x / 128
    let at0 := 0x0980000 + 4 * (18432 * (tile / 18) + 128 * (8 * (tile % 18) + i) + x % 128)
    s.poke at0 (le 4 (livePd s tile i (x % 128)))) s

/-- Tiles in place. -/
def tilesInPlace (s : State) : List Nat := (List.range 72).filter (tileLive s)

/-- The whole inactive buffer; a position without a tile reads 0. The photodiode entries only in IDLE. -/
def rebuildTable (s : State) : State :=
  let base := if s.dose.calBuf then 0x740000 else 0x860000
  let s := (tilesInPlace s).foldl (rebuildTile base) { s with mem := memClear s.mem base 0x120000 }
  if s.layer.st = .idle then (tilesInPlace s).foldl rebuildPds s else s

/-- The swap of 01 R17: at the next marker in RUN_UP and EXPOSE, else at once. -/
def requestSwap (s : State) : State :=
  match s.layer.st with
  | .runUp | .expose => { s with dose := { s.dose with swapReq := true } }
  | _ => swapLive s

/-- Drift of a tile (R331): due while it lasts, unless it is due for more; without a valid temperature record 0x0008 once, and
no judgement (R328). -/
def judgeDrift (s : State) (tile : Nat) : State :=
  let e := tileTemp s tile
  if e.flags &&& fValid = 0 then
    if s.cal.tempHeld.getLsbD tile then s
    else gbRecord { s with cal := { s.cal with tempHeld := setBit s.cal.tempHeld tile true } } 0x0F 8 (tile / 18 + 256 * (tile % 18))
  else
    let s := { s with cal := { s.cal with tempHeld := setBit s.cal.tempHeld tile false } }
    if s.pv 0x0F10 0 = 1 ∧ s.pv 0x0F11 0 < (e.value - s.pvI 16 0x0F21 tile).natAbs then
      if s.cal.due.getLsbD tile then s
      else
        let s := makeDue s tile
        { s with cal := { s.cal with drift := setBit s.cal.drift tile true } }
    else if s.cal.drift.getLsbD tile then { s with cal := clearDue s.cal tile }
    else s

/-- Cells that tiles reported as faulty are retired (05 R134, R138). -/
def retireReported (s : State) : State :=
  let cells := s.cal.toRetire
  cells.foldl (fun s c => retireCell s (c / 1024) (c % 1024) 1) { s with cal := { s.cal with toRetire := [] } }

/-- LIVE_TABLE_REBUILD (R328), while the dose synthesiser has power (01 R24, R25). -/
def execLiveTableRebuild (dt : Nat) (s : State) : Result :=
  event dt s (fun s => s.readyOn && s.keep.running) fun s =>
    let s := requestSwap (rebuildTable (restoreSets (retireReported s)))
    settleCal ((tilesInPlace s).foldl judgeDrift s)

/-! ### A burst (R330, R332) -/

/-- Magnitude of the distance of the carriage from CAL.TARGET_POS_NM. -/
def targetOff (s : State) : Nat := (carriagePos s - s.pvI 64 0x0F13 0).natAbs

/-- The conditions of R330. -/
def burstOk (s : State) : Bool :=
  s.layer.st == .idle && (s.power == .ready || s.power == .doze) && decide (s.layer.tState + s.pv 0x0F14 0 * msU ≤ s.time)
    && !(s.activeAtLeast 2) && !s.flt.inForce && s.keep.deferAt.isNone
    && followerRest s && (s.enc (expEnc s)).valid && (s.enc (expEnc s)).referenced
    && decide (targetOff s ≤ s.pv 0x0F13 1)

/-- The lanes are awake and emitter enable is given. -/
def wakeLanes (s : State) : State := emitOn (if s.power = .doze then (wakeChains s).toPower .ready else s)

/-- Enable goes; DOZE returns with LAY.AUTO_DOZE. -/
def sleepLanes (s : State) : State :=
  let s := emitOff s
  if s.layer.st = .idle ∧ (s.power = .ready ∨ s.power = .doze) then idlePower s else s

/-- A bit for each tile of a list. -/
def tileBits (l : List Nat) : BitVec 72 := l.foldl (fun v k => setBit v k true) 0

/-- CALIBRATION_BURST_START (R330, R331). -/
def execCalibrationBurstStart (dt : Nat) (s : State) : Result :=
  event dt s (fun s => s.keep.running && s.cal.st == 1 && runWanted s && burstOk s) fun s =>
    let run : CalRun := { tiles := tileBits (dueTiles s), fromDoze := s.power == .doze }
    let s := wakeLanes s
    { s with cal := { s.cal with st := 2, run := some run } }

/-- Phase (0 to 3: W1, W2, W1, W2), a, b and parity of a firing period (R332). -/
def firing (period : Nat) : Nat × Nat × Nat × Nat :=
  let x := period - 4
  (x / 8, x % 8 / 4, x % 4 / 2, x % 2)

/-- Width of a phase. -/
def phaseWidth (s : State) (phase : Nat) : Nat := s.pv 0x0F15 (phase % 2)

/-- Frames that each go to a tile leave on its chain's lane. -/
def sendTiles (s : State) (tiles : List Nat) (fs : Nat → List Out) : State :=
  tiles.foldl (fun s k => linkSend s (k / 18) (fs k)) s

/-- Frames of a tile that fire the cells of its rows chosen by `on`, at level 3 and one width. -/
def fireFrames (s : State) (tile period width : Nat) (on : Nat → Nat → Bool) : List Out :=
  let n := tile / 18
  let p := tile % 18
  let rows := (List.range 16).map fun i =>
    (i, (List.range 256).filter fun j => on i j && !((userWord s.cal (tileCell tile (256 * i + j))).testBit 25))
  let mask := (rows.map fun r => if r.2.isEmpty then 0 else 2 ^ r.1).sum
  .rowCommand n p period (BitVec.ofNat 16 mask) 0 (List.replicate 16 0)
    :: (rows.filter fun r => !r.2.isEmpty).map fun r =>
      .pulse n p r.1 period (r.2.map fun j => (j, BitVec.ofNat 16 (3 * 16384 + width)))

/-- The sync frame of a shot's marker goes to every chain that fires: its marker comes LINK.ADVANCE_NS later (R330; 05 Table
TILE-4, log entry 73). -/
def sendMarks (s : State) (tiles : List Nat) (period : Nat) : State :=
  ((List.range 4).filter fun n => tiles.any fun k => k / 18 == n).foldl (fun s n =>
    linkSend s n [.sync n period (BitVec.ofNat 16 (4 * s.pv 0x0610 0)) 0 0 (BitVec.ofNat 64 s.now64)]) s

/-- The cells of a firing period: one under each photodiode of one parity. -/
def firesIn (period i j : Nat) : Bool :=
  let (_, a, b, par) := firing period
  decide (4 ≤ period) && i % 2 == a && j % 2 == b && (i / 2 + j / 2) % 2 == par

/-- Samples are stored under period × 73 728 + 18 432 n + 128 i + t. -/
def runKey (period n i t : Nat) : Nat := period * 73728 + 18432 * n + 128 * i + t

/-- The frames of a period of a run, and its sync frames. -/
def sendPeriod (s : State) (r : CalRun) : State :=
  let tiles := (List.range 72).filter fun k => r.tiles.getLsbD k
  let w := phaseWidth s (firing r.period).1
  sendMarks (sendTiles s tiles fun k => fireFrames s k r.period w (firesIn r.period)) tiles r.period

/-- Row i of a tile had a pulse frame in a period of a run. -/
def burstRow (s : State) (tile period i : Nat) : Bool :=
  (List.range 256).any fun j => firesIn period i j && !((userWord s.cal (tileCell tile (256 * i + j))).testBit 25)

/-- A period of the run in progress, or of one not yet applied, that has been sent (R332). -/
def burstPeriod (s : State) (tile period : Nat) : Bool :=
  match s.cal.run with
  | some r => r.tiles.getLsbD tile && decide (period < r.period)
  | none => false

/-- A delivery report in a burst: rows sent and not fired are lost frames (05 R123), and their cells are unmeasured (R332). -/
def burstReport (s : State) (n p period : Nat) (fired : U16) : State :=
  let tile := 18 * n + p
  let gone := (List.range 16).filter fun i => !(fired.getLsbD i) && burstRow s tile period i
  let s := s.count 0x0623 n gone.length
  { s with cal := { s.cal with run := s.cal.run.map fun r => { r with lost := gone.map (fun i => period * 1152 + 16 * tile + i) ++ r.lost } } }

/-- CALIBRATION_PERIOD (R332): the period's frames leave, its samples arrive; after the last the run is to be applied. Without
emitter enable nothing fires (R336). -/
def execCalibrationPeriod (dt : Nat) (samples : List (Fin 4 × Fin 144 × Fin 128 × BitVec 12)) (s : State) : Result :=
  clocked dt s (fun s => s.cal.st == 2 && s.cal.run.isSome && s.layer.emitEnable) fun s =>
    match s.cal.run with
    | none => s
    | some r =>
      let s := sendPeriod s r
      let smp := samples.foldl (fun m x => AMap.put m (runKey r.period x.1.val x.2.1.val x.2.2.1.val) x.2.2.2.toNat) r.samples
      let r : CalRun := { r with period := r.period + 1, samples := smp }
      let s := { s with cal := { s.cal with run := some r } }
      if r.period < 36 then s else sleepLanes { s with cal := { s.cal with st := 3 } }

/-- CALIBRATION_RUN_END (R336): enable removed (3) or the carriage moved (4) before the last period. -/
def execCalibrationRunEnd (dt : Nat) (cause : CalEnd) (s : State) : Result :=
  event dt s (fun s => s.cal.st == 2) fun s =>
    let s := abandonRun s (match cause with
      | .enableRemoved => 3
      | .carriageMoved => 4)
    sleepLanes s

/-! ### Results (R333, R334) -/

/-- What a cell's four samples give. -/
structure Measured where
  valid : Bool
  gain : Int
  ton : Int
  tonOfs : Int
  deriving DecidableEq, Repr

/-- Two net counts agree within CAL.AGREE. -/
def agrees (s : State) (a b : Nat) : Bool := decide (((a - b) + (b - a)) * 1000 ≤ max a b * s.pv 0x0F12 0)

/-- R333 from the net counts, the larger raw sample of W2, SCALE, and the factory values at the tile's temperature. With a
rate of 0 GAIN is 0, and the cell is retired whatever `ton` is. -/
def measure (s : State) (n1a n1b n2a n2b s2 scale : Nat) (fRate fTon : Int) : Measured :=
  let w1 := s.pv 0x0F15 0
  let w2 := s.pv 0x0F15 1
  let e1 : Int := ((n1a + n1b) * scale * 2 : Nat)
  let e2 : Int := ((n2a + n2b) * scale * 2 : Nat)
  let rate := divr ((e2 - e1) * 256) ((w2 : Int) - w1)
  let ton := (w1 * 4 : Nat) - divr (e1 * 1024) rate
  { valid := agrees s n1a n1b && agrees s n2a n2b && decide (s.pv 0x0F17 0 ≤ min n1a n1b) && decide (s2 < 4095)
    gain := if fRate = 0 then Config.gainNoRate rate else divr (rate * 16384) fRate
    ton := ton
    tonOfs := ton - fTon }

/-- The result lies inside the limits of R334. -/
def insideLimits (s : State) (x : Measured) : Bool :=
  decide ((16384 * s.pv 0x0F18 0 : Nat) ≤ x.gain * 100) && decide (x.gain * 100 ≤ (16384 * s.pv 0x0F18 1 : Nat))
    && decide (-128 ≤ x.tonOfs) && decide (x.tonOfs ≤ 127) && decide (0 ≤ x.ton) && decide (x.ton ≤ 255)

/-- Dark reading of a photodiode: the mean of its four samples, cut to whole counts (log entry 20). -/
def darkOf (r : CalRun) (n i t : Nat) : Option Nat :=
  let xs := (List.range 4).filterMap fun p => AMap.find r.samples (runKey p n i t)
  if xs.length = 4 then some (xs.sum / 4) else none

/-- The samples of a cell in the four phases; none if one is missing or its pulse frame was lost (R332). -/
def cellSamples (r : CalRun) (tile x : Nat) : Option (List Nat) :=
  let i := x / 256
  let j := x % 256
  let idx := 4 * (i % 2) + 2 * (j % 2) + (i / 2 + j / 2) % 2
  let xs := (List.range 4).filterMap fun ph =>
    let m := 4 + 8 * ph + idx
    if r.lost.contains (m * 1152 + 16 * tile + i) then none
    else AMap.find r.samples (runKey m (tile / 18) (8 * (tile % 18) + i / 2) (j / 2))
  if xs.length = 4 then some xs else none

/-- Factory RATE and TON of a cell at the tile's temperature. -/
def factoryAt (s : State) (tile x : Nat) : Int × Int :=
  let b := blocksOf s tile
  let t := (tileTemp s tile).value
  let k := pickSet b t
  let (t, _) := clampTemp b k t
  let lo := cellBlock b k (x / 256) (x % 256)
  let hi := cellBlock b (k + 1) (x / 256) (x % 256)
  (interpField b k (lo % 65536) (hi % 65536) t, interpField b k (lo / 65536 % 256) (hi / 65536 % 256) t)

/-- Counts of record 0x0001, and whether a cell of the tile was left unmeasured. -/
structure RunSum where
  updated : Nat := 0
  suspect : Nat := 0
  retired : Nat := 0
  missed : Bool := false
  deriving DecidableEq, Repr

/-- A user word from its fields (Table CAL-2). -/
def packWord (gain ofs suspect retired reason fails : Nat) : Nat :=
  gain % 65536 + 65536 * (ofs % 256) + 16777216 * suspect + 33554432 * retired + 67108864 * reason + 536870912 * fails

/-- A measured cell's result is applied (R334). -/
def applyMeasured (a : State × RunSum) (cell : Nat) (x : Measured) : State × RunSum :=
  let (s, sum) := a
  let w := userWord s.cal cell
  let retire := fun (s : State) (reason : Nat) => retireCell s (cell / 1024) (cell % 1024) reason
  if !x.valid then
    let fails := min 7 (w / 536870912 + 1)
    let s := setUserWord s cell (packWord w (w / 65536) 1 0 0 fails)
    let sum := if w.testBit 24 then sum else { sum with suspect := sum.suspect + 1 }
    if s.pv 0x0F19 0 ≤ fails then (retire s 3, { sum with retired := sum.retired + 1 }) else (s, sum)
  else if insideLimits s x then
    (setUserWord s cell (packWord x.gain.toNat (toField 8 x.tonOfs) 0 0 0 0), { sum with updated := sum.updated + 1 })
  else (retire s 2, { sum with retired := sum.retired + 1 })

/-- One cell of a run: a retired one, or one under an unusable photodiode, is not measured; one without all its samples is
unmeasured (R332). -/
def applyCell (r : CalRun) (tile : Nat) (a : State × RunSum) (x : Nat) : State × RunSum :=
  let (s, sum) := a
  let cell := tileCell tile x
  let n := tile / 18
  let i := 8 * (tile % 18) + x / 256 / 2
  let t := x % 256 / 2
  let scale := (pdEntry s n i t).2
  if (userWord s.cal cell).testBit 25 || scale == 0 then a
  else
    match darkOf r n i t, cellSamples r tile x with
    | some d, some [p, q, u, v] =>
      let (fr, ft) := factoryAt s tile x
      applyMeasured a cell (measure s (p - d) (u - d) (q - d) (v - d) (max q v) scale fr ft)
    | _, _ => (s, { sum with missed := true })

/-- One tile of a run: its cells, CAL.T_LAST, and whether it is still due (log entry 73). -/
def applyTile (r : CalRun) (a : State × RunSum) (tile : Nat) : State × RunSum :=
  let (s, sum) := (List.range 4096).foldl (applyCell r tile) (a.1, { a.2 with missed := false })
  let s := s.pput 0x0F21 tile (toField 16 (tileTemp s tile).value)
  let c := s.cal
  let c := if sum.missed then { c with drift := setBit c.drift tile false } else clearDue c tile
  (refreshSets { s with cal := c } tile, sum)

/-- CALIBRATION_RUN_APPLY (R334). -/
def execCalibrationRunApply (dt : Nat) (s : State) : Result :=
  event dt s (fun s => s.mainOn && s.keep.running && s.cal.st == 3) fun s =>
    match s.cal.run with
    | none => s
    | some r =>
      let tiles := (List.range 72).filter fun k => r.tiles.getLsbD k
      let (s, sum) := tiles.foldl (applyTile r) (s, {})
      let s := ({ s with cal := { s.cal with st := 0, run := none } }).count 0x0F26 0 1
      let s := gbRecord s 0x0F 1 (tiles.length + 256 * (min sum.updated 65535) + 16777216 * (min sum.suspect 65535)
        + 1099511627776 * (min sum.retired 65535))
      settleCal (markDirty s)

end Sys2Proof.Machine
end

