-- ==== Sys2Proof/Machine/Cal.lean ====
section
/-!
DEFINITION. Tracing to references, overdue tiles, and the calibration commands (16 R331, R337 to R341).
-/

namespace Sys2Proof.Machine

/-! ### Events -/

/-- A held trace has waited 600 s. -/
def traceOld (s : State) : Bool :=
  match s.cal.trace with
  | some (_, _, t) => decide (t + 600 * secU ≤ s.time)
  | none => false

/-- The held trace goes. -/
def dropTrace (s : State) : State := settleCal { s with cal := { s.cal with trace := none, st := if s.cal.st = 4 then 0 else s.cal.st } }

/-- TRACE_ENTER_TIMEOUT (R337). -/
def execTraceEnterTimeout (dt : Nat) (s : State) : Result := event dt s (fun s => s.mainOn && traceOld s) dropTrace

/-- New HK_GAIN of a converter from the sum of its readings (R338). -/
def tracedGain (s : State) (conv : Nat) (sum : Int) (n : Nat) : Int :=
  let mean := divr sum n
  if mean ≤ 0 then Config.hkGainDark (s.pv 0x0F25 conv) else divr (s.pv 0x0F25 conv * s.pv 0x0F1C 0 : Nat) mean

/-- The gains come into force (record 0x0006). -/
def applyGains (s : State) (gs : List Nat) : State :=
  let ch := gs.take 4
  let s := (List.range 5).foldl (fun s k => s.pput 0x0F25 k (gs.getD k 0x4000)) s
  markDirty (gbRecord s 0x0F 6 (gs.getD 4 0 + 65536 * ch.foldl min 65535 + 4294967296 * ch.foldl max 0))

/-- HK_TRACE_DONE (R338): after CAL.REF_ROUNDS rounds; a result outside 0x3EB8 to 0x4148 changes nothing. -/
def execHkTraceDone (dt : Nat) (s : State) : Result :=
  event dt s (fun s => s.mainOn && s.keep.running && (match s.cal.hkTrace with
    | some (_, n, _) => decide (s.pv 0x0F1C 1 ≤ n)
    | none => false)) fun s =>
    match s.cal.hkTrace with
    | none => s
    | some (w, n, sums) =>
      let gs := (List.range 5).map fun k => tracedGain s k (sums.getD k 0) n
      let s := { s with cal := { s.cal with hkTrace := none } }
      if gs.all fun g => decide (0x3EB8 ≤ g) && decide (g ≤ 0x4148) then
        let gs := gs.map Int.toNat
        answer (applyGains s gs) w sOK (gs.flatMap (le 2))
      else answer s w 0x0F02 []

/-- TILE_OVERDUE (R331). -/
def execTileOverdue (dt : Nat) (chain : Fin 4) (pos : Fin 18) (s : State) : Result :=
  let tile := 18 * chain.val + pos.val
  event dt s (fun s => s.mainOn && s.keep.running && s.cal.due.getLsbD tile && !(s.cal.warned.getLsbD tile)
      && decide (AMap.get s.cal.dueSince tile 0 + s.pv 0x0F1D 1 * secU < s.time)) fun s =>
    let secs := (s.time - AMap.get s.cal.dueSince tile 0) / secU
    gbRecord { s with cal := { s.cal with warned := setBit s.cal.warned tile true } } 0x0F 9
      (chain.val + 256 * pos.val + 65536 * wrap32 secs)

/-! ### Checks (R341) -/

/-- CHAIN and POS name a usable tile: 0, else the status. -/
def calTile (s : State) (chain pos : Byte) : U16 :=
  if 3 < chain.toNat ∨ 17 < pos.toNat then sRange
  else if !(tileLive s (18 * chain.toNat + pos.toNat)) then sNotPresent
  else 0

/-- CHAIN, POS, ROW and COL name a cell of a usable tile. -/
def calCell (s : State) (chain pos row : Byte) (col : U16) : U16 :=
  if 15 < row.toNat ∨ 255 < col.toNat then sRange else calTile s chain pos

/-! ### Commands (Table CAL-5) -/

/-- CAL_RUN: the named tiles, or every usable one, become due. -/
def execCalRun (q : Req) (mask : BitVec 72) (s : State) : Result :=
  request 0x0F01 q s (q.len == 9) fun s _ =>
    let tiles := if mask = 0 then tilesInPlace s else (List.range 72).filter fun k => mask.getLsbD k
    if !(tiles.all (tileLive s)) then refuse s sNotPresent
    else
      let s := tiles.foldl makeDue s
      done (settleCal { s with cal := { s.cal with forced := s.cal.forced ||| tileBits tiles } })

/-- CAL_CANCEL (R336): of a run waiting for its gap, of a burst, of a held trace (log entry 73); completion wins. -/
def execCalCancel (q : Req) (s : State) : Result :=
  request 0x0F02 q s (q.len == 0) fun s _ =>
    match s.cal.st with
    | 0 => refuse s sBadState
    | 1 => done (settleCal { s with cal := { s.cal with forced := 0 } })
    | 2 => done (sleepLanes (abandonRun s 2))
    | 3 => refuse s sTooLate
    | _ => done (dropTrace s)

/-- CAL_STATUS. -/
def execCalStatus (q : Req) (s : State) : Result :=
  request 0x0F03 q s (q.len == 0) fun s _ => .now s sOK (le 1 s.cal.st ++ le 9 s.cal.due.toNat ++ le 4 (s.pv 0x0F26 0))

/-- The device row and column of a cell named by chain, position, row and column. -/
def namedCell (chain pos row : Byte) (col : U16) : Nat × Nat := (16 * pos.toNat + row.toNat, 256 * chain.toNat + col.toNat)

/-- CAL_CELL_READ: S is the descriptor's CAL_SETS (R324). -/
def execCalCellRead (q : Req) (chain pos row : Byte) (col : U16) (s : State) : Result :=
  request 0x0F04 q s (q.len == 5) fun s _ =>
    if calCell s chain pos row col ≠ 0 then refuse s (calCell s chain pos row col)
    else
      let (r, c) := namedCell chain pos row col
      let b := blocksOf s (18 * chain.toNat + pos.toNat)
      .now s sOK (le 4 (userWord s.cal (cellIndex r c)) ++ le 4 (calEntry s r c)
        ++ (List.range ((s.tile chain.toNat pos.toNat).u 0x7A 1)).flatMap fun k => le 4 (cellBlock b k row.toNat col.toNat))

/-- A cell comes out of retirement; its tile is due (R331). -/
def unretire (s : State) (tile cell : Nat) : State :=
  let w := userWord s.cal cell
  if w.testBit 25 then makeDue (setUserWord s cell (packWord w (w / 65536) (bitN (w.testBit 24)) 0 0 (w / 536870912))) tile else s

/-- CAL_CELL_SET. -/
def execCalCellSet (q : Req) (chain pos row : Byte) (col : U16) (action : Byte) (s : State) : Result :=
  request 0x0F05 q s (q.len == 6) fun s _ =>
    if 2 < action.toNat then refuse s sRange
    else if calCell s chain pos row col ≠ 0 then refuse s (calCell s chain pos row col)
    else if s.layer.st ≠ .idle then refuse s sBadState
    else
      let (r, c) := namedCell chain pos row col
      let cell := cellIndex r c
      let w := userWord s.cal cell
      done (match action.toNat with
        | 0 => markDirty (setUserWord s cell (if w.testBit 24 then w - 16777216 else w))
        | 1 => retireCell s r c 4
        | _ => settleCal (markDirty (unretire s (18 * chain.toNat + pos.toNat) cell)))

/-- E_pd of a trace: the energy of its samples in C (04 R89). -/
def traceEnergy (s : State) (n p : Nat) (samples : List (Fin 8 × Fin 128 × BitVec 12)) : Nat :=
  (samples.map fun x =>
    let (dark, scale) := pdEntry s n (8 * p + x.1.val) x.2.1.val
    (x.2.2.toNat - dark) * scale * 4).sum

/-- CAL_PD_TRACE (R337): every cell of the tile that is not retired fires CAL.TRACE_PULSES times. -/
def execCalPdTrace (q : Req) (chain pos : Byte) (samples : List (Fin 8 × Fin 128 × BitVec 12)) (s : State) : Result :=
  request 0x0F06 q s (q.len == 2) fun s _ =>
    if calTile s chain pos ≠ 0 then refuse s (calTile s chain pos)
    else if s.cal.st = 2 ∨ s.cal.st = 3 then refuse s sBadState
    else if !(burstOk s && measurable (s.chain chain.toNat)) then refuse s 0x0F01
    else
      let tile := 18 * chain.toNat + pos.toNat
      let e := traceEnergy s chain.toNat pos.toNat samples
      let s := wakeLanes s
      let s := (List.range (s.pv 0x0F1D 0)).foldl (fun s m =>
        sendMarks (sendTiles s [tile] fun k => fireFrames s k m (s.pv 0x0F15 1) fun _ _ => true) [tile] m) s
      let s := sleepLanes s
      .now { s with cal := { s.cal with st := 4, trace := some (tile, e, s.time) } } sOK (le 8 e)

/-- PD_GAIN from a trace (R337). -/
def tracedPd (gain energy e : Nat) : Int := if e = 0 then Config.pdGainDark gain energy else divr (gain * energy * 64 : Nat) e

/-- CAL_PD_ENTER (R337). -/
def execCalPdEnter (q : Req) (energyNj : U32) (s : State) : Result :=
  request 0x0F07 q s (q.len == 4) fun s _ =>
    match (if traceOld s then none else s.cal.trace) with
    | none => refuse s sNotPresent
    | some (tile, e, _) =>
      let g := tracedPd (s.pv 0x0F24 tile) energyNj.toNat e
      if g < 0x2000 ∨ 0x8000 < g then refuse s 0x0F02
      else
        let s := s.pput 0x0F24 tile g.toNat
        let s := gbRecord s 0x0F 5 (tile / 18 + 256 * (tile % 18) + 65536 * g.toNat)
        .now (dropTrace (markDirty (makeDue s tile))) sOK (le 2 g.toNat)

/-- CAL_HK_TRACE (R338): answered when it is done. -/
def execCalHkTrace (q : Req) (s : State) : Result :=
  request 0x0F08 q s (q.len == 0) fun s w =>
    if s.cal.hkTrace.isSome then refuse s sPending
    else .later { s with cal := { s.cal with hkTrace := some (w, 0, [0, 0, 0, 0, 0]) } }

/-- A tile's user words but for retirements with reason 1, and PD_GAIN, are reset; the tile is due. -/
def resetTile (s : State) (tile : Nat) : State :=
  let keep := fun (e : Nat × Nat) => cellTile e.1 != tile || (e.2.testBit 25 && e.2 / 67108864 % 8 == 1)
  let word := fun (e : Nat × Nat) => if cellTile e.1 != tile then e else (e.1, packWord 0x4000 0 0 1 1 0)
  let s := { s with cal := { s.cal with user := (s.cal.user.filter keep).map word } }
  refreshSets (makeDue (s.pput 0x0F24 tile 0x4000) tile) tile

/-- CAL_USER_RESET. -/
def execCalUserReset (q : Req) (chain pos : Byte) (s : State) : Result :=
  request 0x0F09 q s (q.len == 2) fun s _ =>
    if chain = 0xFF ∧ pos = 0xFF then done (settleCal (markDirty ((tilesInPlace s).foldl resetTile s)))
    else if calTile s chain pos ≠ 0 then refuse s (calTile s chain pos)
    else done (settleCal (markDirty (resetTile s (18 * chain.toNat + pos.toNat))))

end Sys2Proof.Machine
end

