-- ==== Sys2Proof/Machine/ClockCore.lean ====
section
/-!
DEFINITION. The time law (14 R298, R299), the 1588 offset (06 R157), PLL states (14 R291, R292) and the
calendar (14 R303, R304).
-/

namespace Sys2Proof.Machine

/-! ### Time law -/

/-- The clock parameters as written come into force (R306). -/
def latchClock (s : State) : State :=
  { s with clk := { s.clk with inForce := [s.pv 0x0210 0, s.pv 0x0211 0, s.pv 0x0212 0, s.pv 0x0213 0] } }

/-- Picoseconds of a counter value, cut to whole ps. -/
def psOf (t : Nat) : Int := (t * 125 / 32 : Nat)

/-- Counter units of a number of ps, rounded (log entry 20). -/
def unitsOfPs (e : Int) : Int := divr (e * 32) 125

/-- ALIGNED and 0x03A from an offset (R298). -/
def alignWith (s : State) (e : Int) : State :=
  let c := s.clk
  let run := if e.natAbs < 1000 then min (c.alignRun + 1) 10 else 0
  let lost := c.aligned && decide (c.inForce.getD 2 0 * 1000 < e.natAbs)
  let s := { s with clk := { c with alignRun := run, aligned := (c.aligned && !lost) || decide (10 ≤ run) } }
  if lost then raise s 0x03A 0 false else s

/-- The correction of one second from an offset e, in 0.001 ppb (R298). -/
def correct (s : State) (e : Int) : State :=
  let c := s.clk
  let integ := clampI (c.integ + Int.tdiv e 16) (-100000000) 100000000
  let x := clampI (integ + Int.tdiv e 4) (-100000000) 100000000
  let slew : Int := c.inForce.getD 1 0 * 1000
  let x := if s.layer.st = .idle then x else clampI x (c.corr - slew) (c.corr + slew)
  { s with clk := { c with integ := integ, corr := x } }

/-- The law of R298 for an offset e in ps, positive where the local clock is slow. -/
def timeLaw (s : State) (e : Int) : State :=
  let s := { s with clk := { s.clk with offsetPs := e } }
  let s := alignWith s e
  if s.layer.st = .idle ∧ s.clk.inForce.getD 0 0 * 1000 < e.natAbs then
    { s with clk := { s.clk with step := some (unitsOfPs e) } }
  else correct s e

/-- A kept counter value moves with the counter, so that what has passed since stays what it was. -/
def stepped (d : Int) (t : Nat) : Nat := ((t : Int) + d).toNat

/-- A step moves TIME64 (R299): the entry of KIND 2 bears the old time as TIME and the new one as DATA (log
entry 52), 0x039, and EXPPLL realigns. -/
def applyStep (s : State) : State :=
  match s.clk.step with
  | none => s
  | some d =>
    if s.layer.st ≠ .idle then s
    else
      let new := ((s.time : Int) + d).toNat
      let old := s.time
      let s := gbWriteAt s old (s.freeBits 16) 2 2 0 0 (time64 new)
      let s := s.freeTaken.count 0x0227 0 1
      let s := { s with
        time := new
        clk := { s.clk with step := none, phaseAligned := false }
        therm := { s.therm with lastPub := stepped d s.therm.lastPub }
        flt := { s.flt with inhibitFell := stepped d s.flt.inhibitFell }
        drv := s.drv.map fun x => { x with ofs := x.ofs.map fun o => { o with setAt := stepped d o.setAt } } }
      raise s 0x039 0 false

/-! ### Holdover (R300) -/

/-- A node loses the markers: HOLDOVER, 0x038, TIME_SRC 3. -/
def enterHoldover (s : State) : State := raise { s with clk := { s.clk with holdover := true, srcLost := true } } 0x038 0 true

/-- A node becomes master: the loss of another's markers is over, and its source is its own or 1588 (R296). -/
def endSourceLoss (s : State) : State :=
  if s.clk.srcLost then clearCond { s with clk := { s.clk with holdover := false, srcLost := false } } 0x038 else s

/-! ### IEEE 1588 (R157) -/

/-- The measured offset from the 1588 master, ps: half the difference of the two directions. -/
def ptpOffset (s : State) : Option Int :=
  match s.host.ptpFwd, s.host.ptpRev with
  | some f, some r => some ((f - r) / 2)
  | _, _ => none

/-- The master's law on its filtered 1588 offset, once a second (R298). -/
def ptpLaw (s : State) : State :=
  match ptpOffset s with
  | none => s
  | some o =>
    if s.timeSrc = 2 ∧ s.clk.lawAt ≠ some (s.time / secU) then
      let e := -(Config.ptpFilter s.free o)
      timeLaw { s.freeTaken with clk := { s.clk with lawAt := some (s.time / secU) } } e
    else s

/-! ### PLLs -/

/-- A PLL of the block: 0 SYSPLL, 1 EXPPLL, 2 MOTPLL, 3 SDPLL0, 4 SDPLL1. -/
def State.pll (s : State) (k : Nat) : Pll := s.clk.plls.getD k {}

/-- Changes a PLL. -/
def State.onPll (s : State) (k : Nat) (f : Pll → Pll) : State :=
  { s with clk := { s.clk with plls := s.clk.plls.modify k f } }

/-- A locked PLL unlocks (R292): its fault, and one automatic relock. -/
def pllUnlock (s : State) (k : Nat) : State :=
  if (s.pll k).locked then
    let s := s.onPll k fun p => { p with locked := false, relocked := true }
    let s := if k = 1 then { s with clk := { s.clk with phaseAligned := false } } else s
    raise s (0x033 + k) 0 true
  else s

/-! ### Calendar (Gregorian, from days since 1970-01-01) -/

/-- A leap year (R303). -/
def leapYear (y : Nat) : Bool := y % 4 == 0 && (y % 100 != 0 || y % 400 == 0)

/-- Days of a month. -/
def monthDays (y m : Nat) : Nat :=
  if m = 2 then (if leapYear y then 29 else 28)
  else if m = 4 ∨ m = 6 ∨ m = 9 ∨ m = 11 then 30 else 31

/-- Days from 1970-01-01 to the first day of year y, y ≥ 1970. -/
def yearDays (y : Nat) : Nat :=
  (y - 1970) * 365 + ((y - 1) / 4 - (y - 1) / 100 + (y - 1) / 400 - 477)

/-- Days from 1970-01-01 to a date. -/
def dateDays (y m d : Nat) : Nat := yearDays y + ((List.range (m - 1)).map fun k => monthDays y (k + 1)).sum + (d - 1)

/-- Month and day from the day of the year, counted from 0. -/
def monthOf (y : Nat) : List Nat → Nat → Nat × Nat
  | [], n => (12, n + 1)
  | m :: ms, n => if n < monthDays y m then (m, n + 1) else monthOf y ms (n - monthDays y m)

/-- The year that holds a day: the estimate days / 366 is at most two years low before 2700. -/
def yearOf (days : Nat) : Nat :=
  let y := 1970 + days / 366
  if days < yearDays (y + 1) then y else if days < yearDays (y + 2) then y + 1 else y + 2

/-- Year, month, day and day of week (0 Monday) of a day. -/
def dateOf (days : Nat) : Nat × Nat × Nat × Nat :=
  let y := yearOf days
  let (m, d) := monthOf y [1, 2, 3, 4, 5, 6, 7, 8, 9, 10, 11] (days - yearDays y)
  (y, m, d, (days + 3) % 7)

/-- A date and time that exist, in 2000 to 2199 (R304). -/
def dateOk (y m d h mi sec : Nat) : Bool :=
  decide (2000 ≤ y) && decide (y ≤ 2199) && decide (1 ≤ m) && decide (m ≤ 12) && decide (1 ≤ d)
    && decide (d ≤ monthDays y m) && decide (h < 24) && decide (mi < 60) && decide (sec < 60)

/-- The calendar fields of CLK_TIME_GET at a counter value (Table CLK-7). A UTC second before 1970 counts
as 1970-01-01T00:00:00. -/
def calendar (s : State) : List Byte :=
  let utc := ((s.time / secU : Nat) - s.clk.taiUtc : Int).toNat
  let (y, m, d, w) := dateOf (utc / 86400)
  let t := utc % 86400
  le 2 y ++ le 1 m ++ le 1 d ++ le 1 (t / 3600) ++ le 1 (t / 60 % 60) ++ le 1 (t % 60) ++ le 1 w

end Sys2Proof.Machine
end

