-- ==== Sys2Proof/Machine/Clock.lean ====
section
/-!
DEFINITION. The commands and events of the clocks (14 R287 to R307).
-/

namespace Sys2Proof.Machine

/-- REFERENCE_NOT_READY (R288): SYSPLL runs from the RC; no other PLL is started. -/
def execReferenceNotReady (dt : Nat) (s : State) : Result :=
  event dt s (fun s => (s.mainOn || s.flt.initLow) && !s.clk.refFallback && !s.clk.refCrystal) fun s =>
    let plls := s.clk.plls.mapIdx fun k p => if k = 0 then p else { p with locked := false }
    raise { s with clk := { s.clk with plls := plls, phaseAligned := false, refFallback := true } } 0x030 0 true

/-- REFERENCE_LOST (R289): SYSPLL switches to the RC, every other PLL is unlocked. -/
def execReferenceLost (dt : Nat) (s : State) : Result :=
  event dt s (fun s => (s.mainOn || s.flt.initLow) && !s.clk.refFallback) fun s =>
    let s := { s with clk := { s.clk with refFallback := true, refCrystal := false } }
    pllUnlock (pllUnlock (pllUnlock (pllUnlock (raise s 0x031 0 true) 1) 2) 3) 4

/-- PORTER_CRYSTAL_FAIL (R290). -/
def execPorterCrystalFail (dt : Nat) (s : State) : Result :=
  event dt s (fun s => s.power != .off) fun s =>
    raise { s with clk := { s.clk with porterCrystal := false, degraded := true } } 0x032 0 true

/-- PORTER_RC_TRIM (R290). -/
def execPorterRcTrim (dt : Nat) (s : State) : Result :=
  event dt s (fun s => s.mainOn && !s.clk.refFallback) fun s => { s with clk := { s.clk with rcTrimmed := true } }

/-- The lanes of SDPLL0 (3) or SDPLL1 (4) are idle: no burst or its readings, pre-training, bring-up, move or open management
request on the tiles'; no DMA channel that runs and no packet unsent or unacknowledged on the hosts' (log entry 14). -/
def lanesIdle (s : State) (k : Nat) : Bool :=
  if k = 3 then
    s.cal.st != 2 && s.cal.st != 3 && s.link.pretrain.isNone && s.link.mgmt.isEmpty
      && s.link.chains.all fun c => c.st != .bringup && !c.moving
  else (s.dma.all fun c => c.st == .idle) && s.host.chans.all fun e => e.2.unacked.isEmpty && e.2.txWait.isEmpty

/-- A band re-search of a locked PLL, SDPLL0 or SDPLL1, that a thermal band change asked for has its place: DOZE, or IDLE with
the lanes idle (R260, R291). -/
def researchOk (s : State) (k : Nat) : Bool :=
  (s.pll k).research && s.layer.st == .idle && (s.power == .doze || lanesIdle s k)

/-- A PLL has power: SYSPLL and SDPLL1 in Main, EXPPLL, MOTPLL and SDPLL0 in READY or as READY is entered (01 Table ARCH-4,
R24). -/
def pllPowered (s : State) (k : Nat) : Bool :=
  if k = 1 ∨ k = 2 ∨ k = 3 then s.readyOn || (s.mainOn && s.pwr.target == some 2) else s.mainOn || s.flt.initLow

/-- PLL_LOCK (R291, R292): the search ends in a band, and the PLL locks or fails. -/
def execPllLock (dt : Nat) (pll : Fin 5) (band : BitVec 6) (inRange : Bool) (s : State) : Result :=
  event dt s (fun s => pllPowered s pll.val && (decide (pll.val = 0) || !s.clk.refFallback) && !(s.pll pll.val).down
      && (!(s.pll pll.val).locked || researchOk s pll.val)) fun s =>
    let failed := (band = 0 ∨ band = 63) ∧ inRange = false
    let s := s.onPll pll.val fun p => { p with band := band }
    if failed then
      let s := s.onPll pll.val fun p => { p with locked := false, down := p.relocked, relocked := true }
      let s := if pll.val = 1 then { s with clk := { s.clk with phaseAligned := false } } else s
      raise s (0x033 + pll.val) 0 true
    else
      let s := { s with clk := { s.clk with refCrystal := s.clk.refCrystal || !s.clk.refFallback } }
      clearCond (s.onPll pll.val fun p => { p with locked := true, relocked := false, research := false }) (0x033 + pll.val)

/-- PLL_UNLOCK (R292). -/
def execPllUnlock (dt : Nat) (pll : Fin 5) (s : State) : Result :=
  event dt s (fun s => s.mainOn) fun s => pllUnlock s pll.val

/-- EXPPLL_PHASE_ALIGNED (R293). -/
def execExppllPhaseAligned (dt : Nat) (s : State) : Result :=
  event dt s (fun s => (s.pll 1).locked) fun s => { s with clk := { s.clk with phaseAligned := true } }

/-- SECOND_BOUNDARY (R294, R297, R299, R306), at NSEC 0: a waiting step is applied, the master emits the time marker
out of both ports, written parameters come into force, and Porter copies the counter. Porter's crystal has long been ready
unless it failed (R287; log entry 14). -/
def execSecondBoundary (dt : Nat) (s : State) : Result :=
  event dt s (fun s => s.mainOn && decide (s.time % secU < nsU)) fun s =>
    let s := if s.stage.master && s.stageOn then s.send (.stageMarker true true 0) else s
    let s := applyStep (latchClock s)
    { s with clk := { s.clk with porterTime := porterCut s.time, porterCrystal := !s.clk.degraded } }

/-- Offset of a marker, ps: its expected arrival is the second boundary nearest to the stamp plus the delay
(R298). -/
def markerOffset (s : State) (delay : Nat) : Int :=
  let d : Int := (delay - psOf s.time) % 1000000000000
  if d < 500000000000 then d else d - 1000000000000

/-- A node takes the marker from the port facing the master (R298, R300). -/
def takeMarker (s : State) (p : Nat) : State :=
  let s := clearCond { s with clk := { s.clk with chained := true, holdover := false, srcLost := false } } 0x038
  timeLaw s (markerOffset s ((s.stage.ports.getD p {}).accPs + s.clk.segDelay.getD p 0))

/-- TIME_MARKER_RX: the marker goes on out of the other port (13 R279), and counts where it comes from the master's side. -/
def execTimeMarkerRx (dt : Nat) (port : Fin 2) (s : State) : Result :=
  event dt s (fun s => s.stageOn && !s.stage.master) fun s =>
    let s := s.send (.stageMarker (port.val == 1) (port.val == 0) 0)
    if (s.stage.ports.getD port.val {}).masterSide then takeMarker s port.val else s

/-- SEGMENT_DELAY_MEASURE (R297): the mean of (RTT − TURN_PS) / 2 over the exchanges, cut to whole ps. -/
def execSegmentDelayMeasure (dt : Nat) (port : Fin 2) (exchanges : List (Nat × Nat)) (s : State) : Result :=
  event dt s (fun s => s.stageOn && !exchanges.isEmpty) fun s =>
    let d := (exchanges.map fun e => e.1 - e.2).sum / (2 * exchanges.length)
    { s with clk := { s.clk with segDelay := s.clk.segDelay.set port.val d } }

/-- HOLDOVER_ENTRY (R300): a node that is connected, or has been, receives no marker. -/
def execHoldoverEntry (dt : Nat) (s : State) : Result :=
  event dt s (fun s => s.mainOn && !s.stage.master && (s.clk.chained || s.stage.ports.any (·.up)) && !s.clk.srcLost) enterHoldover

/-- TAI−UTC changes: it is kept in the store (R306), has its KIND 2 entry (Table CLK-4), and raises 0x03C. -/
def applyLeap (s : State) (off : Int) : State :=
  raise (markDirty (gbOpen { s with clk := { s.clk with taiUtc := off, leap := none } } 2 2)) 0x03C 0 false

/-- LEAP_APPLY (R303), at the AT instant of CLK_LEAP_SET. -/
def execLeapApply (dt : Nat) (s : State) : Result :=
  event dt s (fun s => s.mainOn && (match s.clk.leap with
    | some l => decide (l.2 ≤ s.now64)
    | none => false)) fun s => applyLeap s ((s.clk.leap.map (·.1)).getD 0)

/-- PTP_DISAGREEMENT (R296): a non-master that also runs 1588. -/
def execPtpDisagreement (dt : Nat) (s : State) : Result :=
  event dt s (fun s => s.mainOn && !s.stage.master && s.pv 0x071D 0 != 0 && (match ptpOffset s with
    | some o => decide (s.clk.inForce.getD 3 0 * 1000 < o.natAbs)
    | none => false)) fun s => raise s 0x03B 0 false

/-- CLK_TIME_GET (Table CLK-7). -/
def execClkTimeGet (q : Req) (s : State) : Result :=
  request 0x0201 q s (q.len == 0) fun s _ =>
    .now s sOK (le 8 s.now64 ++ calendar s ++ le 4 (s.time / nsU % 1000000000) ++ leI 2 s.clk.taiUtc ++ le 1 (clkStatusN s.clk))

/-- CLK_TIME_SET (R304): a step at the next second. -/
def execClkTimeSet (q : Req) (year : U16) (month day hour minute second _reserved : Byte) (nsec : U32) (s : State) : Result :=
  request 0x0202 q s (q.len == 12) fun s _ =>
    let y := year.toNat; let m := month.toNat; let d := day.toNat
    let h := hour.toNat; let mi := minute.toNat; let sec := second.toNat
    if !(dateOk y m d h mi sec) then refuse s 0x0208
    else if 999999999 < nsec.toNat then refuse s sRange
    else if s.timeSrc ≠ 0 then refuse s sDenied
    else if s.layer.st ≠ .idle then refuse s sBadState
    else
      let tai : Int := (dateDays y m d * 86400 + h * 3600 + mi * 60 + sec : Nat) + s.clk.taiUtc
      let t : Int := tai * secU + (nsec.toNat * nsU : Nat)
      done { s with clk := { s.clk with step := some (t - s.time) } }

/-- CLK_LEAP_SET (R303). -/
def execClkLeapSet (q : Req) (offset : U16) (atTime : U64) (s : State) : Result :=
  request 0x0203 q s (q.len == 10) fun s _ =>
    if offset.toInt < 0 ∨ 1000 < offset.toInt then refuse s sRange
    else if atTime.toNat < s.now64 then refuse s sTooLate
    else done { s with clk := { s.clk with leap := some (offset.toInt, atTime.toNat) } }

/-- CLK_STATUS (Table CLK-7). -/
def execClkStatus (q : Req) (s : State) : Result :=
  request 0x0204 q s (q.len == 0) fun s _ =>
    .now s sOK (le 1 s.timeSrc ++ le 1 (clkStatusN s.clk) ++ leI 8 s.clk.offsetPs ++ leI 4 s.clk.freqCorr
      ++ le 4 (s.clk.segDelay.getD 0 0) ++ le 4 (s.clk.segDelay.getD 1 0)
      ++ (s.clk.plls.flatMap fun p => le 1 p.band.toNat))

end Sys2Proof.Machine
end

