-- ==== Sys2Proof/Machine/Crypto.lean ====
section
/-!
DEFINITION. The cryptography that the spec takes from its standards (log entry 8): SHA-384 (FIPS 180-4), AES-256 (FIPS 197),
GCM (SP 800-38D), key unwrap (RFC 3394), and ECDH and ECDSA on P-384 (FIPS 186-5). 07 R170, R175, R176, 18 R380 use them.
-/

namespace Sys2Proof.Machine

/-- `n` bytes of a number, most significant first. -/
def be (n v : Nat) : List Byte := (le n v).reverse

/-- The number that bytes give, most significant first. -/
def ofBe (bs : List Byte) : Nat := ofLe bs.reverse

/-- Cuts bytes into blocks of n; `fuel` bounds their number. -/
def chunksOf (n : Nat) : Nat → List Byte → List (List Byte)
  | 0, _ => []
  | fuel + 1, bs => if bs.isEmpty then [] else bs.take n :: chunksOf n fuel (bs.drop n)

/-- Exclusive or of bytes. -/
def xorBytes (a b : List Byte) : List Byte := List.zipWith (· ^^^ ·) a b

/-! ### SHA-384 -/

/-- The whole part of the k-th root of x, from the bits of weight 2^(n − 1) down: `r` is what has been found. -/
def rootBits (k x : Nat) : Nat → Nat → Nat
  | 0, r => r
  | n + 1, r => rootBits k x n (if (r + 2 ^ n) ^ k ≤ x then r + 2 ^ n else r)

/-- The primes below 410: no number from 2 to 20 divides one but itself. -/
def shaPrimes : List Nat :=
  ((List.range 410).drop 2).filter fun p => (List.range 21).all fun d => decide (d < 2) || d == p || p % d != 0

/-- The first 64 bits of the fraction of the k-th root of p, which is below 2^8 (FIPS 180-4, 4.2.3 and 5.3.4). -/
def rootFraction (k p : Nat) : U64 := BitVec.ofNat 64 (rootBits k (p * 2 ^ (64 * k)) 72 0)

/-- The 80 constants: fractions of the cube roots of the first 80 primes. -/
def shaK : List U64 := shaPrimes.map (rootFraction 3)

/-- The eight working variables. -/
structure Sha where
  a : U64
  b : U64
  c : U64
  d : U64
  e : U64
  f : U64
  g : U64
  h : U64
  deriving DecidableEq, Repr

/-- The variables that eight words give. -/
def shaOf (w : List U64) : Sha :=
  { a := w.getD 0 0, b := w.getD 1 0, c := w.getD 2 0, d := w.getD 3 0
    e := w.getD 4 0, f := w.getD 5 0, g := w.getD 6 0, h := w.getD 7 0 }

/-- The initial hash value of SHA-384: fractions of the square roots of the ninth to the sixteenth prime. -/
def shaInit : Sha := shaOf (((shaPrimes.drop 8).take 8).map (rootFraction 2))

/-- One round; `kw` is the constant plus the schedule word. -/
def shaRound (x : Sha) (kw : U64) : Sha :=
  let t1 := x.h + (x.e.rotateRight 14 ^^^ x.e.rotateRight 18 ^^^ x.e.rotateRight 41) + ((x.e &&& x.f) ^^^ (~~~x.e &&& x.g)) + kw
  let t2 := (x.a.rotateRight 28 ^^^ x.a.rotateRight 34 ^^^ x.a.rotateRight 39) + ((x.a &&& x.b) ^^^ (x.a &&& x.c) ^^^ (x.b &&& x.c))
  { a := t1 + t2, b := x.a, c := x.b, d := x.c, e := x.d + t1, f := x.e, g := x.f, h := x.g }

/-- Extends the message schedule, newest first, by n words. -/
def shaSchedule : Nat → List U64 → List U64
  | 0, w => w
  | n + 1, w =>
    let a := w.getD 1 0
    let b := w.getD 14 0
    shaSchedule n (((a.rotateRight 19 ^^^ a.rotateRight 61 ^^^ (a >>> 6)) + w.getD 6 0
      + (b.rotateRight 1 ^^^ b.rotateRight 8 ^^^ (b >>> 7)) + w.getD 15 0) :: w)

/-- One block of 128 bytes. -/
def shaBlock (x : Sha) (block : List Byte) : Sha :=
  let w := ((chunksOf 8 16 block).map fun b => BitVec.ofNat 64 (ofBe b)).reverse
  let y := (List.zipWith (· + ·) shaK (shaSchedule 64 w).reverse).foldl shaRound x
  { a := x.a + y.a, b := x.b + y.b, c := x.c + y.c, d := x.d + y.d
    e := x.e + y.e, f := x.f + y.f, g := x.g + y.g, h := x.h + y.h }

/-- SHA-384 of a message, 48 bytes. -/
def sha384 (m : List Byte) : List Byte :=
  let padded := m ++ [0x80] ++ List.replicate ((239 - m.length % 128) % 128) 0 ++ be 16 (8 * m.length)
  let x := (chunksOf 128 padded.length padded).foldl shaBlock shaInit
  [x.a, x.b, x.c, x.d, x.e, x.f].flatMap fun v => be 8 v.toNat

/-! ### AES-256 -/

/-- Doubling in GF(2^8). -/
def gfDouble (x : Byte) : Byte := (x <<< 1) ^^^ (if x.getLsbD 7 then 0x1B else 0)

/-- Product in GF(2^8) over the bits of `y`, `n` of them. -/
def gfMulBits : Nat → Byte → Byte → Byte
  | 0, _, _ => 0
  | n + 1, x, y => (if y.getLsbD 0 then x else 0) ^^^ gfMulBits n (gfDouble x) (y >>> 1)

/-- Product in GF(2^8). -/
def gfMul (x y : Byte) : Byte := gfMulBits 8 x y

/-- The power 254: the inverse, and 0 of 0. -/
def gfInv (x : Byte) : Byte :=
  let x2 := gfMul x x
  let x4 := gfMul x2 x2
  let x8 := gfMul x4 x4
  let x16 := gfMul x8 x8
  let x32 := gfMul x16 x16
  let x64 := gfMul x32 x32
  let x128 := gfMul x64 x64
  gfMul (gfMul (gfMul x2 x4) (gfMul x8 x16)) (gfMul (gfMul x32 x64) x128)

/-- The S-box and its inverse. -/
def sBox (x : Byte) : Byte :=
  let y := gfInv x
  y ^^^ y.rotateLeft 1 ^^^ y.rotateLeft 2 ^^^ y.rotateLeft 3 ^^^ y.rotateLeft 4 ^^^ 0x63
def invSBox (x : Byte) : Byte := gfInv (x.rotateLeft 1 ^^^ x.rotateLeft 3 ^^^ x.rotateLeft 6 ^^^ 0x05)

/-- Extends the key schedule, newest word first; `i` is the number of words. -/
def aesSchedule : Nat → Nat → List (List Byte) → List (List Byte)
  | 0, _, w => w
  | n + 1, i, w =>
    let t := w.getD 0 []
    let t :=
      if i % 8 = 0 then xorBytes ((t.drop 1 ++ t.take 1).map sBox) [1#8 <<< (i / 8 - 1), 0, 0, 0]
      else if i % 8 = 4 then t.map sBox else t
    aesSchedule n (i + 1) (xorBytes (w.getD 7 []) t :: w)

/-- The 15 round keys of a 32-byte key. -/
def aesKeys (key : List Byte) : List (List Byte) :=
  chunksOf 16 15 ((aesSchedule 52 8 (chunksOf 4 8 key).reverse).reverse.flatten)

/-- Rows shifted by a step; the state is column by column. -/
def shiftRows (step : Nat) (x : List Byte) : List Byte :=
  (List.range 16).map fun k => x.getD (k % 4 + 4 * ((k / 4 + step * (k % 4)) % 4)) 0

/-- Columns multiplied by the circulant of a coefficient row. -/
def mixColumns (c : List Byte) (x : List Byte) : List Byte :=
  (List.range 16).map fun k =>
    (List.range 4).foldl (fun v j => v ^^^ gfMul (c.getD ((j + 4 - k % 4) % 4) 0) (x.getD (k / 4 * 4 + j) 0)) 0

/-- AES-256 of a block under its round keys. -/
def aesEncrypt (keys : List (List Byte)) (x : List Byte) : List Byte :=
  let x := ((keys.drop 1).take 13).foldl (fun x k => xorBytes (mixColumns [2, 3, 1, 1] (shiftRows 1 (x.map sBox))) k)
    (xorBytes x (keys.getD 0 []))
  xorBytes (shiftRows 1 (x.map sBox)) (keys.getD 14 [])

/-- Its inverse. -/
def aesDecrypt (keys : List (List Byte)) (x : List Byte) : List Byte :=
  let x := ((keys.drop 1).take 13).reverse.foldl (fun x k => mixColumns [14, 11, 13, 9] (xorBytes ((shiftRows 3 x).map invSBox) k))
    (xorBytes x (keys.getD 14 []))
  xorBytes ((shiftRows 3 x).map invSBox) (keys.getD 0 [])

/-! ### GCM and key unwrap -/

/-- Product in GF(2^128), most significant bit first, over the top `n` bits of `x`. -/
def ghashMul : Nat → BitVec 128 → BitVec 128 → BitVec 128
  | 0, _, _ => 0
  | n + 1, x, v =>
    (if x.getLsbD 127 then v else 0) ^^^ ghashMul n (x <<< 1) ((v >>> 1) ^^^ (if v.getLsbD 0 then 0xE1#128 <<< 120 else 0))

/-- GHASH of data already in blocks of 16 bytes. -/
def ghash (h : BitVec 128) (data : List Byte) : BitVec 128 :=
  (chunksOf 16 data.length data).foldl (fun y b => ghashMul 128 (y ^^^ BitVec.ofNat 128 (ofBe b)) h) 0

/-- Zeros up to the next block. -/
def pad16 (bs : List Byte) : List Byte := bs ++ List.replicate ((16 - bs.length % 16) % 16) 0

/-- Counter mode from a counter value on: key stream over a 96-bit IV. -/
def aesCtr (keys : List (List Byte)) (iv : List Byte) (data : List Byte) : List Byte :=
  ((chunksOf 16 data.length data).zipIdx).flatMap fun b => xorBytes b.1 (aesEncrypt keys (iv ++ be 4 (b.2 + 2)))

/-- AES-256-GCM decryption: key, 96-bit IV, ciphertext ↦ plaintext (07 R170). -/
def gcmPlain (key iv cipher : List Byte) : List Byte := aesCtr (aesKeys key) iv cipher

/-- AES-256-GCM: key, 96-bit IV, associated data, ciphertext ↦ 16-byte tag (07 R172). -/
def gcmTag (key iv aad cipher : List Byte) : List Byte :=
  let keys := aesKeys key
  let h := BitVec.ofNat 128 (ofBe (aesEncrypt keys (List.replicate 16 0)))
  let g := ghash h (pad16 aad ++ pad16 cipher ++ be 8 (8 * aad.length) ++ be 8 (8 * cipher.length))
  xorBytes (be 16 g.toNat) (aesEncrypt keys (iv ++ be 4 1))

/-- One step of the unwrap: A and the blocks, at step t. -/
def unwrapStep (keys : List (List Byte)) (x : List Byte × List (List Byte)) (t : Nat) : List Byte × List (List Byte) :=
  let i := (t - 1) % x.2.length
  let b := aesDecrypt keys (xorBytes x.1 (be 8 t) ++ x.2.getD i [])
  (b.take 8, x.2.set i (b.drop 8))

/-- RFC 3394 unwrap: key-encryption key, wrapped key ↦ key, where the integrity check holds (07 R176). -/
def keyUnwrap (kek wrapped : List Byte) : Option (List Byte) :=
  let bs := chunksOf 8 wrapped.length wrapped
  let n := bs.length - 1
  let (a, r) := ((List.range (6 * n)).reverse.map (· + 1)).foldl (unwrapStep (aesKeys kek)) (bs.getD 0 [], bs.drop 1)
  if a = List.replicate 8 0xA6 then some r.flatten else none

/-! ### P-384 -/

/-- The field, the order, the coefficient b and the base point. -/
def pField : Nat := 2 ^ 384 - 2 ^ 128 - 2 ^ 96 + 2 ^ 32 - 1
def pOrder : Nat :=
  0xffffffffffffffffffffffffffffffffffffffffffffffffc7634d81f4372ddf581a0db248b0a77aecec196accc52973
def pB : Nat :=
  0xb3312fa7e23ee7e4988e056be3f82d19181d9c6efe8141120314088f5013875ac656398d8a2ed19d2a85c8edd3ec2aef
def pBase : Option (Nat × Nat) :=
  some (0xaa87ca22be8b05378eb1c71ef320ad746e1d3b628ba79b9859f741e082542a385502f25dbf55296c3a545e3872760ab7,
    0x3617de4a96262c6f5d9e98bf9292dc29f8f41dbd289a147ce9da3113b5f0b8c00a60b1ce1d7e819d7a431d7c90ea0e5f)

/-- Power modulo m over `n` bits of the exponent. -/
def powMod (m : Nat) : Nat → Nat → Nat → Nat
  | 0, _, _ => 1
  | n + 1, b, e =>
    let r := powMod m n (b * b % m) (e / 2)
    if e % 2 = 1 then b * r % m else r

/-- Inverse modulo a prime of 384 bits. -/
def invMod (m x : Nat) : Nat := powMod m 384 (x % m) (m - 2)

/-- Sum of two points; `none` is the point at infinity. -/
def ecAdd : Option (Nat × Nat) → Option (Nat × Nat) → Option (Nat × Nat)
  | none, q => q
  | p, none => p
  | some (x1, y1), some (x2, y2) =>
    if x1 = x2 ∧ (y1 + y2) % pField = 0 then none
    else
      let l :=
        if x1 = x2 then (3 * x1 * x1 + pField - 3) * invMod pField (2 * y1) % pField
        else (y2 + pField - y1) * invMod pField (x2 + pField - x1) % pField
      let x := (l * l + 2 * pField - x1 - x2) % pField
      some (x, (l * (x1 + pField - x) + pField - y1) % pField)

/-- A multiple of a point over `n` bits. -/
def ecMulBits : Nat → Nat → Option (Nat × Nat) → Option (Nat × Nat)
  | 0, _, _ => none
  | n + 1, k, p =>
    let r := ecMulBits n (k / 2) (ecAdd p p)
    if k % 2 = 1 then ecAdd p r else r

/-- A multiple of a point. -/
def ecMul (k : Nat) (p : Option (Nat × Nat)) : Option (Nat × Nat) := ecMulBits 384 k p

/-- A private key of P-384 from a random number: 1 to n − 1. -/
def privateKey (r : Nat) : Nat := 1 + r % (pOrder - 1)

/-- The coordinates of a point. -/
def pointX : Option (Nat × Nat) → Nat
  | some p => p.1
  | none => 0
def pointY : Option (Nat × Nat) → Nat
  | some p => p.2
  | none => 0

/-- An uncompressed public key, 97 bytes. -/
def keyBytes (p : Option (Nat × Nat)) : List Byte := 4 :: (be 48 (pointX p) ++ be 48 (pointY p))

/-- The public key of a private key. -/
def publicKey (d : Nat) : List Byte := keyBytes (ecMul d pBase)

/-- The point of an uncompressed public key, where it is one of the curve. -/
def keyPoint (bs : List Byte) : Option (Nat × Nat) :=
  let x := ofBe ((bs.drop 1).take 48)
  let y := ofBe (bs.drop 49)
  if bs.length = 97 ∧ bs.getD 0 0 = 4 ∧ x < pField ∧ y < pField ∧ y * y % pField = (x * x * x + (pField - 3) * x + pB) % pField then
    some (x, y)
  else none

/-- The ECDH shared secret of a private key and a peer's point: 48 bytes. -/
def ecdhSecret (d : Nat) (peer : Nat × Nat) : List Byte := be 48 (pointX (ecMul d (some peer)))

/-- An ECDSA signature of a 48-byte hash, 96 bytes: private key, random number. -/
def ecdsaSign (d k : Nat) (hash : List Byte) : List Byte :=
  let r := pointX (ecMul k pBase) % pOrder
  be 48 r ++ be 48 (invMod pOrder k * (ofBe hash + r * d) % pOrder)

/-- An ECDSA signature is valid: public key, signature, 48-byte hash. -/
def ecdsaOk (key sig hash : List Byte) : Bool :=
  let r := ofBe (sig.take 48)
  let t := ofBe (sig.drop 48)
  match keyPoint key with
  | none => false
  | some q =>
    let w := invMod pOrder t
    let x := ecAdd (ecMul (ofBe hash * w % pOrder) pBase) (ecMul (r * w % pOrder) (some q))
    sig.length == 96 && decide (1 ≤ r) && decide (r < pOrder) && decide (1 ≤ t) && decide (t < pOrder) && x.isSome
      && pointX x % pOrder == r

/-! ### The device's identity and key agreement -/

/-- The device's private identity key and its public key (18 R383). -/
def identityPrivate : Nat := privateKey Config.identityKey
def identityPublic : List Byte := publicKey identityPrivate

/-- Zelrak's certificate: the signature over SHA-384 of UNIT_ID and the public key. -/
def identityCert : List Byte :=
  ecdsaSign (privateKey Config.zelrakKey) (privateKey Config.certNonce) (sha384 (le 8 Config.unitId.toNat ++ identityPublic))

/-- Key agreement with a host public key H under a SESSION (07 R175), by its use: the key-encryption key, the first 32 bytes of
SHA-384(Z ‖ H ‖ D ‖ SESSION), the device public key D, and the signature over SHA-384 of D ‖ H ‖ SESSION. `none`: H is no
point of the curve. -/
def agreement (use : Nat) (session : U16) (h : List Byte) : Option (List Byte × List Byte × List Byte) :=
  let d := privateKey (Config.ephemeralKey use)
  (keyPoint h).map fun p =>
    ((sha384 (ecdhSecret d p ++ h ++ publicKey d ++ le 2 session.toNat)).take 32, publicKey d,
      ecdsaSign identityPrivate (privateKey (Config.signNonce use)) (sha384 (publicKey d ++ h ++ le 2 session.toNat)))

end Sys2Proof.Machine
end

