-- ==== Sys2Proof/Machine/Inflate.lean ====
section
/-!
DEFINITION. DEFLATE decoding (RFC 1951, which 07 R171 names) and the CRC-32 of gzip members (07 R170).
-/

namespace Sys2Proof.Machine

/-- One bit step of the reflected CRC-32 with polynomial 0x04C1_1DB7 (07 R170). -/
def gzBit (c : Nat) : Nat := if c % 2 = 1 then (c / 2) ^^^ 0xEDB88320 else c / 2

/-- One byte step. -/
def gzByte (c : Nat) (b : Byte) : Nat :=
  gzBit (gzBit (gzBit (gzBit (gzBit (gzBit (gzBit (gzBit (c ^^^ b.toNat))))))))

/-- CRC-32 as RFC 1952 specifies it for gzip members. -/
def crc32gz (bs : List Byte) : Nat := (bs.foldl gzByte 0xFFFFFFFF) ^^^ 0xFFFFFFFF

/-- The bits of bytes, least significant first. -/
def bitsOfBytes (bs : List Byte) : List Bool := bs.flatMap fun b => (List.range 8).map b.getLsbD

/-- A number of `n` bits, least significant first. -/
def takeBits : Nat → List Bool → Option (Nat × List Bool)
  | 0, bs => some (0, bs)
  | _ + 1, [] => none
  | n + 1, b :: bs => (takeBits n bs).map fun x => (bitN b + 2 * x.1, x.2)

/-- A canonical Huffman code: how many codes of each length from 1 to 15, and the symbols in code order. -/
structure Huff where
  counts : List Nat
  syms : List Nat

/-- Codes left over at the longest length, `none` where a length is over-subscribed. -/
def leftOver : List Nat → Nat → Option Nat
  | [], left => some left
  | c :: cs, left => if 2 * left < c then none else leftOver cs (2 * left - c)

/-- The code of a list of lengths, `none` where it is no code: over-subscribed, or incomplete with more than one
symbol. -/
def mkHuff (lens : List Nat) : Option Huff :=
  let counts := (List.range 15).map fun k => lens.countP fun l => l == k + 1
  let syms := (List.range 15).flatMap fun k => (lens.zipIdx.filter fun e => e.1 == k + 1).map (·.2)
  match leftOver counts 1 with
  | none => none
  | some left => if left = 0 ∨ syms.length ≤ 1 then some ⟨counts, syms⟩ else none

/-- Decodes one symbol. -/
def decodeSym (syms : List Nat) : List Nat → List Bool → Nat → Nat → Nat → Option (Nat × List Bool)
  | [], _, _, _, _ => none
  | _ :: _, [], _, _, _ => none
  | c :: cs, b :: bs, code, first, index =>
    let code := code + bitN b
    if code < first + c then (syms[index + (code - first)]?).map fun x => (x, bs)
    else decodeSym syms cs bs (2 * code) (2 * (first + c)) (index + c)

/-- Decodes one symbol of a code. -/
def Huff.next (h : Huff) (bs : List Bool) : Option (Nat × List Bool) := decodeSym h.syms h.counts bs 0 0 0

/-- Base and extra bits of the length symbols 257 to 285. -/
def lenTable : List (Nat × Nat) :=
  [(3, 0), (4, 0), (5, 0), (6, 0), (7, 0), (8, 0), (9, 0), (10, 0), (11, 1), (13, 1), (15, 1), (17, 1), (19, 2),
   (23, 2), (27, 2), (31, 2), (35, 3), (43, 3), (51, 3), (59, 3), (67, 4), (83, 4), (99, 4), (115, 4), (131, 5),
   (163, 5), (195, 5), (227, 5), (258, 0)]

/-- Base and extra bits of the distance symbols 0 to 29. -/
def distTable : List (Nat × Nat) :=
  [(1, 0), (2, 0), (3, 0), (4, 0), (5, 1), (7, 1), (9, 2), (13, 2), (17, 3), (25, 3), (33, 4), (49, 4), (65, 5),
   (97, 5), (129, 6), (193, 6), (257, 7), (385, 7), (513, 8), (769, 8), (1025, 9), (1537, 9), (2049, 10),
   (3073, 10), (4097, 11), (6145, 11), (8193, 12), (12289, 12), (16385, 13), (24577, 13)]

/-- Copies `n` bytes from `d` bytes back; `out` is newest first. -/
def copyBack : Nat → Nat → List Byte → Option (List Byte)
  | 0, _, out => some out
  | n + 1, d, out =>
    match out[d - 1]? with
    | some b => copyBack n d (b :: out)
    | none => none

/-- A value from a table: base plus extra bits. -/
def tableValue (t : List (Nat × Nat)) (k : Nat) (bs : List Bool) : Option (Nat × List Bool) :=
  (t[k]?).bind fun e => (takeBits e.2 bs).map fun x => (e.1 + x.1, x.2)

/-- The symbols of one compressed block up to its end symbol; `fuel` bounds them. -/
def inflateCodes (lit dist : Huff) : Nat → List Bool → List Byte → Option (List Bool × List Byte)
  | 0, _, _ => none
  | fuel + 1, bs, out =>
    match lit.next bs with
    | none => none
    | some (sym, bs) =>
      if sym < 256 then inflateCodes lit dist fuel bs (BitVec.ofNat 8 sym :: out)
      else if sym = 256 then some (bs, out)
      else
        match tableValue lenTable (sym - 257) bs with
        | none => none
        | some (len, bs) =>
          match dist.next bs with
          | none => none
          | some (ds, bs) =>
            match tableValue distTable ds bs with
            | none => none
            | some (d, bs) =>
              match copyBack len d out with
              | some out => inflateCodes lit dist fuel bs out
              | none => none

/-- The fixed codes. -/
def fixedLens : List Nat :=
  List.replicate 144 8 ++ List.replicate 112 9 ++ List.replicate 24 7 ++ List.replicate 8 8

/-- Order of the code length code lengths. -/
def clOrder : List Nat := [16, 17, 18, 0, 8, 7, 9, 6, 10, 5, 11, 4, 12, 3, 13, 2, 14, 1, 15]

/-- Reads `n` code lengths; `acc` is newest first. -/
def readLens (h : Huff) (n : Nat) : Nat → List Bool → List Nat → Option (List Nat × List Bool)
  | 0, bs, acc => if acc.length = n then some (acc.reverse, bs) else none
  | fuel + 1, bs, acc =>
    if acc.length = n then some (acc.reverse, bs)
    else if n < acc.length then none
    else
      match h.next bs with
      | none => none
      | some (sym, bs) =>
        if sym < 16 then readLens h n fuel bs (sym :: acc)
        else
          let (value, extra, base) := if sym = 16 then (acc.head?, 2, 3) else if sym = 17 then (some 0, 3, 3) else (some 0, 7, 11)
          match value, takeBits extra bs with
          | some v, some (k, bs) => readLens h n fuel bs (List.replicate (base + k) v ++ acc)
          | _, _ => none

/-- Reads the code length code lengths in their order. -/
def readClLens : List Nat → List Bool → Option (List (Nat × Nat) × List Bool)
  | [], bs => some ([], bs)
  | k :: ks, bs =>
    (takeBits 3 bs).bind fun x => (readClLens ks x.2).map fun y => ((k, x.1) :: y.1, y.2)

/-- The two codes of a dynamic block. -/
def dynamicCodes (bs : List Bool) : Option (Huff × Huff × List Bool) :=
  (takeBits 5 bs).bind fun hl => (takeBits 5 hl.2).bind fun hd => (takeBits 4 hd.2).bind fun hc =>
    let nl := hl.1 + 257
    let nd := hd.1 + 1
    if 286 < nl then none
    else
      (readClLens (clOrder.take (hc.1 + 4)) hc.2).bind fun cl =>
        (mkHuff ((List.range 19).map fun k => ((cl.1.find? fun e => e.1 == k).map (·.2)).getD 0)).bind fun h =>
          (readLens h (nl + nd) (nl + nd) cl.2 []).bind fun r =>
            if r.1.getD 256 0 = 0 then none
            else
              (mkHuff (r.1.take nl)).bind fun lit => (mkHuff (r.1.drop nl)).map fun dist => (lit, dist, r.2)

/-- A stored block. -/
def inflateStored (bs : List Bool) (out : List Byte) : Option (List Bool × List Byte) :=
  (takeBits 16 (bs.drop (bs.length % 8))).bind fun len => (takeBits 16 len.2).bind fun nlen =>
    if nlen.1 + len.1 ≠ 65535 ∨ nlen.2.length < 8 * len.1 then none
    else
      let bytes := (List.range len.1).map fun k => BitVec.ofNat 8 (((takeBits 8 (nlen.2.drop (8 * k))).map (·.1)).getD 0)
      some (nlen.2.drop (8 * len.1), bytes.reverse ++ out)

/-- The blocks of a stream up to its final one, all of a type that `ok` admits; `fuel` bounds them. -/
def inflateBlocks (ok : Nat → Bool) : Nat → List Bool → List Byte → Option (List Bool × List Byte)
  | 0, _, _ => none
  | fuel + 1, bs, out =>
    (takeBits 1 bs).bind fun fin => (takeBits 2 fin.2).bind fun ty =>
      let r := match (if ok ty.1 then ty.1 else 3) with
        | 0 => inflateStored ty.2 out
        | 1 => (mkHuff fixedLens).bind fun lit => inflateCodes lit ⟨[0, 0, 0, 0, 30], List.range 30⟩ (ty.2.length + 1) ty.2 out
        | 2 => (dynamicCodes ty.2).bind fun c => inflateCodes c.1 c.2.1 (c.2.2.length + 1) c.2.2 out
        | _ => none
      r.bind fun r => if fin.1 = 1 then some r else inflateBlocks ok fuel r.1 r.2

/-- One complete DEFLATE stream with nothing after its final block but padding bits (R171); `history` is the
content before it, oldest first, `ok` the block types it may hold. -/
def inflateAs (ok : Nat → Bool) (history coded : List Byte) : Option (List Byte) :=
  let bits := bitsOfBytes coded
  match inflateBlocks ok (bits.length + 1) bits history.reverse with
  | some (rest, out) => if rest.length < 8 then some (out.reverse.drop history.length) else none
  | none => none

/-- One complete DEFLATE stream of any block types. -/
def inflate (history coded : List Byte) : Option (List Byte) := inflateAs (fun _ => true) history coded

end Sys2Proof.Machine
end

