-- ==== Sys2Proof/Machine/Mailbox.lean ====
section
/-!
DEFINITION. Messages that reach a mailbox as bytes (17 R347 to R353), and the host register window
(17 R345, R346, 06 R148).
-/

namespace Sys2Proof.Machine

/-- Opcodes of Table KEEP-8. -/
def knownOp (op : Nat) : Bool :=
  let k := op % 256
  match op / 256 with
  | 0x00 => decide (1 ≤ k) && decide (k ≤ 0x13)
  | 0x01 => decide (1 ≤ k) && decide (k ≤ 9)
  | 0x02 => decide (1 ≤ k) && decide (k ≤ 4)
  | 0x03 => decide (1 ≤ k) && decide (k ≤ 5)
  | 0x04 => decide (1 ≤ k) && decide (k ≤ 3)
  | 0x05 => decide (1 ≤ k) && decide (k ≤ 6)
  | 0x06 => decide (1 ≤ k) && decide (k ≤ 7)
  | 0x07 => (decide (1 ≤ k) && decide (k ≤ 4)) || (decide (0x10 ≤ k) && decide (k ≤ 0x13))
  | 0x08 => decide (1 ≤ k) && decide (k ≤ 7)
  | 0x09 => decide (1 ≤ k) && decide (k ≤ 9)
  | 0x0A => decide (1 ≤ k) && decide (k ≤ 4)
  | 0x0B => decide (1 ≤ k) && decide (k ≤ 9)
  | 0x0C => decide (1 ≤ k) && decide (k ≤ 2)
  | 0x0E => decide (1 ≤ k) && decide (k ≤ 4)
  | 0x0F => decide (1 ≤ k) && decide (k ≤ 9)
  | 0x10 => decide (1 ≤ k) && decide (k ≤ 3)
  | _ => false

/-- Checks 1 to 3 of R350 on a message; 0 when good. -/
def headerStatus (bytes : List Byte) : U16 :=
  let payload := bytes.drop 16
  if bytes.length < 16 then sCheckFail
  else if fieldAt bytes 0x0C 4 ≠ crc32c (bytes.take 12 ++ payload) || fieldAt bytes 4 2 ≠ payload.length then sCheckFail
  else if !(knownOp (fieldAt bytes 0 2)) then 3
  else if 2 < fieldAt bytes 6 1 then sBadParam
  else 0

/-- A message that arrived at `came` reaches mailbox `mb` (06 R149), unless it answers nothing: checks 1 to 3, a full queue and the
deferral are answered by the hardware; else the request waits in its queue, or on the fast path is with the hardware, and
the row of its opcode is its execution (R350 to R353). -/
def receiveMessage (s : State) (mb came : Nat) (bytes : List Byte) : State :=
  let op : U16 := BitVec.ofNat 16 (fieldAt bytes 0 2)
  let tag : U16 := BitVec.ofNat 16 (fieldAt bytes 2 2)
  let cls := effClass op (BitVec.ofNat 8 (fieldAt bytes 6 1))
  let w : Waiting := { mb := mb, opcode := op, tag := tag, cls := cls, flags := 4, tRx := came }
  let st := headerStatus bytes
  if mailboxDead s mb then s
  else if st ≠ 0 then answer s w st []
  else if !(fastOps.contains op) && (decide (16 ≤ (s.keep.queues.getD mb []).length) || (cls = 0 && s.keep.deferAt.isSome)) then
    answer (s.count 0x0022 3 1) w sBusy []
  else
    let e : QEntry := { opcode := op, tag := tag, cls := cls, aged := false, tRx := came, since := s.time, payload := bytes.drop 16,
                        line := s.layer.marker }
    if fastOps.contains op then { s with keep := { s.keep with fast := s.keep.fast ++ [(mb, e)] } } else enqueue s mb e

/-! ### MB4 (R347) -/

/-- The bytes of MB4_REQ. -/
def mb4Bytes (s : State) (n : Nat) : List Byte := (List.range n).map fun k => BitVec.ofNat 8 (AMap.get s.keep.mb4Req k 0)

/-- The request in MB4_REQ is copied: REQ_FREE is set. -/
def mb4Copy (s : State) : State :=
  match s.keep.mb4Rung with
  | none => s
  | some t =>
    receiveMessage { s with keep := { s.keep with reqFree := true, mb4Rung := none } } 4 t
      (mb4Bytes s (16 + min 1008 (fieldAt (mb4Bytes s 16) 4 2)))

/-- The doorbell MB4_REQ: ignored and counted while REQ_FREE is clear. Keeper copies the request at once while it runs, and the
hardware one of the fast path; else it lies in the buffer until Keeper runs (log entry 41). -/
def mb4Request (s : State) : State :=
  if !s.keep.reqFree then s.count 0x0022 5 1
  else
    let t := { s with keep := { s.keep with reqFree := false, mb4Rung := some s.time } }
    if s.keep.running || fastOps.contains (BitVec.ofNat 16 (fieldAt (mb4Bytes s 2) 0 2)) then mb4Copy t else t

/-- The doorbell MB4_ACK clears RESP_READY, and the next response may be written. -/
def mb4Ack (s : State) : State := mb4Fill { s with keep := { s.keep with respReady := false } }

/-! ### Register window (R345) -/

/-- Offsets of Table KEEP-1 (words). -/
def listedOffset (off : Nat) : Bool :=
  [0x000, 0x004, 0x008, 0x00C, 0x010, 0x014, 0x018, 0x01C, 0x020, 0x024, 0x028, 0x030, 0x034, 0x040, 0x050, 0x054,
    0x058, 0x05C, 0x060, 0x064, 0x068, 0x070, 0x074, 0x080, 0x084].contains off
    || (decide (0x400 ≤ off) && decide (off < 0xC00))

/-- A word of the window; reserved offsets read 0. -/
def windowWord (s : State) (off : Nat) : Nat :=
  if 0x800 ≤ off ∧ off < 0xC00 then fieldAt s.keep.mb4Resp (off - 0x800) 4
  else if 0x400 ≤ off ∧ off < 0x800 then ofLe ((List.range 4).map fun k => BitVec.ofNat 8 (AMap.get s.keep.mb4Req (off - 0x400 + k) 0))
  else if 0x050 ≤ off ∧ off < 0x060 then fieldAt (firstFaultBytes s.flt.first) (off - 0x050) 4
  else
    match off with
    | 0x000 => 0x2620
    | 0x004 => Config.siliconRev.toNat
    | 0x008 => Config.grade.toNat
    | 0x00C => fwVersion s.keep
    | 0x010 => Config.unitId.toNat % 4294967296
    | 0x014 => Config.unitId.toNat / 4294967296
    | 0x018 => nodeN s.stage
    | 0x01C => powerCode s.power
    | 0x020 => layerByte s.layer
    | 0x024 => if s.layer.st = .idle then s.layer.lastCommitted.toNat else s.layer.desc.layerNo.toNat
    | 0x028 => if s.layer.st = .expose then s.layer.marker.getD 0 else 0
    | 0x030 => s.keep.timeLatch.toNat % 4294967296
    | 0x034 => s.keep.timeLatch.toNat / 4294967296
    | 0x040 => s.faultSummary + 65536 * s.activeCount
    | 0x060 => s.keep.wbPtr.toNat
    | 0x064 => s.keep.wbLen.toNat
    | 0x068 => s.keep.wbGen.toNat
    | 0x070 => s.keeperWord
    | 0x074 => s.keep.primary.toNat
    | 0x080 => bitN (!s.keep.reqFree)
    | 0x084 => bitN s.keep.respReady + 2 * bitN s.keep.reqFree + 256 * (s.keep.queues.getD 4 []).length
    | _ => 0

/-- A read of the word at 0x030 latches the whole of TIME_NOW (R346). -/
def latchTime (s : State) : State := { s with keep := { s.keep with timeLatch := BitVec.ofNat 64 s.now64 } }

/-- Reads `n` words from an offset on. -/
def windowRead : State → Nat → Nat → State × List Byte
  | s, _, 0 => (s, [])
  | s, off, n + 1 =>
    let s := if off = 0x030 then latchTime s else s
    let (s', bs) := windowRead s (off + 4) n
    (s', le 4 (windowWord s off) ++ bs)

/-- A window access in a DATA packet and its response (R148): OP, COUNT, OFFSET, data. Over the transport a write
returns DENIED where any offset of it is listed, and does nothing (R345). -/
def windowAccess (s : State) (req : List Byte) : State :=
  let op := fieldAt req 0 1
  let count := fieldAt req 2 2
  let off := fieldAt req 4 4
  let bad := !(decide (1 ≤ count) && decide (count ≤ 256) && off % 4 == 0 && decide (off + 4 * count ≤ 0x1000))
  let reply := fun (s : State) (st : U16) (data : List Byte) =>
    sendMessage s 0 (le 1 op ++ le 2 st.toNat ++ [0] ++ le 2 count ++ le 4 off ++ data)
  if req.length < 8 then s
  else if op ≠ 1 ∧ op ≠ 2 then reply s sBadParam []
  else if bad then reply s sRange []
  else if op = 1 then let (s, data) := windowRead s off count; reply s sOK data
  else reply s (if (List.range count).any fun k => listedOffset (off + 4 * k) then sDenied else sOK) []

/-- A register write over SPI (R345): DOORBELL is write-1-to-set, MB4_REQ takes the word, every other offset does
nothing. -/
def spiWrite (s : State) (off v : Nat) : State :=
  if off = 0x080 then
    let s := if v.testBit 0 then mb4Request s else s
    if v.testBit 1 then mb4Ack s else s
  else if 0x400 ≤ off ∧ off < 0x800 then
    let m := ((le 4 v).zipIdx).foldl (fun m e => AMap.put m (off - 0x400 + e.2) e.1.toNat) s.keep.mb4Req
    { s with keep := { s.keep with mb4Req := m } }
  else s

end Sys2Proof.Machine
end

