-- ==== Sys2Proof/Machine/Data.lean ====
section
/-!
DEFINITION. The commands and events of the layer data engines (07 R169 to R185).
-/

namespace Sys2Proof.Machine

/-- An inflate queue of the block. -/
def State.queue (s : State) (q : Nat) : InfQueue := s.data.queues.getD q {}

/-- Changes an inflate queue. -/
def State.onQueue (s : State) (q : Nat) (f : InfQueue → InfQueue) : State :=
  { s with data := { s.data with queues := s.data.queues.modify q f } }

/-! ### Reserves (R179) -/

/-- The engine of place k (0 and 1 inflaters, 2 to 5 compressors) is replaced by its reserve: INF2 or CMP4. -/
def engineSwap (s : State) (k : Nat) : State :=
  let inf := decide (k < 2)
  if engineFree s inf then
    settleParts (raise { s with data := { s.data with engines := s.data.engines.set k (if inf then 2 else 4) } } 0x0E7 0 false)
  else { s with data := { s.data with engines := s.data.engines.set k 0xFF } }

/-- The place has no engine in service: its own and the reserve are gone (18 Table BIST-3). -/
def engineOut (s : State) (k : Nat) : Bool := s.data.engines.getD k 0 == 0xFF

/-- A parity error is found in the state of the engine of a place: it is faulty from now on. -/
def engineParity (s : State) (k : Nat) : State :=
  let e := s.data.engines.getD k 0
  { s with data := { s.data with engBad := (if k < 2 then e else 8 + e) :: s.data.engBad } }

/-- The engine that serves a place is faulty. -/
def engineFaulty (s : State) (k : Nat) : Bool := !(engineOut s k) && engBad s (decide (k < 2)) (s.data.engines.getD k 0)

/-- An engine known to be faulty, by the self-test or by a parity error found while it waits, is replaced at its next block
boundary. -/
def engineCheck (s : State) (k : Nat) (parity : Bool) : State :=
  let s := if parity && !(engineOut s k) then engineParity s k else s
  if engineFaulty s k then engineSwap s k else s

/-! ### Inbound blocks (R170 to R174) -/

/-- The header fields of an inbound block that the checks read (Table DATA-2). -/
structure BlkHdr where
  kind : Nat
  compressed : Bool
  encrypted : Bool
  dictReset : Bool
  keySlot : Nat
  layerNo : U32
  seq : Nat
  first : Nat
  count : Nat
  bodyLen : Nat
  ivFixed : U32
  ivCount : Nat

def blkHdr (b : List Byte) : BlkHdr :=
  let f := fieldAt b 6 1
  { kind := fieldAt b 5 1, compressed := f.testBit 0, encrypted := f.testBit 1, dictReset := f.testBit 2
    keySlot := fieldAt b 7 1, layerNo := BitVec.ofNat 32 (fieldAt b 8 4), seq := fieldAt b 0x0C 4
    first := fieldAt b 0x10 4, count := fieldAt b 0x14 2, bodyLen := fieldAt b 0x18 4
    ivFixed := BitVec.ofNat 32 (fieldAt b 0x1C 4), ivCount := fieldAt b 0x20 8 }

/-- A valid header of queue q (Table DATA-2). -/
def hdrGood (q : Nat) (b : List Byte) : Bool :=
  let h := blkHdr b
  decide (48 ≤ b.length) && fieldAt b 0x2C 4 == crc32c (b.take 0x2C) && fieldAt b 0 4 == 0x50525141
    && fieldAt b 4 1 == 1 && decide (h.kind ≤ 1) && fieldAt b 0x16 1 == q
    && decide (4 ≤ h.bodyLen) && decide (h.bodyLen ≤ 262164)

/-- Check 1 of Table DATA-3: the header, and BODY_LEN consistent with the packets. -/
def hdrOk (q : Nat) (b : List Byte) : Bool := hdrGood q b && b.length == 48 + (blkHdr b).bodyLen

/-! ### What DMA hands over (R170, R174) -/

/-- The block at the front of a queue, up to the packet with LAST, and what follows it (R170). -/
def frontBlock : List Piece → Option (List Byte × List Piece)
  | [] => none
  | p :: ps => if p.last then some (p.bytes, ps) else (frontBlock ps).map fun r => (p.bytes ++ r.1, r.2)

/-- What follows the packet at the front. -/
def dropPacket : List Piece → List Piece
  | [] => []
  | p :: ps => if p.ends then ps else dropPacket ps

/-- Once what lies before an abandoned hole holds no whole block, it is dropped: the queue enters RESYNC and scans (R174), which the
block still in progress does not end. -/
def breakQueue (x : InfQueue) : InfQueue :=
  let front := x.arrived.takeWhile fun p => !p.broken
  match x.arrived.drop front.length with
  | p :: ps =>
    if front.any (·.last) then x
    else { x with arrived := { p with broken := false } :: ps, sequenced := false, scan := true, hole := x.cur.isSome }
  | [] => x

/-- One step of the scan: a packet that starts with a valid header ends it, any other is dropped. -/
def scanQueue (q : Nat) (x : InfQueue) : InfQueue :=
  let start := ((frontBlock x.arrived).map (·.1)).getD (pieceBytes x.arrived)
  if !x.scan then x
  else if decide (start.length < 48) && (frontBlock x.arrived).isNone then x
  else if hdrGood q start then { x with scan := false }
  else if x.arrived.any (·.ends) then { x with arrived := dropPacket x.arrived }
  else x

/-- Brings a queue up to date with what DMA has handed over. -/
def settleQueue (s : State) (q : Nat) : State :=
  s.onQueue q fun x => (List.range (2 * x.arrived.length + 1)).foldl (fun x _ => scanQueue q (breakQueue x)) x

/-- A failure that puts the queue in RESYNC: LAST_ERROR with the block's BLOCK_SEQ, the count, the fault. -/
def blockFail (s : State) (q seq : Nat) (status : U16) (id : Nat) : State :=
  let s := s.onQueue q fun x => { x with
    sequenced := false, lastError := status, lastErrorSeq := BitVec.ofNat 32 seq, cur := none }
  raise (s.count 0x0822 0 1) id 0 false

/-- A refusal as STALE (02 R47): counted, and recorded at most once a second on each queue. -/
def refuseStale (s : State) (q : Nat) (layerNo : U32) : State :=
  let s := s.count 0x031D 0 1
  let (last, n) := s.layer.staleLog.getD q (none, 0)
  let due := match last with
    | some t => decide (t + secU ≤ s.time)
    | none => true
  let entry := if due then (some s.time, 0) else (last, n + 1)
  let s := { s with layer := { s.layer with staleLog := s.layer.staleLog.set q entry } }
  if due then gbRecord s 3 1 (layerNo.toNat + q * 2 ^ 32 + satN 16 (n + 1) * 2 ^ 40) else s

/-- R47: 0 when the block belongs to the armed layer, 1 stale, 2 any other. -/
def layerVerdict (s : State) (layerNo : U32) : Nat :=
  if !(serialLater layerNo s.layer.lastCommitted) then 1
  else if s.layer.st = .idle ∨ layerNo ≠ s.layer.desc.layerNo then 2
  else 0

/-- The plaintext of a body: decrypted with ENCRYPTED set (R170). -/
def plaintext (s : State) (h : BlkHdr) (body : List Byte) : List Byte :=
  if h.encrypted then
    gcmPlain (s.data.keys.getD h.keySlot {}).key (le 4 h.ivFixed.toNat ++ le 8 h.ivCount) (body.take (body.length - 16))
  else body

/-- Check 7: the GCM tag with the header as additional data. -/
def tagGood (s : State) (h : BlkHdr) (b : List Byte) : Bool :=
  let body := b.drop 48
  !h.encrypted || gcmTag (s.data.keys.getD h.keySlot {}).key (le 4 h.ivFixed.toNat ++ le 8 h.ivCount) (b.take 48)
    (body.take (body.length - 16)) == body.drop (body.length - 16)

/-- Check 5: 0 good, else the status. -/
def keyCheck (s : State) (h : BlkHdr) : U16 :=
  let k := s.data.keys.getD h.keySlot {}
  if !h.encrypted then (if s.pv 0x0813 0 = 1 then 0x0803 else 0)
  else if !k.loaded then 0x0803
  else if h.ivFixed ≠ k.ivFixed ∨ h.ivCount ≤ k.ivCount.toNat then 0x0804
  else 0

/-- The content of a block, if it inflates: history is the content of the block before it (R171). -/
def contentOf (h : BlkHdr) (history plain : List Byte) : Option (List Byte) :=
  let coded := plain.take (plain.length - 4)
  if h.compressed then inflate (if h.dictReset then [] else history) coded else some coded

/-- The inflater writes its lines in order while their slots are free (03 R61); a stale line needs no slot. A slot being
written, again too, is not complete until its block is accepted (R173). -/
def writeLines (s : State) (q : Nat) : State :=
  match (s.queue q).cur with
  | none => s
  | some b =>
    (List.range b.count).foldl (fun s i =>
      match (s.queue q).cur with
      | some c =>
        let k := c.first + i
        if c.written = i && (lineStale s k || slotFree s k) then
          let s := if lineStale s k then s else
            { s.poke ((k % 2048) * 2048) ((c.content.drop (2048 * i)).take 2048) with
              dose := { s.dose with ring := AMap.put s.dose.ring (k % 2048) { line := k, complete := false } } }
          s.onQueue q fun x => { x with cur := some { c with written := i + 1 } }
        else s
      | none => s) s

/-- Checks 6 to 8, then inflation into the slots. -/
def inflateBlock (s : State) (q : Nat) (h : BlkHdr) (b : List Byte) : State :=
  let plain := plaintext s h (b.drop 48)
  match contentOf h (s.queue q).history plain with
  | none => blockFail s q h.seq 0x0802 0x0E2
  | some content =>
    if content.length ≠ 2048 * h.count then blockFail s q h.seq 0x0802 0x0E2
    else if !(tagGood s h b) then blockFail s q h.seq sAuthFail 0x0E4
    else if fieldAt plain (plain.length - 4) 4 ≠ crc32gz content then blockFail s q h.seq sCheckFail 0x0E3
    else
      let c : Inflating := { layerNo := h.layerNo, seq := BitVec.ofNat 32 h.seq, first := h.first, count := h.count
                             dictReset := h.dictReset, encrypted := h.encrypted, slot := h.keySlot
                             ivCount := BitVec.ofNat 64 h.ivCount, content := content }
      let s := if h.encrypted then { s with data := { s.data with aesRegs := (s.data.keys.getD h.keySlot {}).key } } else s
      writeLines (s.onQueue q fun x => { x with cur := some c, hole := false }) q

/-- Checks 3 to 5 of a block of the armed layer, and what follows. -/
def takeBlock (s : State) (q : Nat) (h : BlkHdr) (b : List Byte) : State :=
  let x := s.queue q
  let low := match x.lastSeq with
    | some l => decide (h.seq ≤ l.toNat)
    | none => false
  if x.sequenced && decide (h.seq < x.nextSeq.toNat) then s.count 0x0821 q 1
  else if x.sequenced && decide (x.nextSeq.toNat < h.seq) then blockFail s q h.seq 0x0806 0x0E1
  else if !x.sequenced && (low || (!h.dictReset && h.kind != 1)) then s.count 0x0821 q 1
  else if h.kind = 1 then
    (s.count 0x0820 q 1).onQueue q fun x => { x with sequenced := false, lastSeq := some (BitVec.ofNat 32 h.seq) }
  else if h.count = 0 ∨ 64 < h.count ∨ s.layer.desc.lineCount.toNat < h.first + h.count
      ∨ (x.sequenced = true ∧ h.first ≠ x.nextLine) then blockFail s q h.seq 0x0806 0x0E1
  else if keyCheck s h ≠ 0 then blockFail s q h.seq (keyCheck s h) (if keyCheck s h = 0x0803 then 0x0E6 else 0x0E5)
  else inflateBlock s q h b

/-- A refusal as BAD_STATE (02 R47): counted. -/
def refuseState (s : State) : State := s.count 0x031D 0 1

/-- The checks of a block in the order of Table DATA-3. -/
def checkBlock (s : State) (q : Nat) (bytes : List Byte) : State :=
  let h := blkHdr (padTo 48 bytes)
  if !(hdrOk q bytes) then blockFail s q h.seq 0x0805 0x0E0
  else
    match layerVerdict s h.layerNo with
    | 1 => refuseStale s q h.layerNo
    | 2 => refuseState s
    | _ => takeBlock s q h bytes

/-- A whole block waits at a queue that takes one: up to the packet with LAST, with no hole before its end. -/
def blockWaits (s : State) (q : Nat) : Option (List Byte × List Piece) :=
  if (s.queue q).cur.isSome || (s.queue q).scan || engineOut s q then none else frontBlock (s.queue q).arrived

/-- AQRIPOL_BLOCK (R172): the queue takes the block at its front, one at a time; a queue without an engine takes none (18 Table
BIST-3). -/
def execAqripolBlock (dt : Nat) (queue : Fin 2) (parity : Bool) (s : State) : Result :=
  clocked dt s (fun s => s.mainOn && (blockWaits s queue.val).isSome) fun s =>
    let s := engineCheck s queue.val parity
    match blockWaits s queue.val with
    | none => s
    | some (bytes, rest) =>
      settleQueue (checkBlock (s.onQueue queue.val fun x => { x with arrived := rest }) queue.val bytes) queue.val

/-- INFLATER_SLOT_FREE (03 R61). -/
def execInflaterSlotFree (dt : Nat) (queue : Fin 2) (s : State) : Result :=
  clocked dt s (fun s => (s.queue queue.val).cur.isSome) fun s => writeLines s queue.val

/-- A block given up after its lines were written: its incomplete slots are free again. -/
def dropInflation (s : State) (q : Nat) : State :=
  let s := match (s.queue q).cur with
    | some c =>
      let ring := List.filter (fun (e : Nat × RingTag) =>
        e.2.complete || decide (e.2.line < c.first) || decide (c.first + c.count ≤ e.2.line)) s.dose.ring
      { s with dose := { s.dose with ring := ring } }
    | none => s
  s.onQueue q fun x => { x with cur := none }

/-- An accepted block (R173). -/
def acceptBlock (s : State) (q : Nat) (c : Inflating) : State :=
  let s := s.onQueue q fun x => { x with
    cur := none, sequenced := !x.hole, nextSeq := c.seq + 1, lastSeq := some c.seq, nextLine := c.first + c.count
    history := c.content.drop (c.content.length - 32768) }
  let s := s.count 0x0820 q 1
  let keys := if c.encrypted then s.data.keys.modify c.slot fun k => { k with ivCount := c.ivCount } else s.data.keys
  let s := { s with data := { s.data with keys := keys } }
  (List.range c.count).foldl (fun s i => completeLine s (c.first + i)) s

/-- BLOCK_ACCEPTED (R173): every line is in its slot; the layer numbers are judged again. A block in progress on an inflater that
a parity error stops fails check 6, and the reserve takes over (R179). -/
def execBlockAccepted (dt : Nat) (queue : Part 2) (s : State) : Result :=
  clocked dt s (fun s => s.mainOn && (match (s.queue queue.no.val).cur with
    | some c => c.written == c.count
    | none => false)) fun s =>
    let q := queue.no.val
    match (s.queue q).cur with
    | none => s
    | some c =>
      if queue.parity then engineCheck (blockFail (dropInflation s q) q c.seq.toNat 0x0802 0x0E2) q true
      else
        match layerVerdict s c.layerNo with
        | 1 => refuseStale (dropInflation s q) q c.layerNo
        | 2 => refuseState (dropInflation s q)
        | _ => acceptBlock s q c

/-! ### Outbound blocks (R177, R178) -/

/-- An outbound block (Table DATA-2): never encrypted, DICT_RESET always set. -/
def outBlock (s : State) (j : CmpJob) (coded : Option (List Byte)) : List Byte :=
  let body := (coded.getD j.content) ++ le 4 (crc32gz j.content)
  let seq := s.data.outSeq.getD (j.kind.toNat - 2) 0
  withCrc (le 4 0x50525141 ++ [1, j.kind] ++ le 1 (4 + bitN coded.isSome) ++ [0] ++ le 4 j.layerNo.toNat
    ++ le 4 seq ++ le 4 j.firstLine.toNat ++ le 2 j.items.toNat ++ [0, 0] ++ le 4 body.length
    ++ List.replicate 16 0) ++ body

/-- The output area of DATA_COMPRESS: the start of the compression buffers (R178; log entry 36). -/
def compressArea : Nat := 0x1100000

/-- A finished block is ready at its data engine: 2, 3, 4 or 5 (Table DATA-1). A DATA_COMPRESS is answered. -/
def putBlock (s : State) (j : CmpJob) (coded : Option (List Byte)) : State :=
  let b := outBlock s j coded
  let k := j.kind.toNat - 2
  let s := { s with data := { s.data with outSeq := s.data.outSeq.modify k fun n => wrap32 (n + 1) } }
  let s := if k = 3 then { s.poke compressArea b with data := { s.data with out5Read := 0, out5Len := b.length } }
    else { s with data := { s.data with outQ := s.data.outQ.modify k fun l => l ++ [{ bytes := b, upTo := j.upTo }] } }
  match j.w with
  | some w => answer s w (if coded.isSome then 0 else 0x0801) []
  | none => s

/-- The coded form of a job: a DEFLATE stream of its content in fixed (1) or dynamic (2) Huffman blocks, where coding gains enough
(R177). -/
def codedOf (s : State) (j : CmpJob) : Option (List Byte) :=
  let mode := s.pv 0x0810 (j.kind.toNat - 2)
  if mode = 0 then none
  else
    let c := Config.deflate mode j.content
    if inflateAs (fun ty => ty == mode) [] c == some j.content
        && decide ((c.length + 4) * 100 < j.content.length * (100 - s.pv 0x0811 0)) then some c
    else none

/-- A job takes a free place, the given one before the lowest, or waits; a parity error may be found in the compressor that
takes it. -/
def startJobAt (s : State) (j : CmpJob) (place : Nat) (parity : Bool) : State :=
  let free := fun (s : State) (k : Nat) => (s.data.cmp.getD k none).isNone && !(engineOut s (2 + k))
  let s := match (place :: List.range 4).find? (free s) with
    | some k => engineCheck s (2 + k) parity
    | none => s
  match (place :: List.range 4).find? (free s) with
  | some k => { s with data := { s.data with cmp := s.data.cmp.set k (some j) } }
  | none => { s with data := { s.data with cmpWait := s.data.cmpWait ++ [j] } }

/-- A job takes the lowest free place, or waits. -/
def startJob (s : State) (j : CmpJob) : State := startJobAt s j 0 false

/-- Bytes that a hand-over takes at most: 65 536, KIND 3 131 072 (R177). -/
def handLimit (kind : Byte) : Nat := if kind = 3 then 131072 else 65536

/-- The first `n` items of a producer are of one layer and together within the limit. -/
def madeFit (kind : Byte) (n : Nat) (l : List Made) : Bool :=
  decide (n ≤ l.length) && (l.take n).all (fun y => some y.layerNo == l.head?.map (·.layerNo))
    && decide (((l.take n).flatMap (·.bytes)).length ≤ handLimit kind)

/-- The first `n` items of a producer, where they fit, and of KIND 3 one more would not: its hand-over at `since`, and the rest. -/
def takeMade (kind : Byte) (n since : Nat) (l : List Made) : Option (CmpJob × List Made) :=
  match l.take n with
  | [] => none
  | x :: xs =>
    let bytes := (x :: xs).flatMap (·.bytes)
    if madeFit kind n l && !(kind == 3 && madeFit kind (n + 1) l) then
      some ({ kind := kind, layerNo := x.layerNo, firstLine := x.first, items := BitVec.ofNat 16 n, content := bytes, since := since }, l.drop n)
    else none

/-- SEQ of the oldest entry held (17 R363). -/
def gbOldest (g : Guestbook) : U32 := g.next - BitVec.ofNat 32 g.held

/-- The bytes of `n` entries from a SEQ on. -/
def gbEntries (s : State) (seq : U32) (n : Nat) : List Byte :=
  (List.range n).flatMap fun k => memBytes s.mem (gbSlot (seq + BitVec.ofNat 32 k).toNat) 32

/-- First entry that is still held and was not handed out. -/
def gbStart (g : Guestbook) : U32 := if serialLater (gbOldest g) g.handed then gbOldest g else g.handed

/-- The block of the next `n` Guestbook entries, FIRST_LINE SEQ × 32 (17 R363). -/
def gbBlock (s : State) (n : Nat) : CmpJob :=
  let start := gbStart s.gb
  { kind := 4, layerNo := s.layer.desc.layerNo, firstLine := BitVec.ofNat 32 (start.toNat * 32), items := BitVec.ofNat 16 n
    content := gbEntries s start n, since := s.time, upTo := start + BitVec.ofNat 32 n }

/-- A Guestbook block is handed out; in load deferral it goes out stored (17 R344). -/
def handEntries (s : State) (n place : Nat) (parity : Bool) : State :=
  let j := gbBlock s n
  let s := { s with gb := { s.gb with handed := j.upTo, handedAt := s.time } }
  if s.keep.deferAt.isSome then putBlock s j none else startJobAt s j place parity

/-- A DMA channel reads data engine 4 (17 R363). -/
def gbReader (s : State) : Bool := s.keep.running && s.dma.any fun c => c.st != .idle && c.desc.srcSpace == 2 && c.desc.src == 4

/-- What the producer of a kind hands over as `n` items: map items, whole line records, or a block of 2 048 Guestbook entries, which
Keeper hands out while a channel reads them (17 R363). -/
def handOver (s : State) (kind : Byte) (place n : Nat) (parity : Bool) : Option State :=
  if kind = 4 then
    if gbReader s ∧ n = 2048 ∧ n ≤ (s.gb.next - gbStart s.gb).toNat then some (handEntries s n place parity) else none
  else if kind = 2 ∨ kind = 3 then
    (takeMade kind n s.time (s.data.made.getD (kind.toNat - 2) [])).map fun r =>
      startJobAt { s with data := { s.data with made := s.data.made.set (kind.toNat - 2) r.2 } } r.1 place parity
  else none

/-- COMPRESS_HANDOVER (R177): `items` of KIND 2, 3 or 4 are handed to a free compressor; how many, within the limit, and to
which is the producer's (log entry 36). -/
def execCompressHandover (dt : Nat) (kind : Byte) (place : Fin 4) (items : U16) (parity : Bool) (s : State) : Result :=
  clocked dt s (fun s => s.mainOn && (handOver s kind place.val items.toNat parity).isSome) fun s =>
    (handOver s kind place.val items.toNat parity).getD s

/-- The next waiting job takes a place that has become free. -/
def nextJob (s : State) : State :=
  match s.data.cmpWait with
  | [] => s
  | j :: rest => startJob { s with data := { s.data with cmpWait := rest } } j

/-- COMPRESS_DONE (R177, R179): coded, or stored where coding gains too little or the engine is faulty. -/
def execCompressDone (dt : Nat) (place : Fin 4) (faulty : Bool) (s : State) : Result :=
  clocked dt s (fun s => s.mainOn && (s.data.cmp.getD place.val none).isSome) fun s =>
    match s.data.cmp.getD place.val none with
    | none => s
    | some j =>
      let s := { s with data := { s.data with cmp := s.data.cmp.set place.val none } }
      let coded := if faulty then none else codedOf s j
      let tried := !faulty && s.pv 0x0810 (j.kind.toNat - 2) != 0
      let s := if tried && coded.isNone then s.count 0x0822 1 1 else s
      let s := putBlock s j coded
      nextJob (engineCheck s (2 + place.val) faulty)

/-- COMPRESS_BYPASS (R177): the oldest waiting job is sent stored; the first in a layer raises 0x0E9. -/
def execCompressBypass (dt : Nat) (s : State) : Result :=
  clocked dt s (fun s => s.mainOn && (match s.data.cmpWait with
    | j :: _ => decide (j.since + s.pv 0x0812 0 * usU ≤ s.time)
    | [] => false)) fun s =>
    match s.data.cmpWait with
    | [] => s
    | j :: rest =>
      let s := putBlock { s with data := { s.data with cmpWait := rest } } j none
      let s := s.count 0x0822 2 1
      if s.layer.st ≠ .idle ∧ s.data.bypassFirst = false then
        raise { s with data := { s.data with bypassFirst := true } } 0x0E9 0 false
      else s

/-! ### Shadow check (R182) -/

/-- The first word of a sample, by row and column, that differs from what R71 to R83 give: row, column, expected, actual. -/
def firstWrong (x : Shadow) (wrong : List (Nat × Nat × U16)) : Option (Nat × Nat × U16 × U16) :=
  let expected := fun r c => (((x.words.find? fun w => w.1 == r && w.2.1 == c).map (·.2.2)).getD 0)
  let bad := wrong.filter fun w => decide (w.1 < 288) && w.2.1 / 128 == 2 * x.chain + x.half && w.2.2 != expected w.1 w.2.1
  let first := (bad.map fun w => 1024 * w.1 + w.2.1).min?
  (bad.find? fun w => some (1024 * w.1 + w.2.1) == first).map fun w => (w.1, w.2.1, expected w.1 w.2.1, w.2.2)

/-- SHADOW_COMPARE (R182): Keeper has recomputed the sample and compared; `wrong` are the words that the synthesiser's arithmetic
got wrong, by row and column. A mismatch raises 0x0E8 with a record; the marker, row, column and words do not fit its DATA, whose
layout is open (log entry 6). -/
def execShadowCompare (dt : Nat) (wrong : List (Nat × Nat × U16)) (s : State) : Result :=
  event dt s (fun s => s.keep.running && s.data.shadow.isSome) fun s =>
    match s.data.shadow with
    | none => s
    | some x =>
      let s := { s with data := { s.data with shadow := none } }
      match firstWrong x wrong with
      | none => s
      | some (r, c, e, a) =>
        let s := { s.count 0x0823 0 1 with data := { s.data with mismatch := some (x.m, x.chain, r, c, e, a) } }
        let s := raise s 0x0E8 0 false
        let id := s.freeBits 16
        let s := s.freeTaken
        let data := s.freeBits 64
        gbRecord s.freeTaken 8 id data

/-! ### Commands (R185) -/

/-- The keys of a mailbox's session: the key-encryption key and the ephemeral ECDH key it came from. -/
def setKek (s : State) (mb : Nat) (kek : Option (List Byte)) (ecdh : Option Nat) : State :=
  { s with keep := { s.keep with sessions := s.keep.sessions.modify mb fun y => y.map fun z => { z with kek := kek, ecdh := ecdh } } }

/-- An agreement has drawn its ephemeral key and its nonce: what the random source and the elliptic-curve block then hold; the
identity key is cleared from its working copy after the signature (18 R375, R383). -/
def agreeDraws (s : State) : State :=
  { s.freeTaken with data := { s.data with
    random := Config.signNonce s.free, ecRegs := privateKey (Config.signNonce s.free), identityCopy := 0 } }

/-- DATA_KEK_AGREE (R175), of the session that holds the mailbox; its repetition erases the key before. -/
def execDataKekAgree (q : Req) (hostKey : List Byte) (s : State) : Result :=
  request 0x0801 q s (q.len == 97) fun s _ =>
    match s.session q.mb with
    | none => refuse s sBadState
    | some x =>
      match agreement s.free x.id hostKey with
      | none => refuse (setKek (agreeDraws s) q.mb none none) sAuthFail
      | some (kek, dev, sig) => .now (setKek (agreeDraws s) q.mb (some kek) (some (privateKey (Config.ephemeralKey s.free)))) sOK (dev ++ sig)

/-- DATA_KEY_LOAD (R176). -/
def execDataKeyLoad (q : Req) (slot : Byte) (ivFixed : U32) (wrapped : List Byte) (s : State) : Result :=
  request 0x0802 q s (q.len == 45) fun s _ =>
    if 3 < slot.toNat then refuse s sRange
    else
      match (s.session q.mb).bind (·.kek) with
      | none => refuse s sBadState
      | some kek =>
        let s := { s with data := { s.data with aesRegs := kek } }
        match keyUnwrap kek wrapped with
        | none => refuse s sAuthFail
        | some key =>
          let keys := s.data.keys.set slot.toNat { loaded := true, key := key, ivFixed := ivFixed, ivCount := 0 }
          done { s with data := { s.data with keys := keys } }

/-- DATA_KEY_CLEAR (R176). -/
def execDataKeyClear (q : Req) (slot : Byte) (s : State) : Result :=
  request 0x0803 q s (q.len == 1) fun s _ =>
    if 3 < slot.toNat ∧ slot ≠ 0xFF then refuse s sRange
    else
      let keys := if slot = 0xFF then List.replicate 4 {} else s.data.keys.set slot.toNat {}
      done { s with data := { s.data with keys := keys } }

/-- DATA_KEY_STATUS (Table DATA-8). -/
def execDataKeyStatus (q : Req) (s : State) : Result :=
  request 0x0804 q s (q.len == 0) fun s _ =>
    .now s sOK (s.data.keys.flatMap fun k => le 1 (bitN k.loaded) ++ le 4 k.ivFixed.toNat ++ le 8 k.ivCount.toNat)

/-- DATA_STREAM_STATUS (Table DATA-8). -/
def execDataStreamStatus (q : Req) (queue : Byte) (s : State) : Result :=
  request 0x0805 q s (q.len == 1) fun s _ =>
    if 1 < queue.toNat then refuse s sRange
    else
      let x := s.queue queue.toNat
      .now s sOK (le 1 (bitN x.sequenced) ++ le 4 x.nextSeq.toNat ++ le 2 x.lastError.toNat ++ le 4 x.lastErrorSeq.toNat
        ++ le 4 (s.pv 0x0820 queue.toNat))

/-- DATA_SHADOW_REPORT (R182). -/
def execDataShadowReport (q : Req) (s : State) : Result :=
  request 0x0806 q s (q.len == 0) fun s _ =>
    match s.data.mismatch with
    | none => refuse s sNotPresent
    | some (m, n, r, c, e, a) =>
      .now s sOK (le 4 m ++ le 1 n ++ le 2 r ++ le 2 c ++ le 2 e.toNat ++ le 2 a.toNat)

/-- An SRAM range that DMA may read (Table ARCH-6): regions 7 to 11 adjoin, the capture region stands alone. -/
def dmaReads (a n : Nat) : Bool :=
  let r := sramRegion a
  let e := sramRegion (a + n - 1)
  (r == 5 && e == 5) || (decide (7 ≤ r) && decide (e ≤ 11))

/-- DATA_COMPRESS (R178): one KIND 5 block; answered once it is coded. -/
def execDataCompress (q : Req) (src len : U32) (s : State) : Result :=
  request 0x0807 q s (q.len == 8) fun s w =>
    let busy := decide (s.data.out5Read < s.data.out5Len) || (s.data.cmp.any fun j => (j.map (·.kind)) == some 5)
      || (s.data.cmpWait.any fun j => j.kind == 5)
    if len = 0 ∨ 65536 < len.toNat ∨ !(dmaReads src.toNat len.toNat) then refuse s sRange
    else if busy then refuse s sBusy
    else .later (startJob s {
      kind := 5, layerNo := s.layer.desc.layerNo, firstLine := src, items := 1
      content := memBytes s.mem src.toNat len.toNat, since := s.time, w := some w })

end Sys2Proof.Machine
end

