-- ==== Sys2Proof/Machine/Host.lean ====
section
/-!
DEFINITION. The commands and events of the host ports and the transport (06 R145 to R158, R168).
-/

namespace Sys2Proof.Machine

/-! ### Acknowledgements -/

/-- SACK of a channel: bit i for SEQ = ACK + 1 + i received (Table HOST-2). -/
def sackOf (c : Chan) : Nat :=
  ((List.range 64).map fun i => if c.ooo.any fun p => p.seq == c.rxNext + 1 + BitVec.ofNat 32 i then 2 ^ i else 0).sum

/-- An ACK goes out; nothing is due any more (R150). -/
def sendAck (s : State) (ch : Nat) : State :=
  let s := emitPacket s ch 1 4 none (le 8 (sackOf (s.chan ch)))
  s.onChan ch fun c => { c with ackDue := 0 }

/-- The holes of a channel, as FIRST and COUNT. -/
def holesFrom : U32 → List RxPkt → List (U32 × Nat)
  | _, [] => []
  | next, p :: ps => if p.seq = next then holesFrom (next + 1) ps else (next, (p.seq - next).toNat) :: holesFrom (p.seq + 1) ps

/-- A NAK for a hole (Table HOST-2); each missing packet remembers when one last covered it (R150). -/
def sendNak (s : State) (ch : Nat) (h : U32 × Nat) : State :=
  let s := emitPacket s ch 2 4 none (le 4 h.1.toNat ++ le 4 h.2)
  s.onChan ch fun c => { c with
    nakAt := (List.range h.2).foldl (fun m k => AMap.put m ((h.1 + BitVec.ofNat 32 k).toNat) s.time) c.nakAt }

/-- A packet is acknowledged by ACK and SACK. -/
def acked (ack : U32) (sack : Nat) (seq : U32) : Bool :=
  serialLater ack seq || (let d := (seq - ack).toNat; decide (1 ≤ d) && decide (d ≤ 64) && sack.testBit (d - 1))

/-- ACK and SACK of a received packet free the window (R150). -/
def takeAck (s : State) (ch : Nat) (ack : U32) (sack : Nat) : State :=
  drainWait (s.onChan ch fun c => { c with unacked := c.unacked.filter fun p => !(acked ack sack p.seq) }) ch

/-- Retransmits the packets that a test selects, with RETX set (R150); HOST.RETX_SENT counts each. -/
def retransmit (s : State) (ch : Nat) (sel : TxPkt → Bool) : State :=
  let ps := (s.chan ch).unacked.filter sel
  let s := ps.foldl (fun s p => emitPacket s ch p.type (dataFlags (s.chan ch) p.flags ||| 2) (some p.seq) p.payload) s
  let s := s.onChan ch fun c => { c with unacked := c.unacked.map fun p => if sel p then { p with last := s.time } else p }
  if ps.isEmpty then s else s.count 0x071E 1 ps.length

/-! ### Delivery -/

/-- Data of a channel is delivered in sequence (R148, R150): the register window, a mailbox, or packets for DMA. A message
arrives with its last packet (R149). -/
def deliver (s : State) (ch : Nat) (p : RxPkt) : State :=
  if ch = 0 then windowAccess s p.payload
  else if ch ≤ 4 then
    let data := (s.chan ch).rxData ++ p.payload
    if p.flags.getLsbD 3 then receiveMessage (s.onChan ch fun c => { c with rxData := [] }) (ch - 1) p.came data
    else s.onChan ch fun c => { c with rxData := data }
  else s.onChan ch fun c => { c with
    rxPkts := c.rxPkts ++ [{ bytes := p.payload, last := p.flags.getLsbD 3, broken := c.broken, seq := p.seq }], broken := false }

/-- Packets that have become next in sequence are delivered; with no hole left, no NAK is remembered. -/
def drainOoo (s : State) (ch : Nat) : State :=
  let s := ((s.chan ch).ooo).foldl (fun s p =>
    if p.seq = (s.chan ch).rxNext then
      deliver (s.onChan ch fun c => { c with rxNext := c.rxNext + 1, ooo := c.ooo.drop 1 }) ch p
    else s) s
  s.onChan ch fun c => { c with nakAt := if c.ooo.isEmpty then [] else c.nakAt }

/-- Inserts a packet beyond a hole in SEQ order. -/
def insertOoo (p : RxPkt) : List RxPkt → List RxPkt
  | [] => [p]
  | x :: xs => if serialLater x.seq p.seq then p :: x :: xs else x :: insertOoo p xs

/-- One more packet counts toward the next ACK, the first starting HOST.ACK_US; at HOST.ACK_PACKETS it is sent. -/
def countAck (s : State) (ch : Nat) : State :=
  let s := s.onChan ch fun c => { c with ackDue := c.ackDue + 1, ackSince := if c.ackDue = 0 then s.time else c.ackSince }
  if s.pv 0x071C 0 ≤ (s.chan ch).ackDue then sendAck s ch else s

/-- A DATA packet on a reliable channel (R150). -/
def rxReliable (s : State) (ch : Nat) (p : Packet) : State :=
  let c := s.chan ch
  let x : RxPkt := { seq := p.seq, flags := p.flags, payload := p.payload, came := s.time }
  if serialLater c.rxNext p.seq || (c.ooo.any fun x => x.seq == p.seq) then sendAck (s.count 0x071E 2 1) ch
  else if s.pv 0x0719 0 < (p.seq - c.rxNext).toNat then s
  else if p.seq = c.rxNext then
    let s := deliver (s.onChan ch fun c => { c with rxNext := c.rxNext + 1 }) ch x
    countAck (drainOoo s ch) ch
  else
    let s := s.onChan ch fun c => { c with ooo := insertOoo x c.ooo }
    let below := (holesFrom (s.chan ch).rxNext (s.chan ch).ooo).filter fun h => serialLater p.seq h.1
    let s := match below.getLast? with
      | some h => sendNak s ch h
      | none => s
    countAck s ch

/-- A packet of an open channel, by type (Table HOST-2). EVENT packets are the device's own. -/
def rxPacket (s : State) (ch : Nat) (p : Packet) : State :=
  let s := if p.flags.getLsbD 2 && (s.chan ch).reliable then takeAck s ch p.ack (if p.type = 1 then fieldAt p.payload 0 8 else 0) else s
  match p.type.toNat with
  | 0 =>
    if 8 ≤ ch ∧ (s.chan ch).outbound then s
    else if (s.chan ch).reliable then rxReliable s ch p
    else deliver s ch { seq := p.seq, flags := p.flags, payload := p.payload, came := s.time }
  | 2 =>
    let first : U32 := BitVec.ofNat 32 (fieldAt p.payload 0 4)
    retransmit s ch fun x => decide ((x.seq - first).toNat < fieldAt p.payload 4 4)
  | 5 => s.onChan ch fun c => { c with txSeq := 0, rxNext := 0, unacked := [], ooo := [], ackDue := 0 }
  | _ => s

/-- Checks of a packet's header (R147). -/
def packetOk (s : State) (p : Packet) : Bool :=
  p.version == 1 && decide (p.type.toNat ≤ 5) && p.len == p.payload.length && decide (p.len ≤ maxLen s)

/-- A mailbox channel accepts only packets of its session (17 R355); a SESSION_OPEN with SESSION 0 reaches its own
answer (log entry 61). -/
def sessionOk (s : State) (ch : Nat) (p : Packet) : Bool :=
  match s.session (ch - 1) with
  | none => true
  | some x => p.session == x.id || (p.session == 0 && p.type == 0 && fieldAt p.payload 0 2 == 0x0006)

/-- A transport packet received on a port (R147, R148): checked, discarded where its mailbox answers nothing (18 Table
BIST-3), its session judged, and processed by type. -/
def takePacket (s : State) (pkt : Packet) (buffersFull : Bool) : State :=
  let ch := pkt.channel.toNat
  if !(packetOk s pkt) then s.count 0x071E 3 1
  else if (5 ≤ ch ∧ ch ≤ 7) ∨ 64 ≤ ch ∨ !(s.chan ch).isOpen then s
  else if 1 ≤ ch ∧ ch ≤ 4 ∧ mailboxDead s (ch - 1) then s
  else if 1 ≤ ch ∧ ch ≤ 4 ∧ !(sessionOk s ch pkt) then s.count 0x0022 4 1
  else
    let s := if (1 ≤ ch ∧ ch ≤ 4) ∧ pkt.session != 0 then touchSession s (ch - 1) else s
    if buffersFull then raise s 0x0D8 0 false else rxPacket s ch pkt

/-- A port's answer for its own address (R146). -/
def portReply (s : State) (p : Nat) (r : PortReply) : State :=
  (s.onPort p fun x => { x with lastTx := s.time }).send (.portReply p s.vid r)

/-- The transport packet that a frame brings in the encapsulation in use (R147), for the port's own address. -/
def framePacket (s : State) (p : Nat) (b : EthBody) : Option Packet :=
  match s.encap p, b with
  | .ethernet et, .direct t pkt => if t = et then some pkt else none
  | .udp4 ip _ up, .ipv4 _ dst fragment (.udp port pkt) => if !fragment && dst.toNat == ip && port == up then some pkt else none
  | .udp6 ip up, .ipv6 _ dst otherExt (.udp port pkt) => if !otherExt && dst.toNat == ip && port == up then some pkt else none
  | _, _ => none

/-- The answer that a frame asks of a port, for its own addresses only: ARP, neighbour solicitation, and echo with up to
1 472 bytes (R146). A fragment and a packet with another extension header are discarded. -/
def frameReply (s : State) (p : Nat) (b : EthBody) : Option PortReply :=
  let ip4 := s.portParam 0x0710 p
  let ip6 := s.portParam 0x0711 p
  match b with
  | .arp sender target => if target.toNat = ip4 then some (.arp target (Config.mac p) sender) else none
  | .ipv4 src dst fragment (.echo data) =>
    if !fragment && dst.toNat == ip4 && decide (data.length ≤ 1472) then some (.echo4 true dst src data) else none
  | .ipv6 src _ otherExt (.solicit target) =>
    if !otherExt && target.toNat == ip6 then some (.neighbour target (Config.mac p) src) else none
  | .ipv6 src dst otherExt (.echo data) =>
    if !otherExt && dst.toNat == ip6 && decide (data.length ≤ 1472) then some (.echo6 dst src data) else none
  | _ => none

/-- A port accepts tagged frames of its VID only where HOST.VLAN is enabled, else untagged frames only (R146). -/
def tagAccepted (s : State) (vlan : Option Nat) : Bool := vlan == s.vid

/-- A received frame (R145, R146, R180): FEC codewords are counted; a frame whose FCS fails is discarded, one longer than
HOST.MAX_FRAME and a PAUSE are discarded and counted, here in HOST.RX_DISCARDS (log entry 34). -/
def takeFrame (s : State) (p : Nat) (f : EthFrame) (buffersFull : Bool) : State :=
  let s := s.onPort p fun x => { x with
    fecCorr := x.fecCorr + BitVec.ofNat 64 f.fecCorr, fecUncorr := x.fecUncorr + BitVec.ofNat 64 f.fecUncorr }
  if !f.fcsOk then s
  else if s.portParam 0x0715 0 < f.len ∨ f.body = .pause then s.count 0x071E 3 1
  else if !(tagAccepted s f.vlan) then s
  else
    let s := s.onPort p fun x => { x with lastRx := s.time }
    match framePacket s p f.body, frameReply s p f.body with
    | some pkt, _ => takePacket s pkt buffersFull
    | none, some r => portReply s p r
    | none, none => s

/-- TRANSPORT_PACKET_RX (R145 to R153): a frame arrives at a port. -/
def execTransportPacketRx (dt : Nat) (port : Fin 2) (frame : EthFrame) (buffersFull : Bool) (s : State) : Result :=
  event dt s (fun s => s.mainOn && s.portsOn) fun s => takeFrame s port.val frame buffersFull

/-- ACK_TIMER (R150): HOST.ACK_US after the first unacknowledged packet. -/
def execAckTimer (dt : Nat) (channel : Fin 64) (s : State) : Result :=
  event dt s (fun s => s.mainOn && (s.chan channel.val).isOpen && (s.chan channel.val).reliable
    && decide (0 < (s.chan channel.val).ackDue)
    && decide ((s.chan channel.val).ackSince + s.pv 0x071C 1 * usU ≤ s.time)) fun s => sendAck s channel.val

/-- RETRANSMIT_TIMEOUT (R150): every packet whose last transmission is HOST.RTO_US ago, and each hole whose last NAK
is. -/
def execRetransmitTimeout (dt : Nat) (channel : Fin 64) (s : State) : Result :=
  event dt s (fun s => s.mainOn && (s.chan channel.val).isOpen && (s.chan channel.val).reliable) fun s =>
    let ch := channel.val
    let rto := s.pv 0x071A 0 * usU
    let s := retransmit s ch fun p => decide (p.last + rto ≤ s.time)
    let c := s.chan ch
    ((holesFrom c.rxNext c.ooo).filter fun h => decide (AMap.get c.nakAt h.1.toNat 0 + rto ≤ s.time)).foldl (fun s h => sendNak s ch h) s

/-- When the first hole of a channel was first seen: the earliest arrival beyond it (R151). -/
def holeSince (c : Chan) : Option Nat := (c.ooo.map (·.came)).min?

/-- INBOUND_GAP_TIMEOUT (R151): the hole is abandoned, the data after it delivered, 0x0D3, and the stream of a bulk channel
is marked broken at the hole: before the first packet after it. -/
def execInboundGapTimeout (dt : Nat) (channel : Fin 64) (s : State) : Result :=
  event dt s (fun s => s.mainOn && (s.chan channel.val).isOpen && (match holeSince (s.chan channel.val) with
    | some t => decide (t + s.pv 0x071B 0 * msU ≤ s.time)
    | none => false)) fun s =>
    let ch := channel.val
    let first := (((s.chan ch).ooo.head?).map (·.seq)).getD 0
    let s := drainOoo (s.onChan ch fun c => { c with rxNext := first, broken := decide (8 ≤ ch) }) ch
    raise (s.count 0x071E 0 1) 0x0D3 0 false

/-- A DMA channel in use on a transport channel. -/
def dmaUses (d : DmaChan) (ch : Nat) : Bool :=
  d.st != .idle && ((d.desc.srcSpace == 1 && d.desc.src == ch) || (d.desc.dstSpace == 1 && d.desc.dst == ch))

/-- OUTBOUND_PEER_LOST (R152): the data is discarded, 0x0D2, the DMA channel ends at its next descriptor
boundary, and a bulk channel closes. -/
def execOutboundPeerLost (dt : Nat) (channel : Fin 64) (s : State) : Result :=
  event dt s (fun s => s.mainOn && (s.chan channel.val).isOpen && (match (s.chan channel.val).unacked with
    | p :: _ => decide (p.first + s.pv 0x071B 0 * msU < s.time)
    | [] => false)) fun s =>
    let ch := channel.val
    let s := s.onChan ch fun c => { c with unacked := [], txWait := [], isOpen := decide (ch < 5) }
    let s := { s with dma := s.dma.map fun d => if dmaUses d ch then { d with lost := true } else d }
    raise s 0x0D2 0 false

/-- KEEPALIVE_SEND (R154): a port that has sent nothing for HOST.FAILOVER_US / 4. -/
def execKeepaliveSend (dt : Nat) (port : Fin 2) (s : State) : Result :=
  event dt s (fun s => s.mainOn && s.portUp port.val
    && decide (4 * (s.port port.val).lastTx + s.pv 0x0718 0 * usU ≤ 4 * s.time)) fun s => emitPort s port.val 0 3 0 none []

/-! ### Ports -/

/-- The ports to which HOST.PORT_MODE gives channels (R154). -/
def basePorts (s : State) : List Nat :=
  match s.pv 0x0717 0 with
  | 0 => [0]
  | 1 => [1]
  | _ => [0, 1]

/-- The channels that port `p` carries move to the other port, with 0x0D0 and a KEEPALIVE on the new path
(R155, Table HOST-3). -/
def failOver (s : State) (p : Nat) : State :=
  let mine := (basePorts s).filter fun b => (if (s.port b).moved then 1 - b else b) == p
  if mine.isEmpty then s
  else
    let s := mine.foldl (fun s b => s.onPort b fun x => { x with moved := !x.moved }) s
    let s := emitPort s (1 - p) 0 3 0 none []
    raise (s.count 0x071E 4 1) 0x0D0 0 false

/-- PORT_DOWN (R155, R156). -/
def execPortDown (dt : Nat) (port : Fin 2) (s : State) : Result :=
  event dt s (fun s => s.mainOn && (s.port port.val).link != 0) fun s =>
    let s := s.onPort port.val fun p => { p with link := 0 }
    if s.portUp (1 - port.val) then failOver s port.val else raise s 0x0D1 0 true

/-- PORT_LINK_UP (R145): the port is up. Channels of a port that is down move to it (R155). -/
def execPortLinkUp (dt : Nat) (port : Fin 2) (s : State) : Result :=
  event dt s (fun s => s.mainOn && s.portsOn) fun s =>
    let s := clearCond (s.onPort port.val fun p => { p with link := 2, lastRx := s.time }) 0x0D1
    if (s.port (1 - port.val)).link = 0 then failOver s (1 - port.val) else s

/-! ### IEEE 1588 (R157) -/

/-- The domain of a message is the device's. -/
def ptpDomain (s : State) (d : Nat) : Bool := d == s.pv 0x071D 1

/-- A Sync whose origin is known: the forward difference, and a Delay_Req goes out, as an IPv4 packet with DF set (R146). -/
def ptpForward (s : State) (arrival : Nat) (origin : Int) : State :=
  let via : PtpVia := match s.pv 0x071D 0 with
    | 2 => .udp4
    | 3 => .udp6
    | _ => .layer2
  let s := { s with host := { s.host with
    ptpFwd := some (psOf arrival - origin), ptpSync := none, ptpSynced := true, ptpReq := some s.time } }
  ptpLaw (clearCond (s.send (.ptpDelayReq (portFor s 0) s.vid (via == .udp4) via)) 0x0D4)

/-- HOST.PTP_MODE of a transport (R157). -/
def ptpModeOf (v : PtpVia) : Nat :=
  match v with
  | .layer2 => 1
  | .udp4 => 2
  | .udp6 => 3

/-- PTP_MESSAGE_RX (R157, 14 R298): slave only, end to end, on the port that carries channel 0, in the transport that
HOST.PTP_MODE names and under the tag in use (R146). -/
def execPtpMessageRx (dt : Nat) (port : Fin 2) (frame : PtpFrame) (s : State) : Result :=
  event dt s (fun s => s.mainOn && s.portsOn && s.pv 0x071D 0 == ptpModeOf frame.via && tagAccepted s frame.vlan && portFor s 0 == port.val) fun s =>
    match frame.msg with
    | .announce _ => s
    | .sync d two origin =>
      if !(ptpDomain s d) then s
      else if two then { s with host := { s.host with ptpSync := some s.time } }
      else ptpForward s s.time origin
    | .followUp d origin =>
      match s.host.ptpSync with
      | some t => if ptpDomain s d then ptpForward s t origin else s
      | none => s
    | .delayResp d receive =>
      match s.host.ptpReq with
      | some t =>
        if ptpDomain s d then
          ptpLaw { s with host := { s.host with ptpRev := some (receive - psOf t), ptpReq := none } }
        else s
      | none => s

/-- PTP_SYNC_LOST (R157). -/
def execPtpSyncLost (dt : Nat) (s : State) : Result :=
  event dt s (fun s => s.mainOn && s.pv 0x071D 0 != 0) fun s =>
    raise { s with host := { s.host with ptpSynced := false, ptpSync := none, ptpReq := none, ptpFwd := none, ptpRev := none } } 0x0D4 0 true

/-! ### Commands (R168) -/

/-- HOST_PORT_STATUS (Table HOST-10). -/
def execHostPortStatus (q : Req) (port : Byte) (s : State) : Result :=
  request 0x0701 q s (q.len == 1) fun s _ =>
    let p := port.toNat
    if 1 < p then refuse s sRange
    else
      .now s sOK (le 1 (s.port p).link ++ le 4 (s.portParam 0x0710 p) ++ le 16 (s.portParam 0x0711 p)
        ++ le 1 (s.portParam 0x0712 0) ++ le 2 (s.portParam 0x0713 0) ++ le 2 (s.portParam 0x0714 0)
        ++ le 2 (s.portParam 0x0715 0) ++ le 2 (s.portParam 0x0716 0)
        ++ le 8 (s.port p).fecCorr.toNat ++ le 8 (s.port p).fecUncorr.toNat)

/-- The values of R158 that a restart of port p takes into use. -/
def applyPortParams (s : State) (p : Nat) : State :=
  let keys := [(0x0710, p), (0x0711, p), (0x0712, 0), (0x0713, 0), (0x0714, 0), (0x0715, 0), (0x0716, 0)]
  { s with host := { s.host with inUse := keys.foldl (fun m k => pset m k.1 k.2 (s.pv k.1 k.2)) s.host.inUse } }

/-- HOST_PORT_RESTART (R155, R158): retrains, applies, and takes back the channels. -/
def execHostPortRestart (q : Req) (port : Byte) (s : State) : Result :=
  request 0x0702 q s (q.len == 1) fun s _ =>
    let p := port.toNat
    if 1 < p then refuse s sRange
    else if s.layer.st ≠ .idle then refuse s sBadState
    else done ((applyPortParams s p).onPort p fun x => { x with link := 1, moved := false })

/-- HOST_CHAN_OPEN (Table HOST-10). -/
def execHostChanOpen (q : Req) (channel reliable dir : Byte) (s : State) : Result :=
  request 0x0703 q s (q.len == 3) fun s _ =>
    let ch := channel.toNat
    if ch < 8 ∨ 63 < ch ∨ 1 < reliable.toNat ∨ 1 < dir.toNat then refuse s sRange
    else if (s.chan ch).isOpen then refuse s 0x0701
    else done (s.onChan ch fun _ => { isOpen := true, reliable := reliable == 1, outbound := dir == 1 })

/-- HOST_CHAN_CLOSE (Table HOST-10). -/
def execHostChanClose (q : Req) (channel : Byte) (s : State) : Result :=
  request 0x0704 q s (q.len == 1) fun s _ =>
    let ch := channel.toNat
    if ch < 8 ∨ 63 < ch then refuse s sRange
    else if !(s.chan ch).isOpen then refuse s sNotPresent
    else if s.dma.any fun d => dmaUses d ch then refuse s sBadState
    else done (s.onChan ch fun _ => {})

end Sys2Proof.Machine
end

