-- ==== Sys2Proof/Machine/Monitor.lean ====
section
/-!
DEFINITION. The commands and events of the emission monitor (04 R96, R102, R105 to R112).
-/

namespace Sys2Proof.Machine

/-- Changes the capture. -/
def State.onCap (s : State) (f : Capture → Capture) : State :=
  { s with emon := { s.emon with cap := f s.emon.cap } }

/-- Entry to ARMING: header and ring pointers are cleared (Table EMON-5). -/
def capArming (s : State) : State :=
  { s with mem := memClear s.mem capBase 64 }.onCap fun c => { c with st := .arming, next := 0, pre := 0, stopAfterClear := false }

/-- Keeper updates the learned response after a COMMIT that calls for it (R96). -/
def execLearnUpdate (dt : Nat) (s : State) : Result :=
  event dt s (fun s => s.keep.running && s.emon.learnDue) learnUpdate

/-- A trailer with one more in MAP_GAPS (Table EMON-2). -/
def trailerGap (b : List Byte) : List Byte := withCrc (b.take 24 ++ le 2 (satN 16 (fieldAt b 24 2 + 1)) ++ (b.drop 26).take 2)

/-- Drops the first map block that `isRow` picks, of the blocks that wait: the trailer behind it counts it, if it is made
already. -/
def dropRow (isRow : Made → Bool) (l : List Made) : List Made × Bool :=
  match l with
  | [] => ([], false)
  | x :: l =>
    if isRow x then
      (l.mapIdx fun i y => if l.findIdx (fun z => z.first != 0 && z.bytes.length == 32) == i then { y with bytes := trailerGap y.bytes } else y,
        l.any fun z => z.first != 0 && z.bytes.length == 32)
    else ((x :: (dropRow isRow l).1), (dropRow isRow l).2)

/-- A row block, of 6 152 bytes, that no buffer has taken within 1 ms: dropped, MAP_GAPS, 0x084 (R102). -/
def execMapRowDrop (dt : Nat) (row : Nat) (s : State) : Result :=
  let isRow := fun (t : Nat) (x : Made) => x.first == BitVec.ofNat 32 (row + 1) && x.bytes.length == 6152 && decide (x.since + msU ≤ t)
  clocked dt s (fun s => (s.data.made.getD 0 []).any (isRow s.time)) fun s =>
    let r := dropRow (isRow s.time) (s.data.made.getD 0 [])
    raise { s with
      data := { s.data with made := s.data.made.set 0 r.1 }
      emon := { s.emon with mapGaps := if r.2 then s.emon.mapGaps else s.emon.mapGaps + 1 } } 0x084 0 false

/-- EMON_CAP_ARM (R105). -/
def execEmonCapArm (q : Req) (s : State) : Result :=
  request 0x0501 q s (q.len == 0) fun s _ =>
    if s.emon.cap.st ≠ .off ∨ s.readyOn = false then refuse s sBadState
    else if windowEmpty s 0 || decide (capRing s < s.pv 0x0530 0 + s.pv 0x0531 0) then refuse s sRange
    else done (capArming s)

/-- EMON_CAP_TRIGGER: its line and instant are those of its arrival (R106, R107). -/
def execEmonCapTrigger (q : Req) (s : State) : Result :=
  request 0x0502 q s (q.len == 0) fun s w =>
    match s.emon.cap.st with
    | .off => refuse s sBadState
    | .filling | .triggered => done (triggerAt s 0 (w.line.getD 0) w.tRx)
    | .arming | .done => .now (triggerAt s 0 (w.line.getD 0) w.tRx) 0x0501 []

/-- EMON_CAP_STOP: sampled at the next marker in EXPOSE, else at once (R108). -/
def execEmonCapStop (q : Req) (s : State) : Result :=
  request 0x0503 q s (q.len == 0) fun s w =>
    if s.emon.cap.stop.isSome then refuse s sPending
    else
      let s := s.onCap fun c => { c with stop := some w }
      .later (if s.layer.st = .expose then s else sampleCapStop s)

/-- EMON_CAP_HEADER (Table EMON-6). -/
def execEmonCapHeader (q : Req) (s : State) : Result :=
  request 0x0504 q s (q.len == 0) fun s _ =>
    if s.emon.cap.st ≠ .done then refuse s sBadState else .now s sOK (memBytes s.mem capBase 64)

/-- EMON_CAP_RELEASE (Table EMON-9). -/
def execEmonCapRelease (q : Req) (mode : Byte) (s : State) : Result :=
  request 0x0505 q s (q.len == 1) fun s _ =>
    if s.emon.cap.st ≠ .done then refuse s sBadState
    else if 1 < mode.toNat then refuse s sRange
    else if mode = 0 then done (s.onCap fun c => { c with st := .off })
    else done (capArming s)

/-- EMON_LEARN_RESET (R96). -/
def execEmonLearnReset (q : Req) (s : State) : Result :=
  request 0x0506 q s (q.len == 0) fun s _ =>
    if s.layer.st ≠ .idle then refuse s sBadState else done (learnReset s)

/-- The clearing of ARMING is done (Table EMON-5). -/
def execCaptureClearDone (dt : Nat) (s : State) : Result :=
  clocked dt s (fun s => s.readyOn && s.emon.cap.st == .arming) fun s =>
    s.onCap fun c => { c with
      st := if c.stopAfterClear then .off else .filling
      stopAfterClear := false
      pre := 0
      since := match s.layer.marker with
        | some m => m + 1
        | none => 0 }

/-- A tile's photodiode return of a period is received; it counts until marker m + 2 (R87). -/
def execPhotodiodeReturn (dt : Nat) (chain : Fin 4) (pos : Fin 18) (period : U32) (_flags : U16)
    (samples : Rx (List (BitVec 12))) (s : State) : Result :=
  received dt chain samples.chk s (fun s => chainLive (s.chain chain) && decide (pos.val < (s.chain chain).tiles.length)
      && (buildOf s period.toNat).isSome) fun s =>
    { s with emon := { s.emon with samples := AMap.put s.emon.samples (period.toNat * 72 + 18 * chain.val + pos.val) samples.body } }

end Sys2Proof.Machine
end

