-- ==== Sys2Proof/Machine/Dma.lean ====
section
/-!
DEFINITION. The DMA engine (06 R159 to R168).
-/

namespace Sys2Proof.Machine

/-- A logical channel. -/
def State.dch (s : State) (k : Nat) : DmaChan := s.dma.getD k {}

/-- Changes a logical channel. -/
def State.onDma (s : State) (k : Nat) (f : DmaChan → DmaChan) : State := { s with dma := s.dma.modify k f }

/-! ### Descriptors (R160, R161) -/

/-- The fields of the descriptor at an offset (Table HOST-5). -/
def descAt (m : List Host.Cell) (a : Nat) : Desc :=
  let f := memLe m (a + 8) 1
  let st := fun k => ofField 32 (memLe m (a + k) 4)
  { src := memLe m a 4, dst := memLe m (a + 4) 4, srcSpace := f % 4, dstSpace := f / 4 % 4
    evHalf := f.testBit 4, evFull := f.testBit 5, link := f.testBit 6
    elem := memLe m (a + 0x0A) 2, n0 := memLe m (a + 0x0C) 2, n1 := memLe m (a + 0x0E) 2, n2 := memLe m (a + 0x10) 2
    srcS := [st 0x14, st 0x18, st 0x1C], dstS := [st 0x20, st 0x24, st 0x28]
    next := memLe m (a + 0x2C) 4, tag := BitVec.ofNat 32 (memLe m (a + 0x30) 4) }

/-- Address of element (i0, i1, i2) of an SRAM side. -/
def elemAddr (base : Nat) (st : List Int) (i0 i1 i2 : Nat) : Int :=
  base + i0 * st.getD 0 0 + i1 * st.getD 1 0 + i2 * st.getD 2 0

/-- An SRAM side has aligned address and strides; a transport or engine side has a number of its own
(Table DATA-1, `src`: source side). -/
def sideOk (space num : Nat) (st : List Int) (src : Bool) : Bool :=
  match space with
  | 0 => num % 8 == 0 && st.all fun x => x % 8 == 0
  | 1 => decide (8 ≤ num) && decide (num ≤ 63)
  | 2 => if src then decide (2 ≤ num) && decide (num ≤ 5) else decide (num ≤ 1)
  | _ => false

/-- A valid descriptor (R161). It lies in the host port buffers or the general pool, aligned to 64 bytes (R160). -/
def descGood (m : List Host.Cell) (a : Nat) : Bool :=
  let d := descAt m a
  a % 64 == 0 && (sramRegion a == 9 || sramRegion a == 11)
    && memLe m (a + 0x3C) 4 == crc32c (memBytes m a 0x3C)
    && d.elem % 8 == 0 && decide (8 ≤ d.elem) && decide (d.elem ≤ 4096)
    && decide (1 ≤ d.n0) && decide (1 ≤ d.n1) && decide (1 ≤ d.n2)
    && sideOk d.srcSpace d.src d.srcS true && sideOk d.dstSpace d.dst d.dstS false

/-- The eight corner elements of an SRAM side lie in one region of a list (R161). -/
def cornersIn (d : Desc) (base : Nat) (st : List Int) (regions : List Nat) : Bool :=
  let cs := [0, d.n0 - 1].flatMap fun i0 => [0, d.n1 - 1].flatMap fun i1 => [0, d.n2 - 1].map fun i2 => elemAddr base st i0 i1 i2
  regions.any fun r =>
    let (b, n) := sramRegions.getD r (0, 0)
    cs.all fun x => decide ((b : Int) ≤ x) && decide (x + d.elem ≤ (b + n : Nat))

/-- 0 when a descriptor may run, else DESC_INVALID or ADDR_FAULT (R161, Table ARCH-6). -/
def descStatus (m : List Host.Cell) (a : Nat) : U16 :=
  let d := descAt m a
  if !(descGood m a) then 0x0702
  else if d.srcSpace = 0 && !(cornersIn d d.src d.srcS [5, 7, 8, 9, 10, 11]) then 0x0703
  else if d.dstSpace = 0 && !(cornersIn d d.dst d.dstS [0, 9]) then 0x0703
  else 0

/-- Elements of a descriptor. -/
def Desc.total (d : Desc) : Nat := d.n0 * d.n1 * d.n2

/-- Indices of element `e`, i0 running fastest. -/
def Desc.index (d : Desc) (e : Nat) : Nat × Nat × Nat := (e % d.n0, e / d.n0 % d.n1, e / (d.n0 * d.n1))

/-- A channel begins a pass through the descriptor at an offset. -/
def beginDesc (s : State) (k a : Nat) : State :=
  let d := descAt s.mem a
  s.onDma k fun c => { c with
    descAt := a, desc := d, element := 0, moved := 0, buf := [], ended := false, blkEnd := none
    passes := AMap.put c.passes a (wrap32 (AMap.get c.passes a 0 + 1)) }

/-! ### Events and ends (R162, R163) -/

/-- An EVENT packet (Table HOST-6). -/
def dmaEvent (s : State) (k kind : Nat) (status : U16) : State :=
  let c := s.dch k
  chanSend s 0 4 0 (le 1 k ++ le 1 kind ++ le 1 (if kind = 3 then c.endCode else 0) ++ [0] ++ le 4 c.desc.tag.toNat
    ++ le 4 (AMap.get c.passes c.descAt 0) ++ le 4 c.element ++ le 8 s.now64 ++ le 2 status.toNat ++ List.replicate 6 0)

/-- The capture that watches a channel's END 0 re-arms (04 R105). -/
def capRearm (s : State) (k : Nat) : State :=
  if s.pv 0x0535 0 = 1 ∧ s.pv 0x0535 1 = k ∧ s.emon.cap.st = .done then capArming s else s

/-- A channel ends (R163): waiting requests are answered, the END event is posted. -/
def dmaEnd (s : State) (k code : Nat) (status : U16) : State :=
  let c := s.dch k
  let s := s.onDma k fun c => { c with
    st := .idle, endCode := code, stop := none, disable := none, lost := false, moved := 0, buf := [], ended := false }
  let s := match c.stop with
    | some w => answer s w (if code = 0 then sTooLate else sOK) []
    | none => s
  let s := match c.disable with
    | some w => answer s w sOK []
    | none => s
  let s := dmaEvent s k 3 status
  if code = 0 then capRearm s k else s

/-- A channel whose transport peer is lost ends with END 3; the STATUS of R152 has no number (log entry 6). -/
def dmaPeerEnd (s : State) (k : Nat) : State :=
  let st : U16 := BitVec.ofNat 16 (s.freeBits 16)
  dmaEnd s.freeTaken k 3 st

/-- The next descriptor is fetched and checked (R161). -/
def fetchNext (s : State) (k : Nat) : State :=
  let a := (s.dch k).desc.next
  match descStatus s.mem a with
  | 0 => beginDesc s k a
  | st => raise (dmaEnd s k 3 st) (if st = 0x0702 then 0x0D5 else 0x0D6) 0 false

/-- A descriptor's last element is committed (R162 to R164). -/
def descDone (s : State) (k : Nat) : State :=
  let c := s.dch k
  if c.lost then dmaPeerEnd s k
  else if c.st = .stopping then dmaEnd s k 1 0
  else if !c.desc.link then dmaEnd s k 0 0
  else if c.stop.isSome then dmaEnd s k 1 0
  else fetchNext s k

/-- A waiting DMA_STOP is sampled at an element boundary (R164). -/
def dmaSampleStop (s : State) (k : Nat) : State :=
  match (s.dch k).stop with
  | some w => answer (s.onDma k fun c => { c with st := .stopping, stop := none }) w sOK []
  | none => s

/-! ### Moving data (R162, R166) -/

/-- What a stream source has ready up to the next end of a block, and whether that end is there: the packet with LAST on a
transport channel, the end of an outbound block of an engine. -/
def streamRun (s : State) (d : Desc) : Nat × Bool :=
  if d.srcSpace = 1 then runOf (s.chan d.src).rxPkts
  else if d.src = 5 then (s.data.out5Len - s.data.out5Read, decide (s.data.out5Read < s.data.out5Len))
  else
    match s.data.outQ.getD (d.src - 2) [] with
    | b :: _ => (b.bytes.length, true)
    | [] => (0, false)

/-- Bytes of the next burst (R166); an element of a stream ends early where a block ends (log entry 62). -/
def burstLen (s : State) (c : DmaChan) : Nat :=
  let n := min 512 (c.desc.elem - c.moved)
  if c.desc.srcSpace ≠ 0 ∧ (streamRun s c.desc).2 then min n (streamRun s c.desc).1 else n

/-- The source side has its next burst ready. -/
def sourceReady (s : State) (c : DmaChan) : Bool :=
  c.desc.srcSpace == 0 || (streamRun s c.desc).2 || decide (burstLen s c ≤ (streamRun s c.desc).1)

/-- A destination side can take data: a transport channel is open with room in its window (R152), or lost; an inflate queue
holds no whole block that waits (07 R173; log entry 62). -/
def destReady (s : State) (c : DmaChan) : Bool :=
  match c.desc.dstSpace with
  | 1 => c.lost || ((s.chan c.desc.dst).isOpen && windowOpen s c.desc.dst && (s.chan c.desc.dst).txWait.isEmpty)
  | 2 => !(s.queue c.desc.dst).arrived.any (·.last)
  | _ => true

/-- A channel is ready for a burst. -/
def dmaReady (s : State) (k : Nat) : Bool :=
  let c := s.dch k
  c.st != .idle && sourceReady s c && destReady s c

/-- Reads the next `n` bytes of a channel's source, as pieces: packets of a transport channel (07 R170). Bytes of any other
source are one packet that ends, with LAST, where its block or the descriptor's pass ends (log entry 62). -/
def readSource (s : State) (k n : Nat) : State × List Piece :=
  let c := s.dch k
  let pass := c.element + 1 == c.desc.total && c.moved + n == c.desc.elem
  match c.desc.srcSpace with
  | 0 =>
    let (i0, i1, i2) := c.desc.index c.element
    (s, [{ bytes := memBytes s.mem ((elemAddr c.desc.src c.desc.srcS i0 i1 i2).toNat + c.moved) n, ends := pass, last := pass }])
  | 1 =>
    let (x, rest) := takePieces n (s.chan c.desc.src).rxPkts
    (s.onChan c.desc.src fun x => { x with rxPkts := rest }, x)
  | _ =>
    if c.desc.src = 5 then
      let pos := s.data.out5Read
      let e := decide (s.data.out5Len ≤ pos + n)
      ({ s with data := { s.data with out5Read := pos + n } }, [{ bytes := memBytes s.mem (compressArea + pos) n, ends := e, last := e }])
    else
      match s.data.outQ.getD (c.desc.src - 2) [] with
      | [] => (s, [])
      | b :: bs =>
        let e := decide (b.bytes.length ≤ n)
        let rest := if e then bs else { b with bytes := b.bytes.drop n } :: bs
        let s := { s with data := { s.data with outQ := s.data.outQ.set (c.desc.src - 2) rest } }
        (if e then s.onDma k fun c => { c with blkEnd := some b.upTo } else s, [{ bytes := b.bytes.take n, ends := e, last := e }])

/-- Moves the next `n` bytes: an SRAM destination takes them at once, any other at the element's commit. -/
def moveBytes (s : State) (k n : Nat) : State :=
  let c := s.dch k
  let (s, ps) := readSource s k n
  let s :=
    if c.desc.dstSpace = 0 then
      let (i0, i1, i2) := c.desc.index c.element
      s.poke ((elemAddr c.desc.dst c.desc.dstS i0 i1 i2).toNat + c.moved) (pieceBytes ps)
    else s.onDma k fun c => { c with buf := c.buf ++ ps }
  s.onDma k fun c => { c with moved := c.moved + n, ended := c.desc.srcSpace != 0 && ps.any (·.last) }

/-- The element is committed: a transport destination takes it, with LAST where a block or the descriptor's pass
ends (log entry 62), an inflate queue takes its packets (R162); RD_SEQ advances past a Guestbook block (17 R363). -/
def commitElement (s : State) (k : Nat) : State :=
  let c := s.dch k
  let last := c.buf.any (·.last)
  let s :=
    if c.desc.dstSpace = 1 && !c.lost then
      let ps := pieces (max 1 (maxLen s)) 8 (pieceBytes c.buf)
      (ps.zipIdx).foldl (fun s e => chanSend s c.desc.dst 0 (if last && e.2 + 1 == ps.length then 8 else 0) e.1) s
    else if c.desc.dstSpace = 2 then settleQueue (s.onQueue c.desc.dst fun q => { q with arrived := q.arrived ++ c.buf }) c.desc.dst
    else s
  let s := match c.blkEnd with
    | some x => if c.desc.srcSpace = 2 && c.desc.src = 4 && c.desc.dstSpace = 1 && !c.lost && serialLater x s.gb.rd
      then { s with gb := { s.gb with rd := x } } else s
    | none => s
  s.onDma k fun c => { c with element := c.element + 1, moved := 0, buf := [], ended := false, blkEnd := none }

/-- HALF and FULL at a commit (R162). -/
def postEvents (s : State) (k : Nat) : State :=
  let c := s.dch k
  let t := c.desc.total
  let s := if c.desc.evHalf && decide (2 ≤ t) && c.element == t / 2 then dmaEvent s k 1 0 else s
  if c.desc.evFull && c.element == t then dmaEvent s k 2 0 else s

/-- The element boundary after a commit: a disable first, then events, the descriptor's end, a stop. -/
def elementDone (s : State) (k : Nat) : State :=
  let s := commitElement s k
  if (s.dch k).disable.isSome then dmaEnd s k 2 0
  else
    let s := postEvents s k
    if (s.dch k).element = (s.dch k).desc.total then descDone s k else dmaSampleStop s k

/-- One burst of a channel. -/
def burst (s : State) (k : Nat) : State :=
  let n := burstLen s (s.dch k)
  let s := moveBytes (s.onDma k fun c => { c with lastGrant := s.time }) k n
  if (s.dch k).ended ∨ (s.dch k).moved = (s.dch k).desc.elem then elementDone s k else s

/-- The channels of a class that are ready. -/
def readyOf (s : State) (cls : Nat) : List Nat := (List.range 32).filter fun j => s.pv 0x0741 j == cls && dmaReady s j

/-- The class that is served: 1 before 0 (R166). -/
def classServed (s : State) : Nat := if (readyOf s 1).isEmpty then 0 else 1

/-- Weighted round robin: once no ready channel of the class served has a grant left, each takes DMA.WEIGHT grants for
the next round; the order within a round is open (R166; log entry 62). -/
def refill (s : State) : State :=
  let cls := classServed s
  if (readyOf s cls).any fun j => decide (0 < (s.dch j).credit) then s
  else { s with dma := s.dma.mapIdx fun j c => if s.pv 0x0741 j = cls then { c with credit := s.pv 0x0740 j } else c }

/-- A channel has a grant in the round of the class served. -/
def granted (s : State) (k : Nat) : Bool := s.pv 0x0741 k == classServed s && decide (0 < ((refill s).dch k).credit)

/-- The class-0 channel that is ready, was not granted for 2 ms, and is granted next: the one not granted longest, and of
several the lowest (R166). -/
def starved (s : State) : Option Nat :=
  let ks := (readyOf s 0).filter fun j => decide ((s.dch j).lastGrant + 2 * msU ≤ s.time)
  let oldest := (ks.map fun j => (s.dch j).lastGrant).min?
  ks.find? fun j => some (s.dch j).lastGrant == oldest

/-- DMA_BURST (R166): the burst of a channel that the arbiter grants. A parity error in the engine's state is found with it
(R159): the engine is faulty from the channel's next start on. -/
def execDmaBurst (dt : Nat) (ch : Part 32) (s : State) : Result :=
  event dt s (fun s => s.mainOn && dmaReady s ch.no.val && (starved s).isNone && granted s ch.no.val) fun s =>
    let s := if ch.parity then { s with host := { s.host with badEngines := s.host.badEngines ++ [(s.dch ch.no.val).phys] } } else s
    burst ((refill s).onDma ch.no.val fun c => { c with credit := c.credit - 1 }) ch.no.val

/-- DMA_STARVE_BOOST (R166): one grant ahead of every class. -/
def execDmaStarveBoost (dt : Nat) (ch : Fin 32) (s : State) : Result :=
  event dt s (fun s => s.mainOn && starved s == some ch.val) fun s => burst (s.count 0x0744 ch.val 1) ch.val

/-! ### Commands (R168) -/

/-- The engine that a channel starts on: its own, or a free reserve (R159). -/
def dmaEngine (s : State) (k : Nat) : Option Nat :=
  let e := (s.dch k).phys
  if !(dmaFaulty s e) then some e
  else [32, 33, 34, 35].find? (dmaFree s)

/-- DMA_START (R159, R161). -/
def execDmaStart (q : Req) (ch : Byte) (desc : U32) (s : State) : Result :=
  request 0x0710 q s (q.len == 5) fun s _ =>
    let k := ch.toNat
    if 31 < k then refuse s sRange
    else if (s.dch k).st ≠ .idle then refuse s sBadState
    else if descStatus s.mem desc.toNat ≠ 0 then refuse s (descStatus s.mem desc.toNat)
    else
      match dmaEngine s k with
      | none => refuse s sNotPresent
      | some e =>
        let moved := decide (e ≠ (s.dch k).phys)
        let s := s.onDma k fun c => { c with
          st := .running, phys := e, passes := [], stop := none, disable := none, lost := false, lastGrant := s.time, credit := 0 }
        let s := beginDesc s k desc.toNat
        done (if moved then settleParts (raise s 0x0D7 0 false) else s)

/-- DMA_STOP (R164). -/
def execDmaStop (q : Req) (ch : Byte) (s : State) : Result :=
  request 0x0711 q s (q.len == 1) fun s w =>
    let k := ch.toNat
    let c := s.dch k
    if 31 < k then refuse s sRange
    else if c.st = .idle then refuse s sBadState
    else if c.st = .stopping ∨ c.stop.isSome then refuse s sPending
    else if c.moved = 0 then done (s.onDma k fun c => { c with st := .stopping })
    else .later (s.onDma k fun c => { c with stop := some w })

/-- DMA_DISABLE (R165). -/
def execDmaDisable (q : Req) (ch : Byte) (s : State) : Result :=
  request 0x0712 q s (q.len == 1) fun s w =>
    let k := ch.toNat
    let c := s.dch k
    if 31 < k then refuse s sRange
    else if c.st = .idle then refuse s sBadState
    else if s.pv 0x0741 k = 1 ∧ s.layer.st ≠ .idle then refuse s sDenied
    else if c.disable.isSome then refuse s sPending
    else
      let s := s.onDma k fun c => { c with disable := some w }
      .later (if c.moved = 0 then dmaEnd s k 2 0 else s)

/-- DMA_STATUS (Table HOST-10). -/
def execDmaStatus (q : Req) (ch : Byte) (s : State) : Result :=
  request 0x0713 q s (q.len == 1) fun s _ =>
    let k := ch.toNat
    let c := s.dch k
    if 31 < k then refuse s sRange
    else
      .now s sOK (le 1 (dmaCode c.st) ++ le 1 c.endCode ++ le 4 c.desc.tag.toNat ++ le 4 c.element
        ++ le 4 (AMap.get c.passes c.descAt 0) ++ le 4 (s.pv 0x0744 k))

end Sys2Proof.Machine
end

