-- ==== Sys2Proof/Machine/Dose.lean ====
section
/-!
DEFINITION. The commands of the dose synthesiser (03 R70, R77, R86).
-/

namespace Sys2Proof.Machine

/-- DOSE_BILLET_READ: the column record as the next arming will use it. -/
def execDoseBilletRead (q : Req) (column : U16) (s : State) : Result :=
  request 0x0401 q s (q.len == 2) fun s _ =>
    let c := column.toNat
    if 1023 < c then refuse s sRange
    else if !(serves (s.chain (laneOf c))) then refuse s sNotPresent
    else .now s sOK (billetRecord (nextWeights s c) (s.pv 0x0411 0))

/-- Response with the new BILLET_VERSION. -/
def versionReply (s : State) : Answer := .now s sOK (le 2 s.dose.billetVersion.toNat)

/-- DOSE_BILLET_WRITE (R70). -/
def execDoseBilletWrite (q : Req) (column : U16) (weights : List Byte) (s : State) : Result :=
  request 0x0402 q s (q.len == 290) fun s _ =>
    let c := column.toNat
    let on := fun r => weights.getD r 0 != 0
    if 1023 < c then refuse s sRange
    else if !(serves (s.chain (laneOf c))) then refuse s sNotPresent
    else if decide (256 < (List.range 288).countP on) || (List.range 288).any (fun r => on r && !(rowPresent s (laneOf c) r)) then
      refuse s 0x0401
    else if (List.range 288).any fun r => on r && liveRetired s r c then refuse s 0x0402
    else versionReply (billetChanged (setWeights s c weights))

/-- DOSE_BILLET_DEFAULT (R69, R86). -/
def execDoseBilletDefault (q : Req) (lane : Byte) (s : State) : Result :=
  request 0x0403 q s (q.len == 1) fun s _ =>
    let l := lane.toNat
    if 3 < l ∧ l ≠ 255 then refuse s sRange
    else
      let lanes := (List.range 4).filter fun n => (l == 255 || l == n) && serves (s.chain n)
      if lanes.isEmpty then refuse s sNotPresent
      else versionReply (billetChanged (lanes.foldl buildLane s))

/-- DOSE.CAL_STALE_ROUNDS rounds have passed without a swap: 0x048 once per stretch (R77). -/
def execCalibrationStale (dt : Nat) (s : State) : Result :=
  event dt s (fun s => s.mainOn && decide (s.pv 0x0418 0 ≤ s.dose.staleRounds) && !s.dose.staleRaised) fun s =>
    raise { s with dose := { s.dose with staleRaised := true } } 0x048 0 true

end Sys2Proof.Machine
end

