-- ==== Sys2Proof/Machine/Drive.lean ====
section
/-!
DEFINITION. Meanings of the drive channels' events and commands (09 R208 to R225).
-/

namespace Sys2Proof.Machine

/-! ### Events -/

/-- DECISION_PERIOD (R210) of a channel that aligns, or is enabled and not in FAULT. The averages are in 1/256 count. -/
def execDecisionPeriod (dt : Nat) (ch : Fin 8) (iu iv iw : Int) (vbusMv : Nat) (s : State) : Result :=
  event dt s (fun s => s.motionOn && (decide ((s.drive ch).st ≠ .disabled) || (s.drive ch).align.isSome)
      && decide ((s.drive ch).st ≠ .fault)) fun s =>
    decision s ch [iu, iv, iw] vbusMv

/-- DRIVE_OVERCURRENT (R211): a shunt sample at I_MAX with gates driven, or the gate driver's fault input going low; with
`released` that input goes high again, and the condition of 0x119 ends. -/
def execDriveOvercurrent (dt : Nat) (ch : Fin 8) (trip : DrvTrip) (s : State) : Result :=
  let gateDriver := trip == .gdfLow
  event dt s (fun s => s.motionOn && (match trip with
    | .shunt => (s.drive ch).gates
    | .gdfLow => true
    | .gdfHigh => (s.drive ch).gdf)) fun s =>
    if trip = .gdfHigh then driveConds (s.onDrive ch fun d => { d with gdf := false })
    else
      let w := (s.drive ch).align
      let s := driveFault (s.onDrive ch fun d => { d with gdf := d.gdf || gateDriver }) ch
      let s := match w with
        | some w => answer (s.onDrive ch fun d => { d with align := none }) w sDenied []
        | none => s
      driveRaise s ch (if gateDriver then 0x119 else 0x110) gateDriver

/-- BEMF_ZERO_CROSSING (R219, R220). -/
def execBemfZeroCrossing (dt : Nat) (ch : Fin 8) (phase : Fin 3) (rising : Bool) (s : State) : Result :=
  event dt s (fun s => s.motionOn && (decide ((s.drive ch).st = .catch) || (decide ((s.drive ch).st = .start) && (s.drive ch).ramping)))
    fun s => if (s.drive ch).st = .catch then catchCross s ch phase rising else startCross s ch phase rising

/-- A time of a channel's state has elapsed, in ms. -/
def stateElapsed (s : State) (k ms : Nat) : Bool := decide ((s.drive k).tState + ms * msU ≤ s.time)

/-- CATCH_TIMEOUT (R219): no valid crossings in CATCH_MS. -/
def execCatchTimeout (dt : Nat) (ch : Fin 8) (s : State) : Result :=
  event dt s (fun s => s.motionOn && decide ((s.drive ch).st = .catch) && stateElapsed s ch (s.dpv 0x0A2D ch 0)) fun s =>
    driveOn s ch .brake 0

/-- BRAKE_ELAPSED (Table DRV-3): START aligns the rotor with V1 (R220). -/
def execBrakeElapsed (dt : Nat) (ch : Fin 8) (s : State) : Result :=
  event dt s (fun s => s.motionOn && decide ((s.drive ch).st = .brake) && stateElapsed s ch (s.dpv 0x0A2D ch 8)) fun s =>
    (driveOn s ch .start 1).onDrive ch fun d => { d with stepVec := 1, rampHz := 0 }

/-- ALIGN_ELAPSED (R220): the ramp begins. -/
def execAlignElapsed (dt : Nat) (ch : Fin 8) (s : State) : Result :=
  event dt s (fun s => s.motionOn && decide ((s.drive ch).st = .start) && !(s.drive ch).ramping && stateElapsed s ch (s.dpv 0x0A27 ch 0))
    fun s => s.onDrive ch fun d => { d with
      ramping := true, lastComm := s.time, rampAcc := 0, rampAt := s.time, lockRun := 0, crossed := false, chop := false }

/-- COAST_ELAPSED (Table DRV-3, R220): CATCH, or BRAKE for a further try of START. -/
def execCoastElapsed (dt : Nat) (ch : Fin 8) (s : State) : Result :=
  event dt s (fun s => s.motionOn && decide ((s.drive ch).st = .coast) && stateElapsed s ch (s.dpv 0x0A2D ch 16)) fun s =>
    if (s.drive ch).coastToStart then (driveOn s ch .brake 0).onDrive ch fun d => { d with coastToStart := false } else enterCatch s ch

/-- STANDSTILL_OFFSET (R218): the 1 ms means of a channel at a standstill, in 1/256 count. -/
def execStandstillOffset (dt : Nat) (ch : Fin 8) (u v w : Int) (s : State) : Result :=
  event dt s (fun s => s.motionOn && (decide ((s.drive ch).st = .disabled) || decide ((s.drive ch).st = .idle)) && !(s.drive ch).gates)
    fun s => setOffset (setOffset (setOffset s ch 0 u 1) ch 1 v 1) ch 2 w 1

/-- DRIVE_STALL (Table DRV-4). -/
def execDriveStall (dt : Nat) (ch : Fin 8) (s : State) : Result :=
  event dt s (fun s => s.motionOn && driveMode s ch == 1 && decide ((s.drive ch).st = .run)
      && decide ((s.drive ch).tRef.natAbs = s.pv 0x0A19 ch) && decide ((s.drive ch).speed.natAbs < s.dpv 0x0A2A ch 0)) fun s =>
    driveRaise s ch 0x118 false

/-- SIX_STEP_COMMUTATION (R220). -/
def execSixStepCommutation (dt : Nat) (ch : Fin 8) (s : State) : Result :=
  event dt s (fun s => s.motionOn && decide ((s.drive ch).st = .start) && (s.drive ch).ramping) fun s => sixStep s ch

/-- DRV_ALIGN_DONE (R225): the offset is the encoder position at the end of ALIGN_MS. -/
def execDrvAlignDone (dt : Nat) (ch : Fin 8) (s : State) : Result :=
  event dt s (fun s => s.motionOn && (s.drive ch).align.isSome && stateElapsed s ch (s.dpv 0x0A27 ch 0)) fun s =>
    match (s.drive ch).align with
    | none => s
    | some w =>
      let e := s.pv 0x0A1F ch
      let v := sat32 (encNm s e (s.enc e).pos)
      let s := s.pput 0x0A20 ch (toField 32 v)
      answer (s.onDrive ch fun d => { driveTo d .disabled s.time with align := none }) w sOK (leI 4 v)

/-! ### Commands (Table DRV-6) -/

/-- A C2 to C4 fault that the channel raised is active at that class (Table DRV-3). -/
def ownFault (s : State) (k : Nat) : Bool :=
  (List.range 10).any fun j =>
    (s.flt.drvOwn.getD k 0).getLsbD j && s.flt.active.getLsbD (0x110 + j) && decide (2 ≤ AMap.get s.flt.clsNow (0x110 + j) 0)

/-- A source that put the channel into FAULT, 0x110, 0x113, 0x114 or 0x119, is not cleared (Table DRV-3). -/
def faultKept (s : State) (k : Nat) : Bool :=
  [0, 3, 4, 9].any fun j => (s.flt.drvOwn.getD k 0).getLsbD j && s.flt.active.getLsbD (0x110 + j)

/-- Enabling is denied: an own fault, a failed partition, or in FAULT what led there; the C4 lockout comes first. -/
def enableDenied (s : State) (k : Nat) : Bool :=
  ownFault s k || s.bist.failed.getLsbD 61 || (decide ((s.drive k).st = .fault) && (s.c3On || faultKept s k))

/-- DRV_ENABLE (Table DRV-3). -/
def execDrvEnable (q : Req) (ch on : Byte) (s : State) : Result :=
  request 0x0A01 q s (q.len == 2) fun s _ =>
    let k := ch.toNat
    let e := s.enc (s.pv 0x0A1F k)
    if 7 < k ∨ 1 < on.toNat then refuse s sRange
    else if on = 0 then done (driveDisable s k sDenied)
    else if driveMode s k = 0 then refuse s sRange
    else if s.c4On then refuse s sDenied
    else if s.motionOn = false then refuse s sBadState
    else if (s.drive k).st ≠ .disabled ∧ (s.drive k).st ≠ .fault then done s
    else if (s.drive k).align.isSome then refuse s sBusy
    else if enableDenied s k then refuse s sDenied
    else if driveMode s k = 3 ∧ e.referenced = false then refuse s 0x0303
    else done ((latchDrive s k).onDrive k fun d => { driveTo d .idle s.time with
      c3Ramp := false, startFails := 0, catchFails := 0, caughtAt := none, spd := 0, rampRem := 0, iAcc := 0, isumRun := 0, runReq := false })

/-- The x values of a curve rise strictly (R215). -/
def curveRising : List (Int × Int) → Bool
  | [] => true
  | [_] => true
  | p :: q :: rest => decide (p.1 < q.1) && curveRising (q :: rest)

/-- DRV_CURVE_WRITE (R215). -/
def execDrvCurveWrite (q : Req) (ch : Byte) (points : List (U32 × U32)) (s : State) : Result :=
  request 0x0A02 q s (q.len == 65 && points.length == 8) fun s _ =>
    let ps := points.map fun p => (p.1.toInt, p.2.toInt)
    if 7 < ch.toNat then refuse s sRange
    else if !curveRising ps then refuse s 0x0A01
    else if s.motionOn = false then refuse s sBadState
    else done (s.onDrive ch.toNat fun d => { d with curveNew := some ps })

/-- DRV_ALIGN (R225): V1 for ALIGN_MS on a disabled channel of mode 3. It drives the motor, so the C4 lockout denies it (15 R318;
log entry 64). -/
def execDrvAlign (q : Req) (ch : Byte) (s : State) : Result :=
  request 0x0A03 q s (q.len == 1) fun s w =>
    let k := ch.toNat
    if 7 < k then refuse s sRange
    else if driveMode s k ≠ 3 ∨ (s.drive k).st ≠ .disabled then refuse s sBadState
    else if s.c4On then refuse s sDenied
    else if s.motionOn = false then refuse s sBadState
    else if (s.drive k).align.isSome then refuse s sBusy
    else .later ((latchDrive s k).onDrive k fun d =>
      withVector { d with align := some w, gates := true, chop := false, tState := s.time } 1)

/-- DRV_STATUS (Table DRV-6). -/
def execDrvStatus (q : Req) (ch : Byte) (s : State) : Result :=
  request 0x0A04 q s (q.len == 1) fun s _ =>
    let k := ch.toNat
    if 7 < k then refuse s sRange
    else
      let d := s.drive k
      let legs := (List.range 3).map fun l => legOfs s (3 * k + l)
      .now s sOK ([BitVec.ofNat 8 (drvCode d.st)] ++ leI 4 d.speed ++ leI 4 d.tEst
        ++ legs.map (fun o => BitVec.ofNat 8 o.src) ++ (legs.map fun o => le 4 (satN 32 ((s.time - o.setAt) / secU))).flatten)

end Sys2Proof.Machine
end

