-- ==== Sys2Proof/Machine/ChainCore.lean ====
section
/-!
DEFINITION. Chain power, tile checks and failover (05 R126 to R137), shared by commands, rails and power
states.
-/

namespace Sys2Proof.Machine

/-! ### Tile checks (R129) -/

/-- The cases judged as a header is read. -/
def headerOk (t : Tile) : Bool :=
  t.u 0 4 == 0x4B535944 && t.u 4 1 == 1 && t.u 5 1 == 16 && t.u 6 2 == 256
    && t.u 0xFC 4 == crc32c (t.space.take 0xFC) && t.u 0x13C 4 == crc32c ((t.space.drop 0x100).take 0x3C)
    && decide (10000 ≤ t.u 0x18 4) && decide (t.u 0x18 4 ≤ 100000)
    && t.gain 3 == 0x4000 && decide (t.gain 0 < t.gain 1) && decide (t.gain 1 < t.gain 2) && decide (t.gain 2 < t.gain 3)
    && (List.range 4).all fun k => decide (t.u (0x70 + 2 * k) 2 ≤ 1000)

/-- Rows strictly increasing, beyond the last usable tile before it. -/
def rowsOk (before : Option Tile) (t : Tile) : Bool :=
  (List.range 15).all (fun i => decide (t.rowPos i < t.rowPos (i + 1)))
    && (match before with
      | some b => decide (b.rowPos 15 < t.rowPos 0)
      | none => true)

/-- The last usable tile before position p of a chain. -/
def usableBefore (c : Chain) (p : Nat) : Option Tile :=
  (((c.tiles.take p).filter (·.usable)).getLast?)

/-- Judges tile p of chain n: the pitch of the first tile that passes every other case becomes the device's. -/
def judgeTile (s : State) (n p : Nat) : State :=
  let t := s.tile n p
  let good := t.usable && rowsOk (usableBefore (s.chain n) p) t
  let s := if good && s.link.colPitch.isNone then { s with link := { s.link with colPitch := some (t.u 0x18 4) } } else s
  let ok := good && s.link.colPitch == some (t.u 0x18 4)
  let was := t.usable
  let s := s.onTile n p fun t => { t with usable := ok }
  if was && !ok then raise s 0x0A5 0 false else s

/-- A tile is checked anew after a write to its machine area (R144). -/
def recheckTile (s : State) (n p : Nat) : State :=
  let was := (s.tile n p).usable
  let s := s.onTile n p fun t => { t with usable := headerOk t }
  let t := s.tile n p
  let ok := t.usable && rowsOk (usableBefore (s.chain n) p) t && (s.link.colPitch == some (t.u 0x18 4) || s.link.colPitch.isNone)
  let s := s.onTile n p fun t => { t with usable := ok, lsw := t.lsw && ok }
  if ok then s else if was then raise (mgmtSend s n p 2 0x208 [0]) 0x0A5 0 false else raise s 0x0A5 0 false

/-! ### Chain power -/

/-- Management requests to a chain that goes away are answered NOT_PRESENT. -/
def dropMgmt (s : State) (n : Nat) : State :=
  let gone := s.link.mgmt.filter fun m => m.chain == n
  let s := { s with link := { s.link with mgmt := s.link.mgmt.filter fun m => m.chain != n } }
  gone.foldl (fun s m =>
    match m.w with
    | some w => answer s w 11 []
    | none => s) s

/-- TL4 is freed if it serves chain n or pre-trains on it. -/
def freeTl4 (s : State) (n : Nat) : State :=
  if s.link.tl4Chain = some n ∨ s.link.pretrain = some n then
    let l := s.link
    laneReset { s with link := { l with
      tl4Chain := if l.tl4Chain = some n then none else l.tl4Chain
      pretrain := if l.pretrain = some n then none else l.pretrain
      tl4Sel := s.pv 0x0616 0 } } 4
  else s

/-- A chain in OFF: no tiles, sidebands inactive. In a layer the tiles' places stand until COMMIT, for what was fired
is still to be accounted (04 R89, R91, R98). -/
def chainForget (s : State) (n : Nat) : State :=
  let s := laneReset (freeTl4 (dropMgmt s n) n) n
  let inLayer := s.layer.st != .idle
  let s := s.onChain n fun c => { c with
    st := .off, servedBy := n, nEmit := true
    tiles := if inLayer then c.tiles.map fun t => { t with lsw := false, telem := none, cellFaults := [] } else []
    judged := false, found := false, ended := false, lswNext := 0
    moving := false }
  settlePitch { s with link := { s.link with
    tl4Ready := s.link.tl4Ready.set n false, uncorr := s.link.uncorr.set n [], chkRun := s.link.chkRun.set n 0 } }

/-- LINK_CHAIN_POWER off: rails released in decay order. -/
def chainOff (s : State) (n : Nat) : State := releaseSlots (chainForget s n) (chainSlots n)

/-- A chain enters POWERING: its slots start. -/
def chainOn (s : State) (n : Nat) : State :=
  startSlots (s.onChain n fun c => { c with
    st := .powering, tiles := [], judged := false, found := false, ended := false, lswNext := 0 }) (chainSlots n)

/-- A chain fails: load switches open, rails off (Table TILE-10). Its columns keep their place in a layer. -/
def chainFail (s : State) (n : Nat) : State :=
  let s := laneReset (freeTl4 (dropMgmt s n) n) n
  let s := s.onChain n fun c => { c with
    st := .failed, nEmit := true, moving := false, tiles := c.tiles.map fun t => { t with lsw := false } }
  let live := (chainSlots n).filter fun k =>
    match (s.rail k).st with
    | .failed | .blocked => false
    | _ => true
  releaseSlots s live

/-! ### Failover (R132) -/

/-- Triggers of R132 on the lane that serves chain n. -/
def laneTrigger (s : State) (n : Nat) : Bool :=
  let lane := (s.chain n).servedBy
  decide (4 ≤ s.link.chkRun.getD lane 0)
    || decide (s.pv 0x0611 0 ≤ ((s.link.uncorr.getD lane []).filter fun t => decide (s.time ≤ t + msU)).length)
    || (s.layer.st == .expose && decide (2 ≤ (s.tile n 0).missing))

/-- The triggers of a chain start anew. -/
def clearTriggers (s : State) (n : Nat) : State :=
  let lane := (s.chain n).servedBy
  let s := { s with link := { s.link with uncorr := s.link.uncorr.set lane [], chkRun := s.link.chkRun.set lane 0 } }
  s.onTile n 0 fun t => { t with missing := 0 }

/-- TL4 can take chain n: enabled, serving none, pre-trained on it (R132, R133). -/
def tl4Free (s : State) (n : Nat) : Bool :=
  s.pv 0x0615 0 == 1 && s.link.tl4Chain.isNone && s.link.tl4Ready.getD n false

/-- The move of chain n to TL4 begins: sending stops, TL4 loads the coefficients stored for it, 0x0A0 (Table TILE-11). -/
def startMove (s : State) (n : Nat) : State :=
  let s := laneReset ((s.onChain n fun c => { c with moving := true }).wear 4 1) 4
  raise { s with link := { s.link with
    tl4Chain := some n, tl4Sel := n, tl4Use := s.link.tl4Coef.getD n [], pretrain := none } } 0x0A0 0 false

/-- A lane is lost: the chain moves to TL4, or fails with 0x0A1 (R132). -/
def laneLost (s : State) (n : Nat) : State :=
  let own := (s.chain n).servedBy != 4
  let s := clearTriggers s n
  if own && tl4Free s n then startMove s n else raise (chainFail s n) 0x0A1 0 false

/-- Frames flow on TL4 (Table TILE-11): chain in RESERVE, with the latencies stored for it. -/
def moveDone (s : State) (n : Nat) : State :=
  let s := s.onChain n fun c => { c with
    moving := false, servedBy := 4
    st := (match c.st with
      | .doze => .doze
      | _ => .reserve)
    wakeTo := .reserve }
  (List.range (s.chain n).tiles.length).foldl (fun s p => applyLatency s n p ((s.link.tl4Lat.getD n []).getD p 0)) s

/-! ### Presence (R135) -/

/-- The loop of a chain whose rails are on has opened: rails released at once, the chain in OFF, 0x0B0 in a
layer, else 0x0B1. -/
def presenceLost (s : State) (n : Nat) : State :=
  let id := if s.layer.st = .idle then 0x0B1 else 0x0B0
  raise (dropSlots (chainForget s n) (chainSlots n)) id 0 false

/-! ### The end of bring-up -/

/-- Ends bring-up of a judged chain: its default map, all weights 0 without a usable tile, then UP or FAILED (R69, R137,
Table TILE-10). -/
def chainUp (s : State) (n : Nat) : State :=
  let s := billetChanged (buildLane (s.onChain n fun c => { c with judged := true }) n)
  if serves (s.chain n) then
    s.onChain n fun c => { c with st := if s.power = .doze then .doze else .up, wakeTo := .up }
  else chainFail s n

/-- Judges the tiles of every chain in BRINGUP once each has discovered its tiles (R129); a chain that leaves BRINGUP may have
been the last one waited for. -/
def judgeChains (s : State) : State :=
  let up := (List.range 4).filter fun n => (s.chain n).st == .bringup
  if up.all fun n => (s.chain n).ended then
    let s := up.foldl (fun s n => (List.range (s.chain n).tiles.length).foldl (fun s p => judgeTile s n p) s) s
    up.foldl chainUp s
  else s

end Sys2Proof.Machine
end

