-- ==== Sys2Proof/Machine/StoreCore.lean ====
section
/-!
DEFINITION. The persistent store: what a commit writes, where, and its retries (17 R364 to R367).
-/

namespace Sys2Proof.Machine

/-! ### The flash (R364, Table KEEP-10) -/

/-- A flash that the store can use. -/
def flashFits (f : Flash) : Bool := decide (512 ≤ f.mbit) && f.addr4 && f.uniform && decide (f.sector ≤ 0x10000)

/-- Where the flash holds directory copy k, image slot i, store bank 2p + b, and the calibration copy of tile kk. -/
def dirAt (k : Nat) : Nat := 0x8000 * k
def slotAt (i : Nat) : Nat := 0x10000 + i * 0x800000
def bankAt (b : Nat) : Nat := 0x1010000 + b * 0x200000
def calCopyAt (kk : Nat) : Nat := 0x3010000 + kk * 0x20000

/-! ### Contents (R365) -/

/-- PD_GAIN is kept by SERIAL, not by position (16 R326). -/
def keptHere (k : Nat) : Bool := ((findParam (k / 256) (k % 256)).map (·.kept)).getD false && k / 256 != 0x0F24

/-- SERIAL of the tile last seen at a position. -/
def serialAt (s : State) (tile : Nat) : Option Nat := (AMap.find s.cal.blocks tile).map (·.1.toNat)

/-- The store as the device would write it now. -/
def storeImage (s : State) : StoreImage :=
  let inPlace := (List.range 72).filterMap fun k => (serialAt s k).map fun n => (n, wordsOf s.cal k, s.pv 0x0F24 k)
  { params := AMap.keep s.params keptHere
    user := inPlace.foldl (fun m e => AMap.put m e.1 e.2.1) (s.cal.shelf.map fun e => (e.1, e.2.1))
    pdGain := inPlace.foldl (fun m e => AMap.put m e.1 e.2.2) (s.cal.shelf.map fun e => (e.1, e.2.2))
    bandSec := s.therm.saved.1
    tjMean := s.therm.saved.2
    tjCount := s.therm.tjCount
    partFail := s.bist.failed
    taiUtc := s.clk.taiUtc
    erases := s.keep.erases
    others := s.keep.others }

/-- A record of the payload: TYPE, reserved, LEN, and its contents padded to 8 bytes. -/
def storeRecord (type : Nat) (body : List Byte) : List Byte :=
  le 2 type ++ le 2 0 ++ le 4 body.length ++ body ++ List.replicate ((8 - body.length % 8) % 8) 0

/-- Entries of a table by key and value. -/
def tableBytes (m : AMap Nat) : List Byte := m.flatMap fun e => le 4 e.1 ++ le 8 e.2

/-- The payload as bytes: the records in the order in which R365 lists them, TYPE 1 to 6, then the unknown ones (TYPE numbers and
contents are the model's, log entry 69). -/
def payloadBytes (im : StoreImage) : List Byte :=
  let gain := fun (e : Nat × Nat) => e.1 / 256 == 0x0F25
  let wear := fun (e : Nat × Nat) => e.1 / 256 == 0x1020
  storeRecord 1 (tableBytes (im.params.filter fun e => !(gain e) && !(wear e)))
    ++ im.user.flatMap (fun e => storeRecord 2 (le 8 e.1 ++ le 8 (AMap.get im.pdGain e.1 0x4000) ++ tableBytes e.2))
    ++ storeRecord 3 (tableBytes (im.params.filter gain))
    ++ storeRecord 4 (tableBytes (im.params.filter wear) ++ im.bandSec.flatMap (le 4) ++ leI 8 im.tjMean ++ le 8 im.tjCount)
    ++ storeRecord 5 (tableBytes im.erases)
    ++ storeRecord 6 (le 8 im.partFail.toNat ++ leI 8 im.taiUtc)
    ++ im.others.flatMap fun e => storeRecord e.1 e.2

/-- A bank header (Table KEEP-11). -/
def bankHeader (b seq length tCommit crc version : Nat) : List Byte :=
  withCrc (le 4 0x524F5453 ++ le 1 1 ++ le 1 (b / 2) ++ le 1 (b % 2) ++ le 1 0 ++ le 4 seq ++ le 4 length ++ le 8 tCommit
    ++ le 4 crc ++ le 4 version ++ List.replicate 28 0)

/-- The bank that a commit writes at a place. -/
def bankOf (s : State) (b : Nat) (seq : U32) (im : StoreImage) : Bank :=
  let p := payloadBytes im
  { header := bankHeader b seq.toNat p.length (time64 s.time) (crc32c p) (fwVersion s.keep), image := im }

/-- A bank at a place is valid (R367). -/
def bankValid (b : Nat) (x : Bank) : Bool :=
  let h := x.header
  let p := payloadBytes x.image
  h.length == 64 && fieldAt h 0 4 == 0x524F5453 && fieldAt h 4 1 == 1 && fieldAt h 5 1 == b / 2 && fieldAt h 6 1 == b % 2
    && decide (8 ≤ fieldAt h 0x0C 4) && decide (fieldAt h 0x0C 4 ≤ 2097088) && fieldAt h 0x0C 4 == p.length
    && fieldAt h 0x3C 4 == crc32c (h.take 0x3C) && fieldAt h 0x18 4 == crc32c p

/-! ### Where (R366) -/

/-- Bank 0 of the pair after that of a bank, as 2p + b. -/
def nextPair (b : Nat) : Nat := (b / 2 + 1) % 8 * 2

/-- The bank a commit goes to first. -/
def commitTarget (s : State) : Nat :=
  match s.keep.newest with
  | none => 0
  | some b => if s.keep.pairCommits < s.pv 0x0014 0 then b / 2 * 2 + (1 - b % 2) else nextPair b

/-- A bad bank, and the newest, are passed over for bank 0 of the next pair; none where none is left. -/
def goodBank (k : Keeper) : Nat → Nat → Option Nat
  | 0, _ => none
  | fuel + 1, b => if k.badBanks.contains b || k.newest == some b then goodBank k fuel (nextPair b) else some b

/-! ### A commit -/

/-- Erases a bank. -/
def eraseBank (s : State) (b : Nat) : State :=
  let e := AMap.put s.keep.erases b (AMap.get s.keep.erases b 0 + 1)
  let s := { s with keep := { s.keep with erases := e, banks := AMap.del s.keep.banks b } }
  s.pput 0x1020 5 (satN 32 ((e.map (·.2)).foldl max 0))

/-- A bank is written and reads back right: it is the newest. -/
def writeBank (s : State) (b : Nat) : State :=
  let seq : U32 := (match s.keep.newest with
    | some n => ((AMap.find s.keep.banks n).map (·.seq)).getD 0
    | none => 0) + 1
  let same := s.keep.newest.any fun n => n / 2 == b / 2
  let k := s.keep
  { s.count 0x0030 3 1 with keep := { k with
      banks := AMap.put k.banks b (bankOf s b seq (storeImage s)), newest := some b, dirty := none
      pairCommits := if same then k.pairCommits + 1 else 1 } }

/-- A commit has failed: record 0x0002 names the bank tried last. -/
def commitFailed (s : State) (b : Nat) : State :=
  let s := gbRecord s 0 2 (b / 2 + 256 * (b % 2) + 65536 * 3)
  { s with keep := { s.keep with storeFailAt := s.time, dirty := s.keep.dirty.map fun _ => s.time } }

/-- The attempts of a commit, each with the outcome of its read-back; a missing outcome is good. -/
def commitTries : Nat → State → Nat → List Bool → State × Bool
  | 0, s, b, _ => (commitFailed s b, false)
  | fuel + 1, s, b, fl =>
    match goodBank s.keep 16 b with
    | none => (commitFailed s b, false)
    | some b =>
      let s := eraseBank s b
      if fl.headD true then (writeBank s b, true)
      else
        let s := { s with keep := { s.keep with badBanks := s.keep.badBanks ++ [b] } }
        commitTries fuel s (if fuel = 0 then b else nextPair b) (fl.drop 1)

/-- A commit (R364, R366): whether it succeeded. -/
def commitStore (s : State) (fl : List Bool) : State × Bool :=
  if !s.keep.flashOk then ({ s with keep := { s.keep with storeFailAt := s.time } }, false)
  else commitTries 3 s (commitTarget s) fl

/-- A commit is done; a request held by deferral is answered by it (R344). -/
def commitNow (s : State) (fl : List Bool) : State :=
  let held := s.keep.commitWait
  let (s, ok) := commitStore { s with keep := { s.keep with commitWait := none } } fl
  match held with
  | some (_, some w) => answer s w (if ok then 0 else 0x000D) []
  | _ => s

/-- Outcomes of a commit's read-backs that no command carries: open values (log entry 6). -/
def freeFlash (s : State) : List Bool × State :=
  ([decide (s.freeBits 3 % 2 = 0), decide (s.freeBits 3 / 2 % 2 = 0), decide (s.freeBits 3 / 4 % 2 = 0)], s.freeTaken)

/-- THERM and wear counters as saved (12 R265, 18 R385). -/
def saveWear (s : State) : State :=
  { s with therm := { s.therm with saved := (s.therm.bandTime.map fun t => satN 32 (t / secU), tjMean s.therm) } }

end Sys2Proof.Machine
end

