-- ==== Sys2Proof/Machine/PowerCore.lean ====
section
/-!
DEFINITION. The power states and what a domain keeps: entering and leaving READY, the order of a shut-down, and the
completion of PWR_STATE (13 R273 to R275, 01 R24 to R26).
-/

namespace Sys2Proof.Machine

/-! ### Groups -/

/-- Slots 24 to 27: started at READY entry (Table PWR-1). -/
def auxSlots : List Nat := [24, 25, 26, 27]

/-- Machine slots of a group (Table PWR-7). -/
def machineSlots (s : State) (g : Nat) : List Nat := [28, 29, 30, 31].filter fun k => s.pv 0x0112 k == g

/-- Slots that READY entry starts, beside those of the chains. -/
def readySlots (s : State) : List Nat := auxSlots ++ machineSlots s 2

/-- Slots that Keeper starts in STANDBY entry. -/
def standbySlots (s : State) : List Nat := [6, 7] ++ machineSlots s 1

/-- A slot with nothing more to come: GOOD, FAILED or BLOCKED (R275). -/
def railSettled (s : State) (k : Nat) : Bool := (s.rail k).st == .good || (s.rail k).st == .failed || (s.rail k).st == .blocked

/-! ### Domains (R25) -/

/-- Sources whose condition is a state of the exposure, link or motion domain. -/
def domainSources : List Nat :=
  ((List.range 320).filter fun k => (decide (0x040 ≤ k) && decide (k < 0x0D0) && k != 0x04D) || (decide (0x0F0 ≤ k) && decide (k < 0x100))
    || (decide (0x110 ≤ k) && decide (k < 0x130)) || (decide (0x034 ≤ k) && decide (k < 0x037)))

/-- Requests that wait on the motion domain are answered as it powers down. -/
def endMotion (s : State) : State :=
  let s := endTest s 2
  let s := match s.servo.prof.stop with
    | some w => answer s w 0 []
    | none => s
  let s := (List.range 8).foldl (fun s k => driveDisable s k 6) s
  (List.range 12).foldl (fun s u =>
    match (s.unit u).stop with
    | some w => answer (s.onUnit u fun x => { x with stop := none }) w 0 []
    | none => s) s

/-- The exposure domain powers down. What Keeper holds stays in Main: the records, the billet map with the changes it holds,
the repair list and the sums of the learned response (log entry 67). -/
def exposureOff (s : State) : State :=
  let s := sampleCapStop s
  let l : Layer := { records := s.layer.records, held := s.layer.held }
  let d : Dose := {
    billetVersion := s.dose.billetVersion, billetHeld := s.dose.billetHeld, touched := s.dose.touched, lastBoundary := s.dose.lastBoundary }
  let m : Emon := {
    repairList := s.emon.repairList, repairGl := s.emon.repairGl, listLost := s.emon.listLost, learnDue := s.emon.learnDue
    etaSums := s.emon.etaSums }
  { s with layer := l, dose := d, emon := m, cal := { s.cal with st := 0, run := none } }

/-- The factory offsets come into use at a counter value (09 R217). -/
def factoryOffsets (t : Nat) : List Offset := List.replicate 3 { setAt := t }

/-- The motion domain powers down. -/
def motionOff (s : State) : State :=
  let s := endMotion s
  { s with
    servo := {}
    drv := List.replicate 8 { ofs := factoryOffsets s.time }
    axes := List.replicate 8 {}
    units := State.reset.units }

/-- EXPPLL, MOTPLL and SDPLL0 stop (Table ARCH-4). -/
def readyPllsOff (s : State) : State :=
  let plls := s.clk.plls.mapIdx fun k p => if k = 1 ∨ k = 2 ∨ k = 3 then ({} : Pll) else p
  { s with clk := { s.clk with phaseAligned := false, plls := plls } }

/-- Counters that the exposure and link domains keep: DOSE.COUNTS, EMON.STREAM_DROPS and MISSED_TRIGGERS, and the counters of
Table TILE-16. -/
def domainCounters : List Nat := [0x041C, 0x0542, 0x0623, 0x0624, 0x0625, 0x0626]

/-- The mailbox that MB7 serves: the lowest that failed or showed a parity error, while MB7 is good (17 R348). -/
def servedByMb7 (f : U64) (bad : BitVec 8) : Nat :=
  if f.getLsbD 54 then 0xFF else ((List.range 7).find? fun k => f.getLsbD (47 + k) || bad.getLsbD k).getD 0xFF

/-- READY is left for STANDBY: tiles, motion and exposure lose their state (R25); heater outputs go off. -/
def leaveReady (s : State) : State :=
  let s := readyPllsOff (motionOff (exposureOff s))
  let s := { s with params := AMap.keep s.params fun k => !(domainCounters.contains (k / 256)) }
  let s := { s.toPower .standby with
    house := { s.house with heaters := s.house.heaters.map fun (h : Heater) => { h with on := false, onUs := 0, slotDemand := none } }
    flt := { s.flt with cond := domainSources.foldl (fun v k => setBit v k false) s.flt.cond } }
  settleParts { s with
    keep := { s.keep with mb7 := servedByMb7 s.bist.failed s.keep.mbBad }
    link := { State.reset.link with chains := s.link.chains, mgmt := s.link.mgmt } }

/-! ### PWR_STATE (R275) -/

/-- A PWR_STATE in progress ends with the first slot that failed, if one did. -/
def finishPower (s : State) (ks : List Nat) : State :=
  let bad := match s.pwr.firstFailed with
    | some k => some k
    | none => ks.find? fun k => (s.rail k).st == .failed
  let w := s.pwr.w
  let s := { s with pwr := { s.pwr with target := none, w := none, firstFailed := none } }
  match w, bad with
  | some w, some k => answer s w 0x0102 (le 1 k)
  | some w, none => answer s w 0 []
  | none, _ => s

/-- A chain that READY no longer waits for. -/
def chainSettled (c : Chain) : Bool :=
  !c.presence || (match c.st with
    | .up | .reserve | .doze | .failed => true
    | _ => false)

/-- READY may be entered (R275). -/
def readyReached (s : State) : Bool := s.link.chains.all chainSettled && (readySlots s).all (railSettled s)

/-- STANDBY is reached: what READY adds is off, what STANDBY starts is settled. -/
def standbyReached (s : State) : Bool :=
  (((List.range 20).map (· + 8)) ++ machineSlots s 2).all (fun k => railDown (s.rail k).st) && (standbySlots s).all (railSettled s)

/-- Every slot of a list is OFF. -/
def slotsOff (s : State) (ks : List Nat) : Bool := ks.all fun k => (s.rail k).st == .off

/-- A shut-down has nothing left to release: the command is answered and the self-test begins (18 R374), with the
zeroisation of R375; the host ports go down and Keeper's cores stop (18 Table BIST-1). -/
def shutDone (s : State) : State :=
  let w := s.pwr.w
  let s := { s with pwr := { s.pwr with w := none, firstFailed := none } }
  let s := match w with
    | some w => answer s w 0 []
    | none => s
  if s.bist.running ∨ s.bist.shut.1 = 0 then s
  else
    let ss := s.keep.sessions.map fun x => x.map fun y => { y with kek := none, ecdh := none }
    { s with
      bist := { s.bist with running := true, wakeWaits := false, tTest := s.time }
      data := { s.data with keys := List.replicate 4 {}, aesRegs := [], ecRegs := 0, identityCopy := 0, random := 0 }
      host := { s.host with ports := s.host.ports.map fun (p : Port) => { p with link := 0 } }
      keep := { s.keep with running := false, sessions := ss } }

/-- The next part of a shut-down: the chains and tile-lane slots, then the machine slots, then RAIL06 and RAIL07
(R273). -/
def shutStep (s : State) : State :=
  if slotsOff s ((List.range 20).map (· + 8)) then
    let s := releaseSlots s [28, 29, 30, 31]
    if slotsOff s [28, 29, 30, 31] then
      let s := releaseSlots s [6, 7]
      if slotsOff s [6, 7] then shutDone s else s
    else s
  else s

/-- Whatever the target waits for is looked at again, once the chains that wait to be judged are. -/
def settlePower (s : State) : State :=
  let s := judgeChains s
  match s.pwr.target with
  | some 2 =>
    if !(readyReached s) then s
    else
      let s := if s.power = .standby then idlePower s else s
      finishPower s (((List.range 16).map (· + 8)) ++ readySlots s)
  | some 1 => if s.power = .standby && standbyReached s then finishPower s (standbySlots s) else s
  | some 3 => shutStep s
  | _ => s

/-- Chains with presence are started, and the slots of those already running (R270, R317). -/
def startChain (s : State) (n : Nat) : State :=
  match (s.chain n).st with
  | .off => if (s.chain n).presence then chainOn s n else s
  | .failed => s
  | _ => startSlots s (chainSlots n)

/-- A relock that had failed may be tried again from STANDBY (14 R292). -/
def relockAllowed (s : State) : State :=
  { s with clk := { s.clk with plls := s.clk.plls.map fun p => { p with down := false, relocked := p.relocked && p.locked } } }

/-- READY is left, and the chains and the given slots are released (R273). -/
def lowerPower (s : State) (ks : List Nat) : State :=
  let s := match s.power with
    | .standby => s
    | _ => leaveReady s
  (List.range 4).foldl chainOff (releaseSlots s ks)

/-- A target takes the place of one in progress (R275). Its earlier command answers CONFLICT. A shut-down releases the
chains and the other tile-lane slots first (R273). -/
def applyTarget (s : State) (t : Nat) (w : Option Waiting) : State :=
  let s := match s.pwr.w with
    | some e => answer s e 0x000C []
    | none => s
  let s := { s with pwr := { s.pwr with target := some t, w := w, firstFailed := none } }
  match t with
  | 2 =>
    let s := if s.power = .standby then relockAllowed s else s
    settlePower (startSlots ((List.range 4).foldl startChain (startSlots s (standbySlots s))) (readySlots s))
  | 1 => settlePower (startSlots (lowerPower s (readySlots s)) (standbySlots s))
  | _ =>
    let s := { s with bist := { s.bist with shut := (s.pv 0x1010 0, s.pv 0x1011 0) } }
    let (fl, s) := freeFlash (saveWear s)
    let s := commitNow s fl
    settlePower (lowerPower s auxSlots)

/-- Why a target is refused, 0 when it is not (R275, 15 R318, 18 Table BIST-3); the recovery loader serves none (18 R381). -/
def targetStatus (s : State) (t : Nat) : U16 :=
  if t = 0 ∨ 3 < t then sRange
  else if s.keep.recovery then sBadState
  else if t = 2 then (if s.flt.c4.isSome || s.bist.failed.getLsbD 58 || s.bist.failed.getLsbD 63 then sDenied else 0)
  else if s.layer.st ≠ .idle then sBadState else 0

/-! ### Loss of Main and of Porter -/

/-- A counter value as Porter's clock has it, while Main runs or wakes. -/
def portedTime (s : State) (t : Nat) : Nat := ((t : Int) + ((s.clk.porterTime : Int) - s.runningTime)).toNat

/-- What the flash, the OTP and Porter's self-test record hold. -/
def heldBist (b : Bist) : Bist :=
  { b with failed := 0, eccBanks := [], running := false, wakeWaits := false }

/-- Keeper's flash and OTP contents, Keeper not running. -/
def heldKeep (k : Keeper) : Keeper :=
  { running := false, banks := k.banks, newest := k.newest, pairCommits := k.pairCommits, erases := k.erases, flash := k.flash, flashOk := k.flashOk
    mbBad := k.mbBad, fwDirs := k.fwDirs, fwSlots := k.fwSlots
    fwActive := k.fwActive, fwPrev := k.fwPrev, fwTrial := k.fwTrial, fwBegun := k.fwBegun, trialRuns := k.trialRuns, fwRun := k.fwRun }

/-- Main loses power (R25): Porter keeps its clock, the C4 latch, the test result and WAKE_TIME; pins keep their
levels; flash and OTP keep their contents. -/
def mainLost (s : State) : State :=
  { pending := s.pending, sent := s.sent, free := s.free, time := s.time, power := .porter
    params := AMap.keep s.params fun k => k == 0x0132 * 256
    pwr := {
      rails := (s.pwr.rails.take 6).map (fun r => { st := r.st, release := r.release, again := r.again }) ++ List.replicate 26 {}
      vstby := s.pwr.vstby, phantom := s.pwr.phantom, foldback := s.pwr.foldback, wakeFail := s.pwr.wakeFail }
    link := { chains := s.link.chains.mapIdx fun n c => { servedBy := n, presence := c.presence, disch := c.disch } }
    clk := { plls := List.replicate 5 {}, porterCrystal := s.clk.porterCrystal, degraded := s.clk.degraded, porterTime := s.clk.porterTime
             rcTrimmed := s.clk.rcTrimmed }
    flt := { inhibit := s.flt.inhibit, inForce := s.flt.inForce, inhibitFell := portedTime s s.flt.inhibitFell, c4 := s.flt.c4 }
    cal := { blocks := s.cal.blocks }
    therm := { tripped := s.therm.tripped, div2 := s.therm.tripped }
    keep := heldKeep s.keep
    bist := heldBist s.bist }

/-- Porter is without power (R26): OFF. The C4 latch and everything else Porter held is gone. -/
def porterLost (s : State) : State :=
  let t := mainLost s
  { t with
    power := .off, params := [], time := 0
    pwr := { rails := List.replicate 32 {}, vstby := false, phantom := false }
    clk := { plls := List.replicate 5 {} }
    flt := { inhibit := s.flt.inhibit, inForce := s.flt.inForce }
    therm := {}
    bist := { rollback := s.bist.rollback, otpUsed := s.bist.otpUsed, spares := s.bist.spares, poolBytes := s.bist.poolBytes } }

end Sys2Proof.Machine
end

