-- ==== Sys2Proof/Machine/StageCore.lean ====
section
/-!
DEFINITION. The Stageline: frames sent, the token, requests of the master, DISCOVER, SEQ and NEIGHBOUR (13 R279 to
R284, 14 R297).
-/

namespace Sys2Proof.Machine

/-! ### Sending (Table PWR-5) -/

/-- Changes the Stageline's state. -/
def State.onStage (s : State) (f : Stage → Stage) : State := { s with stage := f s.stage }

/-- A Stageline port. -/
def State.stagePort (s : State) (p : Nat) : StagePort := s.stage.ports.getD p {}

/-- A frame of this node as it leaves both ports; bit 0 of FLAGS is OUT_A. -/
def sendBoth (s : State) (dst type flags : Nat) (payload : List Byte) : State :=
  let f : StageFrame := {
    dst := BitVec.ofNat 16 dst, src := BitVec.ofNat 16 (nodeN s.stage), type := BitVec.ofNat 8 type, flags := BitVec.ofNat 8 flags
    hops := 0, payload := payload, crcOk := true }
  s.sendAll [.stage true false { f with flags := f.flags ||| 1 }, .stage false true f]

/-- A response of this node to a frame, out of the port it came by, with its ATTEMPT. -/
def reply (s : State) (port : Nat) (f : StageFrame) (payload : List Byte) : State :=
  s.send (.stage (port == 0) (port == 1) {
    dst := f.src, src := BitVec.ofNat 16 (nodeN s.stage), type := f.type
    flags := (f.flags &&& 6) ||| 16 ||| (if port = 0 then 1 else 0), hops := 0, payload := payload, crcOk := true })

/-- A request of the master; it waits for its response (R281). -/
def ask (s : State) (dst type : Nat) (payload : List Byte) : State :=
  let f : StageFrame := {
    dst := BitVec.ofNat 16 dst, src := BitVec.ofNat 16 (nodeN s.stage), type := BitVec.ofNat 8 type, flags := 0
    hops := 0, payload := payload, crcOk := true }
  (sendBoth s dst type 0 payload).onStage fun g => { g with reqs := g.reqs ++ [{ frame := f, attempt := 0 }] }

/-- NEIGHBOUR out of a port (Table CLK-3). The master's frames carry MASTER_SIDE (log entry 68). -/
def sendNeighbour (s : State) (p : Nat) (response : Bool) : State :=
  let other := s.stagePort (1 - p)
  let side := s.stage.master || other.masterSide
  let acc := if s.stage.master then Config.outputPs else other.accPs + s.clk.segDelay.getD (1 - p) 0 + Config.repeaterPs
  let flags := bitN s.clk.aligned + 2 * bitN s.clk.holdover + 4 * bitN side
  let turn : Option U32 := if response then some (BitVec.ofNat 32 (s.freeBits 32)) else none
  let s' := s.send (.neighbour p (BitVec.ofNat 16 (nodeN s.stage)) (BitVec.ofNat 16 flags) (BitVec.ofNat 32 acc) turn)
  if response then s'.freeTaken else s'

/-! ### The token (R282) -/

/-- This device's identity as CLAIM carries it. -/
def claimPayload (force : Bool) : List Byte := le 8 Config.unitId.toNat ++ [bitB force]

/-- A claim begins: CLAIM to all nodes. -/
def startClaim (s : State) (force : Bool) (w : Option Waiting) : State :=
  (sendBoth s 0x3FF 4 0 (claimPayload force)).onStage fun g => { g with claim := some (force, w, 0), autoClaim := false }

/-- A claim ends with a status. -/
def endClaim (s : State) (status : U16) : State :=
  match s.stage.claim with
  | none => s
  | some (_, w, _) =>
    let s := s.onStage fun g => { g with claim := none }
    match w with
    | some w => answer s w status []
    | none => s

/-- A DISCOVER in progress ends with a status. -/
def endDiscover (s : State) (status : U16) : State :=
  let d := s.stage.discover
  let s := s.onStage fun g => { g with discover := none, turned := [none, none] }
  match d with
  | some w => answer s w status []
  | none => s

/-- The token is given up: requests end, a DISCOVER in progress answers NOT_MASTER. -/
def yieldToken (s : State) : State :=
  endDiscover (s.onStage fun g => { g with master := false, yielding := false, reqs := [], polled := [] }) 0x0105

/-- A forced claim has the token once no request is in flight (R282). -/
def settleYield (s : State) : State := if s.stage.yielding && s.stage.reqs.isEmpty then yieldToken s else s

/-- A CLAIM is heard: a holder answers HOLD, or with FORCE yields at the end of its transaction. -/
def hearClaim (s : State) (payload : List Byte) : State :=
  let other := fieldAt payload 0 8
  let s := s.onStage fun g => { g with autoClaim := false }
  if s.stage.master then (if fieldAt payload 8 1 = 1 then settleYield (s.onStage fun g => { g with yielding := true }) else sendBoth s 0x3FF 5 0 [])
  else if s.stage.claim.isSome && decide (other < Config.unitId.toNat) then endClaim s 0x000C
  else s

/-- A HOLD is heard: an unforced claim is refused. -/
def hearHold (s : State) : State :=
  match s.stage.claim with
  | some (false, _, _) => endClaim s 0x0008
  | _ => s

/-! ### DISCOVER (R281, R286) -/

/-- Nodes beyond the master on each side, by position. -/
def discovered (s : State) (hopsA hopsB : Nat) : List Nat :=
  let m := s.stage.node.getD 0
  ((List.range (hopsA / 2)).map fun k => m - hopsA / 2 + k) ++ (List.range (hopsB / 2)).map fun k => m + 1 + k

/-- Every IDENT of a DISCOVER is answered or given up: the command's response. -/
def identStep (s : State) : State :=
  match s.stage.discover with
  | none => s
  | some w =>
    if s.stage.reqs.any fun r => r.frame.type == 2 then s
    else
      let data := le 2 s.stage.chainNodes ++ s.stage.ids.flatMap fun e => le 8 e.2
      answerFit (s.onStage fun g => { g with discover := none }) w data

/-- Both turned frames are back: the nodes are counted and asked for their identities. -/
def turnedStep (s : State) : State :=
  match s.stage.turned.getD 0 none, s.stage.turned.getD 1 none with
  | some a, some b =>
    let ns := discovered s a b
    let s := s.onStage fun g => { g with
      turned := [none, none], chainNodes := ns.length % 512, ids := ns.map fun n => (n, 0)
      reqs := g.reqs.filter fun r => r.frame.type != 1 }
    identStep (ns.foldl (fun s n => ask s n 2 []) s)
  | _, _ => s

/-- An identity arrives. Two different ones under one number raise 0x015 (Table PWR-6). -/
def takeIdent (s : State) (node : Nat) (payload : List Byte) : State :=
  let new := fieldAt payload 0 8
  let asked := s.stage.reqs.any fun r => r.frame.type == 2 && r.frame.dst.toNat == node
  let old := AMap.get s.stage.ids node 0
  let s := s.onStage fun g => { g with
    ids := if AMap.get g.ids node 0 = 0 then AMap.put g.ids node new else g.ids
    reqs := g.reqs.filter fun r => !(r.frame.type == 2 && r.frame.dst.toNat == node) }
  let s := if old ≠ 0 ∧ old ≠ new then raise s 0x015 node false else s
  if asked then identStep s else s

/-! ### SEQ and START (R283) -/

/-- A node applies a SEQ target. Its result waits for the next SWEEP as an answer to PWR_STAGE_SEQ, TAG 0, beside the
replies of MB5; the master's own goes nowhere (log entry 68). -/
def applySeq (s : State) (t : Nat) : State :=
  let mine := s.stage.master
  let s := s.onStage fun g => { g with seq := none, event := !mine }
  let w : Waiting := { mb := 7, opcode := 0x0108, tRx := s.time }
  let st := targetStatus s t
  if st = 0 then applyTarget s t (if mine then none else some w) else if mine then s else answer s w st []

/-- SEQ reaches this node. -/
def hearSeq (s : State) (payload : List Byte) : State :=
  let t := fieldAt payload 0 1; let first := fieldAt payload 1 2; let last := fieldAt payload 3 2
  match s.stage.node with
  | none => s
  | some n =>
    if n < first ∨ last < n ∨ t = 0 ∨ 3 < t then s
    else
      let t0 := ofTime64 (fieldAt payload 5 8) + (n - first) * fieldAt payload 13 2 * usU
      if t0 ≤ s.time then applySeq s t else s.onStage fun g => { g with seq := some (t, t0) }

/-- START reaches this node. -/
def hearStart (s : State) (payload : List Byte) : State :=
  s.onStage fun g => { g with startAt := some (ofTime64 (fieldAt payload 0 8)) }

/-! ### NEIGHBOUR (R280, R297) -/

/-- A number taken from the port A neighbour. -/
def takeNumber (s : State) (n : Nat) : State :=
  if s.pv 0x0140 0 = 1 then s
  else if n = 0x3FD then s
  else if 512 ≤ n + 1 then
    let s := s.onStage fun g => { g with node := none }
    if s.flt.active.getLsbD 0x015 then s else raise s 0x015 n false
  else s.onStage fun g => { g with node := some (n + 1) }

/-- NEIGHBOUR arrives at a port. -/
def hearNeighbour (s : State) (p : Nat) (response : Bool) (payload : List Byte) : State :=
  let n := fieldAt payload 0 2
  let s := s.onStage fun g => { g with ports := g.ports.modify p fun x => { x with
    partner := some n, accPs := fieldAt payload 4 4, masterSide := (fieldAt payload 2 2).testBit 2, answered := x.answered || response } }
  let s := if p = 0 then takeNumber s n else s
  if response then s else sendNeighbour s p true

/-! ### SWEEP (R281) -/

/-- The frame as a node repeats it: HOPS counted, and its own bit in a SWEEP that finds something pending. -/
def repeated (s : State) (f : StageFrame) (hops : Nat) : StageFrame :=
  let f := { f with hops := f.hops + BitVec.ofNat 16 hops }
  match s.stage.node with
  | some n =>
    if f.type = 0 && (s.stage.event || !s.stage.mb5Out.isEmpty) then
      { f with payload := f.payload.modify (n / 8) fun b => b ||| BitVec.ofNat 8 (2 ^ (n % 8)) }
    else f
  | none => f

/-- A returned SWEEP: the master polls every node it found set, with an empty MSG (log entry 68). -/
def pollFound (s : State) (payload : List Byte) : State :=
  let found := bitsOf (ofLe (payload.take 64)) 512
  found.foldl (fun s n => ask s n 3 []) (s.onStage fun g => { g with polled := found })

/-- What a node has for the master: its oldest MB5 reply, or nothing more. -/
def takeReply (s : State) : State × List Byte :=
  match s.stage.mb5Out with
  | [] => (s.onStage fun g => { g with event := false }, [])
  | r :: rest => (s.onStage fun g => { g with mb5Out := rest, event := false }, responseBytes r)

/-- IDENT's response: identity, and WAKE_FAIL as slot, attempts, TIME64; slot 0xFF without one (R271; log entry 68). -/
def identPayload (s : State) : List Byte :=
  le 8 Config.unitId.toNat ++ (match s.pwr.wakeFail with
    | some (k, n, t) => le 1 k ++ le 1 n ++ le 8 t
    | none => le 1 0xFF ++ le 1 0 ++ le 8 0)

/-! ### A frame arrives (R279) -/

/-- The frame is one this node sent. -/
def ownFrame (s : State) (f : StageFrame) : Bool := s.stage.node.any fun n => f.src == BitVec.ofNat 16 n

/-- Addressed to this node. -/
def toMe (s : State) (f : StageFrame) : Bool :=
  f.dst == 0x3FE || s.stage.node.any fun n => f.dst == BitVec.ofNat 16 n

/-- Repeats a frame cut-through; the chain end turns SWEEP and DISCOVER back. The turned frame counts the turning node
twice, so that HOPS comes to twice the nodes beyond (R281). -/
def repeatFrame (s : State) (p : Nat) (f : StageFrame) : State :=
  if f.dst = 0x3FE ∨ ownFrame s f then s
  else if !f.crcOk then s.send (.stage (p == 1) (p == 0) f)
  else if (f.type = 0 ∨ f.type = 1) ∧ f.flags.getLsbD 3 = false ∧ (s.stagePort (1 - p)).up = false then
    let g := repeated s f 2
    s.send (.stage (p == 0) (p == 1) { g with flags := g.flags ||| 8 })
  else s.send (.stage (p == 1) (p == 0) (repeated s f 1))

/-- A response to a request of this master arrives. -/
def hearResponse (s : State) (f : StageFrame) : State :=
  if !s.stage.master then s
  else if f.type = 2 then settleYield (takeIdent s f.src.toNat f.payload)
  else settleYield (s.onStage fun g => { g with reqs := g.reqs.filter fun r => !(r.frame.type == f.type && r.frame.dst == f.src) })

/-- A request to this node: IDENT, and MSG where it is numbered. An MSG's message goes to MB5 (17 R349); every MSG is
answered with the oldest reply held. -/
def hearRequest (s : State) (p : Nat) (f : StageFrame) : State :=
  if f.type = 2 then reply s p f (identPayload s)
  else if f.type = 3 ∧ s.stage.node.isSome then
    let s := if f.payload.isEmpty then s else receiveMessage s 5 s.time f.payload
    let (s, bs) := takeReply s
    reply s p f bs
  else s

/-- A SWEEP or DISCOVER: of another master, or this master's own come back. -/
def hearTurning (s : State) (p : Nat) (f : StageFrame) : State :=
  if !(ownFrame s f) then
    if f.type = 0 then clearCond (s.onStage fun g => { g with sweepAt := s.time }) 0x014 else s
  else if !s.stage.master ∨ f.flags.getLsbD 3 = false then s
  else if f.type = 0 then pollFound s f.payload
  else if s.stage.discover.isSome then settleYield (turnedStep (s.onStage fun g => { g with turned := g.turned.set p (some f.hops.toNat) }))
  else s

/-- What a good frame does at this node. TYPE 9 to 255 is discarded. -/
def actOn (s : State) (p : Nat) (f : StageFrame) : State :=
  match f.type.toNat with
  | 0 | 1 => hearTurning s p f
  | 2 | 3 => if !(toMe s f) then s else if f.flags.getLsbD 4 then hearResponse s f else hearRequest s p f
  | 4 => if ownFrame s f then s else hearClaim s f.payload
  | 5 => if ownFrame s f then s else hearHold s
  | 6 => hearSeq s f.payload
  | 7 => hearNeighbour s p (f.flags.getLsbD 4) f.payload
  | 8 => hearStart s f.payload
  | _ => s

/-- In PORTER only an IDENT request to the adjacent node is answered (R277). -/
def porterRx (s : State) (p : Nat) (f : StageFrame) : State :=
  if f.crcOk && f.type == 2 && f.dst == 0x3FE && !(f.flags.getLsbD 4) then reply s p f (identPayload s) else s

/-- A frame arrives at a port from STANDBY upward. -/
def stageRx (s : State) (p : Nat) (f : StageFrame) : State :=
  let s := repeatFrame s p f
  if !f.crcOk then s
  else
    let s := clearCond (s.onStage fun g => { g with ports := g.ports.modify p fun x => { x with up := true } }) (0x010 + p)
    actOn s p f

end Sys2Proof.Machine
end

