-- ==== Sys2Proof/Machine/KeeperCore.lean ====
section
/-!
DEFINITION. A Keeper reset (17 R343), sessions and the primary role (R355 to R357), the Waybill (R360 to R362, 15 R321,
18 R385) and the checks of a firmware image (18 R380).
-/

namespace Sys2Proof.Machine

/-! ### Keeper reset (R343) -/

/-- The active cores: 0 and 1, with the reserve (2) in place of the replaced one; a failed core does not run. -/
def activeCores (s : State) : List Nat :=
  let l := match s.keep.replaced with
    | 1 => [2, 1]
    | 2 => [0, 2]
    | _ => [0, 1]
  l.filter fun k => !(s.bist.failed.getLsbD k)

/-- The same request as Keeper's own, so that what goes on without Keeper ends without an answer of the mailbox. -/
def ownWork (w : Waiting) : Waiting := { w with mb := 6 }

/-- Keeper is reset, and nothing else (01 R21): what hardware has begun goes on. -/
def keeperReset (s : State) (cause core : Nat) : State :=
  let ws := begun s
  { s with
    keep := { s.keep with
      running := false, cause := some (cause, core, s.time), busy := ws, claims := none, commitWait := none }
    pwr := { s.pwr with w := none, rails := s.pwr.rails.map fun (r : Rail) => { r with w := none } }
    link := { s.link with mgmt := s.link.mgmt.map fun (m : Mgmt) => { m with w := none } }
    drv := s.drv.map fun (d : Drive) => { d with align := d.align.map ownWork }
    stage := { s.stage with
      discover := s.stage.discover.map ownWork
      claim := s.stage.claim.map fun c => (c.1, none, c.2.2) }
    cal := { s.cal with hkTrace := none }
    data := { s.data with
      cmp := s.data.cmp.map fun j => j.map fun (x : CmpJob) => { x with w := none }
      cmpWait := s.data.cmpWait.map fun (x : CmpJob) => { x with w := none } } }

/-- Answers the interrupted messages KEEPER_RESTART. -/
def answerBusy (s : State) : State :=
  s.keep.busy.foldl (fun s w => answer s w sKeeperRestart []) { s with keep := { s.keep with busy := [] } }

/-- Records that completed while Keeper was unavailable are delivered (02 R35). -/
def deliverHeld (s : State) : State :=
  { s with layer := { s.layer with records := (s.layer.held.reverse ++ s.layer.records).take 64, held := [] } }

/-- The reserve core takes the place of a core at a Keeper start, if it is good and free. -/
def replaceCore (s : State) (core : Nat) : State :=
  if core = 0 ∨ s.keep.replaced ≠ 0 ∨ s.bist.failed.getLsbD 2 = true then s
  else settleParts (raise { s with keep := { s.keep with replaced := core } } 0x13C 0 false)

/-- A directory copy is valid: its CRC is right (R368). -/
def dirValid (d : List Byte) : Bool := d.length == 27 && fieldAt d 23 4 == crc32c (d.take 23)

/-- SEQ of a directory copy. -/
def dirSeq (d : List Byte) : U32 := BitVec.ofNat 32 (fieldAt d 0 4)

/-- The directory copy that rules: valid, and none is later (R367, R368). -/
def rulingDir (ds : List (List Byte)) : Option (Nat × List Byte) :=
  let good := (ds.zipIdx).filterMap fun e => if dirValid e.1 then some (e.2, e.1) else none
  good.find? fun a => good.all fun b => !(serialLater (dirSeq b.2) (dirSeq a.2))

/-- The directory is written: the other copy than the ruling one, with the next SEQ (R368). -/
def writeDir (s : State) (active prev : Nat) (trial : Bool) : State :=
  let k := s.keep
  let r := rulingDir k.fwDirs
  let seq : U32 := match r with
    | some x => dirSeq x.2 + 1
    | none => 0
  let d := dirCopy seq.toNat active prev (bitN trial) (k.fwSlots.map (·.length)) ((List.range 2).map (slotVersion k))
  { s with keep := { k with
      fwDirs := k.fwDirs.set (match r with
        | some x => 1 - x.1
        | none => 0) d
      fwActive := active, fwPrev := prev, fwTrial := trial } }

/-- The ruling directory comes into use at a Keeper start. -/
def loadDir (s : State) : State :=
  match rulingDir s.keep.fwDirs with
  | some x => { s with keep := { s.keep with 
    fwActive := fieldAt x.2 4 1 % 2, fwPrev := fieldAt x.2 5 1 % 2, fwTrial := fieldAt x.2 6 1 == 1 } }
  | none => s

/-- An unconfirmed trial image is abandoned: PREVIOUS runs, record 0x0004 (R370). -/
def abandonTrial (s : State) (why : Nat) : State :=
  let a := s.keep.fwActive
  let p := s.keep.fwPrev
  let s := writeDir s p p false
  let s := { s with keep := { s.keep with fwRun := p, trialRuns := false } }
  gbRecord s 0 4 (a + 256 * p + 65536 * why)

/-! ### Sessions (R355 to R357) -/

/-- A session identifier is in use. -/
def idUsed (s : State) (n : Nat) : Bool := s.keep.sessions.any fun x => x.any fun y => y.id.toNat == n

/-- The first identifier from n on that is not 0 and not in use; at most four are in use. -/
def nextId (s : State) : Nat → Nat → Nat
  | 0, n => n
  | fuel + 1, n => if n = 0 || idUsed s n then nextId s fuel ((n + 1) % 65536) else n

/-- Ends the session of a transport mailbox: its primary role, key-encryption key, claims and queued requests go; the
requests are counted in KEEP.SESSION_REJECTS. -/
def endSession (s : State) (mb : Nat) : State :=
  match s.session mb with
  | none => s
  | some x =>
    let n := (s.keep.queues.getD mb []).length
    let s := s.count 0x0022 4 n
    let k := s.keep
    { s with keep := { k with
        sessions := k.sessions.set mb none
        queues := k.queues.set mb []
        primary := if k.primary = x.id then 0 else k.primary
        claims := k.claims.map fun c => (c.1, c.2.filter fun d => d.session != x.id) } }

/-- End of the window that a claim at `t` has opened. -/
def claimEnd (s : State) (t : Nat) : Nat := t + s.keep.claimLen

/-- The earlier of two claims: lower T_RX, then the lower session identifier. -/
def earlier (a b : Claim) : Bool :=
  decide (a.w.tRx < b.w.tRx) || (a.w.tRx == b.w.tRx && decide (a.session.toNat ≤ b.session.toNat))

/-- The winner of the claims in a window. -/
def claimWinner : List Claim → Option Claim
  | [] => none
  | c :: cs =>
    match claimWinner cs with
    | none => some c
    | some d => if earlier c d then some c else some d

/-- One claim's answer. -/
def answerClaim (s : State) (win c : Claim) : State :=
  if c ≠ win then answer s c.w sConflict []
  else if s.keep.primary = 0 ∨ c.force = true then answer { s with keep := { s.keep with primary := c.session } } c.w sOK []
  else answer s c.w sDenied []

/-- Decides the claims of a window (R357). -/
def decideClaims (s : State) (cs : List Claim) : State :=
  match claimWinner cs with
  | none => s
  | some win => cs.foldl (fun s c => answerClaim s win c) s

/-- The window closes; a claim that arrived after it opens the next. -/
def closeWindow (s : State) : State :=
  match s.keep.claims with
  | none => s
  | some (t, cs) =>
    let late := cs.filter fun c => decide (claimEnd s t < c.w.tRx)
    let next : Option (Nat × List Claim) := match claimWinner late with
      | none => none
      | some c => some (c.w.tRx, late)
    decideClaims { s with keep := { s.keep with claims := next, claimLen := s.pv 0x0012 0 * usU } }
      (cs.filter fun c => decide (c.w.tRx ≤ claimEnd s t))

/-- Keeper takes a claim: the earliest T_RX opens the window. -/
def takeClaim (s : State) (c : Claim) : State :=
  let claims := match s.keep.claims with
    | none => (c.w.tRx, [c])
    | some (t, cs) => (min t c.w.tRx, cs ++ [c])
  { s with keep := { s.keep with
      claims := some claims, claimLen := if s.keep.claims.isNone then s.pv 0x0012 0 * usU else s.keep.claimLen } }

/-- A claim whose T_RX lies in the open window still waits to be taken; one of a mailbox that executes waits for that. -/
def claimQueued (s : State) : Bool :=
  match s.keep.claims with
  | none => false
  | some (t, _) =>
    (s.keep.queues.zipIdx).any fun l => !(executing s l.2) && !(mailboxDead s l.2)
      && l.1.any fun e => e.opcode == 0x0008 && decide (e.tRx ≤ claimEnd s t)

/-! ### The Waybill (R361, R362) -/

/-- Spare rows used in the banks of a region, and fitted there (18 R377). -/
def regionSpares (s : State) (base size : Nat) : Nat × Nat :=
  let banks := (List.range (size / 0x40000)).map fun k => base / 0x40000 + k
  ((banks.map fun b => AMap.get s.bist.spares b 0).sum, 8 * banks.length)

/-- Block 1: identity. -/
def wbIdentity (s : State) : List Byte :=
  le 4 0x2620 ++ le 4 Config.siliconRev.toNat ++ le 1 Config.grade.val ++ le 1 s.keep.fwActive ++ [bitB s.keep.fwTrial, 0]
    ++ le 8 Config.unitId.toNat ++ le 4 (fwVersion s.keep) ++ le 2 (nodeN s.stage) ++ le 8 (Config.mac 0).toNat ++ le 8 (Config.mac 1).toNat

/-- Block 2: power. With no failed wake, slot 0xFF and zeros (log entry 70). -/
def wbPower (s : State) : List Byte :=
  le 1 (powerCode s.power) ++ le 1 (bitN (!s.pwr.vstby))
    ++ (s.pwr.rails.flatMap fun r => le 1 (railCode r.st) ++ le 1 (r.attempts - 1) ++ le 2 r.mv.toNat)
    ++ (match s.pwr.wakeFail with
      | some (k, n, t) => le 1 k ++ le 1 n ++ le 8 t
      | none => le 1 0xFF ++ le 1 0 ++ le 8 0)

/-- Block 3: clocks. -/
def wbClocks (s : State) : List Byte :=
  le 1 (clkStatusN s.clk) ++ le 1 s.timeSrc ++ [bitB s.clk.refFallback] ++ (s.clk.plls.flatMap fun p => le 1 p.band.toNat)
    ++ leI 8 s.clk.offsetPs

/-- Block 4: Table FLT-7, with its own CRC. -/
def wbFaults (s : State) : List Byte :=
  withCrc (firstFaultBytes s.flt.first ++ le 40 s.flt.active.toNat ++ le 40 s.flt.cond.toNat ++ [bitB s.flt.c4.isSome, 0]
    ++ le 2 ((s.flt.c4.map (·.1)).getD 0xFFFF) ++ le 4 0 ++ le 8 (time64 ((s.flt.c4.map (·.2)).getD 0))
    ++ le 4 (s.pv 0x0E30 0) ++ le 4 (s.pv 0x0E30 1) ++ le 4 (s.pv 0x0E30 2))

/-- LAYER_NO as the window shows it: the layer armed; in IDLE, LAY.LAST_COMMITTED. -/
def layerNoNow (s : State) : Nat := if s.layer.st = .idle then s.layer.lastCommitted.toNat else s.layer.desc.layerNo.toNat

/-- Block 5: layer. Records held are named by LAYER_NO, 0 with none (log entry 70). -/
def wbLayer (s : State) : List Byte :=
  le 1 (layerByte s.layer) ++ le 4 (layerNoNow s) ++ le 4 s.layer.lastCommitted.toNat
    ++ le 4 ((s.layer.records.getLast?.map (·.layerNo.toNat)).getD 0) ++ le 4 ((s.layer.records.head?.map (·.layerNo.toNat)).getD 0)
    ++ le 2 s.admissibleRate ++ le 2 s.dose.billetVersion.toNat ++ le 2 s.dose.calGen.toNat

/-- Block 6: memory. -/
def wbMemory (s : State) : List Byte :=
  (sramRegions.flatMap fun r =>
    le 4 r.1 ++ le 4 r.2 ++ le 2 (regionSpares s r.1 r.2).1 ++ le 2 (regionSpares s r.1 r.2).2) ++ le 4 s.bist.poolBytes

/-- Block 7: reserves. -/
def wbReserves (s : State) : List Byte :=
  (s.link.chains.flatMap fun c => le 1 c.servedBy) ++ (s.dma.flatMap fun c => le 1 c.phys) ++ (s.data.engines.flatMap fun e => le 1 e)
    ++ le 1 s.keep.replaced ++ le 1 s.keep.mb7 ++ le 4 s.stage.reserveUses.toNat

/-- A tile of block 8; a position without a tile is 0. -/
def wbTile (s : State) (k : Nat) : List Byte :=
  if k % 18 < (shownTiles (s.chain (k / 18))).length then
    let t := s.tile (k / 18) (k % 18)
    le 8 t.serial ++ le 4 (t.u 0x84 4) ++ le 2 (s.pv 0x0F21 k) ++ le 2 (cellsWith s.cal k 25)
  else List.replicate 16 0

/-- Block 8: tiles: the chains, then the 72 positions 18n + p (log entry 70). -/
def wbTiles (s : State) : List Byte :=
  (s.link.chains.flatMap fun c => le 1 (chainCode c.st) ++ le 1 ((shownTiles c).countP (·.usable))) ++ ((List.range 72).flatMap fun k => wbTile s k)

/-- Block 9: drives. -/
def wbDrives (s : State) : List Byte :=
  (List.range 24).flatMap fun k => le 1 (legOfs s k).src ++ le 4 (satN 32 ((s.time - (legOfs s k).setAt) / secU))

/-- Block 10: thermal. -/
def wbThermal (s : State) : List Byte :=
  le 1 (bandCode s.therm.band) ++ leI 2 s.therm.tj ++ (s.therm.bandTime.flatMap fun t => le 4 (satN 32 (t / secU))) ++ leI 2 (tjMean s.therm)

/-- Block 11: store. Of a flash that is not usable every bank shows as bad (R364; log entry 69). -/
def wbStore (s : State) : List Byte :=
  let b := s.keep.newest.getD 0
  le 1 (b / 2) ++ le 1 (b % 2) ++ le 4 (storeSeq s.keep) ++ le 4 (s.pv 0x0030 3)
    ++ le 2 (if s.keep.flashOk then s.keep.badBanks.foldl (fun m k => m ||| 2 ^ k) 0 else 0xFFFF) ++ le 8 (time64 s.keep.storeFailAt)

/-- The completions of a mailbox, newest first, padded to 32 (log entry 70). -/
def wbHist (l : List Response) : List Byte :=
  padTo (32 * 14) (l.flatMap fun r => le 2 r.w.tag.toNat ++ le 2 r.w.opcode.toNat ++ le 2 r.status.toNat ++ le 8 (time64 r.tDone))

/-- Block 12: sessions. -/
def wbSessions (s : State) : List Byte :=
  le 2 s.keep.primary.toNat ++ ((List.range 6).flatMap fun mb =>
    le 2 (((s.session mb).map (·.id.toNat)).getD 0) ++ wbHist (s.keep.hist.getD mb []))

/-- Block 13: Guestbook. -/
def wbGuestbook (s : State) : List Byte :=
  le 4 (s.gb.next - BitVec.ofNat 32 s.gb.held).toNat ++ le 4 (s.gb.next - 1).toNat ++ le 4 s.gb.rd.toNat ++ le 4 (s.pv 0x0E30 2)

/-- The self-test result record (18 Table BIST-2). -/
def bistRecord (b : Bist) : List Byte :=
  withCrc (le 8 (time64 b.tTest) ++ le 4 b.durationUs.toNat ++ le 1 b.result
    ++ le 1 (bitN b.zeroised + 2 * bitN b.repaired + 4 * bitN b.wakeHeld) ++ le 2 0 ++ le 8 b.partFail.toNat
    ++ le 2 b.rowsRepaired ++ le 2 b.rowsUnrepaired)

/-- A wear counter as read (18 Table BIST-6). -/
def wearValue (s : State) (sub : Nat) : Nat :=
  match mirror s 0x1020 sub with
  | some v => toField 32 v
  | none => s.pv 0x1020 sub

/-- Block 14: self-test and security (18 R385). -/
def wbSecurity (s : State) : List Byte :=
  bistRecord s.bist ++ le 1 s.bist.rollback ++ le 2 s.bist.otpUsed ++ ((List.range 6).flatMap fun k => le 4 (wearValue s k))

/-- A block as captured now: its time stamp, contents and CRC (R361). -/
def wbBlock (s : State) (body : List Byte) : List Byte := withCrc (le 8 s.now64 ++ body)

/-- The fourteen blocks in the order of their TYPE. -/
def wbBlocks (s : State) : List (List Byte) :=
  [wbIdentity s, wbPower s, wbClocks s, wbFaults s, wbLayer s, wbMemory s, wbReserves s, wbTiles s, wbDrives s, wbThermal s,
    wbStore s, wbSessions s, wbGuestbook s, wbSecurity s].map (wbBlock s)

/-- The directory: TYPE, LEN, OFFSET from the snapshot start (R361). -/
def wbDirectory : Nat → Nat → List (List Byte) → List Byte
  | _, _, [] => []
  | ty, off, b :: bs => le 2 ty ++ le 2 b.length ++ le 4 off ++ wbDirectory (ty + 1) (off + b.length) bs

/-- A whole snapshot of a generation (Table KEEP-6). -/
def waybill (s : State) (gen : Nat) : List Byte :=
  let bs := wbBlocks s
  let body := bs.flatten
  withCrc (le 4 0x4C4C4257 ++ [1, 14, 0, 0] ++ le 4 gen ++ le 4 (144 + body.length) ++ le 8 s.now64 ++ le 4 (fwVersion s.keep))
    ++ wbDirectory 1 144 bs ++ body

/-- Where a snapshot lies: in the general pool below the 64 KiB that spare rows may take (log entry 70). -/
def waybillAt : Nat := 0x1400000 + 64 * (Config.waybillSlot % ((0x3F0000 - 0x8000) / 64))

/-! ### Firmware images (18 R380) -/

/-- The slot that an update writes. -/
def updateSlot (s : State) : Nat := 1 - s.keep.fwActive

/-- The checks of an image in order, as FW_VERIFY answers them; 0 when good. -/
def imageStatus (s : State) (x : FwSlot) : U16 :=
  let h := slotBytes x 0 0x200
  let len := fieldAt h 0x10 4
  let pub := (h.drop 0xE0).take 97
  if fieldAt h 0 4 ≠ 0x57464856 ∨ fieldAt h 4 1 ≠ 1 ∨ 0x800000 - 512 < len then sCheckFail
  else if sha384 pub ≠ Config.imageKeyHash then sAuthFail
  else if !(ecdsaOk pub ((h.drop 0x80).take 96) (sha384 (h.take 0x80))) then sAuthFail
  else if (h.drop 0x40).take 48 ≠ sha384 (slotBytes x 0x200 len) then sCheckFail
  else if fieldAt h 0x0C 1 < s.bist.rollback then sAuthFail
  else 0

/-- A slot passes the boot ROM's checks; one not written since manufacture holds its image (18 R380). -/
def slotGood (s : State) (i : Nat) : Bool :=
  let x := s.keep.fwSlots.getD i {}
  if x.data.isEmpty then x.verified && decide (s.bist.rollback ≤ slotSec s.keep i) else imageStatus s x == 0

/-- The image that runs: ACTIVE, else PREVIOUS with 0x13E, else the recovery loader (18 R381). -/
def bootImage (s : State) : State :=
  let a := s.keep.fwActive
  let p := s.keep.fwPrev
  if slotGood s a then { s with keep := { s.keep with fwRun := a } }
  else
    let other := slotGood s p
    raise { s with keep := { s.keep with fwRun := if other then p else s.keep.fwRun, recovery := !other } } 0x13E a false

/-- The range overlaps one already written. -/
def rangeWritten (x : FwSlot) (off n : Nat) : Bool := x.data.any fun r => decide (off < r.1 + r.2.length) && decide (r.1 < off + n)

/-! ### The Guestbook (R363) -/

/-- Hands out the entries from a SEQ on that are not handed out, in blocks of at most 2 048 (R344, R363). -/
def handOut : Nat → State → State
  | 0, s => s
  | fuel + 1, s =>
    let n := min 2048 (s.gb.next - gbStart s.gb).toNat
    if n = 0 then s else handOut fuel (handEntries s n 0 false)

end Sys2Proof.Machine
end

