-- ==== Sys2Proof/Machine/Fault.lean ====
section
/-!
DEFINITION. The events and commands of fault collection (15 R308 to R323; 01 R29).
-/

namespace Sys2Proof.Machine

/-! ### Sources and reactions -/

/-- What a source leaves in its subsystem beside its class's reaction: the quadrature flag of an encoder (08 Table SERVO-5). -/
def noteSource (s : State) (id : Nat) : State :=
  if 0x0F4 ≤ id ∧ id < 0x0F8 then
    { s with servo := { s.servo with encs := s.servo.encs.modify (id - 0x0F4) fun (e : Encoder) => { e with quadrature := true } } }
  else s

/-- FAULT_RAISE (R310, R312). -/
def execFaultRaise (dt : Nat) (source : Fin 320) (data : BitVec 63) (condition : Bool) (s : State) : Result :=
  event dt s (fun _ => true) fun s => raise (noteSource s source.val) source.val data.toNat condition

/-- REACTION_CHECK (R312), of the oldest reaction that waits for one. -/
def execReactionCheck (dt : Nat) (nEmitHigh driveRailsLow : Bool) (s : State) : Result :=
  event dt s (fun s => s.mainOn && !s.flt.checks.isEmpty) fun s =>
    let s := { s with flt := { s.flt with checks := s.flt.checks.drop 1 } }
    if nEmitHigh && driveRailsLow then s else raise s 0x13F 0 false

/-! ### EMIT_INHIBIT (R313) -/

/-- The layer's part (Tables FLT-4, LAY-6): enable goes at once, RUN_OUT comes with the next marker. -/
def inhibitLayer (s : State) : State :=
  match s.layer.st with
  | .armed | .runUp => emitOff { s with layer := { s.layer with cutCause := some 3 } }
  | .expose =>
    let s := cutEmission s 3
    { s with layer := { s.layer with cutCause := some 3 } }
  | _ => emitOff s

/-- EMIT_INHIBIT_RISE: in every power state and every layer state. Rows it keeps from firing are lost frames (05 R125). -/
def execEmitInhibitRise (dt : Nat) (s : State) : Result :=
  event dt s (fun s => !s.flt.inhibit) fun s =>
    let s := raise { s with flt := { s.flt with inhibit := true, inForce := true } } 0x04D 0 true
    raiseLosses s (inhibitLayer s)

/-- EMIT_INHIBIT_FALL. -/
def execEmitInhibitFall (dt : Nat) (s : State) : Result :=
  event dt s (fun s => s.flt.inhibit) fun s =>
    clearCond { s with flt := { s.flt with inhibit := false, inhibitFell := s.runningTime } } 0x04D

/-- INHIBIT_HOLD_EXPIRY: low for FLT.INHIBIT_HOLD_MS. -/
def execInhibitHoldExpiry (dt : Nat) (s : State) : Result :=
  let held := fun (s : State) => decide (s.flt.inhibitFell + s.pv 0x0E20 0 * msU ≤ s.runningTime)
  event dt s (fun s => s.flt.inForce && !s.flt.inhibit && held s) fun s => { s with flt := { s.flt with inForce := false } }

/-! ### Memory errors (R319) -/

/-- The SRAM word at an offset reads 0. -/
def clearWord (s : State) (off : Nat) : State := s.poke (off / 8 * 8) (List.replicate 8 0)

/-- A pixel of a broken ring word: what it has not fired, its own carry too, is deficit. -/
def ringPixel (s : State) (k c : Nat) : State :=
  let s := s.addDeficit k c (unfired s (nextBuild s) k c)
  if s.dose.carryGroup = 1 && rowAhead s (nextBuild s) k c then
    let e := carryEntry 1 k c
    let v := carryGet s.mem e
    let s := s.onGroup (groupKey s k c) fun g => { g with deficitC := g.deficitC + v }
    { s with mem := carrySet s.mem e 0 }
  else s

/-- Dose ring: the four pixels of the word fire nothing more. -/
def ringError (s : State) (off : Nat) : State :=
  let c0 := off % 2048 / 8 * 4
  let s := match AMap.find s.dose.ring (off / 2048) with
    | some t => if t.complete && s.layer.st != .idle then (List.range 4).foldl (fun s i => ringPixel s t.line (c0 + i)) s else s
    | none => s
  clearWord s off

/-- Pass state: the carries of the word read 0, its groups are not attributed further. Group (h, j) lies at
0x004D_8000 + 20 (512 (h mod 16) + j) (DEDUCED, log entry 72). -/
def passError (s : State) (off : Nat) : State :=
  let w := off / 8 * 8
  if w < 0x4D8000 then
    let e0 := (w - 0x400000) / 3
    { s with mem := (List.range 4).foldl (fun m i => if carryAt (e0 + i) < w + 8 then carrySet m (e0 + i) 0 else m) s.mem }
  else
    let g0 := (w - 0x4D8000) / 20
    let g1 := (w + 7 - 0x4D8000) / 20
    let hit := fun (key : Nat) => decide (s.emon.rowsWritten ≤ key / 512)
      && (key % 8192 == g0 || key % 8192 == g1)
    { s with emon := { s.emon with groups := s.emon.groups.map fun e => if hit e.1 then (e.1, { e.2 with dead := true }) else e } }

/-- Emitter calibration, a word of a bracketing set: its two cells are at RATE 0 in the live table, and Keeper rewrites the word
at the next rebuild (16 R327, R328). -/
def setError (s : State) (off : Nat) : State :=
  let w := off / 8 * 8
  let live := (if s.dose.calBuf then 0x860000 else 0x740000) + (w - 0x500000) % 0x120000
  let s := s.poke live (List.replicate 8 0)
  { clearWord s w with cal := { s.cal with setLost := if s.cal.setLost.contains w then s.cal.setLost else w :: s.cal.setLost } }

/-- Photodiode calibration, a word of the learned table: it names no photodiode, and its four gains are open until they are
written again (log entry 22). -/
def learnedError (s : State) (off : Nat) : State := (s.poke (off / 8 * 8) (le 8 (s.freeBits 64))).freeTaken

/-- Billet map: the column record no longer passes its check (03 R70). -/
def billetError (s : State) (off : Nat) : State :=
  let a := billetAt ((off - 0xA00000) / 512)
  s.poke (a + 0x1FC) (le 4 (crc32c (memBytes s.mem a 0x1FC) ^^^ 1))

/-- The DMA channel that read the word ends with END 3 and STATUS CHECK_FAIL. -/
def readerEnds (s : State) (reader : Option (Fin 32)) : State :=
  match reader with
  | some k => if (s.dch k.val).st = .idle then s else dmaEnd s k.val 3 sCheckFail
  | none => s

/-- Servo tables: the entry reads 0; a test ends with END 2 and 0x0FD (08 R204). -/
def servoError (s : State) (off : Nat) : State :=
  let s := clearWord s off
  match s.servo.test with
  | some r => raise (endTest s 2) 0x0FD r.t.loop.toNat false
  | none => s

/-- A packet held in the host port buffers, by channel and SEQ, is dropped. Beyond a hole it is missing again, and the NAK of the
hole brings its retransmission (06 R150); one that waits for DMA leaves the stream broken there (log entry 62). A sent packet
stays unacknowledged, so it is retransmitted. -/
def packetError (s : State) (x : Option (Fin 64 × U32)) : State :=
  match x with
  | none => s
  | some (ch, seq) =>
    s.onChan ch.val fun c =>
      let after := (c.rxPkts.dropWhile fun p => p.seq != seq).drop 1
      { c with
        ooo := c.ooo.filter fun p => p.seq != seq
        rxPkts := (c.rxPkts.takeWhile fun p => p.seq != seq) ++ (match after with
          | p :: ps => { p with broken := true } :: ps
          | [] => [])
        broken := c.broken || (after.isEmpty && c.rxPkts.any fun p => p.seq == seq) }

/-- The effect of Table FLT-6 by region. -/
def regionEffect (s : State) (off : Nat) (reader : SramReader) : State :=
  match sramRegion off with
  | 0 => ringError s off
  | 1 => passError s off
  | 2 => if 0x740000 ≤ off then clearWord s off else setError s off
  | 3 => if off < 0x9C8000 then clearWord s off else learnedError s off
  | 4 => billetError s off
  | 5 | 8 | 10 => readerEnds s reader.dma
  | 7 => servoError s off
  | 6 | 11 => keeperReset s 4 0xFF
  | 9 => packetError s reader.packet
  | _ => s

/-- The class of Table FLT-6 by region. -/
def regionClass (off : Nat) : Nat :=
  match sramRegion off with
  | 4 => 2
  | 9 => 0
  | _ => 1

/-- Event data of 0x139: offset and region (log entry 22). -/
def regionData (off : Nat) : Nat := off + 4294967296 * sramRegion off

/-- A corrected error: counted, in its row too; the first in a bank raises 0x138 (Table FLT-2). -/
def correctedError (s : State) (off : Nat) : State :=
  let bank := off / 0x40000
  let row := bank * 1024 + off % 0x40000 / 256
  let first := !(s.bist.eccBanks.contains bank)
  let s := s.count 0x0E31 0 1
  let s := { s with bist := { s.bist with
    eccRows := AMap.put s.bist.eccRows row (AMap.get s.bist.eccRows row 0 + 1)
    eccBanks := if first then bank :: s.bist.eccBanks else s.bist.eccBanks } }
  if first then raise s 0x138 0 false else s

/-- SRAM_ERROR (R319): the DMA channel that reads the word, or the packet that holds it. -/
def execSramError (dt : Nat) (offset : U32) (corrected : Bool) (reader : SramReader) (s : State) : Result :=
  if sramSize ≤ offset.toNat then .fault (.noSuchAddress offset.toNat)
  else
    event dt s State.mainOn fun s =>
      if corrected then correctedError s offset.toNat
      else
        raiseR (regionEffect s offset.toNat reader)
          { id := 0x139, data := regionData offset.toNat, floor := regionClass offset.toNat }

/-- REGION_WRITE_BLOCKED (01 R29): the write does not happen. -/
def execRegionWriteBlocked (dt : Nat) (offset : U32) (_master : Byte) (s : State) : Result :=
  if sramSize ≤ offset.toNat then .fault (.noSuchAddress offset.toNat)
  else event dt s State.mainOn fun s => raise s 0x13A 0 false

/-- SCRUB_PASS (R319): every word is rewritten with its own value. -/
def execScrubPass (dt : Nat) (s : State) : Result := event dt s State.mainOn fun s => s

/-! ### Commands (R316, R323) -/

/-- A clear is not taken for this source: its condition is present, or it was raised in this instant. -/
def clearHeld (s : State) (id : Nat) : Bool := s.flt.cond.getLsbD id || AMap.find s.flt.tLast id == some s.time

/-- A source is active at class C4. -/
def isC4 (s : State) (id : Nat) : Bool := AMap.get s.flt.clsNow id 0 == 4 || s.faultClass id == 4

/-- FAULT_CLEAR with 0xFFFF clears every source it can. -/
def clearAll (s : State) : State :=
  ((List.range 320).filter fun k => s.flt.active.getLsbD k && !(clearHeld s k) && !(isC4 s k)).foldl clearSource s

/-- Status and active count of FAULT_CLEAR. -/
def clearAnswer (s : State) (status : U16) : Answer := .now s status (le 2 s.activeCount)

/-- FAULT_CLEAR (R316). A source that is not active has nothing to clear. -/
def execFaultClear (q : Req) (source : U16) (s : State) : Result :=
  request 0x0E01 q s (q.len == 2) fun s _ =>
    let id := source.toNat
    if source = 0xFFFF then
      let s := rearmFirst (clearAll s)
      clearAnswer s (if s.flt.active = 0 then sOK else 0x0E01)
    else if (faultSource id).isNone then clearAnswer s sRange
    else if isC4 s id then clearAnswer s sDenied
    else if !(s.flt.active.getLsbD id) then clearAnswer s sOK
    else if clearHeld s id then clearAnswer s 0x0E01
    else clearAnswer (rearmFirst (clearSource s id)) sOK

/-- An entry of FAULT_STATUS; a reserved ID reads 0. -/
def statusEntry (s : State) (id : Nat) : List Byte :=
  if (faultSource id).isNone then List.replicate 12 0
  else
    le 1 (s.faultClass id)
      ++ le 1 (bitN (s.flt.active.getLsbD id) + 2 * bitN (s.flt.cond.getLsbD id) + 4 * bitN (s.flt.raised.getLsbD id))
      ++ le 2 (AMap.get s.flt.raises id 0) ++ le 8 (time64 (AMap.get s.flt.tLast id 0))

/-- FAULT_STATUS (Table FLT-9). -/
def execFaultStatus (q : Req) (first count : U16) (s : State) : Result :=
  request 0x0E02 q s (q.len == 4) fun s w =>
    if count = 0 ∨ 64 < count.toNat ∨ 0x140 < first.toNat + count.toNat then refuse s sRange
    else sized s w ((List.range count.toNat).flatMap fun k => statusEntry s (first.toNat + k))

/-- FAULT_FIRST. -/
def execFaultFirst (q : Req) (s : State) : Result :=
  request 0x0E03 q s (q.len == 0) fun s _ => .now s sOK (firstFaultBytes s.flt.first)

/-- FAULT_INJECT (Table FLT-9). -/
def execFaultInject (q : Req) (source : U16) (s : State) : Result :=
  request 0x0E04 q s (q.len == 2) fun s _ =>
    let id := source.toNat
    if (faultSource id).isNone then refuse s sRange
    else if s.pv 0x0E21 0 ≠ 1 ∨ s.layer.st ≠ .idle ∨ id = 0x134 ∨ id = 0x13F then refuse s sDenied
    else done (raiseR s { id := id, injected := true })

end Sys2Proof.Machine
end

