-- ==== Sys2Proof/Machine/Power.lean ====
section
/-!
DEFINITION. The commands and events of the rails, of the Porter supply and of wake (13 R268 to R278).
-/

namespace Sys2Proof.Machine

/-! ### Starting and releasing (R270, R271) -/

/-- Event data of a rail source: slot in [7:0], attempts in [15:8] (log entry 67). -/
def railData (s : State) (k : Nat) : Nat := k + 256 * (s.rail k).attempts

/-- Wake is in progress: Porter starts the board slots (Table PWR-3). -/
def waking (s : State) : Bool := s.power == .porter && s.pwr.target == some 1

/-- The C4 latch holds drive slots off (R274). -/
def latchedOff (s : State) (k : Nat) : Bool := s.flt.c4.isSome && driveSlot k

/-- RAIL_DELAY_ELAPSED (Table PWR-2, WAIT → RAMP). -/
def execRailDelayElapsed (dt : Nat) (slot : Fin 32) (s : State) : Result :=
  event dt s (fun s => (s.rail slot).st == .wait && s.depsGood slot && !(latchedOff s slot)) fun s => enableSlot s slot

/-- PAGE, written before every access where the slot has one (Table PWR-4). -/
def pmbusPage (s : State) (k : Nat) : List Out :=
  if s.pv 0x011C k = 0xFF then [] else [.pmbus k 0x00 (some (BitVec.ofNat 16 (s.pv 0x011C k)))]

/-- PMBus codes are read or sent to a slot that has PMBus (Table PWR-4). -/
def pmbusRead (s : State) (k : Nat) (codes : List Byte) : State :=
  if s.pv 0x011B k = 0 then s else s.sendAll (codes.flatMap fun c => pmbusPage s k ++ [Out.pmbus k c none])

/-- RAIL_GOOD (Table PWR-2, RAMP → GOOD). -/
def execRailGood (dt : Nat) (slot : Fin 32) (mv : U16) (voutMode : Byte) (s : State) : Result :=
  event dt s (fun s => (s.rail slot).st == .ramp) fun s =>
    let s := s.onRail slot fun r => { r with st := .good, mv := mv, voutMode := voutMode, noAck := 0 }
    settlePower (pmbusRead s slot [0x20])

/-- A wake fails on a slot without which Keeper cannot run (R271): 0x000, Porter releases the board slots and stays in PORTER with
WAKE_FAIL latched, and what the waking domains held is lost (R25). -/
def wakeFails (s : State) (k : Nat) : State :=
  let n := (s.rail k).attempts
  let s := mainLost (releaseSlots (raise s 0x000 (railData s k) true) (List.range 6))
  { s with pwr := { s.pwr with wakeFail := some (k, n, time64 (porterCut s.clk.porterTime)) } }

/-- A slot enters FAILED (R271). -/
def railFailed (s : State) (k : Nat) : State :=
  let s := updateDisch (endMargin (s.onRail k fun r => { r with st := .failed, release := false }) k) k
  if waking s && decide (k < 4) then wakeFails s k
  else
    let s := blockDependants s k
    let s := { s with pwr := { s.pwr with firstFailed := some (s.pwr.firstFailed.getD k) } }
    let s := if 8 ≤ k ∧ k < 24 then chainFail s ((k - 8) / 4) else s
    settlePower (raise s 0x000 (railData s k) true)

/-- RAIL_PG_TIMEOUT (Table PWR-2, RAMP). -/
def execRailPgTimeout (dt : Nat) (slot : Fin 32) (s : State) : Result :=
  event dt s (fun s => (s.rail slot).st == .ramp) fun s =>
    if (s.rail slot).attempts < 3 then s.onRail slot fun r => { r with st := .retry } else railFailed s slot

/-- A slot in DECAY is OFF: those that waited for it go, and a start asked for meanwhile begins. -/
def railOff (s : State) (k : Nat) : State :=
  let again := (s.rail k).again
  let s := s.onRail k fun r => { r with st := .off, again := false }
  let s := settleReleases s
  settlePower (if again then startSlots s [k] else s)

/-- RAIL_DECAYED (Table PWR-2). -/
def execRailDecayed (dt : Nat) (slot : Fin 32) (mv : U16) (s : State) : Result :=
  event dt s (fun s => (s.rail slot).st == .retry || (s.rail slot).st == .decay) fun s =>
    let was := (s.rail slot).st
    let s := s.onRail slot fun r => { r with mv := mv }
    if was = .retry then enableSlot s slot else railOff s slot

/-- RAIL_DECAY_TIMEOUT (R270, R273). -/
def execRailDecayTimeout (dt : Nat) (slot : Fin 32) (s : State) : Result :=
  event dt s (fun s => (s.rail slot).st == .retry || (s.rail slot).st == .decay) fun s =>
    if (s.rail slot).st = .retry then enableSlot s slot else raise (railOff s slot) 0x005 (railData s slot) false

/-! ### Supervision (R272) -/

/-- Slots that depend on a slot, directly or through others. -/
def dependants (s : State) (k : Nat) : List Nat := (List.range 32).filter fun j => (depReach s.params j).testBit k

/-- A lost slot: its dependants at once, then itself. -/
def dropLost (s : State) (k : Nat) (mv : U16) : State :=
  let s := s.onRail k fun r => { r with mv := mv }
  dropSlots s ((dependants s k).filter (fun j => j != k) ++ [k])

/-- The source of a lost slot (R272, 05 R140). -/
def lostSource (s : State) (k : Nat) : Nat :=
  if k < 8 then 0x001 else if 28 ≤ k then 0x003 else if s.layer.st = .idle then 0x002 else 0x0AB

/-- RAIL_OVERVOLTAGE: a tile-lane slot. -/
def execRailOvervoltage (dt : Nat) (slot : Fin 32) (mv : U16) (s : State) : Result :=
  event dt s (fun s => s.mainOn && decide (8 ≤ slot.val) && decide (slot.val < 28) && (s.rail slot).st == .good) fun s =>
    raise (raise (dropLost s slot mv) (lostSource s slot) (railData s slot) false) 0x004 (railData s slot) false

/-! ### PMBus (Table PWR-4) -/

/-- An access, with the PAGE before it, without acknowledgement; the third in a row raises 0x006. A write is acknowledged, and ends
the row (log entry 67). -/
def pmbusNoAck (s : State) (k : Nat) : State :=
  let n := (s.rail k).noAck + 1
  let s := s.onRail k fun r => { r with noAck := if 3 ≤ n then 0 else n }
  if 3 ≤ n then raise s 0x006 (railData s k) false else s

/-- The three accesses of an event all go without acknowledgement. -/
def pmbusMiss (s : State) (k : Nat) : State := pmbusNoAck (pmbusNoAck (pmbusNoAck s k) k) k

/-- Fault bits of STATUS_VOUT and STATUS_IOUT (PRESUMED, log entry 67: PMBus 1.3). -/
def pmbusFault (vout iout : Byte) : Bool := vout &&& 0x94 != 0 || iout &&& 0xDA != 0

/-- PMBUS_ALERT: the status registers are read. -/
def execPmbusAlert (dt : Nat) (slot : Fin 32) (status : Option (U16 × Byte × Byte)) (s : State) : Result :=
  event dt s (fun s => s.mainOn && s.pv 0x011B slot != 0) fun s =>
    let s := pmbusRead s slot [0x79, 0x7A, 0x7B]
    match status with
    | none => pmbusMiss s slot
    | some (_, v, i) =>
      let s := s.onRail slot fun r => { r with noAck := 0 }
      if pmbusFault v i then raise (pmbusRead s slot [0x03]) 0x007 (railData s slot) false else s

/-- PMBUS_POLL: output voltage, current and temperature. -/
def execPmbusPoll (dt : Nat) (slot : Fin 32) (readings : Option (U16 × U16 × U16)) (s : State) : Result :=
  event dt s (fun s => s.mainOn && s.pv 0x011B slot != 0) fun s =>
    let s := pmbusRead s slot [0x8B, 0x8C, 0x8D]
    match readings with
    | none => pmbusMiss s slot
    | some (v, i, t) => s.onRail slot fun r => { r with vout := v, iout := i, temp := t, noAck := 0 }

/-! ### Commands (Table PWR-8) -/

/-- PWR_STATE (R275). -/
def execPwrState (q : Req) (target : Byte) (s : State) : Result :=
  request 0x0101 q s (q.len == 1) fun s w =>
    if targetStatus s target.toNat ≠ 0 then refuse s (targetStatus s target.toNat)
    else .later (applyTarget s target.toNat (some w))

/-- PWR_RAIL (R286): a group-0 slot; one that would enable a drive slot under C4 is DENIED (R274). -/
def execPwrRail (q : Req) (slot on : Byte) (s : State) : Result :=
  request 0x0102 q s (q.len == 2) fun s _ =>
    let k := slot.toNat
    if k < 6 ∨ 31 < k ∨ 1 < on.toNat then refuse s sRange
    else if s.pv 0x0112 k ≠ 0 then refuse s sBadState
    else if on = 1 ∧ driveSlot k = true ∧ s.flt.c4.isSome = true then refuse s sDenied
    else done (settlePower (if on = 1 then startSlots s [k] else releaseSlots s [k]))

/-- Margin target of a slot, mV × 1 000. -/
def marginTarget (s : State) (k dir permille : Nat) : Nat :=
  s.pv 0x0110 k * (if dir = 1 then 1000 + permille else 1000 - permille)

/-- ULINEAR16 code of a target in mV × 1 000 under VOUT_MODE's exponent (R278). -/
def marginCode (target : Nat) (voutMode : Byte) : Nat :=
  let n := ofField 5 (voutMode.toNat % 32)
  if n < 0 then divHalfUp (target * 2 ^ n.natAbs) 1000000 else divHalfUp target (1000000 * 2 ^ n.natAbs)

/-- A slot returns to nominal: by OPERATION, by the trim at mid-scale, or not at all. -/
def marginNominal (s : State) (k : Nat) : State :=
  let s := endMargin s k
  if s.pv 0x011A k = 1 then (s.onRail k fun r => { r with noAck := 0 }).sendAll (pmbusPage s k ++ [.pmbus k 0x01 (some 0x80)]) else s

/-- The PMBus writes of a margin (Table PWR-4). A code beyond 16 bits is an open value. -/
def marginPmbus (s : State) (k dir code : Nat) : State :=
  let (c, s) := if code < 65536 then (code, s) else (s.freeBits 16, s.freeTaken)
  let page := pmbusPage s k
  (s.onRail k fun r => { r with noAck := 0 }).sendAll (page ++ [Out.pmbus k (if dir = 1 then 0x25 else 0x26) (some (BitVec.ofNat 16 c))] ++ page
    ++ [Out.pmbus k 0x01 (some (if dir = 1 then 0xA8 else 0x98))])

/-- Limits of a margin by slot (R278, R389). -/
def marginRange (s : State) (k dir permille : Nat) : Bool :=
  decide (dir ≤ 2) && decide (permille ≤ 100)
    && !((k == 0 || k == 1 || k == 3 || k == 5) && decide (50 < permille))
    && !((k == 2 || k == 4) && decide (30 < permille))
    && !(decide (8 ≤ k) && decide (k < 28) && dir != 0 && decide (5500000 < marginTarget s k dir permille))

/-- PWR_MARGIN (R278). With MARGIN_MODE 0 a slot has no means of margining: BAD_STATE (log entry 67). -/
def execPwrMargin (q : Req) (slot dir permille : Byte) (s : State) : Result :=
  request 0x0103 q s (q.len == 3) fun s w =>
    let k := slot.toNat; let d := dir.toNat
    if 31 < k then refuse s sRange
    else if !(marginRange s k d permille.toNat) then refuse s sRange
    else if (s.rail k).st ≠ .good ∨ (8 ≤ k ∧ k < 28 ∧ s.layer.st ≠ .idle) ∨ s.pv 0x011A k = 0 then refuse s sBadState
    else if (s.rail k).w.isSome then refuse s sBusy
    else if d = 0 then done (marginNominal s k)
    else
      let t := marginTarget s k d permille.toNat
      let high := d == 1
      if s.pv 0x011A k = 1 then
        if (s.rail k).voutMode.toNat / 32 ≠ 0 then refuse s 0x0104
        else done (marginPmbus (s.onRail k fun r => { r with margin := some (divHalfUp t 1000, high) }) k d (marginCode t (s.rail k).voutMode))
      else .later (s.onRail k fun r => { r with margin := some (divHalfUp t 1000, high), w := some w })

/-- MARGIN_TRIM_DONE (R278). -/
def execMarginTrimDone (dt : Nat) (slot : Fin 32) (reached : Bool) (trim : BitVec 12) (s : State) : Result :=
  event dt s (fun s => s.mainOn && (s.rail slot).w.isSome) fun s =>
    match (s.rail slot).w with
    | none => s
    | some w =>
      if reached then answer (s.onRail slot fun r => { r with w := none, trim := trim }) w 0 [] else endMargin s slot

/-- PWR_RAIL_STATUS. -/
def execPwrRailStatus (q : Req) (slot : Byte) (s : State) : Result :=
  request 0x0104 q s (q.len == 1) fun s _ =>
    let r := s.rail slot.toNat
    if 31 < slot.toNat then refuse s sRange
    else .now s sOK (le 1 (railCode r.st) ++ le 2 r.mv.toNat ++ le 1 (r.attempts - 1) ++ le 2 r.vout.toNat ++ le 2 r.iout.toNat)

/-! ### Porter supply and wake (R26, R276, R277) -/

/-- VSTBY_LOST: with no phantom power either, OFF. -/
def execVstbyLost (dt : Nat) (s : State) : Result :=
  event dt s (fun s => s.pwr.vstby) fun s =>
    let s := raise { s with pwr := { s.pwr with vstby := false, foldback := false } } 0x008 0 true
    if s.pwr.phantom then s else porterLost s

/-- PHANTOM_LOST: with no VSTBY either, OFF. -/
def execPhantomLost (dt : Nat) (s : State) : Result :=
  event dt s (fun s => s.pwr.phantom) fun s =>
    let s := raise { s with pwr := { s.pwr with phantom := false } } 0x009 0 true
    if s.pwr.vstby then s else porterLost s

/-- Porter is powered from OFF. Its crystal becomes ready unless a failure comes (14 R287; log entry 14). -/
def porterOn (s : State) : State :=
  if s.power = .off then { s with power := .porter, clk := { s.clk with porterCrystal := true } } else s

/-- VSTBY_RETURN: port B sources phantom power again (R26, R276). -/
def execVstbyReturn (dt : Nat) (s : State) : Result :=
  event dt s (fun s => !s.pwr.vstby) fun s => clearCond (porterOn { s with pwr := { s.pwr with vstby := true } }) 0x008

/-- PHANTOM_RETURN (R26). -/
def execPhantomReturn (dt : Nat) (s : State) : Result :=
  event dt s (fun s => !s.pwr.phantom) fun s => clearCond (porterOn { s with pwr := { s.pwr with phantom := true } }) 0x009

/-- PHANTOM_OVERCURRENT: port B folds back (R276). The event data is the port (R284). -/
def execPhantomOvercurrent (dt : Nat) (s : State) : Result :=
  event dt s (fun s => s.pwr.vstby && !s.pwr.foldback) fun s =>
    raise { s with pwr := { s.pwr with foldback := true } } 0x018 1 false

/-- PHANTOM_FOLDBACK_END (R276). -/
def execPhantomFoldbackEnd (dt : Nat) (s : State) : Result :=
  event dt s (fun s => s.pwr.foldback) fun s => { s with pwr := { s.pwr with foldback := false } }

/-- A wake event holds: WAKE_TIME set and reached, or the others as they come. -/
def wakeHolds (s : State) (c : WakeCause) : Bool :=
  match c with
  | .wakeTime => s.pv 0x0132 0 != 0 && decide (s.pv 0x0132 0 ≤ time64 (porterCut s.clk.porterTime))
  | _ => true

/-- A received wake pattern goes out of the other port. -/
def repeatPattern (s : State) (c : WakeCause) : State :=
  match c with
  | .pattern port => s.send (.stageMarker (port == 1) (port == 0) 2)
  | _ => s

/-- Conditions of the pins that Porter holds, as fault collection finds them at a wake: EMIT_INHIBIT high, VSTBY and phantom
power absent (15 R310). -/
def heldConds (s : State) : BitVec 320 :=
  setBit (setBit (setBit s.flt.cond 0x04D s.flt.inhibit) 0x008 (!s.pwr.vstby)) 0x009 (!s.pwr.phantom)

/-- Porter starts the board slots, and 0x04D is raised where EMIT_INHIBIT is high (15 R313); the counter
starts from Porter's value, of 15 fraction bits (14 R294). A Porter crystal that failed while Main was off is raised now (14 R290). -/
def startWake (s : State) : State :=
  let s := { s with
    time := porterCut s.clk.porterTime
    clk := { s.clk with holdover := true, porterCrystal := !s.clk.degraded }
    pwr := { s.pwr with target := some 1 }
    flt := { s.flt with initLow := true, cond := heldConds s } }
  let s := startSlots s (List.range 6)
  let s := if s.flt.inhibit then raise s 0x04D 0 true else s
  if s.clk.degraded then raise s 0x032 0 true else s

/-- WAKE_EVENT (R277): in PORTER the device wakes; an event during the self-test is held (18 R376). With Main awake a wake
pattern is repeated as the other markers are (R279), and nothing else happens. -/
def execWakeEvent (dt : Nat) (cause : WakeCause) (s : State) : Result :=
  event dt s (fun s => wakeHolds s cause && s.power != .off) fun s =>
    if s.bist.running then { s with bist := { s.bist with wakeWaits := true, wakeHeld := true } }
    else
    let s := repeatPattern s cause
    if s.power = .porter ∧ waking s = false then startWake s
    else s

end Sys2Proof.Machine
end

