-- ==== Sys2Proof/Machine/Security.lean ====
section
/-!
DEFINITION. The shut-down self-test, the start from its result, and secure boot (18 R374 to R387; 17 R343, R348, R359, R367,
R370).
-/

namespace Sys2Proof.Machine

/-! ### Row repair (R377) -/

/-- The rows to repair, as bank × 1024 + row: those that failed the test, then those with many corrected errors. -/
def repairRows (s : State) (failing : List (Fin 96 × Fin 1024)) : List Nat :=
  let bad := failing.map fun r => r.1.val * 1024 + r.2.val
  let worn := (s.bist.eccRows.filter fun e => decide (s.bist.shut.2 ≤ e.2)).map (·.1)
  (bad ++ worn).dedup

/-- Repairs a row: a spare of its own bank, then a row of the general pool, while OTP has an entry free. -/
def repairSramRow (b : Bist) (row : Nat) : Bist :=
  let bank := row / 1024
  let used := AMap.get b.spares bank 0
  if 1024 ≤ b.otpUsed then { b with rowsUnrepaired := b.rowsUnrepaired + 1 }
  else if used < 8 then
    { b with spares := AMap.put b.spares bank (used + 1), otpUsed := b.otpUsed + 1, rowsRepaired := b.rowsRepaired + 1 }
  else if b.poolBytes + 256 ≤ 0x10000 then
    { b with poolBytes := b.poolBytes + 256, otpUsed := b.otpUsed + 1, rowsRepaired := b.rowsRepaired + 1 }
  else { b with rowsUnrepaired := b.rowsUnrepaired + 1 }

/-! ### The result record (R374, R376) -/

/-- The record of a test that ran to its end. -/
def testRecord (s : State) (i : SelfTestInputs) : Bist :=
  let b : Bist := { s.bist with rowsRepaired := 0, rowsUnrepaired := 0, partFail := i.partFail, durationUs := i.durationUs, zeroised := true }
  let b := (repairRows s i.failingRows).foldl repairSramRow b
  { b with
    eccRows := []
    repaired := b.rowsRepaired != 0
    result := if i.partFail ≠ 0 ∨ b.rowsUnrepaired ≠ 0 then 3 else if b.rowsRepaired ≠ 0 then 2 else 1 }

/-- The record of a test that did not run its tests: RESULT 4 or 5, no partition and no row judged. -/
def noTest (b : Bist) (result : Nat) (zeroised : Bool) (us : U32) : Bist :=
  { b with result := result, zeroised := zeroised, repaired := false, partFail := 0, rowsRepaired := 0, rowsUnrepaired := 0, durationUs := us }

/-- The record of this shut-down. -/
def shutRecord (s : State) (i : SelfTestInputs) : Bist :=
  if !s.bist.running then { noTest s.bist 4 false 0 with tTest := 0, wakeHeld := false }
  else if !i.zeroReadBack then { noTest s.bist 4 false i.durationUs with wakeHeld := s.bist.wakeWaits }
  else { testRecord s i with wakeHeld := s.bist.wakeWaits }

/-- Main goes: the record lies in Porter, the board slots are released, a held wake is served. -/
def toPorter (s : State) (b : Bist) : State :=
  let held := s.bist.running && s.bist.wakeWaits
  let s := releaseSlots (mainLost { s with bist := b }) (List.range 6)
  if held then startWake s else s

/-- The shut-down has nothing but the board slots left to release (13 R273). -/
def shutReleased (s : State) : Bool :=
  s.mainOn && s.pwr.target == some 3 && slotsOff s ((List.range 26).map (· + 6)) && (s.bist.running || s.bist.shut.1 == 0)

/-- SHUTDOWN_SELF_TEST (R374). -/
def execShutdownSelfTest (dt : Nat) (inputs : SelfTestInputs) (s : State) : Result :=
  event dt s shutReleased fun s => toPorter s (shutRecord s inputs)

/-- The test ends at once with RESULT 5 (R376). Whether zeroisation had read back is open, and with it which rows it had found and
repaired; those repairs stay in force (log entry 6). -/
def interruptTest (s : State) : State :=
  let z := s.freeBits 1 == 1
  let rows := if z then ((Config.openRows s.free).filter fun r => decide (r < 96 * 1024)).dedup else []
  let s := s.freeTaken
  let b := rows.foldl repairSramRow s.bist
  let s := { s with bist := { s.bist with otpUsed := b.otpUsed, spares := b.spares, poolBytes := b.poolBytes } }
  toPorter s { noTest s.bist 5 z (BitVec.ofNat 32 ((s.time - s.bist.tTest) / usU)) with wakeHeld := s.bist.wakeWaits }

/-- SELF_TEST_INTERRUPT (R376). -/
def execSelfTestInterrupt (dt : Nat) (s : State) : Result :=
  event dt s (fun s => s.mainOn && s.bist.running) interruptTest

/-- RAIL_LOST. Without RAIL00 to RAIL03 Main loses power, which ends a running self-test (18 R376). -/
def execRailLost (dt : Nat) (slot : Fin 32) (mv : U16) (s : State) : Result :=
  event dt s (fun s => (s.mainOn || s.flt.initLow) && (s.rail slot).st == .good) fun s =>
    let t := raise (dropLost s slot mv) (lostSource s slot) (railData s slot) false
    if s.bist.running && decide (slot.val < 4) then interruptTest t else t

/-! ### The start (R378, R379) -/

/-- Porter holds a usable record. -/
def recordHeld (b : Bist) : Bool := decide (1 ≤ b.result) && decide (b.result ≤ 3)

/-- Failed partitions are brought into force and reported. -/
def applyFailed (s : State) (f : U64) : State :=
  let s := { s with bist := { s.bist with failed := f }, keep := { s.keep with mb7 := servedByMb7 f s.keep.mbBad } }
  let core := if f.getLsbD 0 then 1 else if f.getLsbD 1 then 2 else 0
  let s := replaceCore s core
  if f = 0 then s else raise s 0x13D f.toNat (noReserve s)

/-! ### The store at a start (17 R359, R367) -/

/-- The newest valid bank; among several, the lowest 2p + b. -/
def newestBank (k : Keeper) : Option Nat :=
  let good := k.banks.filter fun e => bankValid e.1 e.2
  (good.find? fun a => good.all fun b => !(serialLater b.2.seq a.2.seq)).map (·.1)

/-- User words and PD_GAIN go to the positions where their tiles were last seen, the rest to the shelf (16 R326). -/
def loadUser (s : State) (im : StoreImage) : State :=
  let here := (List.range 72).filterMap fun k => (serialAt s k).map fun n => (k, n)
  let s := here.foldl (fun s e => (placeWords s e.1 (AMap.get im.user e.2 [])).pput 0x0F24 e.1 (AMap.get im.pdGain e.2 0x4000)) s
  let rest := im.user.filter fun e => !(here.any fun h => h.2 == e.1)
  { s with cal := { s.cal with shelf := rest.map fun e => (e.1, (e.2, AMap.get im.pdGain e.1 0x4000)) } }

/-- What the store holds comes into force. PWR.WAKE_TIME is Porter's. -/
def loadImage (s : State) (im : StoreImage) : State :=
  let wake := AMap.keep s.params fun k => k == 0x0132 * 256
  let s := { s with params := wake.foldl (fun (m : AMap Nat) (e : Nat × Nat) => AMap.put m e.1 e.2) im.params }
  loadUser { s with
    therm := { s.therm with
      bandTime := im.bandSec.map fun t => t * secU
      saved := (im.bandSec, im.tjMean), tjSum := im.tjMean * im.tjCount, tjCount := im.tjCount }
    keep := { s.keep with erases := im.erases, others := im.others }
    clk := { s.clk with taiUtc := im.taiUtc } } im

/-- The flash is found usable or not (17 R364) and the store is read; with no valid bank, record 0x0003 (17 R403). PART_FAIL of the
image is returned. -/
def readStore (s : State) : State × U64 :=
  let fits := flashFits s.keep.flash
  let n := if fits then newestBank s.keep else none
  let im := (n.bind fun b => AMap.find s.keep.banks b).map (·.image)
  let s := { s with keep := { s.keep with newest := n, badBanks := [], flashOk := fits } }
  match im with
  | some im => (loadImage s im, im.partFail)
  | none => (gbRecord { s with keep := { s.keep with pairCommits := 0 } } 0 3 0, 0)

/-! ### Secure boot (R380, R381; 17 R370) -/

/-- A trial image: started now if it has not run, else abandoned. -/
def bootTrial (s : State) : State :=
  if !s.keep.fwTrial then s
  else if s.keep.trialRuns then abandonTrial s 2
  else { s with keep := { s.keep with trialRuns := true } }

/-! ### BOOT -/

/-- The board slots are settled and Keeper's are GOOD (13 R271). -/
def boardReady (s : State) : Bool := (List.range 4).all (fun k => (s.rail k).st == .good) && railSettled s 4 && railSettled s 5

/-- Port parameters at the wake (06 R158). -/
def portsInUse (s : State) : AMap Nat := AMap.keep s.params fun k => decide (0x0710 * 256 ≤ k) && decide (k < 0x0717 * 256)

/-- Main runs: STANDBY, the store read, the self-test's result in force, the image chosen. -/
def boot (s : State) : State :=
  let s := { s.toPower .standby with
    flt := { s.flt with initLow := false }
    keep := { s.keep with running := true }
    stage := { s.stage with sweepAt := s.time }
    therm := { s.therm with lastPub := s.time }
    house := { s.house with heaters := s.house.heaters.map fun h => { h with c4Off := s.flt.c4.isSome } }
    drv := s.drv.map fun d => { d with ofs := factoryOffsets s.time } }
  let (s, stored) := readStore s
  let s := latchClock { s with host := { s.host with inUse := portsInUse s } }
  let held := recordHeld s.bist
  let s := if held then ({ s with keep := { s.keep with mbBad := 0 } }).wear 1 1 else gbRecord s 0x10 1 0
  let s := bootImage (bootTrial (learnReset (loadDir s)))
  applyTarget (applyFailed s (if held then s.bist.partFail else stored)) 1 none

/-- BOOT (R378). -/
def execBoot (dt : Nat) (s : State) : Result := event dt s (fun s => waking s && boardReady s) boot

/-! ### Commands (R387) -/

/-- BIST_RESULT_READ. -/
def execBistResultRead (q : Req) (s : State) : Result :=
  request 0x1001 q s (q.len == 0) fun s _ => if s.bist.result = 0 then refuse s sNotPresent else .now s sOK (bistRecord s.bist)

/-- SEC_IDENT_GET (R383). -/
def execSecIdentGet (q : Req) (s : State) : Result :=
  request 0x1002 q s (q.len == 0) fun s _ => .now s sOK (le 8 Config.unitId.toNat ++ identityPublic ++ identityCert)

/-- WEAR_READ: Waybill block 14. -/
def execWearRead (q : Req) (s : State) : Result :=
  request 0x1003 q s (q.len == 0) fun s _ => .now s sOK (wbBlock s (wbSecurity s))

end Sys2Proof.Machine
end

