-- ==== Sys2Proof/Machine/House.lean ====
section
/-!
DEFINITION. Meanings of the housekeeping, heater and thermal events and commands (11 R243 to R257, 12 R264, R265).
-/

namespace Sys2Proof.Machine

/-! ### Events -/

/-- ROUND_START (R243, R256): the round takes HK.ROUND_MS and the chamber parameters as they stand. -/
def execRoundStart (dt : Nat) (s : State) : Result :=
  event dt s (fun s => s.mainOn && (s.house.roundAt == 0 || decide (s.house.roundAt + s.house.roundMs * msU ≤ s.time))) fun s =>
    let kept := AMap.keep s.params fun k => decide (0x0C20 * 256 ≤ k) && decide (k < 0x0C28 * 256)
    { s with house := { s.house with roundAt := s.time, roundMs := s.pv 0x0C10 0, cio := kept } }

/-- ROUND_PUBLISH (R243). -/
def execRoundPublish (dt : Nat) (inputs : RoundInputs) (s : State) : Result :=
  event dt s State.mainOn fun s => publishRound s inputs

/-- A half-cycle lies in the band of 45 Hz to 65 Hz (R250). -/
def halfGood (t : Nat) : Bool := decide (secU ≤ t * 130) && decide (t * 90 ≤ secU)

/-- MAINS_ZERO_CROSS (R249 to R251): a lost line is found at the fourth good crossing in a row; the outputs on the line
decide. -/
def execMainsZeroCross (dt : Nat) (line : Fin 2) (positive : Bool) (s : State) : Result :=
  event dt s State.mainOn fun s =>
    let m := s.line line
    let half := (m.lastZc.map fun t => s.time - t).getD 0
    let good := if m.lost && halfGood half then m.good + 1 else 0
    let found := m.lost && decide (4 ≤ good)
    let whole := m.lastZc.isSome && !m.lost
    let s := s.onLine line fun m => { m with
      lastZc := some s.time, half := half, halves := if whole then m.halves + 1 else 0
      dur := if whole then m.dur + half else 0, lost := m.lost && !found, good := if found then 0 else good }
    let s := if found then clearCond s (0x105 + line) else s
    (List.range 32).foldl (crossHeater line positive) s

/-- 1.5 half-cycles at the last measured frequency, or before one by the last half-cycle (R250). -/
def lossTime (m : Mains) : Nat := if m.freq = 0 then m.half * 3 / 2 else 75 * secU / m.freq

/-- MAINS_LOST (R250). -/
def execMainsLost (dt : Nat) (line : Fin 2) (s : State) : Result :=
  event dt s (fun s => s.mainOn && !(s.line line).lost && (match (s.line line).lastZc with
    | some t => decide (t + lossTime (s.line line) < s.time)
    | none => false)) fun s => loseLine s line

/-- HEATER_PWM_PERIOD (R252): an output in PWM mode, or one that is off and is to enter it. -/
def execHeaterPwmPeriod (dt : Nat) (heater : Fin 32) (s : State) : Result :=
  event dt s (fun s => s.readyOn && ((s.heater heater).mode == 2 || ((s.heater heater).mode == 0 && s.pv 0x0C30 heater == 2)))
    fun s => pwmPeriod s heater

/-- ANALOGUE_TRIP (12 R264): 0x134, division by 2 held, the Exposure, Link and Data engine clocks gated; a shut-down
self-test ends at once (18 R376). -/
def execAnalogueTrip (dt : Nat) (s : State) : Result :=
  event dt s State.mainOn fun s =>
    let s := raise { s with therm := { s.therm with tripped := true, div2 := true } } 0x134 0 true
    if s.bist.running then interruptTest s else s

/-- WEAR_SAVE (12 R265): band times and mean go to what the store keeps. -/
def execWearSave (dt : Nat) (s : State) : Result :=
  event dt s (fun s => s.mainOn && s.keep.running) fun s =>
    markDirty { s with therm := { s.therm with saved := (s.therm.bandTime.map fun t => satN 32 (t / secU), tjMean s.therm) } }

/-! ### Commands (Table HKP-7) -/

/-- An entry of HK_READ (Table HKP-5). -/
def hkEntry (e : ChEntry) : List Byte := leI 4 e.value ++ [e.flags, 0, 0, 0] ++ le 8 (time64 e.t)

/-- HK_READ. -/
def execHkRead (q : Req) (first count : Byte) (s : State) : Result :=
  request 0x0C01 q s (q.len == 2) fun s w =>
    if count = 0 ∨ 128 < first.toNat + count.toNat then refuse s sRange
    else sized s w (le 4 s.house.rounds.toNat ++ ((List.range count.toNat).map fun i => hkEntry (s.hk (first.toNat + i))).flatten)

/-- HTR_OT_RESET (R253). -/
def execHtrOtReset (q : Req) (heater : Byte) (s : State) : Result :=
  request 0x0C02 q s (q.len == 1) fun s _ =>
    let k := heater.toNat
    let src := s.pv 0x0C36 k
    if 31 < k then refuse s sRange
    else if (s.heater k).cut = false then refuse s sBadState
    else if src ≠ 255 ∧ ((s.hk src).flags &&& fValid = 0 ∨ s.pvI 32 0x0C37 k - s.pv 0x0C38 k ≤ (s.hk src).value) then refuse s 0x0C01
    else
      let s := s.onHeater k fun h => { h with cut := false }
      done (if (List.range 32).any fun j => (s.heater j).cut then s else clearCond s 0x104)

end Sys2Proof.Machine
end

