-- ==== Sys2Proof/Machine/Keeper.lean ====
section
/-!
DEFINITION. The commands and events of Keeper, the mailboxes, the register window, the store and the firmware slots
(17 R342 to R373).
-/

namespace Sys2Proof.Machine

/-! ### Keeper (R343, R344) -/

/-- The third trip of an active core within an hour asks for the reserve at the next start. -/
def askReserve (s : State) (core : Nat) : State :=
  let n := ((s.keep.tripTimes.getD core []).filter fun t => decide (s.time ≤ t + 3600 * secU)).length
  if core < 2 ∧ 3 ≤ n ∧ s.keep.replaced = 0 then { s with keep := { s.keep with replaceNext := core + 1 } } else s

/-- KEEPER_WATCHDOG_TRIP (R343). -/
def execKeeperWatchdogTrip (dt : Nat) (core : Fin 3) (s : State) : Result :=
  event dt s (fun s => s.mainOn && s.keep.running && (activeCores s).contains core.val) fun s =>
    let k := s.keep
    let s := { s with keep := { k with
      trips := (k.trips + 1) % 65536, tripTimes := k.tripTimes.modify core.val fun l => s.time :: l } }
    raise (keeperReset (askReserve s core.val) 1 core.val) 0x13B 0 false

/-- The image that a restart runs: PREVIOUS where a watchdog trip ends a trial, the new slot under FW_ACTIVATE (R369,
R370). An image below SEC.ROLLBACK never runs again: the boot ROM chooses (18 R382). -/
def restartImage (s : State) (cause : Nat) : State :=
  let s :=
    if cause = 1 && s.keep.fwTrial then abandonTrial s 1
    else if cause = 3 then { s with keep := { s.keep with fwRun := s.keep.fwActive, trialRuns := s.keep.fwTrial, recovery := false } }
    else s
  if slotSec s.keep s.keep.fwRun < s.bist.rollback then bootImage s else s

/-- KEEPER_RESTART_DONE (R343). -/
def execKeeperRestartDone (dt : Nat) (s : State) : Result :=
  event dt s (fun s => s.mainOn && !s.keep.running && s.keep.cause.isSome) fun s =>
    match s.keep.cause with
    | none => s
    | some (cause, core, t) =>
      let next := s.keep.replaceNext
      let s := { s with keep := { s.keep with running := true, cause := none, replaceNext := 0 } }
      let s := gbWriteAt s t 0 0 3 0 0 (cause + 256 * core)
      mb4Copy (deliverHeld (answerBusy (replaceCore (restartImage s cause) next)))

/-- LOAD_WINDOW (R344). -/
def execLoadWindow (dt : Nat) (load : BitVec 7) (s : State) : Result :=
  event dt s (fun s => s.mainOn && s.keep.running) fun s =>
    let s := { s with keep := { s.keep with loads := (min load.toNat 100 :: s.keep.loads).take 10 } }
    let mean := keepLoad s.keep
    match s.keep.deferAt with
    | none =>
      if mean ≤ 90 then s
      else gbRecord ({ s with keep := { s.keep with deferAt := some s.time } }.count 0x0022 0 1) 0 1 mean
    | some _ =>
      if 75 ≤ mean then s
      else
        let s := { s with keep := { s.keep with deferAt := none } }
        if s.keep.commitWait.isNone then s
        else let (fl, s) := freeFlash s; commitNow s fl

/-- REQUEST_AGING (R352): the request with this TAG that has waited long enough rises one class. -/
def agedEntry (t : Nat) (tag : U16) (e : QEntry) : Bool :=
  e.tag == tag && ((e.cls == 0 && decide (e.since + 250 * msU ≤ t)) || (e.cls == 1 && decide (e.since + 50 * msU ≤ t)))

/-- The entries of a queue after one of them has aged. -/
def ageFirst (t : Nat) (tag : U16) : List QEntry → List QEntry
  | [] => []
  | e :: es => if agedEntry t tag e then { e with cls := e.cls + 1, aged := true, since := t } :: es else e :: ageFirst t tag es

/-- REQUEST_AGING (R352). -/
def execRequestAging (dt : Nat) (mb : Fin 7) (tag : U16) (s : State) : Result :=
  event dt s (fun s => s.mainOn && (s.keep.queues.getD mb.val []).any (agedEntry s.time tag)) fun s =>
    let sub := match (s.keep.queues.getD mb.val []).find? (agedEntry s.time tag) with
      | some e => 1 + e.cls.toNat
      | none => 1
    let s := s.count 0x0022 sub 1
    { s with keep := { s.keep with queues := s.keep.queues.modify mb.val (ageFirst s.time tag) } }

/-! ### Sessions (R355 to R357) -/

/-- SESSION_TIMEOUT (R355). -/
def execSessionTimeout (dt : Nat) (mb : Fin 4) (s : State) : Result :=
  event dt s (fun s => s.mainOn && (match s.session mb.val with
    | some x => decide (x.lastRx + s.pv 0x0011 0 * msU ≤ s.time)
    | none => false)) fun s => endSession s mb.val

/-- CLAIM_WINDOW_CLOSE (R357): decided once every claim of the window has been taken. -/
def execClaimWindowClose (dt : Nat) (s : State) : Result :=
  event dt s (fun s => s.mainOn && s.keep.running && (match s.keep.claims with
    | some (t, _) => decide (claimEnd s t ≤ s.time)
    | none => false) && !(claimQueued s)) closeWindow

/-- SESSION_OPEN (R355). -/
def execSessionOpen (q : Req) (force : Byte) (s : State) : Result :=
  request 0x0006 q s (q.len == 1) fun s _ =>
    if 4 ≤ q.mb.val then refuse s sDenied
    else if (s.session q.mb.val).isSome && force != 1 then refuse s sDenied
    else
      let s := endSession s q.mb.val
      let first := s.keep.granted.getD (s.freeBits 16)
      let s := if s.keep.granted.isNone then s.freeTaken else s
      let n := nextId s 6 first
      let x : Session := { id := BitVec.ofNat 16 n, lastRx := s.time }
      .now { s with keep := { s.keep with sessions := s.keep.sessions.set q.mb.val (some x), granted := some ((n + 1) % 65536) } } sOK (le 2 n)

/-- SESSION_CLOSE (R355): answered, then ended. -/
def execSessionClose (q : Req) (s : State) : Result :=
  request 0x0007 q s (q.len == 0) fun s w =>
    if (s.session q.mb.val).isNone then refuse s sBadState else .later (endSession (answer s w sOK []) q.mb.val)

/-- SESSION_CLAIM (R357). -/
def execSessionClaim (q : Req) (force : Byte) (s : State) : Result :=
  request 0x0008 q s (q.len == 1) fun s w =>
    match s.session q.mb.val with
    | none => refuse s sBadState
    | some x => .later (takeClaim s { w := w, session := x.id, force := force == 1 })

/-! ### Register window (R345 to R347) -/

/-- The window and the SPI answer: Main runs and the shut-down self-test does not. -/
def windowOn (s : State) : Bool := s.mainOn && !s.bist.running

/-- MB4_REQ_DOORBELL (R347). -/
def execMb4ReqDoorbell (dt : Nat) (s : State) : Result := event dt s (fun s => windowOn s && !(mailboxDead s 4)) mb4Request

/-- MB4_ACK_DOORBELL (R347). -/
def execMb4AckDoorbell (dt : Nat) (s : State) : Result := event dt s windowOn mb4Ack

/-- TIME_NOW_READ (R346). -/
def execTimeNowRead (dt : Nat) (s : State) : Result := event dt s windowOn latchTime

/-- REGISTER_WRITE (R345). -/
def execRegisterWrite (dt : Nat) (path : WindowPath) (offset : BitVec 12) (value : U32) (s : State) : Result :=
  event dt s windowOn fun s =>
    match path with
    | .spi => spiWrite s offset.toNat value.toNat
    | .transport => windowAccess s ([2, 0] ++ le 2 1 ++ le 4 offset.toNat ++ le 4 value.toNat)

/-! ### Reports (R372) -/

/-- KEEP_IDENT: Waybill block 1. -/
def execKeepIdent (q : Req) (s : State) : Result :=
  request 0x0001 q s (q.len == 0) fun s _ => .now s sOK (wbBlock s (wbIdentity s))

/-- KEEP_STATUS (Table KEEP-9). -/
def execKeepStatus (q : Req) (s : State) : Result :=
  request 0x0002 q s (q.len == 0) fun s _ =>
    .now s sOK (le 1 (keepLoad s.keep) ++ [bitB s.keep.deferAt.isSome] ++ le 4 s.deferMs
      ++ ((s.keep.queues.take 6).flatMap fun l => le 1 l.length) ++ le 2 s.keep.primary.toNat)

/-! ### Parameters (R358) -/

/-- The rows of `n` consecutive sub-indices; none where one is undefined. -/
def rowsFrom (idx : Nat) : Nat → Nat → Option (List (PRow × Nat))
  | _, 0 => some []
  | sub, n + 1 =>
    match findParam idx sub, rowsFrom idx (sub + 1) n with
    | some r, some rs => some ((r, sub) :: rs)
    | _, _ => none

/-- A parameter's value in `n` bytes, with zeros or copies of the sign above its field. -/
def valueIn (s : State) (n : Nat) (r : PRow) (sub : Nat) : List Byte :=
  if r.sgn then leI n (ofField r.bits (readParam s r sub)) else le n (readParam s r sub)

/-- PARAM_READ (R358): all values in the widest one's bytes (log entry 71). -/
def execParamRead (q : Req) (index : U16) (sub count : Byte) (s : State) : Result :=
  request 0x0003 q s (q.len == 4) fun s _ =>
    if count = 0 ∨ 16 < count.toNat then refuse s sRange
    else
      match rowsFrom index.toNat sub.toNat count.toNat with
      | none => refuse s sBadParam
      | some rs =>
        let w := (rs.map fun r => valueBytes r.1.bits).foldl max 1
        let data := le 1 w ++ rs.flatMap fun r => valueIn s w r.1 r.2
        if (payloadLimit q.mb.val).2 < data.length then refuse s sRange else .now s sOK data

/-- What a write does beside its value: LINK.TELEM_US goes to every tile (05 Table TILE-16). -/
def paramEffects (s : State) (es : List ParamEntry) : State :=
  if es.any fun e => e.index == 0x0612 then ((List.range 4).filter (tilesAnswer s)).foldl sendTelem s else s

/-- Writes that have passed their checks: all applied together; a kept one starts the store delay (R366). -/
def applyParams (s : State) (es : List ParamEntry) : State :=
  let kept := es.any fun e => ((findParam e.index.toNat e.sub.toNat).map (·.kept)).getD false
  let s := paramEffects { s with params := paramsAfter s.params es } es
  if kept then markDirty s else s

/-- PARAM_WRITE (R358). -/
def execParamWrite (q : Req) (entry : ParamEntry) (s : State) : Result :=
  request 0x0004 q s (q.len == 4 + entry.value.length) fun s _ =>
    let st := paramCheck s (paramsAfter s.params [entry]) entry
    if st ≠ 0 then refuse s st else done (applyParams s [entry])

/-- PARAM_WRITE_SET (R358). -/
def execParamWriteSet (q : Req) (n : Byte) (entries : List ParamEntry) (s : State) : Result :=
  request 0x0005 q s (q.len == 1 + (entries.map fun e => 4 + e.value.length).sum && entries.length == n.toNat) fun s _ =>
    if n = 0 ∨ 32 < n.toNat then refuse s sRange
    else
      match firstFailing s (paramsAfter s.params entries) 0 entries with
      | some (k, st) => .now s st (le 1 k)
      | none => .now (applyParams s entries) sOK [0xFF]

/-! ### The Waybill (R360) -/

/-- KEEP_RESYNC (R360). -/
def execKeepResync (q : Req) (s : State) : Result :=
  request 0x0009 q s (q.len == 0) fun s _ =>
    let gen := s.keep.wbGen + 1
    let bytes := waybill s gen.toNat
    let s := s.poke waybillAt bytes
    .now { s with keep := { s.keep with wbGen := gen, wbPtr := BitVec.ofNat 32 waybillAt, wbLen := BitVec.ofNat 32 bytes.length } } sOK
      (le 4 gen.toNat ++ le 4 bytes.length ++ le 4 waybillAt)

/-- WAYBILL_READ (R360). -/
def execWaybillRead (q : Req) (generation offset : U32) (len : U16) (s : State) : Result :=
  request 0x000A q s (q.len == 10) fun s _ =>
    if generation ≠ s.keep.wbGen then refuse s sStale
    else if s.keep.wbLen.toNat < offset.toNat + len.toNat ∨ (payloadLimit q.mb.val).2 < len.toNat then refuse s sRange
    else .now s sOK (memBytes s.mem (s.keep.wbPtr.toNat + offset.toNat) len.toNat)

/-! ### The Guestbook (R363) -/

/-- GB_FLUSH (R363). -/
def execGbFlush (dt : Nat) (s : State) : Result :=
  event dt s (fun s => s.mainOn && gbReader s && decide (s.gb.handedAt + s.pv 0x0015 0 * msU ≤ s.time)) fun s => handOut 17 s

/-- GB_READ (R363). -/
def execGbRead (q : Req) (fromSeq : U32) (count : U16) (s : State) : Result :=
  request 0x000B q s (q.len == 6) fun s _ =>
    if count = 0 ∨ 128 < count.toNat then refuse s sRange
    else
      let g := s.gb
      let start := if serialLater (gbOldest g) fromSeq then gbOldest g else fromSeq
      let avail := if serialLater g.next start then (g.next - start).toNat else 0
      let n := min (min count.toNat avail) (((payloadLimit q.mb.val).2 - 4) / 32)
      .now s sOK (le 4 start.toNat ++ gbEntries s start n)

/-- GB_ACK (R363, Table KEEP-9): RD_SEQ moves forward, at most to the newest entry. -/
def execGbAck (q : Req) (rdSeq : U32) (s : State) : Result :=
  request 0x000C q s (q.len == 4) fun s _ =>
    if (rdSeq != s.gb.rd && !(serialLater rdSeq s.gb.rd)) || !(serialLater s.gb.next rdSeq) then refuse s sRange
    else done { s with gb := { s.gb with rd := rdSeq } }

/-! ### The store (R344, R366) -/

/-- STORE_COMMIT (R366): in load deferral it waits. -/
def execStoreCommit (q : Req) (flash : List Bool) (s : State) : Result :=
  request 0x000D q s (q.len == 0) fun s w =>
    match s.keep.deferAt, s.keep.commitWait with
    | some _, some (_, some _) => refuse s sPending
    | some _, some (t, none) => .later { s with keep := { s.keep with commitWait := some (t, some w) } }
    | some _, none => .later { s with keep := { s.keep with commitWait := some (s.time, some w) } }
    | none, _ =>
      let (s, ok) := commitStore s flash
      .now s (if ok then sOK else sStoreFail) []

/-- STORE_COMMIT_DELAY (R366). -/
def execStoreCommitDelay (dt : Nat) (flash : List Bool) (s : State) : Result :=
  event dt s (fun s => s.mainOn && s.keep.running && s.keep.commitWait.isNone && (match s.keep.dirty with
    | some t => decide (t + s.pv 0x0013 0 * secU ≤ s.time)
    | none => false)) fun s =>
    if s.keep.deferAt.isSome then { s with keep := { s.keep with commitWait := some (s.time, none) } } else (commitStore s flash).1

/-- STORE_DEFERRAL_LIMIT (R344): a commit held for 60 s proceeds. -/
def execStoreDeferralLimit (dt : Nat) (flash : List Bool) (s : State) : Result :=
  event dt s (fun s => s.mainOn && s.keep.running && (match s.keep.commitWait with
    | some (t, _) => decide (t + 60 * secU ≤ s.time)
    | none => false)) fun s => commitNow s flash

/-- STORE_STATUS: Waybill block 11. -/
def execStoreStatus (q : Req) (s : State) : Result :=
  request 0x000E q s (q.len == 0) fun s _ => .now s sOK (wbBlock s (wbStore s))

/-! ### Firmware (R369, R370) -/

/-- Changes an image slot. -/
def State.onFw (s : State) (i : Nat) (f : FwSlot → FwSlot) : State :=
  { s with keep := { s.keep with fwSlots := s.keep.fwSlots.modify i f } }

/-- FW_BEGIN (R369). -/
def execFwBegin (q : Req) (length : U32) (s : State) : Result :=
  request 0x000F q s (q.len == 4) fun s _ =>
    if 0x800000 < length.toNat then refuse s sRange
    else if s.keep.fwTrial then refuse s sTrialPending
    else
      let i := updateSlot s
      let s := s.onFw i fun _ => { length := length.toNat, data := [], verified := false }
      .now { s with keep := { s.keep with fwBegun := true } } sOK (le 1 i)

/-- FW_WRITE (R369). -/
def execFwWrite (q : Req) (offset : U32) (data : List Byte) (s : State) : Result :=
  request 0x0010 q s (q.len == 4 + data.length) fun s _ =>
    let i := updateSlot s
    let x := s.keep.fwSlots.getD i {}
    if !s.keep.fwBegun then refuse s sBadState
    else if x.length < offset.toNat + data.length then refuse s sRange
    else if rangeWritten x offset.toNat data.length then refuse s sBadParam
    else done (s.onFw i fun x => { x with data := x.data ++ [(offset.toNat, data)], verified := false })

/-- FW_VERIFY (R369, 18 R380). -/
def execFwVerify (q : Req) (s : State) : Result :=
  request 0x0011 q s (q.len == 0) fun s _ =>
    let i := updateSlot s
    if !s.keep.fwBegun then refuse s sBadState
    else
      let st := imageStatus s (s.keep.fwSlots.getD i {})
      if st ≠ 0 then refuse (s.onFw i fun x => { x with verified := false }) st else done (s.onFw i fun x => { x with verified := true })

/-- FW_ACTIVATE (R369): MODE 1 is answered, then Keeper restarts. -/
def execFwActivate (q : Req) (mode : Byte) (s : State) : Result :=
  request 0x0012 q s (q.len == 1) fun s w =>
    let i := updateSlot s
    if 1 < mode.toNat then refuse s sRange
    else if !(s.keep.fwSlots.getD i {}).verified then refuse s sBadState
    else if mode = 1 ∧ s.layer.st ≠ .idle then refuse s sBadState
    else
      let s := writeDir s i s.keep.fwActive true
      let s := { s with keep := { s.keep with trialRuns := false, fwBegun := false } }
      if mode = 0 then done s else .later (keeperReset (answer s w sOK []) 3 0xFF)

/-- FW_CONFIRM (R370, 18 R382). -/
def execFwConfirm (q : Req) (s : State) : Result :=
  request 0x0013 q s (q.len == 0) fun s _ =>
    if !s.keep.fwTrial then refuse s sBadState
    else
      let s := writeDir s s.keep.fwActive s.keep.fwPrev false
      done { s with
        keep := { s.keep with trialRuns := false }
        bist := { s.bist with rollback := max s.bist.rollback (min 63 (slotSec s.keep s.keep.fwActive)) } }

end Sys2Proof.Machine
end

