-- ==== Sys2Proof/Machine/Link.lean ====
section
/-!
DEFINITION. The commands and events of the tile link controller (05 R117 to R144).
-/

namespace Sys2Proof.Machine

/-! ### The line period -/

/-- T_ADV and NO_FIRE at an advance point (R121): the count is below 0x10000, `wait` in ns. -/
def advanceCount (advNm v wait : Nat) : Nat × Bool :=
  if v = 0 then (0xFFFF, true)
  else
    let t := (advNm * 4000000000 + v / 2) / v + wait * 4
    if 0xFFFF < t then (0xFFFF, true) else (t, false)

/-- The measured position reaches the advance point of the next marker (R121). A tile that no sync frame can reach now does
not fire the period (R124). -/
def execMarkerAdvance (dt : Nat) (waitNs : Nat) (s : State) : Result :=
  clocked dt s (fun s => (s.layer.st == .runUp || s.layer.st == .expose) && decide (s.link.nextAdvance ≤ s.layer.mFinal + 1)) fun s =>
    let m := s.link.nextAdvance
    let (t, stop) := advanceCount s.link.advNm (carriageSpeed s) waitNs
    let mark := BitVec.ofNat 64 (time64 (s.time + waitNs * nsU))
    let s := ((List.range 4).filter fun n => chainLive (s.chain n)).foldl (fun s n =>
      linkSend s n [.sync n m (BitVec.ofNat 16 t) 0 (bitB stop) mark]) s
    let s := { s with link := { s.link with nextAdvance := m + 1 } }
    let s := onBuild s m fun b => { b with unsent := b.unsent ++ (tilesUnreached s).filter fun x => !(b.unsent.contains x) }
    if stop then linkFirst (onBuild (s.count 0x0626 0 1) m fun b => { b with noFire := true }) 2 0x0B4 0 else s

/-- A period has begun and is still in use. -/
def periodBegun (s : State) (m : Nat) : Bool :=
  (buildOf s m).isSome && (match s.layer.marker with
    | some k => decide (m ≤ k)
    | none => false)

/-- A period's reports are taken until marker m + 1 (R124). -/
def reportTimely (s : State) (m : Nat) : Bool := periodBegun s m && decide (s.layer.marker = some m)

/-- A delivery report of a period is received before marker m + 1: rows sent and not fired are lost frames (R122, R123). One of
a calibration burst is that of a period of its run (16 R330, R332). -/
def execDeliveryReport (dt : Nat) (chain : Fin 4) (pos : Fin 18) (period : U32) (fired : U16) (status : Rx Byte) (s : State) :
    Result :=
  received dt chain status.chk s (fun s => chainLive (s.chain chain) && decide (pos.val < (s.chain chain).tiles.length)
      && (reportTimely s period.toNat || burstPeriod s (18 * chain.val + pos.val) period.toNat))
    fun s =>
    let s := s.onTile chain pos fun t => { t with missing := 0 }
    if reportTimely s period.toNat then
      (List.range 16).foldl (fun s i =>
        if fired.getLsbD i then s else loseFrame s period.toNat chain (16 * pos.val + i)) s
    else burstReport s chain pos period.toNat fired

/-- A report has not come by marker m + 1: the tile's rows, which were sent, are taken as fired, whatever has become of its
chain since (R124); on a chain whose tiles before it report, the tile is lost (R140). -/
def execAckUnknown (dt : Nat) (chain : Fin 4) (pos : Fin 18) (period : U32) (s : State) : Result :=
  clocked dt s (fun s => decide (pos.val < (s.chain chain).tiles.length)
      && !(unsentTo s period.toNat chain pos) && periodBegun s period.toNat && decide (period.toNat < s.layer.marker.getD 0)) fun s =>
    let s := s.onTile chain pos fun t => { t with missing := t.missing + 1 }
    let s := raise (s.count 0x0625 chain 1) 0x0A8 0 false
    let before := (List.range pos.val).all fun p => (s.tile chain p).missing == 0
    if chainLive (s.chain chain) ∧ pos.val ≠ 0 ∧ before ∧ (s.tile chain pos).lost = false then
      raise (s.onTile chain pos fun t => { t with lost := true }) 0x0A3 0 false
    else s

/-! ### Telemetry (R138 to R140) -/

/-- A newly reported open or shorted cell: 0x0AC at the first in a layer, its words of the periods from the
detection on returned, its retirement at the next publication (R138). -/
def cellFault (s : State) (n p : Nat) (f : Fin 16 × Fin 256 × BitVec 2 × U16) : State :=
  let key := (f.1.val, f.2.1.val, f.2.2.2.toNat)
  if (s.tile n p).cellFaults.any (fun x => x.1 == key.1 && x.2.1 == key.2.1) then s
  else if f.2.2.1 ≠ 1 ∧ f.2.2.1 ≠ 2 then s
  else
    let s := s.onTile n p fun t => { t with cellFaults := t.cellFaults ++ [key] }
    let cell := cellIndex (16 * p + key.1) (256 * n + key.2.1)
    let s := { s with cal := { s.cal with toRetire := s.cal.toRetire ++ [cell] } }
    let s := if s.layer.st = .idle then s else linkFirst s 1 0x0AC 0
    let begun := (s.dose.builds.map (·.m)).filter fun m =>
      decide (m ≤ s.layer.marker.getD 0) && decide ((m + 65536 - key.2.2) % 65536 < 32768)
    begun.foldl (fun s m => loseCells s m n p [(key.1, key.2.1)]) s

/-- Every cell of a tile is to be retired at the next publication (R134). -/
def tripTile (s : State) (n p : Nat) : State :=
  let cells := (List.range 4096).map fun x => cellIndex (16 * p + x / 256) (256 * n + x % 256)
  let s := { s with cal := { s.cal with toRetire := s.cal.toRetire ++ cells } }
  raise (s.onTile n p fun t => { t with lsw := false }) 0x0AA 0 false

/-- A tile reads above its TEMP_MAX. -/
def tooHot (t : Tile) (f : Telemetry) : Bool := f.temps.any fun x => decide (((t.u 0x6F 1 * 64 : Nat) : Int) < x) && x != -32768

/-- Any tile's newest telemetry reads above its TEMP_MAX. -/
def anyTooHot (s : State) : Bool :=
  s.link.chains.any fun c => c.tiles.any fun t => (t.telem.map fun f => tooHot t f.1).getD false

/-- A telemetry frame is received (R138 to R140, Table TILE-5). -/
def execTelemetryFrame (dt : Nat) (chain : Fin 4) (pos : Fin 18) (rx : Rx Telemetry) (s : State) : Result :=
  let frame := rx.body
  received dt chain rx.chk s (fun s => (chainLive (s.chain chain) || (s.chain chain).st == .doze)
    && decide (pos.val < (s.chain chain).tiles.length)) fun s =>
    let old := (s.tile chain pos).telem
    let rises := fun (b : Nat) => frame.status.getLsbD b && !((old.map fun f => f.1.status.getLsbD b).getD false)
    let hot := tooHot (s.tile chain pos) frame && !((old.map fun f => tooHot (s.tile chain pos) f.1).getD false)
    let s := s.onTile chain pos fun t => { t with telem := some (frame, s.time) }
    let s := frame.cellFaults.foldl (fun s f => cellFault s chain pos f) s
    let s := if rises 1 then tripTile s chain pos else s
    let s := if rises 5 then raise (s.onTile chain pos fun t => { t with lsw := false }) 0x0AD 0 false else s
    let s := if hot then raise s 0x0AE 0 true else s
    if anyTooHot s then s else clearCond s 0x0AE

/-! ### Management (R119) -/

/-- Bytes of a tile's space after a write. -/
def patchSpace (sp : List Byte) (addr : Nat) (data : List Byte) : List Byte :=
  sp.take addr ++ data ++ sp.drop (addr + data.length)

/-- What an accepted management request did: a machine-area write, or the load switch. -/
def mgmtApplied (s : State) (m : Mgmt) : State :=
  if m.op = 2 ∧ m.addr = 0x208 then s.onTile m.chain m.pos fun t => { t with lsw := m.data == [1] }
  else if m.op = 2 ∧ 0x100 ≤ m.addr ∧ m.addr < 0x140 then
    recheckTile (s.onTile m.chain m.pos fun t => { t with space := patchSpace t.space m.addr m.data }) m.chain m.pos
  else s

/-- A management response is received: its request is done, or refused with the tile's STATUS (R144). -/
def execManagementResponse (dt : Nat) (chain : Fin 4) (pos : Fin 18) (tag : Byte) (status : Byte) (data : Rx (List Byte)) (s : State) :
    Result :=
  let mine := fun (m : Mgmt) => m.chain == chain.val && m.pos == pos.val && m.tag == tag
  received dt chain data.chk s (fun s => s.link.mgmt.any mine) fun s =>
    match s.link.mgmt.find? mine with
    | none => s
    | some m =>
      let s := { s with link := { s.link with mgmt := s.link.mgmt.eraseP mine } }
      let s := if status = 0 then mgmtApplied s m else s
      match m.w with
      | some w => if status = 0 then answer s w 0 (if m.op = 1 then data.body else []) else answer s w 0x0601 [status]
      | none => s

/-! ### Lanes (R117, R132, R133) -/

/-- A codeword header fails CHK right after another: within one codeword of 48.57 ns. -/
def followsBad (s : State) (lane : Nat) : Bool :=
  match (s.link.uncorr.getD lane []) with
  | t :: _ => decide (s.time ≤ t + 49 * nsU)
  | [] => false

/-- An uncorrectable codeword on a lane; a bad CHK counts as one. The frames lost until reception resumes at the FIRST_HDR of
the next good one count as discarded (R117). -/
def execCodewordUncorrectable (dt : Nat) (lane : Fin 5) (error : CwError) (s : State) : Result :=
  clocked dt s (fun s => s.linkOn && s.serdesOn) fun s =>
    let run := if error.badChk then (if followsBad s lane then s.link.chkRun.getD lane 0 + 1 else 1) else 0
    let times := s.time :: ((s.link.uncorr.getD lane []).filter fun t => decide (s.time ≤ t + msU))
    let s := discardFrames s lane error.lost
    { s.count 0x0624 lane 1 with link := { s.link with
      chkRun := s.link.chkRun.set lane run
      uncorr := s.link.uncorr.set lane times } }

/-- A trigger of R132 on the lane that serves a chain. -/
def execLaneFailover (dt : Nat) (chain : Fin 4) (s : State) : Result :=
  clocked dt s (fun s => (chainLive (s.chain chain) || (s.chain chain).st == .doze) && !(s.chain chain).moving && laneTrigger s chain) fun s =>
    laneLost s chain

/-- Frames flow on TL4 (Table TILE-11). -/
def execFailoverComplete (dt : Nat) (chain : Fin 4) (s : State) : Result :=
  clocked dt s (fun s => s.serdesOn && (s.chain chain).moving) fun s => moveDone s chain

/-- Pre-training of TL4 begins on the next chain, through its spare port: LOOPBACK goes to its tiles by that path (R127,
R133). -/
def execReservePretrain (dt : Nat) (s : State) : Result :=
  clocked dt s (fun s => s.layer.st == .idle && s.readyOn && s.link.tl4Chain.isNone && s.link.pretrain.isNone
      && s.pv 0x0617 0 != 0 && s.link.chains.any fun c => chainLive c || c.st == .doze) fun s =>
    let n := (((List.range 4).map fun i => (s.link.pretrainNext + i) % 4).find? fun n =>
      chainLive (s.chain n) || (s.chain n).st == .doze).getD 0
    let s := laneReset { s with link := { s.link with pretrain := some n, tl4Sel := n } } 4
    (List.range (s.chain n).tiles.length).foldl (fun s p => laneSend s 4 [.management n p 4 0 0 []]) s

/-- Pre-training ends: coefficients and latencies stored, or TL4 unavailable for the chain; the next chain's turn comes
(R133). -/
def execPretrainDone (dt : Nat) (ok : Bool) (got : Pretrained) (s : State) : Result :=
  clocked dt s (fun s => s.link.pretrain.isSome) fun s =>
    let n := s.link.pretrain.getD 0
    let s := laneReset { s with link := { s.link with
      pretrain := none, pretrainNext := (n + 1) % 4, tl4Sel := s.pv 0x0616 0, tl4Ready := s.link.tl4Ready.set n ok
      tl4Coef := if ok then s.link.tl4Coef.set n got.coef else s.link.tl4Coef
      tl4Lat := if ok then s.link.tl4Lat.set n got.latencies else s.link.tl4Lat } } 4
    if ok then s else raise s 0x0B3 0 false

/-! ### Bring-up (R126 to R131) -/

/-- The four slots of a POWERING chain are good. -/
def execChainRailsGood (dt : Nat) (chain : Fin 4) (s : State) : Result :=
  event dt s (fun s => (s.chain chain).st == .powering && chainRailsGood s chain) fun s =>
    s.onChain chain fun c => { c with st := .bringup }

/-- Discovery of a chain goes on. -/
def discovering (c : Chain) : Bool := c.st == .bringup && !c.ended && !c.found

/-- A segment has trained and its tile takes position k; its header and machine area are read and judged, and it is told to
train its downstream segment (R126, R129). -/
def execSegmentTrained (dt : Nat) (chain : Fin 4) (space : List Byte) (s : State) : Result :=
  clocked dt s (fun s => s.serdesOn && discovering (s.chain chain) && decide ((s.chain chain).tiles.length < 18)) fun s =>
    let k := (s.chain chain).tiles.length
    let t : Tile := { space := space }
    let ok := headerOk t
    let s := mgmtSend s chain k 3 0 []
    let s := mgmtRead (mgmtRead s chain k 0 256) chain k 0x100 64
    let s := if k < 17 then s.send (.trainNext chain k) else s
    let s := s.onChain chain fun c => { c with tiles := c.tiles ++ [{ t with usable := ok }] }
    if ok then s else raise s 0x0A5 0 false

/-- LINK.EXPECT_TILES names another count of discovered tiles than k: 0x0A4 (R129). -/
def expectTiles (s : State) (n k : Nat) : State :=
  if s.pv 0x0614 n ≠ 0 ∧ s.pv 0x0614 n ≠ k then raise s 0x0A4 0 false else s

/-- A segment fails to train: the chain ends before it; without segment 0 the chain fails, with no tile discovered (R126,
R129). -/
def execSegmentTrainFail (dt : Nat) (chain : Fin 4) (s : State) : Result :=
  clocked dt s (fun s => discovering (s.chain chain)) fun s =>
    let s := raise (s.onChain chain fun c => { c with found := true }) 0x0A2 0 false
    if (s.chain chain).tiles.isEmpty then settlePower (chainFail (expectTiles s chain 0) chain) else s

/-- Discovery of a chain ends: CHAIN_LEN, TELEM_US, latencies, calibration blocks, usability (R126 to R130). -/
def execChainDiscovered (dt : Nat) (chain : Fin 4) (rtt : List Nat) (blocks : List (List Byte)) (s : State) : Result :=
  clocked dt s (fun s => s.serdesOn && (s.chain chain).st == .bringup && !(s.chain chain).ended && !(s.chain chain).tiles.isEmpty) fun s =>
    let k := (s.chain chain).tiles.length
    let s := s.onChain chain fun c => { c with ended := true }
    let s := mgmtSend s chain 31 2 0x200 (le 1 k)
    let s := sendTelem s chain
    let s := (measureChain s chain rtt).1
    let s := (List.range k).foldl (fun s p => calDiscovered s chain p (blocks.getD p [])) s
    settlePower (expectTiles s chain k)

/-- The load switch of the next usable tile is closed (R134). -/
def execLoadSwitchClose (dt : Nat) (chain : Fin 4) (s : State) : Result :=
  let next := fun (s : State) => (List.range 18).find? fun p => decide ((s.chain chain).lswNext ≤ p) && (s.tile chain p).usable
  clocked dt s (fun s => (s.chain chain).judged && (chainLive (s.chain chain) || (s.chain chain).st == .doze) && (next s).isSome) fun s =>
    let p := (next s).getD 0
    let s := mgmtSend s chain p 2 0x208 [1]
    (s.onTile chain p fun t => { t with lsw := true }).onChain chain fun c => { c with lswNext := p + 1 }

/-! ### Presence (R135 to R137) -/

/-- The presence loop of a chain opens: a chain whose rails are not all off loses them and goes to OFF (R135). -/
def execPresenceLoss (dt : Nat) (chain : Fin 4) (s : State) : Result :=
  event dt s (fun s => s.mainOn && (s.chain chain).presence) fun s =>
    let off := (s.chain chain).st == .off && (chainSlots chain).all fun k => railDown (s.rail k).st
    let s := s.onChain chain fun c => { c with presence := false }
    settlePower (if off then s else presenceLost s chain)

/-- 5 ms after the loop opened, a rail of the chain still reads 2 V or more: 0x0B2 (Table TILE-12). -/
def execRailDischargeCheck (dt : Nat) (chain : Fin 4) (maxMv : Nat) (s : State) : Result :=
  event dt s (fun s => s.mainOn && (s.chain chain).st == .off && !(s.chain chain).presence && decide (2000 ≤ maxMv)) fun s =>
    raise s 0x0B2 0 false

/-- The presence loop closes: a record for a chain in OFF, no other effect (R137). -/
def execPresenceReturn (dt : Nat) (chain : Fin 4) (s : State) : Result :=
  event dt s (fun s => s.mainOn && !(s.chain chain).presence) fun s =>
    let s := s.onChain chain fun c => { c with presence := true }
    if (s.chain chain).st = .off then gbRecord s 6 1 chain else s

/-! ### Commands (R144) -/

/-- LINK_CHAIN_POWER (R131, R137). -/
def execLinkChainPower (q : Req) (chain on : Byte) (s : State) : Result :=
  request 0x0601 q s (q.len == 2) fun s _ =>
    let n := chain.toNat
    if 3 < n ∨ 1 < on.toNat then refuse s sRange
    else if s.layer.st ≠ .idle ∨ s.readyOn = false then refuse s sBadState
    else if on = 0 then (if (s.chain n).st = .off then done s else done (chainOff s n))
    else if s.flt.c4.isSome then refuse s sDenied
    else if !(s.chain n).presence then refuse s sNotPresent
    else if (s.chain n).st ≠ .off then refuse s sBadState
    else done (chainOn s n)

/-- A tile command's addressee: RANGE, NOT_PRESENT, or a chain whose tiles do not answer: BAD_STATE. -/
def tileStatus (s : State) (chain pos : Byte) : U16 :=
  if 3 < chain.toNat ∨ 17 < pos.toNat then sRange
  else if (shownTiles (s.chain chain.toNat)).length ≤ pos.toNat then sNotPresent
  else if chainLive (s.chain chain.toNat) || (s.chain chain.toNat).st == .doze || (s.chain chain.toNat).st == .bringup then 0
  else sBadState

/-- LINK_DESC_READ; the request tells its length in two data bytes (log entry 33). -/
def execLinkDescRead (q : Req) (chain pos : Byte) (addr : U32) (len : U16) (s : State) : Result :=
  request 0x0602 q s (q.len == 8) fun s w =>
    if len = 0 ∨ 256 < len.toNat ∨ (payloadLimit w.mb).2 < len.toNat then refuse s sRange
    else if tileStatus s chain pos ≠ 0 then refuse s (tileStatus s chain pos)
    else .later (mgmtAsk s (some w) chain.toNat pos.toNat 1 addr.toNat (le 2 len.toNat))

/-- LINK_DESC_WRITE: the machine area only, and only in IDLE. -/
def execLinkDescWrite (q : Req) (chain pos : Byte) (addr : U32) (len : U16) (data : List Byte) (s : State) : Result :=
  request 0x0603 q s (q.len == 8 + data.length && data.length == len.toNat) fun s w =>
    if 3 < chain.toNat ∨ 17 < pos.toNat ∨ len = 0 ∨ 256 < len.toNat then refuse s sRange
    else if (shownTiles (s.chain chain.toNat)).length ≤ pos.toNat then refuse s sNotPresent
    else if addr.toNat < 0x100 ∨ 0x140 < addr.toNat + len.toNat then refuse s sDenied
    else if s.layer.st ≠ .idle ∨ tileStatus s chain pos ≠ 0 then refuse s sBadState
    else .later (mgmtAsk s (some w) chain.toNat pos.toNat 2 addr.toNat data)

/-- LINK_TILE_SWITCH (R134). -/
def execLinkTileSwitch (q : Req) (chain pos close : Byte) (s : State) : Result :=
  request 0x0604 q s (q.len == 3) fun s w =>
    if 1 < close.toNat then refuse s sRange
    else if tileStatus s chain pos = sRange ∨ tileStatus s chain pos = sNotPresent then refuse s (tileStatus s chain pos)
    else if s.layer.st ≠ .idle ∨ tileStatus s chain pos ≠ 0 ∨ (close = 1 ∧ (s.tile chain.toNat pos.toNat).usable = false) then
      refuse s sBadState
    else .later (mgmtAsk s (some w) chain.toNat pos.toNat 2 0x208 [close])

/-- LINK_FAILOVER: the move of R132 by command. -/
def execLinkFailover (q : Req) (chain : Byte) (s : State) : Result :=
  request 0x0605 q s (q.len == 1) fun s _ =>
    let n := chain.toNat
    if 3 < n then refuse s sRange
    else if s.layer.st ≠ .idle then refuse s sBadState
    else if !(tl4Free s n) then refuse s 0x0602
    else if !(chainLive (s.chain n) || (s.chain n).st == .doze) then refuse s sBadState
    else done (startMove s n)

/-- A chain that TL4 serves. -/
def onReserve (s : State) (n : Nat) : Bool := s.link.tl4Chain == some n && !(s.chain n).moving

/-- LINK_RESTORE: the chain is brought up again on its own lane, TL4 is free (R133). -/
def execLinkRestore (q : Req) (chain : Byte) (s : State) : Result :=
  request 0x0606 q s (q.len == 1) fun s _ =>
    let n := chain.toNat
    if 3 < n then refuse s sRange
    else if s.layer.st ≠ .idle ∨ onReserve s n = false then refuse s sBadState
    else
      let s := laneReset (freeTl4 (dropMgmt s n) n) n
      done (settlePitch (s.onChain n fun c => { c with
        st := .bringup, servedBy := n, tiles := [], judged := false, found := false, ended := false, lswNext := 0 }))

/-- LINK_STATUS. -/
def execLinkStatus (q : Req) (chain : Byte) (s : State) : Result :=
  request 0x0607 q s (q.len == 1) fun s _ =>
    let n := chain.toNat
    if 3 < n then refuse s sRange
    else
      let c := s.chain n
      .now s sOK (le 1 (chainCode c.st) ++ le 1 c.servedBy ++ le 1 ((shownTiles c).countP (·.usable))
        ++ le 4 (s.pv 0x0623 n) ++ le 4 (s.pv 0x0624 c.servedBy) ++ le 4 (s.pv 0x0625 n))

end Sys2Proof.Machine
end

