-- ==== Sys2Proof/Machine/Servo.lean ====
section
/-!
DEFINITION. Meanings of the servo engine's events and commands (08 R186 to R207).
-/

namespace Sys2Proof.Machine

/-! ### Events -/

/-- BASE_TICK (R186): falls where the nanosecond count is a multiple of 10 000, with the motion domain powered. -/
def execBaseTick (dt : Nat) (s : State) : Result :=
  event dt s (fun s => s.motionOn && (s.time / 256) % 10000 == 0) baseTick

/-- An A/B change within SERVO.ENC_FILTER_NS of the one before is a glitch (R198; log entry 63). -/
def glitch (s : State) (k : Nat) : Bool :=
  s.pv 0x0930 k == 1 && (match (s.enc k).changes with
    | c :: _ => decide (s.time < c.1 + s.pv 0x0933 k * 256)
    | [] => false)

/-- A lost encoder whose signal is back is lost no more; it stays unreferenced (R201; log entry 63). -/
def encFound (s : State) (k : Nat) : State :=
  if (s.enc k).lost then
    (clearCond s (0x0F0 + k)).onEnc k fun e => { e with lost := false, frozen := false, amplitude := false, valid := true }
  else s

/-- ENCODER_POSITION_CHANGE (R198, R199): the new position of an incremental or sin/cos interface; of an SSI encoder the word
that its next frame brings. -/
def execEncoderPositionChange (dt : Nat) (enc : Fin 4) (pos : Int) (s : State) : Result :=
  event dt s (fun s => s.motionOn && s.pv 0x0930 enc != 0 && !(glitch s enc)) fun s =>
    if s.pv 0x0930 enc = 3 then s.onEnc enc fun e => { e with raw := pos }
    else encMove (encFound s enc) enc s.time (ofField 48 (toField 48 pos))

/-- The first Z edge after SERVO_ENC_REFERENCE sets the position (R200); the encoder is lost no more. -/
def zReference (s : State) (k : Nat) : State :=
  let z := s.pvI 48 0x093B k
  (clearCond s (0x0F0 + k)).onEnc k fun e =>
    let d := z - e.pos
    { e with pos := z, changes := e.changes.map (fun c => (c.1, c.2 + d)), armed := false, referenced := true
             lost := false, frozen := false, valid := true, amplitude := false, quadrature := false }

/-- A later Z edge more than 1 024 units from a multiple of the Z spacing (R200). -/
def zOff (s : State) (k : Nat) : Bool :=
  let sp := Config.zSpacing k
  let r := ((s.enc k).pos - s.pvI 48 0x093B k) % (sp : Int)
  decide (1024 < r) && decide (1024 < (sp : Int) - r)

/-- ENCODER_Z_EDGE (R200), on an incremental or sin/cos interface. -/
def execEncoderZEdge (dt : Nat) (enc : Fin 4) (s : State) : Result :=
  event dt s (fun s => s.motionOn && (s.pv 0x0930 enc == 1 || s.pv 0x0930 enc == 2)) fun s =>
    if (s.enc enc).armed then zReference s enc
    else if (s.enc enc).referenced && s.pv 0x093B (enc + 4) == 1 && zOff s enc then raise s 0x0FC enc false
    else s

/-- The interface can lose feedback this way (R201). -/
def lossFits (type : Nat) : EncLoss → Bool
  | .frozen => type != 0
  | .amplitude => type == 2
  | .ssiFraming => type == 3
  | .overRate => type == 1 || type == 2

/-- ENCODER_LOST (R201). -/
def execEncoderLost (dt : Nat) (enc : Fin 4) (cause : EncLoss) (s : State) : Result :=
  event dt s (fun s => s.motionOn && lossFits (s.pv 0x0930 enc) cause && !(s.enc enc).lost) fun s => encLost s enc cause

/-- The carriage loop has stayed within SERVO.INPOS_NM of the profile's end for SERVO.INPOS_MS (R194). -/
def inPosition (s : State) : Bool :=
  match s.servo.prof.inSince with
  | some t => decide (t + s.pv 0x0944 1 * msU ≤ s.time)
  | none => false

/-- CARRIAGE_IN_POSITION (R41, R194): the profile is complete; in RUN_OUT a driver's carriage is at rest. -/
def execCarriageInPosition (dt : Nat) (s : State) : Result :=
  event dt s (fun s => s.motionOn && s.driver && profOver s.servo.prof s.time && !s.servo.prof.inPos && s.servo.prof.moveTo.isNone && inPosition s)
    fun s =>
      let s := { s with servo := { s.servo with prof := { s.servo.prof with inPos := true } } }
      if s.layer.st = .runOut ∧ s.layer.atRest = false then restReached s else s

/-- OUTPUT_SATURATED (R205, Table SERVO-5). -/
def execOutputSaturated (dt : Nat) (slot : Fin 24) (s : State) : Result :=
  event dt s (fun s => s.motionOn && (s.slot slot).en && decide (1000 ≤ (s.slot slot).satRun)) fun s =>
    raise (s.onSlot slot fun x => { x with satRun := 0 }) 0x0FB slot false

/-! ### Commands (Table SERVO-7)

Where the motion domain has no power (01 R25), a command that would change its state answers BAD_STATE (log entry 67). -/

/-- A selector of R190 as a source. -/
def sourceOk (sel : Nat) : Bool :=
  match selKind sel with
  | 0 | 1 | 6 | 7 | 8 => true
  | 2 => decide (selIdx sel < 24)
  | 3 | 4 => decide (selIdx sel < 4)
  | 5 => decide (selIdx sel < 128)
  | 9 => decide (selIdx sel < 8)
  | _ => false

/-- A destination of R190. -/
def destOk (d : Nat) : Bool :=
  match selKind d with
  | 0 | 4 => true
  | 1 | 2 => decide (selIdx d < 8)
  | 3 => decide (selIdx d < 32)
  | _ => false

/-- Selectors of a slot (R190, R191). The type limits of Table SERVO-3 answer SELECTOR_INVALID (log entry 63). -/
def selectorsOk (s : State) (n : Nat) : Bool :=
  let fb := s.pv 0x0914 n
  sourceOk (s.pv 0x0913 n) && sourceOk fb && sourceOk (s.pv 0x0915 n) && destOk (s.pv 0x0916 n)
    && !(selKind fb == 2 && selIdx fb == n)
    && !((s.pv 0x0921 n != 0 || s.pv 0x0922 n != 0) && selKind fb != 3)
    && (slotType s n != 5 || (decide (0 < n) && slotType s (n - 1) == 4))
    && (slotType s n != 7 || (selKind fb == 5 && selKind (s.pv 0x0916 n) == 3))

/-- Another enabled slot writes the same destination; none and internal ones are no shared destination. -/
def destInUse (s : State) (n : Nat) : Bool :=
  let d := s.pv 0x0916 n
  (selKind d == 1 || selKind d == 2 || selKind d == 3) && (List.range 24).any fun m =>
    m != n && (s.slot m).en && selKind (s.pv 0x0916 m) == selKind d && selIdx (s.pv 0x0916 m) == selIdx d

/-- A slot is enabled on its coefficients in use and the present set-point (R189). -/
def slotOn (s : State) (n : Nat) : State :=
  let want := destDemand s n
  let s := (latchSetPoints s).onSlot n fun x => { x with
    en := true, invalid := false, satRun := 0, still := [0, 0, 0, 0], lastDue := s.time, observer := none }
  settleServoConds (slotStart s n want)

/-- SERVO_LOOP_ENABLE (R189, R190); servo slots after a failed self-test answer DENIED (18 Table BIST-3), and so does a heater slot
under the C4 lockout (15 R318). -/
def execServoLoopEnable (q : Req) (slot : Byte) (on : Byte) (s : State) : Result :=
  request 0x0901 q s (q.len == 2) fun s _ =>
    let n := slot.toNat
    if 23 < n ∨ 1 < on.toNat then refuse s sRange
    else if on = 0 then
      if (s.slot n).en then
        let s := slotOff s n
        match s.servo.test with
        | some r => if r.t.loop = slot then done (raise (endTest s 2) 0x0FD n false) else done s
        | none => done s
      else done s
    else if slotType s n = 7 ∧ s.c4On then refuse s sDenied
    else if !s.motionOn then refuse s sBadState
    else if s.bist.failed.getLsbD 60 then refuse s sDenied
    else if (s.slot n).en then done s
    else if slotType s n = 0 then refuse s sBadState
    else if !selectorsOk s n then refuse s 0x0901
    else if destInUse s n then refuse s 0x0902
    else done (slotOn s n)

/-- SERVO_LOOP_COMMIT (R189). -/
def execServoLoopCommit (q : Req) (slot : Byte) (s : State) : Result :=
  request 0x0902 q s (q.len == 1) fun s _ =>
    if slot ≠ 0xFF ∧ 23 < slot.toNat then refuse s sRange
    else if !s.motionOn then refuse s sBadState
    else if slot = 0xFF then done { s with servo := { s.servo with slots := s.servo.slots.map fun x => { x with commit := true } } }
    else done (s.onSlot slot.toNat fun x => { x with commit := true })

/-- SERVO_TABLE_WRITE (R192): applied before the next base tick. -/
def execServoTableWrite (q : Req) (table : Byte) (first : U16) (count : U16) (values : List U32) (s : State) : Result :=
  request 0x0903 q s (q.len == 5 + 4 * count.toNat && values.length == count.toNat) fun s _ =>
    if table.toNat = 0 ∨ 8 < table.toNat ∨ count.toNat = 0 ∨ 256 < count.toNat ∨ 1024 < first.toNat + count.toNat then
      refuse s sRange
    else if !s.motionOn then refuse s sBadState
    else
      let base := 0x10C0000 + (table.toNat - 1) * 4096 + 4 * first.toNat
      let ws := ((List.range values.length).zip values).map fun e => (base + 4 * e.1, e.2)
      done { s with servo := { s.servo with tabWrites := s.servo.tabWrites ++ ws } }

/-- SERVO_ENC_REFERENCE (R200). -/
def execServoEncReference (q : Req) (enc : Byte) (s : State) : Result :=
  request 0x0904 q s (q.len == 1) fun s _ =>
    if 3 < enc.toNat then refuse s sRange
    else if !s.motionOn then refuse s sBadState
    else done (s.onEnc enc.toNat fun e => { e with armed := true })

/-- The carriage is on a stop ramp, of the profile or of an observer (R194). -/
def onStopRamp (s : State) : Bool :=
  (decide (s.servo.prof.kind = .stopRamp) && !(profOver s.servo.prof s.time))
    || s.servo.slots.any fun x => match x.observer with
      | some o => x.en && o.2 != 0
      | none => false

/-- SERVO_CARRIAGE_MOVE (R194). -/
def execServoCarriageMove (q : Req) (target : U32) (s : State) : Result :=
  request 0x0905 q s (q.len == 4) fun s _ =>
    if !s.motionOn || !s.driver || decide (s.layer.st ≠ .idle) then refuse s sBadState
    else if onStopRamp s then refuse s sBusy
    else done { s with servo := { s.servo with prof := { s.servo.prof with moveTo := some target.toInt } } }

/-- SERVO_CARRIAGE_STOP (R194): sampled at the next base tick. A second one before that answers PENDING (log entry 63). -/
def execServoCarriageStop (q : Req) (s : State) : Result :=
  request 0x0906 q s (q.len == 0) fun s w =>
    if !s.driver || !(moveRuns s.servo.prof) then refuse s sBadState
    else if s.servo.prof.stop.isSome then refuse s sPending
    else .later { s with servo := { s.servo with prof := { s.servo.prof with stop := some w } } }

/-- Operands of a test within their ranges (R203, Table SERVO-7). -/
def testRangeOk (s : State) (t : ServoTest) : Bool :=
  let half := fun (f : U32) => decide (2 * f.toNat * s.pv 0x0911 t.loop.toNat ≤ 100000000)
  decide (t.point.toNat ≤ 2) && decide (t.wave.toNat ≤ 3) && decide (1 ≤ t.nsig.toNat) && decide (t.nsig.toNat ≤ 4)
    && ((t.sig.take t.nsig.toNat).all fun c => decide (c.toNat ≤ 7)) && decide (1 ≤ t.decim.toNat)
    && (t.wave != 1 || half t.f0) && (t.wave != 2 || (half t.f0 && half t.f1))
    && decide (t.samples.toNat ≤ 229312 / (4 * t.nsig.toNat))

/-- SERVO_TEST_START (R203). The LFSR starts in an open state other than 0. -/
def execServoTestStart (q : Req) (t : ServoTest) (s : State) : Result :=
  request 0x0907 q s (q.len == 35) fun s _ =>
    let n := t.loop.toNat
    if s.servo.test.isSome then refuse s sBusy
    else if 23 < n ∨ testRangeOk s t = false then refuse s sRange
    else if decide (2 ≤ slotType s n) && decide (slotType s n ≤ 5) && decide (s.layer.st ≠ .idle) then refuse s sDenied
    else if !(s.slot n).en then refuse s sBadState
    else
      let no := s.servo.testNo + 1
      let seed := 1 + s.freeBits 15 % 32767
      let s := s.freeTaken
      done { s with servo := { s.servo with test := some { t := t, no := no, lfsr := seed }, testNo := no, testEnd := none } }

/-- SERVO_TEST_STOP (R204): sampled at the slot's next due tick. -/
def execServoTestStop (q : Req) (s : State) : Result :=
  request 0x0908 q s (q.len == 0) fun s w =>
    match s.servo.test with
    | none => refuse s (if s.servo.testEnd.isSome then sTooLate else sBadState)
    | some r =>
      if r.stop.isSome then refuse s sPending
      else .later { s with servo := { s.servo with test := some { r with stop := some w } } }

/-- SERVO_STATUS (Table SERVO-7). -/
def execServoStatus (q : Req) (slot : Byte) (s : State) : Result :=
  request 0x0909 q s (q.len == 1) fun s _ =>
    let n := slot.toNat
    if 23 < n then refuse s sRange
    else
      let x := s.slot n
      .now s sOK ([bitB x.en] ++ leI 4 x.sp ++ leI 4 x.fb ++ leI 4 x.out ++ leI 4 x.iAcc ++ [bitB (x.coef != shadowCoef s n)])

end Sys2Proof.Machine
end

