-- ==== Sys2Proof/Machine/Stageline.lean ====
section
/-!
DEFINITION. The commands and events of the Stageline (13 R279 to R286).
-/

namespace Sys2Proof.Machine

/-- STAGELINE_FRAME_RX (R279). -/
def execStagelineFrameRx (dt : Nat) (port : Fin 2) (frame : StageFrame) (s : State) : Result :=
  event dt s (fun s => s.power != .off && !s.bist.running) fun s =>
    if s.power = .porter then porterRx s port frame else stageRx s port frame

/-- NEIGHBOUR_SEND (R280, R297). -/
def execNeighbourSend (dt : Nat) (port : Fin 2) (s : State) : Result :=
  event dt s (fun s => s.stageOn) fun s => sendNeighbour s port false

/-- NODE_ZERO_TIMEOUT (R280): node 0, or the fixed number; node 0 claims with STAGE_AUTO (R282). -/
def execNodeZeroTimeout (dt : Nat) (s : State) : Result :=
  event dt s (fun s => s.stageOn && s.stage.node.isNone && (s.pv 0x0140 0 == 1 || (s.stagePort 0).partner.isNone)) fun s =>
    let n := if s.pv 0x0140 0 = 1 then s.pv 0x0141 0 else 0
    s.onStage fun g => { g with node := some n, autoClaim := decide (n = 0) && s.pv 0x0142 0 == 1 }

/-- SWEEP_SEND (R281). -/
def execSweepSend (dt : Nat) (s : State) : Result :=
  event dt s (fun s => s.stageOn && s.stage.master && !s.stage.yielding) fun s => sendBoth s 0x3FF 0 0 (List.replicate 64 0)

/-- The oldest request without a response is sent again, or its node is unreachable (R281). A DISCOVER that is not turned back names
all nodes, and its command answers NOT_PRESENT (log entry 68). -/
def execStageRequestTimeout (dt : Nat) (s : State) : Result :=
  event dt s (fun s => s.stageOn && s.stage.master && !s.stage.reqs.isEmpty) fun s =>
    match s.stage.reqs with
    | [] => s
    | r :: rest =>
      let n := r.frame.dst.toNat
      if r.attempt < 3 then
        let a := r.attempt + 1
        let s := sendBoth s n r.frame.type.toNat (2 * a) r.frame.payload
        let s := s.onStage fun g => { g with reqs := rest ++ [{ r with attempt := a }] }
        if a = 3 then raise (s.onStage fun g => { g with reserveUses := g.reserveUses + 1 }) 0x016 n false else s
      else
        let s := raise (s.onStage fun g => { g with reqs := rest }) 0x017 n false
        settleYield (if r.frame.type = 2 then identStep s else if r.frame.type = 1 then endDiscover s sNotPresent else s)

/-- CLAIM_WINDOW_END (R282): the claimant holds the token. -/
def execClaimWindowEnd (dt : Nat) (s : State) : Result :=
  event dt s (fun s => s.stageOn && s.stage.claim.isSome) fun s => endClaim (endSourceLoss (s.onStage fun g => { g with master := true })) 0

/-- CLAIM_COLLISION_RESEND (R282), at most three times. -/
def execClaimCollisionResend (dt : Nat) (s : State) : Result :=
  event dt s (fun s => s.stageOn && (match s.stage.claim with
    | some (_, _, n) => decide (n < 3)
    | none => false)) fun s =>
    match s.stage.claim with
    | some (f, w, n) => (sendBoth s 0x3FF 4 0 (claimPayload f)).onStage fun g => { g with claim := some (f, w, n + 1) }
    | none => s

/-- MASTER_LOST (R282): 0x014, and a node with STAGE_AUTO claims later. Holdover follows (14 R300). -/
def execMasterLost (dt : Nat) (s : State) : Result :=
  event dt s (fun s => s.stageOn && !s.stage.master && decide (s.stage.sweepAt + 3 * s.pv 0x0143 0 * msU ≤ s.time)) fun s =>
    let s := raise s 0x014 (nodeN s.stage) true
    let s := if s.clk.srcLost then s else enterHoldover s
    s.onStage fun g => { g with autoClaim := s.pv 0x0142 0 == 1 && g.node.isSome }

/-- AUTO_CLAIM (R282). -/
def execAutoClaim (dt : Nat) (s : State) : Result :=
  event dt s (fun s => s.stageOn && s.stage.autoClaim && !s.stage.master && s.stage.claim.isNone) fun s => startClaim s false none

/-- SEQ_APPLY (R283). -/
def execSeqApply (dt : Nat) (s : State) : Result :=
  event dt s (fun s => s.stageOn && (match s.stage.seq with
    | some (_, t) => decide (t ≤ s.time)
    | none => false)) fun s => applySeq s ((s.stage.seq.map (·.1)).getD 1)

/-- STAGE_LINK_DOWN (Table PWR-6). -/
def execStageLinkDown (dt : Nat) (port : Fin 2) (s : State) : Result :=
  event dt s (fun s => s.stageOn && (s.stagePort port).up) fun s =>
    raise (s.onStage fun g => { g with ports := g.ports.modify port fun _ => {} }) (0x010 + port) port true

/-! ### Commands (Table PWR-8) -/

/-- PWR_STAGE_CLAIM (R282). The holder of the token keeps it. -/
def execPwrStageClaim (q : Req) (force : Byte) (s : State) : Result :=
  request 0x0105 q s (q.len == 1) fun s w =>
    if 1 < force.toNat then refuse s sRange
    else if s.stage.master then done s
    else if s.stage.claim.isSome then refuse s sBusy
    else .later (startClaim s (force == 1) (some w))

/-- PWR_STAGE_RELEASE. -/
def execPwrStageRelease (q : Req) (s : State) : Result :=
  request 0x0106 q s (q.len == 0) fun s _ => if !s.stage.master then refuse s 0x0105 else done (yieldToken s)

/-- PWR_STAGE_DISCOVER: DISCOVER out of both ports; a port without a partner has no node beyond it. -/
def execPwrStageDiscover (q : Req) (s : State) : Result :=
  request 0x0107 q s (q.len == 0) fun s w =>
    if !s.stage.master then refuse s 0x0105
    else if s.stage.discover.isSome then refuse s sBusy
    else
      let t := [0, 1].map fun p => if (s.stagePort p).up then none else some 0
      .later (turnedStep ((if t.contains none then ask s 0x3FF 1 [] else sendBoth s 0x3FF 1 0 []).onStage fun g => { g with
        discover := some w, turned := t }))

/-- PWR_STAGE_SEQ (R283). For STANDBY and READY the wake pattern goes out first (log entry 68). -/
def execPwrStageSeq (q : Req) (action : Byte) (first last : U16) (atTime : U64) (staggerUs : U16) (s : State) : Result :=
  request 0x0108 q s (q.len == 15) fun s _ =>
    let p := le 1 action.toNat ++ le 2 first.toNat ++ le 2 last.toNat ++ le 8 atTime.toNat ++ le 2 staggerUs.toNat
    if !s.stage.master then refuse s 0x0105
    else if action.toNat = 0 ∨ 3 < action.toNat ∨ last.toNat < first.toNat ∨ 511 < last.toNat then refuse s sRange
    else
      let s := if action.toNat < 3 then s.send (.stageMarker true true 2) else s
      done (hearSeq (sendBoth s 0x3FF 6 0 p) p)

/-- PWR_STAGE_START (R283). -/
def execPwrStageStart (q : Req) (atTime : U64) (s : State) : Result :=
  request 0x0109 q s (q.len == 8) fun s _ =>
    let p := le 8 atTime.toNat
    if !s.stage.master then refuse s 0x0105
    else if atTime.toNat < s.now64 then refuse s sTooLate
    else done (hearStart (sendBoth s 0x3FF 8 0 p) p)

end Sys2Proof.Machine
end

