-- ==== Sys2Proof/Machine/Stepper.lean ====
section
/-!
DEFINITION. Meanings of the stepper axes' events and commands (10 R226 to R241).
-/

namespace Sys2Proof.Machine

/-! ### Events -/

/-- STEPPER_PWM_PERIOD (R226): the bridges of an axis that is not DISABLED. -/
def execStepperPwmPeriod (dt : Nat) (axis : Fin 8) (vbusUv : Nat) (s : State) : Result :=
  event dt s (fun s => s.motionOn && decide (unitState s (unitOf s axis) ≠ .disabled)) fun s => pwmStep s axis vbusUv

/-- VOLTAGE_SATURATION (R226, Table STEP-3): a duty has clamped for STEP.SAT_MS. -/
def execVoltageSaturation (dt : Nat) (axis : Fin 8) (s : State) : Result :=
  event dt s (fun s => s.motionOn && (match (s.axis axis).satAt with
    | some t => decide (t + s.pv 0x0B15 axis * msU ≤ s.time)
    | none => false)) fun s =>
    raise (s.onAxis axis fun a => { a with satAt := some s.time }) 0x123 axis false

/-- PROFILE_EVALUATION (R228): every unit, each 10 µs. -/
def execProfileEvaluation (dt : Nat) (s : State) : Result :=
  event dt s State.motionOn fun s => (List.range 12).foldl unitEval { s with stepAt := s.time }

/-- STEP_DRIVER_FAULT (R227): bridges off, DISABLED, 0x124; with `released` AXn_nFLT goes high again, and the condition of 0x124
ends once no axis has it low. -/
def execStepDriverFault (dt : Nat) (pin : FltPin) (s : State) : Result :=
  let axis := pin.axis
  event dt s (fun s => s.motionOn && (!pin.high || (s.axis axis).nflt)) fun s =>
    let s := s.onAxis axis fun a => { a with nflt := !pin.high }
    if pin.high then (if (List.range 8).any fun j => (s.axis j).nflt then s else clearCond s 0x124)
    else raise (unitDisable s (unitOf s axis)) 0x124 axis true

/-- SWITCH_SAMPLE (R235): the three inputs of an axis. -/
def execSwitchSample (dt : Nat) (axis : Fin 8) (levels : BitVec 3) (s : State) : Result :=
  event dt s State.motionOn fun s => swSample s axis levels

/-- SWITCH_QUALIFIED (R236): the level has held for STEP.DEBOUNCE × 0.1 ms after the last edge. -/
def execSwitchQualified (dt : Nat) (axis : Fin 8) (input : Fin 3) (s : State) : Result :=
  event dt s (fun s =>
    let w := (s.axis axis).sw.getD input {}
    s.motionOn && w.qual != w.level && (match w.edgeAt with
      | some t => decide (t + s.pv 0x0B26 axis * 100 * usU ≤ s.time)
      | none => false)) fun s => swQualify s axis input

/-! ### Commands (Table STEP-5) -/

/-- The unit a UNIT field names: an axis, or 0x10 + g. -/
def unitField (u : Byte) : Option Nat :=
  if u.toNat < 8 then some u.toNat else if 16 ≤ u.toNat ∧ u.toNat < 20 then some (u.toNat - 8) else none

/-- A command to a unit: RANGE for another UNIT, NOT_PRESENT for an undefined group. -/
def withUnit (s : State) (unit : Byte) (f : Nat → Answer) : Answer :=
  match unitField unit with
  | none => refuse s sRange
  | some u => if (s.unit u).members = [] then refuse s sNotPresent else f u

/-- A command that moves a unit: a grouped axis answers IN_GROUP (R230). -/
def withMover (s : State) (unit : Byte) (f : Nat → Answer) : Answer :=
  withUnit s unit fun u => if u < 8 ∧ (s.axis u).group.isSome then refuse s 0x0B04 else f u

/-- STEP_ENABLE (R227); a grouped axis stands for its group (log entry 65). -/
def execStepEnable (q : Req) (axis on : Byte) (s : State) : Result :=
  request 0x0B01 q s (q.len == 2) fun s _ =>
    let u := unitOf s axis.toNat
    if 7 < axis.toNat ∨ 1 < on.toNat then refuse s sRange
    else if on = 0 then done (unitDisable s u)
    else if s.c4On then refuse s sDenied
    else if s.motionOn = false then refuse s sBadState
    else if s.bist.failed.getLsbD 62 then refuse s sDenied
    else if (s.unit u).st = .disabled then done (s.onUnit u fun x => { x with st := .idle })
    else done s

/-- Positions in microsteps from which a new move of a unit starts: the last target of what is queued, else where it is. -/
def planStart (s : State) (u : Nat) : List Int :=
  match (s.unit u).queue.getLast?, (s.unit u).cur with
  | some m, _ => m.targets
  | none, some m => m.targets
  | none, none => (unitPos s u).map (· / 65536)

/-- A limit of a group's dominant member, lowered so that no member exceeds its own (R230). -/
def groupLimit (s : State) (ks : List Nat) (d : List Int) (idx v : Nat) : Nat :=
  let dom := domDist d
  ((ks.zip d).foldl (fun v e => if e.2 = 0 then v else min v (s.pv idx e.1 * dom / e.2.natAbs)) v)

/-- The move a STEP_MOVE asks for (R228, R230): 0 takes the parameter of the dominant member. -/
def planMove (s : State) (u : Nat) (abs : Bool) (vmax amax jmax : Nat) (ts : List Int) : Move :=
  let ks := (s.unit u).members
  let start := planStart s u
  let ts := if abs then ts else List.zipWith (· + ·) start ts
  let d := List.zipWith (fun t p => t - p) ts start
  let k := ks.getD (domIndex d) 0
  let pick := fun (idx v : Nat) => if v = 0 then s.pv idx k else v
  let low := fun (idx v : Nat) => if u < 8 then pick idx v else max 1 (groupLimit s ks d idx (pick idx v))
  { abs := abs, vmax := low 0x0B16 vmax, amax := low 0x0B17 amax, jmax := low 0x0B18 jmax, targets := ts }

/-- The limits of a STEP_MOVE are 0 or within the ranges of the parameters (Table STEP-4). -/
def moveRangeOk (vmax amax jmax : Nat) : Bool :=
  decide (vmax ≤ 2000000) && (amax == 0 || (decide (100 ≤ amax) && decide (amax ≤ 1000000000)))
    && (jmax == 0 || (decide (1000 ≤ jmax) && decide (jmax ≤ 4000000000)))

/-- A target lies within s48. -/
def targetOk (t : Int) : Bool := decide (-140737488355328 ≤ t) && decide (t < 140737488355328)

/-- The unit takes moves: IDLE, MOVING, STOPPED, and STOPPING unless a limit or homing is the reason (Table STEP-1). -/
def takesMoves (x : StepUnit) : Bool :=
  match x.st with
  | .idle | .moving | .stopped => true
  | .stopping => x.stopWhy == 1
  | _ => false

/-- STEP_MOVE (R228 to R230, R235). -/
def execStepMove (q : Req) (unit abs : Byte) (vmax amax jmax : U32) (targets : List (BitVec 48)) (s : State) : Result :=
  request 0x0B02 q s (q.len == 14 + 6 * targets.length) fun s _ =>
    withMover s unit fun u =>
      let x := s.unit u
      if targets.length ≠ x.members.length then refuse s sBadLength
      else
        let m := planMove s u (abs == 1) vmax.toNat amax.toNat jmax.toNat (targets.map (·.toInt))
        let d := List.zipWith (fun t p => t - p) m.targets (planStart s u)
        if 1 < abs.toNat || !moveRangeOk vmax.toNat amax.toNat jmax.toNat || !(m.targets.all targetOk) then refuse s sRange
        else if !takesMoves x then refuse s sBadState
        else if 32 ≤ x.queue.length then refuse s 0x0B01
        else if abs = 1 ∧ (x.members.any fun k => !(s.axis k).homed) then refuse s 0x0B02
        else if towardLimit s u d then refuse s 0x0B03
        else
          let s := s.onUnit u fun x => { x with queue := x.queue ++ [m], st := if x.st = .idle then .moving else x.st }
          .now s sOK [BitVec.ofNat 8 (s.unit u).queue.length]

/-- STEP_STOP (R232): sampled at the next evaluation; on a grouped axis it acts on the group (R230). -/
def execStepStop (q : Req) (unit : Byte) (s : State) : Result :=
  request 0x0B03 q s (q.len == 1) fun s w =>
    withUnit s unit fun u =>
      let u := if u < 8 then unitOf s u else u
      if !s.motionOn then refuse s sBadState
      else if (s.unit u).stop.isSome then refuse s sPending else .later (s.onUnit u fun x => { x with stop := some w })

/-- STEP_RESUME (R233). -/
def execStepResume (q : Req) (unit : Byte) (s : State) : Result :=
  request 0x0B04 q s (q.len == 1) fun s _ =>
    withMover s unit fun u =>
      let x := s.unit u
      if x.st ≠ .stopped then refuse s sBadState
      else
        let ps := unitPos s u
        let d := ((x.cur.map fun m => moveDelta m ps).getD [])
        if ((x.cur.map (·.abs)).getD false) && (x.members.any fun k => !(s.axis k).homed) then refuse s 0x0B02
        else if towardLimit s u d then refuse s 0x0B03
        else done (s.onUnit u fun x => { x with
          st := .moving, cur := x.cur.map fun m => { m with start := ps }, joint := none, prog := 0, vel := 0, acc := 0 })

/-- STEP_FLUSH (R233). -/
def execStepFlush (q : Req) (unit : Byte) (s : State) : Result :=
  request 0x0B05 q s (q.len == 1) fun s _ =>
    withMover s unit fun u =>
      match (s.unit u).st with
      | .idle | .stopped => done (s.onUnit u fun x => { x with st := .idle, queue := [], cur := none, joint := none, prog := 0, remain := [] })
      | _ => refuse s sBadState

/-- An active limit that is not the home switch lies in HOME_DIR (R235). -/
def homeBlocked (s : State) (k : Nat) : Bool :=
  let pos := s.pv 0x0B21 k == 1
  limitActive s k pos && bitN pos != homeSrc s k

/-- STEP_HOME (R235, R238). -/
def execStepHome (q : Req) (axis : Byte) (s : State) : Result :=
  request 0x0B06 q s (q.len == 1) fun s _ =>
    let k := axis.toNat
    if 7 < k then refuse s sRange
    else if (s.axis k).group.isSome then refuse s 0x0B04
    else if (s.unit k).st ≠ .idle then refuse s sBadState
    else if homeBlocked s k then refuse s 0x0B03
    else
      let step := if swActive s k (homeSrc s k) then 1 else 2
      let s := s.onUnit k fun x => { x with st := .homing, queue := [], cur := none, remain := [], vel := 0, acc := 0 }
      done (s.onAxis k fun a => { a with
        homed := false, homeStep := step, homeWait := true, homeDir := s.pv 0x0B21 k == 1, homeRev := false })

/-- Group g has the members ks and nothing to do; the axes it had are free (R230). -/
def setGroup (s : State) (g : Nat) (ks : List Nat) : State :=
  let s := (s.unit (8 + g)).members.foldl (fun s k => s.onAxis k fun a => { a with group := none }) s
  let s := ks.foldl (fun s k => s.onAxis k fun a => { a with group := some g }) s
  s.onUnit (8 + g) fun x => { x with
    members := ks, st := if ks = [] then .disabled else .idle, queue := [], cur := none, joint := none, prog := 0, remain := [] }

/-- STEP_GROUP with a mask: forms group g of idle axes, from those of group g too while it is idle (R230). -/
def formGroup (s : State) (g : Nat) (ks : List Nat) : Answer :=
  let idle (u : Nat) : Bool := decide ((s.unit u).st = .idle) && (s.unit u).queue.isEmpty
  if ks.any fun k => (s.axis k).group.isSome && (s.axis k).group != some g then refuse s 0x0B04
  else if !(ks.all fun k => idle (unitOf s k)) then refuse s sBadState
  else if (s.unit (8 + g)).members ≠ [] ∧ idle (8 + g) = false then refuse s sBadState
  else done (setGroup s g ks)

/-- STEP_GROUP (R230). -/
def execStepGroup (q : Req) (group mask : Byte) (s : State) : Result :=
  request 0x0B07 q s (q.len == 2) fun s _ =>
    let g := group.toNat
    let ks := bitsOf mask.toNat 8
    if 3 < g then refuse s sRange
    else if mask = 0 then
      if (s.unit (8 + g)).members = [] then refuse s sNotPresent
      else if (s.unit (8 + g)).st ≠ .idle then refuse s sBadState
      else done (setGroup s g [])
    else if ks.length < 2 ∨ 4 < ks.length then refuse s sRange
    else formGroup s g ks

/-- STEP_SW_RESET (R237): the inputs taken as active after chatter have had no edge within the window. -/
def execStepSwReset (q : Req) (axis : Byte) (s : State) : Result :=
  request 0x0B08 q s (q.len == 1) fun s _ =>
    let k := axis.toNat
    let win := s.pv 0x0B27 (k + 8) * msU
    if 7 < k then refuse s sRange
    else if (s.axis k).sw.any fun w => w.unstable && (match w.edgeAt with
        | some t => decide (s.time < t + win)
        | none => false) then refuse s sBadState
    else
      let s := s.onAxis k fun a => { a with sw := a.sw.map fun w => { w with unstable := false } }
      let s := if (List.range 8).any fun j => (s.axis j).sw.any (·.unstable) then s else clearCond s 0x122
      done s

/-- STEP_STATUS (Table STEP-5). -/
def execStepStatus (q : Req) (unit : Byte) (s : State) : Result :=
  request 0x0B09 q s (q.len == 1) fun s _ =>
    withUnit s unit fun u =>
      let ks := (s.unit u).members
      let x := s.unit (if u < 8 then unitOf s u else u)
      let homed := ks.all fun k => (s.axis k).homed
      .now s sOK ([BitVec.ofNat 8 (axisCode x.st), bitB homed]
        ++ (ks.map fun k => leI 6 (axisPos (s.axis k)) ++ leI 6 (axisRemain s k)).flatten ++ [BitVec.ofNat 8 x.queue.length])

end Sys2Proof.Machine
end

