-- ==== Sys2Proof/Machine/Dispatch.lean ====
section
/-!
DEFINITION. One arm per command: the meaning of each.
-/

namespace Sys2Proof.Machine

def exec (i : Instr) (s : State) : Host.Outcome State Fault Refusal :=
  match i with
  | .layArm q d rtt => Sys2Proof.Machine.execLayArm q d rtt s
  | .layStart q => Sys2Proof.Machine.execLayStart q s
  | .stagelineStartMarker dt => Sys2Proof.Machine.execStagelineStartMarker dt s
  | .doseRingPrimed dt => Sys2Proof.Machine.execDoseRingPrimed dt s
  | .layAbort q atTime => Sys2Proof.Machine.execLayAbort q atTime s
  | .layStatus q => Sys2Proof.Machine.execLayStatus q s
  | .layRecordGet q layerNo repair => Sys2Proof.Machine.execLayRecordGet q layerNo repair s
  | .lineMarker dt m noBuffer => Sys2Proof.Machine.execLineMarker dt m noBuffer s
  | .carriageStall dt => Sys2Proof.Machine.execCarriageStall dt s
  | .calibrationStale dt => Sys2Proof.Machine.execCalibrationStale dt s
  | .mapRowDrop dt row => Sys2Proof.Machine.execMapRowDrop dt row s
  | .runupTimeout dt rtt => Sys2Proof.Machine.execRunupTimeout dt rtt s
  | .followerAtRest dt => Sys2Proof.Machine.execFollowerAtRest dt s
  | .runOutDone dt rtt => Sys2Proof.Machine.execRunOutDone dt rtt s
  | .learnUpdate dt => Sys2Proof.Machine.execLearnUpdate dt s
  | .aqripolBlock dt queue parity => Sys2Proof.Machine.execAqripolBlock dt queue parity s
  | .blockAccepted dt queue => Sys2Proof.Machine.execBlockAccepted dt queue s
  | .inflaterSlotFree dt queue => Sys2Proof.Machine.execInflaterSlotFree dt queue s
  | .compressHandover dt kind place items parity => Sys2Proof.Machine.execCompressHandover dt kind place items parity s
  | .compressDone dt place faulty => Sys2Proof.Machine.execCompressDone dt place faulty s
  | .compressBypass dt => Sys2Proof.Machine.execCompressBypass dt s
  | .shadowCompare dt wrong => Sys2Proof.Machine.execShadowCompare dt wrong s
  | .dataKekAgree q hostKey => Sys2Proof.Machine.execDataKekAgree q hostKey s
  | .dataKeyLoad q slot ivFixed wrapped => Sys2Proof.Machine.execDataKeyLoad q slot ivFixed wrapped s
  | .dataKeyClear q slot => Sys2Proof.Machine.execDataKeyClear q slot s
  | .dataKeyStatus q => Sys2Proof.Machine.execDataKeyStatus q s
  | .dataStreamStatus q queue => Sys2Proof.Machine.execDataStreamStatus q queue s
  | .dataShadowReport q => Sys2Proof.Machine.execDataShadowReport q s
  | .dataCompress q src len => Sys2Proof.Machine.execDataCompress q src len s
  | .doseBilletRead q column => Sys2Proof.Machine.execDoseBilletRead q column s
  | .doseBilletWrite q column weights => Sys2Proof.Machine.execDoseBilletWrite q column weights s
  | .doseBilletDefault q lane => Sys2Proof.Machine.execDoseBilletDefault q lane s
  | .emonCapArm q => Sys2Proof.Machine.execEmonCapArm q s
  | .emonCapTrigger q => Sys2Proof.Machine.execEmonCapTrigger q s
  | .emonCapStop q => Sys2Proof.Machine.execEmonCapStop q s
  | .emonCapHeader q => Sys2Proof.Machine.execEmonCapHeader q s
  | .emonCapRelease q mode => Sys2Proof.Machine.execEmonCapRelease q mode s
  | .emonLearnReset q => Sys2Proof.Machine.execEmonLearnReset q s
  | .captureClearDone dt => Sys2Proof.Machine.execCaptureClearDone dt s
  | .markerAdvance dt waitNs => Sys2Proof.Machine.execMarkerAdvance dt waitNs s
  | .deliveryReport dt chain pos period fired status => Sys2Proof.Machine.execDeliveryReport dt chain pos period fired status s
  | .ackUnknown dt chain pos period => Sys2Proof.Machine.execAckUnknown dt chain pos period s
  | .photodiodeReturn dt chain pos period flags samples => Sys2Proof.Machine.execPhotodiodeReturn dt chain pos period flags samples s
  | .telemetryFrame dt chain pos frame => Sys2Proof.Machine.execTelemetryFrame dt chain pos frame s
  | .managementResponse dt chain pos tag status data => Sys2Proof.Machine.execManagementResponse dt chain pos tag status data s
  | .codewordUncorrectable dt lane error => Sys2Proof.Machine.execCodewordUncorrectable dt lane error s
  | .laneFailover dt chain => Sys2Proof.Machine.execLaneFailover dt chain s
  | .failoverComplete dt chain => Sys2Proof.Machine.execFailoverComplete dt chain s
  | .chainRailsGood dt chain => Sys2Proof.Machine.execChainRailsGood dt chain s
  | .segmentTrained dt chain space => Sys2Proof.Machine.execSegmentTrained dt chain space s
  | .segmentTrainFail dt chain => Sys2Proof.Machine.execSegmentTrainFail dt chain s
  | .chainDiscovered dt chain rtt blocks => Sys2Proof.Machine.execChainDiscovered dt chain rtt blocks s
  | .loadSwitchClose dt chain => Sys2Proof.Machine.execLoadSwitchClose dt chain s
  | .reservePretrain dt => Sys2Proof.Machine.execReservePretrain dt s
  | .pretrainDone dt ok got => Sys2Proof.Machine.execPretrainDone dt ok got s
  | .presenceLoss dt chain => Sys2Proof.Machine.execPresenceLoss dt chain s
  | .railDischargeCheck dt chain maxMv => Sys2Proof.Machine.execRailDischargeCheck dt chain maxMv s
  | .presenceReturn dt chain => Sys2Proof.Machine.execPresenceReturn dt chain s
  | .linkChainPower q chain on => Sys2Proof.Machine.execLinkChainPower q chain on s
  | .linkDescRead q chain pos addr len => Sys2Proof.Machine.execLinkDescRead q chain pos addr len s
  | .linkDescWrite q chain pos addr len data => Sys2Proof.Machine.execLinkDescWrite q chain pos addr len data s
  | .linkTileSwitch q chain pos close => Sys2Proof.Machine.execLinkTileSwitch q chain pos close s
  | .linkFailover q chain => Sys2Proof.Machine.execLinkFailover q chain s
  | .linkRestore q chain => Sys2Proof.Machine.execLinkRestore q chain s
  | .linkStatus q chain => Sys2Proof.Machine.execLinkStatus q chain s
  | .transportPacketRx dt port frame buffersFull => Sys2Proof.Machine.execTransportPacketRx dt port frame buffersFull s
  | .ackTimer dt channel => Sys2Proof.Machine.execAckTimer dt channel s
  | .retransmitTimeout dt channel => Sys2Proof.Machine.execRetransmitTimeout dt channel s
  | .inboundGapTimeout dt channel => Sys2Proof.Machine.execInboundGapTimeout dt channel s
  | .outboundPeerLost dt channel => Sys2Proof.Machine.execOutboundPeerLost dt channel s
  | .keepaliveSend dt port => Sys2Proof.Machine.execKeepaliveSend dt port s
  | .portDown dt port => Sys2Proof.Machine.execPortDown dt port s
  | .ptpMessageRx dt port frame => Sys2Proof.Machine.execPtpMessageRx dt port frame s
  | .ptpSyncLost dt => Sys2Proof.Machine.execPtpSyncLost dt s
  | .hostPortStatus q port => Sys2Proof.Machine.execHostPortStatus q port s
  | .hostPortRestart q port => Sys2Proof.Machine.execHostPortRestart q port s
  | .hostChanOpen q channel reliable dir => Sys2Proof.Machine.execHostChanOpen q channel reliable dir s
  | .hostChanClose q channel => Sys2Proof.Machine.execHostChanClose q channel s
  | .dmaStart q ch desc => Sys2Proof.Machine.execDmaStart q ch desc s
  | .dmaStop q ch => Sys2Proof.Machine.execDmaStop q ch s
  | .dmaDisable q ch => Sys2Proof.Machine.execDmaDisable q ch s
  | .dmaStatus q ch => Sys2Proof.Machine.execDmaStatus q ch s
  | .dmaBurst dt ch => Sys2Proof.Machine.execDmaBurst dt ch s
  | .dmaStarveBoost dt ch => Sys2Proof.Machine.execDmaStarveBoost dt ch s
  | .baseTick dt => Sys2Proof.Machine.execBaseTick dt s
  | .encoderPositionChange dt enc pos => Sys2Proof.Machine.execEncoderPositionChange dt enc pos s
  | .encoderZEdge dt enc => Sys2Proof.Machine.execEncoderZEdge dt enc s
  | .encoderLost dt enc cause => Sys2Proof.Machine.execEncoderLost dt enc cause s
  | .carriageInPosition dt => Sys2Proof.Machine.execCarriageInPosition dt s
  | .outputSaturated dt slot => Sys2Proof.Machine.execOutputSaturated dt slot s
  | .servoLoopEnable q slot on => Sys2Proof.Machine.execServoLoopEnable q slot on s
  | .servoLoopCommit q slot => Sys2Proof.Machine.execServoLoopCommit q slot s
  | .servoTableWrite q table first count values => Sys2Proof.Machine.execServoTableWrite q table first count values s
  | .servoEncReference q enc => Sys2Proof.Machine.execServoEncReference q enc s
  | .servoCarriageMove q target => Sys2Proof.Machine.execServoCarriageMove q target s
  | .servoCarriageStop q => Sys2Proof.Machine.execServoCarriageStop q s
  | .servoTestStart q t => Sys2Proof.Machine.execServoTestStart q t s
  | .servoTestStop q => Sys2Proof.Machine.execServoTestStop q s
  | .servoStatus q slot => Sys2Proof.Machine.execServoStatus q slot s
  | .decisionPeriod dt ch iu iv iw vbusMv => Sys2Proof.Machine.execDecisionPeriod dt ch iu iv iw vbusMv s
  | .driveOvercurrent dt ch trip => Sys2Proof.Machine.execDriveOvercurrent dt ch trip s
  | .bemfZeroCrossing dt ch phase rising => Sys2Proof.Machine.execBemfZeroCrossing dt ch phase rising s
  | .catchTimeout dt ch => Sys2Proof.Machine.execCatchTimeout dt ch s
  | .brakeElapsed dt ch => Sys2Proof.Machine.execBrakeElapsed dt ch s
  | .alignElapsed dt ch => Sys2Proof.Machine.execAlignElapsed dt ch s
  | .coastElapsed dt ch => Sys2Proof.Machine.execCoastElapsed dt ch s
  | .standstillOffset dt ch u v w => Sys2Proof.Machine.execStandstillOffset dt ch u v w s
  | .driveStall dt ch => Sys2Proof.Machine.execDriveStall dt ch s
  | .drvEnable q ch on => Sys2Proof.Machine.execDrvEnable q ch on s
  | .drvCurveWrite q ch points => Sys2Proof.Machine.execDrvCurveWrite q ch points s
  | .drvAlign q ch => Sys2Proof.Machine.execDrvAlign q ch s
  | .drvAlignDone dt ch => Sys2Proof.Machine.execDrvAlignDone dt ch s
  | .drvStatus q ch => Sys2Proof.Machine.execDrvStatus q ch s
  | .stepperPwmPeriod dt axis vbusUv => Sys2Proof.Machine.execStepperPwmPeriod dt axis vbusUv s
  | .voltageSaturation dt axis => Sys2Proof.Machine.execVoltageSaturation dt axis s
  | .profileEvaluation dt => Sys2Proof.Machine.execProfileEvaluation dt s
  | .stepDriverFault dt pin => Sys2Proof.Machine.execStepDriverFault dt pin s
  | .switchSample dt axis levels => Sys2Proof.Machine.execSwitchSample dt axis levels s
  | .switchQualified dt axis input => Sys2Proof.Machine.execSwitchQualified dt axis input s
  | .stepEnable q axis on => Sys2Proof.Machine.execStepEnable q axis on s
  | .stepMove q unit abs vmax amax jmax targets => Sys2Proof.Machine.execStepMove q unit abs vmax amax jmax targets s
  | .stepStop q unit => Sys2Proof.Machine.execStepStop q unit s
  | .stepResume q unit => Sys2Proof.Machine.execStepResume q unit s
  | .stepFlush q unit => Sys2Proof.Machine.execStepFlush q unit s
  | .stepHome q axis => Sys2Proof.Machine.execStepHome q axis s
  | .stepGroup q group mask => Sys2Proof.Machine.execStepGroup q group mask s
  | .stepSwReset q axis => Sys2Proof.Machine.execStepSwReset q axis s
  | .stepStatus q unit => Sys2Proof.Machine.execStepStatus q unit s
  | .roundStart dt => Sys2Proof.Machine.execRoundStart dt s
  | .roundPublish dt inputs => Sys2Proof.Machine.execRoundPublish dt inputs s
  | .mainsZeroCross dt line positive => Sys2Proof.Machine.execMainsZeroCross dt line positive s
  | .mainsLost dt line => Sys2Proof.Machine.execMainsLost dt line s
  | .heaterPwmPeriod dt heater => Sys2Proof.Machine.execHeaterPwmPeriod dt heater s
  | .hkRead q first count => Sys2Proof.Machine.execHkRead q first count s
  | .htrOtReset q heater => Sys2Proof.Machine.execHtrOtReset q heater s
  | .analogueTrip dt => Sys2Proof.Machine.execAnalogueTrip dt s
  | .wearSave dt => Sys2Proof.Machine.execWearSave dt s
  | .pwrState q target => Sys2Proof.Machine.execPwrState q target s
  | .pwrRail q slot on => Sys2Proof.Machine.execPwrRail q slot on s
  | .pwrMargin q slot dir permille => Sys2Proof.Machine.execPwrMargin q slot dir permille s
  | .marginTrimDone dt slot reached trim => Sys2Proof.Machine.execMarginTrimDone dt slot reached trim s
  | .pwrRailStatus q slot => Sys2Proof.Machine.execPwrRailStatus q slot s
  | .pwrStageClaim q force => Sys2Proof.Machine.execPwrStageClaim q force s
  | .pwrStageRelease q => Sys2Proof.Machine.execPwrStageRelease q s
  | .pwrStageDiscover q => Sys2Proof.Machine.execPwrStageDiscover q s
  | .pwrStageSeq q action first last atTime staggerUs => Sys2Proof.Machine.execPwrStageSeq q action first last atTime staggerUs s
  | .pwrStageStart q atTime => Sys2Proof.Machine.execPwrStageStart q atTime s
  | .railDelayElapsed dt slot => Sys2Proof.Machine.execRailDelayElapsed dt slot s
  | .railGood dt slot mv voutMode => Sys2Proof.Machine.execRailGood dt slot mv voutMode s
  | .railPgTimeout dt slot => Sys2Proof.Machine.execRailPgTimeout dt slot s
  | .railDecayed dt slot mv => Sys2Proof.Machine.execRailDecayed dt slot mv s
  | .railDecayTimeout dt slot => Sys2Proof.Machine.execRailDecayTimeout dt slot s
  | .railLost dt slot mv => Sys2Proof.Machine.execRailLost dt slot mv s
  | .railOvervoltage dt slot mv => Sys2Proof.Machine.execRailOvervoltage dt slot mv s
  | .pmbusAlert dt slot status => Sys2Proof.Machine.execPmbusAlert dt slot status s
  | .pmbusPoll dt slot readings => Sys2Proof.Machine.execPmbusPoll dt slot readings s
  | .wakeEvent dt cause => Sys2Proof.Machine.execWakeEvent dt cause s
  | .vstbyLost dt => Sys2Proof.Machine.execVstbyLost dt s
  | .phantomLost dt => Sys2Proof.Machine.execPhantomLost dt s
  | .phantomOvercurrent dt => Sys2Proof.Machine.execPhantomOvercurrent dt s
  | .stagelineFrameRx dt port frame => Sys2Proof.Machine.execStagelineFrameRx dt port frame s
  | .neighbourSend dt port => Sys2Proof.Machine.execNeighbourSend dt port s
  | .nodeZeroTimeout dt => Sys2Proof.Machine.execNodeZeroTimeout dt s
  | .sweepSend dt => Sys2Proof.Machine.execSweepSend dt s
  | .stageRequestTimeout dt => Sys2Proof.Machine.execStageRequestTimeout dt s
  | .claimWindowEnd dt => Sys2Proof.Machine.execClaimWindowEnd dt s
  | .masterLost dt => Sys2Proof.Machine.execMasterLost dt s
  | .autoClaim dt => Sys2Proof.Machine.execAutoClaim dt s
  | .seqApply dt => Sys2Proof.Machine.execSeqApply dt s
  | .stageLinkDown dt port => Sys2Proof.Machine.execStageLinkDown dt port s
  | .referenceNotReady dt => Sys2Proof.Machine.execReferenceNotReady dt s
  | .referenceLost dt => Sys2Proof.Machine.execReferenceLost dt s
  | .porterCrystalFail dt => Sys2Proof.Machine.execPorterCrystalFail dt s
  | .porterRcTrim dt => Sys2Proof.Machine.execPorterRcTrim dt s
  | .pllLock dt pll band inRange => Sys2Proof.Machine.execPllLock dt pll band inRange s
  | .pllUnlock dt pll => Sys2Proof.Machine.execPllUnlock dt pll s
  | .exppllPhaseAligned dt => Sys2Proof.Machine.execExppllPhaseAligned dt s
  | .secondBoundary dt => Sys2Proof.Machine.execSecondBoundary dt s
  | .timeMarkerRx dt port => Sys2Proof.Machine.execTimeMarkerRx dt port s
  | .segmentDelayMeasure dt port exchanges => Sys2Proof.Machine.execSegmentDelayMeasure dt port exchanges s
  | .holdoverEntry dt => Sys2Proof.Machine.execHoldoverEntry dt s
  | .leapApply dt => Sys2Proof.Machine.execLeapApply dt s
  | .ptpDisagreement dt => Sys2Proof.Machine.execPtpDisagreement dt s
  | .clkTimeGet q => Sys2Proof.Machine.execClkTimeGet q s
  | .clkTimeSet q year month day hour minute second reserved nsec => Sys2Proof.Machine.execClkTimeSet q year month day hour minute second reserved nsec s
  | .clkLeapSet q offset atTime => Sys2Proof.Machine.execClkLeapSet q offset atTime s
  | .clkStatus q => Sys2Proof.Machine.execClkStatus q s
  | .faultRaise dt source data condition => Sys2Proof.Machine.execFaultRaise dt source data condition s
  | .reactionCheck dt nEmitHigh driveRailsLow => Sys2Proof.Machine.execReactionCheck dt nEmitHigh driveRailsLow s
  | .emitInhibitRise dt => Sys2Proof.Machine.execEmitInhibitRise dt s
  | .inhibitHoldExpiry dt => Sys2Proof.Machine.execInhibitHoldExpiry dt s
  | .sramError dt offset corrected reader => Sys2Proof.Machine.execSramError dt offset corrected reader s
  | .regionWriteBlocked dt offset master => Sys2Proof.Machine.execRegionWriteBlocked dt offset master s
  | .scrubPass dt => Sys2Proof.Machine.execScrubPass dt s
  | .faultClear q source => Sys2Proof.Machine.execFaultClear q source s
  | .faultStatus q first count => Sys2Proof.Machine.execFaultStatus q first count s
  | .faultFirst q => Sys2Proof.Machine.execFaultFirst q s
  | .faultInject q source => Sys2Proof.Machine.execFaultInject q source s
  | .liveTableRebuild dt => Sys2Proof.Machine.execLiveTableRebuild dt s
  | .bracketLoad dt chain pos => Sys2Proof.Machine.execBracketLoad dt chain pos s
  | .calibrationBurstStart dt => Sys2Proof.Machine.execCalibrationBurstStart dt s
  | .calibrationPeriod dt samples => Sys2Proof.Machine.execCalibrationPeriod dt samples s
  | .calibrationRunApply dt => Sys2Proof.Machine.execCalibrationRunApply dt s
  | .calibrationRunEnd dt cause => Sys2Proof.Machine.execCalibrationRunEnd dt cause s
  | .traceEnterTimeout dt => Sys2Proof.Machine.execTraceEnterTimeout dt s
  | .hkTraceDone dt => Sys2Proof.Machine.execHkTraceDone dt s
  | .tileOverdue dt chain pos => Sys2Proof.Machine.execTileOverdue dt chain pos s
  | .calRun q mask => Sys2Proof.Machine.execCalRun q mask s
  | .calCancel q => Sys2Proof.Machine.execCalCancel q s
  | .calStatus q => Sys2Proof.Machine.execCalStatus q s
  | .calCellRead q chain pos row col => Sys2Proof.Machine.execCalCellRead q chain pos row col s
  | .calCellSet q chain pos row col action => Sys2Proof.Machine.execCalCellSet q chain pos row col action s
  | .calPdTrace q chain pos samples => Sys2Proof.Machine.execCalPdTrace q chain pos samples s
  | .calPdEnter q energyNj => Sys2Proof.Machine.execCalPdEnter q energyNj s
  | .calHkTrace q => Sys2Proof.Machine.execCalHkTrace q s
  | .calUserReset q chain pos => Sys2Proof.Machine.execCalUserReset q chain pos s
  | .keeperWatchdogTrip dt core => Sys2Proof.Machine.execKeeperWatchdogTrip dt core s
  | .keeperRestartDone dt => Sys2Proof.Machine.execKeeperRestartDone dt s
  | .loadWindow dt load => Sys2Proof.Machine.execLoadWindow dt load s
  | .requestAging dt mb tag => Sys2Proof.Machine.execRequestAging dt mb tag s
  | .sessionTimeout dt mb => Sys2Proof.Machine.execSessionTimeout dt mb s
  | .claimWindowClose dt => Sys2Proof.Machine.execClaimWindowClose dt s
  | .storeCommitDelay dt flash => Sys2Proof.Machine.execStoreCommitDelay dt flash s
  | .gbFlush dt => Sys2Proof.Machine.execGbFlush dt s
  | .mb4ReqDoorbell dt => Sys2Proof.Machine.execMb4ReqDoorbell dt s
  | .mb4AckDoorbell dt => Sys2Proof.Machine.execMb4AckDoorbell dt s
  | .timeNowRead dt => Sys2Proof.Machine.execTimeNowRead dt s
  | .registerWrite dt path offset value => Sys2Proof.Machine.execRegisterWrite dt path offset value s
  | .keepIdent q => Sys2Proof.Machine.execKeepIdent q s
  | .keepStatus q => Sys2Proof.Machine.execKeepStatus q s
  | .paramRead q index sub count => Sys2Proof.Machine.execParamRead q index sub count s
  | .paramWrite q entry => Sys2Proof.Machine.execParamWrite q entry s
  | .paramWriteSet q n entries => Sys2Proof.Machine.execParamWriteSet q n entries s
  | .sessionOpen q force => Sys2Proof.Machine.execSessionOpen q force s
  | .sessionClose q => Sys2Proof.Machine.execSessionClose q s
  | .sessionClaim q force => Sys2Proof.Machine.execSessionClaim q force s
  | .keepResync q => Sys2Proof.Machine.execKeepResync q s
  | .waybillRead q generation offset len => Sys2Proof.Machine.execWaybillRead q generation offset len s
  | .gbRead q fromSeq count => Sys2Proof.Machine.execGbRead q fromSeq count s
  | .gbAck q rdSeq => Sys2Proof.Machine.execGbAck q rdSeq s
  | .storeCommit q flash => Sys2Proof.Machine.execStoreCommit q flash s
  | .storeStatus q => Sys2Proof.Machine.execStoreStatus q s
  | .fwBegin q length => Sys2Proof.Machine.execFwBegin q length s
  | .fwWrite q offset data => Sys2Proof.Machine.execFwWrite q offset data s
  | .fwVerify q => Sys2Proof.Machine.execFwVerify q s
  | .fwActivate q mode => Sys2Proof.Machine.execFwActivate q mode s
  | .fwConfirm q => Sys2Proof.Machine.execFwConfirm q s
  | .bistResultRead q => Sys2Proof.Machine.execBistResultRead q s
  | .secIdentGet q => Sys2Proof.Machine.execSecIdentGet q s
  | .wearRead q => Sys2Proof.Machine.execWearRead q s
  | .shutdownSelfTest dt inputs => Sys2Proof.Machine.execShutdownSelfTest dt inputs s
  | .selfTestInterrupt dt => Sys2Proof.Machine.execSelfTestInterrupt dt s
  | .boot dt => Sys2Proof.Machine.execBoot dt s
  | .emitInhibitFall dt => Sys2Proof.Machine.execEmitInhibitFall dt s
  | .portLinkUp dt port => Sys2Proof.Machine.execPortLinkUp dt port s
  | .vstbyReturn dt => Sys2Proof.Machine.execVstbyReturn dt s
  | .phantomReturn dt => Sys2Proof.Machine.execPhantomReturn dt s
  | .phantomFoldbackEnd dt => Sys2Proof.Machine.execPhantomFoldbackEnd dt s
  | .sixStepCommutation dt ch => Sys2Proof.Machine.execSixStepCommutation dt ch s
  | .claimCollisionResend dt => Sys2Proof.Machine.execClaimCollisionResend dt s
  | .storeDeferralLimit dt flash => Sys2Proof.Machine.execStoreDeferralLimit dt flash s
  | .repairLineBuilt dt line => Sys2Proof.Machine.execRepairLineBuilt dt line s

end Sys2Proof.Machine
end

