-- ==== Sys2Proof/Safety.lean ====
section
/-!
DEFINITION. What counts as a safe run, and the words the statements are made in: a request that reaches its
subsystem, a command that changes nothing but its own way through a mailbox, emission and power made safe.
-/

namespace Sys2Proof.Safety

open Sys2Proof.Machine

/-- A request of an opcode passes the checks of 17 R350 to R353 in state `s` and its subsystem acts on it in
state `t`; its answer carries the header `w`. The payload length is the one the opcode asks for. -/
def Runs (op : U16) (len : Nat) (q : Req) (s : State) (w : Waiting) (t : State) : Prop :=
  q.len = len ∧ (s.pass q.dt).mainOn = true ∧ mailboxDead (s.pass q.dt) q.mb.val = false
    ∧ verdict (s.pass q.dt) op q true = .run w
    ∧ t = dequeue (arrive op q (s.pass q.dt)) op q

/-- A request of an opcode is turned away by the checks of 17 R350 to R353 with a status. -/
def TurnedAway (op : U16) (lenOk : Bool) (q : Req) (s : State) (w : Waiting) (status : U16) : Prop :=
  (s.pass q.dt).mainOn = true ∧ mailboxDead (s.pass q.dt) q.mb.val = false
    ∧ verdict (s.pass q.dt) op q lenOk = .refuse w status

/-- Nothing has changed from `s` to `t` but what messages pass through: the transport channels, the times of the last
packets, the mailboxes' queues, histories and buffers, the times in the sessions, what was sent, the mark of a parity
error in a request buffer, and KEEP.REJECTS 0x0022.3. -/
def Quiet (s t : State) : Prop :=
  { t with
    sent := s.sent
    host := { t.host with chans := s.host.chans, ports := s.host.ports }
    stage := { t.stage with mb5Out := s.stage.mb5Out }
    params := s.params
    keep := { t.keep with
      queues := s.keep.queues, fast := s.keep.fast, sessions := s.keep.sessions, hist := s.keep.hist
      mb4Wait := s.keep.mb4Wait, mb4Resp := s.keep.mb4Resp, respReady := s.keep.respReady, mbBad := s.keep.mbBad } } = s
    ∧ (t.host.ports.map fun p => { p with lastTx := 0 }) = (s.host.ports.map fun p => { p with lastTx := 0 })
    ∧ (t.keep.sessions.map fun x => x.map fun y => { y with lastRx := 0 })
      = (s.keep.sessions.map fun x => x.map fun y => { y with lastRx := 0 })
    ∧ ∀ k, k ≠ 0x0022 * 256 + 3 → AMap.find t.params k = AMap.find s.params k

/-- The request of a command that only reports. -/
def reportReq (c : Instr) : Option Req :=
  match c with
  | .layStatus q | .layRecordGet q _ _ | .dataKeyStatus q | .dataStreamStatus q _ | .dataShadowReport q 
  | .doseBilletRead q _ | .emonCapHeader q | .linkStatus q _ | .hostPortStatus q _ | .dmaStatus q _ | .servoStatus q _ 
  | .drvStatus q _ | .stepStatus q _ | .hkRead q _ _ | .pwrRailStatus q _ | .clkTimeGet q | .clkStatus q 
  | .faultStatus q _ _ | .faultFirst q | .calStatus q | .calCellRead q _ _ _ _ | .keepIdent q | .keepStatus q 
  | .paramRead q _ _ _ | .waybillRead q _ _ _ | .gbRead q _ _ | .storeStatus q | .bistResultRead q | .secIdentGet q 
  | .wearRead q => some q
  | _ => none

/-- The commands that can commit the store: on request, after the delay, at the deferral limit, when the load has fallen, and
before a shut-down (17 R344, R366; 13 R275). -/
def commits (c : Instr) : Bool :=
  match c with
  | .storeCommit _ _ | .storeCommitDelay _ _ | .storeDeferralLimit _ _ | .loadWindow _ _ | .pwrState _ _ | .seqApply _ => true
  | _ => false

/-- Emission is off: no chain may fire (01 R16, 05 R125). -/
def Dark (s : State) : Prop := s.layer.emitEnable = false ∧ ∀ c ∈ s.link.chains, c.nEmit = true

/-- What is left of a state when Porter has no power (01 R25, R26; 16 R326; 18 R377, R382): flash and OTP keep their contents,
pins outside the block their levels, tiles their blocks; every register, the SRAM, the clocks, the parameters and the C4
lockout are gone, and the power state is OFF. -/
def unpowered (s : State) : State :=
  { pending := s.pending, sent := s.sent, free := s.free, time := 0, power := .off, params := []
    pwr := { rails := List.replicate 32 {}, vstby := false, phantom := false }
    link := { chains := s.link.chains.mapIdx fun n c => { servedBy := n, presence := c.presence, disch := c.disch } }
    clk := { plls := List.replicate 5 {} }
    flt := { inhibit := s.flt.inhibit, inForce := s.flt.inForce }
    cal := { blocks := s.cal.blocks }
    keep := heldKeep s.keep
    bist := { rollback := s.bist.rollback, otpUsed := s.bist.otpUsed, spares := s.bist.spares, poolBytes := s.bist.poolBytes } }

/-- No axis and no drive of the block is powered (15 Table FLT-3, class C4). -/
def MotionDead (s : State) : Prop :=
  (∀ u < 12, (s.unit u).st = .disabled) ∧ ∀ k < 8, (s.drive k).st = .disabled ∧ (s.drive k).gates = false

/-- A safe run keeps the SRAM in its canonical form, never loses the C4 lockout while Porter has power, and never
lowers SEC.ROLLBACK. -/
structure Kept (s t : State) : Prop where
  pending : t.pending = s.pending
  mem : memWf s.mem = true → memWf t.mem = true
  lockout : ∀ x, s.flt.c4 = some x → t.flt.c4 = some x
  rollback : s.bist.rollback ≤ t.bist.rollback

end Sys2Proof.Safety
end

