-- ==== Sys2Proof/Certificates/Slice0/Obligations.lean ====
section
/-!
DEFINITION. The statements for the provers. A statement about one command has the form
"for every state and operands that meet the spec's conditions, exec answers this next state": the state is written as an
update of the one before, so it says the result and that nothing else changed; what an answer changes (`answer`) and
what a raise records (`raise`) are stated once for all commands, in AnswersLeaveMachineAlone and RaiseRecordsItsSource.
-/

open Sys2Proof Sys2Proof.Machine Sys2Proof.Safety

/-! ### The block as a whole -/

/-- A step takes the command at the front of the queue, and only that one; an empty queue idles (log entry 1). -/
def Obligations.StepRunsFrontCommand : Prop :=
  (∀ (s : State) (c : Instr) (rest : List Instr), s.pending = c :: rest → step s = exec c { s with pending := rest })
  ∧ ∀ s : State, s.pending = [] → step s = .next s

/-- No command puts a command into the queue or takes one out: every step shortens it by one. -/
def Obligations.CommandsLeaveQueueAlone : Prop :=
  ∀ s t : State, step s = .next t → t.pending = s.pending.tail

/-- Every step keeps the SRAM's canonical form: offsets strictly rising, no byte listed that holds what an unlisted one reads as
(01 R29, log entry 5). -/
def Obligations.EveryStepKeepsMemoryCanonical : Prop :=
  ∀ s t : State, memWf s.mem = true → step s = .next t → memWf t.mem = true

/-- The block after reset: in STANDBY with Keeper running and MB4 free (17 Table KEEP-1), the layer IDLE, no session, no
fault, every chain OFF, and the SRAM in its canonical form. -/
def Obligations.ResetLeavesStandby : Prop :=
  State.reset.power = .standby ∧ State.reset.keep.running = true ∧ State.reset.keep.reqFree = true
  ∧ State.reset.keep.primary = 0 ∧ State.reset.layer.st = .idle ∧ State.reset.flt.active = 0
  ∧ State.reset.flt.c4 = none ∧ State.reset.pending = [] ∧ memWf State.reset.mem = true
  ∧ (∀ c ∈ State.reset.link.chains, c.st = .off ∧ c.nEmit = true)
  ∧ ∀ a, memGet State.reset.mem a = memRest a

/-- The C4 lockout latch, once set, keeps its source and time through every command but those that take Porter's last
supply away (01 R26, 15 R318). -/
def Obligations.LockoutOutlivesEveryCommand : Prop :=
  ∀ (c : Instr) (s t : State) (x : Nat × Nat), exec c s = .next t → s.flt.c4 = some x → t.flt.c4 ≠ some x →
    (∃ dt, c = .vstbyLost dt ∧ s.pwr.phantom = false) ∨ (∃ dt, c = .phantomLost dt ∧ s.pwr.vstby = false)

/-- SEC.ROLLBACK is an OTP counter: no command lowers it (18 R382). -/
def Obligations.RollbackNeverFalls : Prop :=
  ∀ s t : State, step s = .next t → s.bist.rollback ≤ t.bist.rollback

/-- Only a command at an SRAM offset that Table ARCH-6 does not have stops the block, and then it names the offset; none
is refused (01 R29). -/
def Obligations.OnlyMissingAddressStops : Prop :=
  ∀ (c : Instr) (s : State),
    (∃ t, exec c s = .next t) ∨
    ∃ off : U32, sramSize ≤ off.toNat ∧ exec c s = .fault (.noSuchAddress off.toNat)
      ∧ ((∃ dt corrected reader, c = .sramError dt off corrected reader) ∨ ∃ dt master, c = .regionWriteBlocked dt off master)

/-! ### Layer cycle -/

/-- The layer cycle's requests, where they are taken (02 R36, R38, R49, R55, Tables LAY-2, LAY-8). Choices of the
model: log entries 6, 30. -/
def Obligations.LayerRequestsComplete : Prop :=
  (∀ q s w t d rtt, Runs 0x0301 40 q s w t → armChecks t d = 0 → t.cal.st ≠ 2 →
    exec (.layArm q d rtt) s = .next (answer (armLayer t d false rtt) w sOK []))
  ∧ (∀ q s w t, Runs 0x0302 0 q s w t → t.layer.st = .armed → t.layer.desc.startSrc = 0 → primed t = true →
    exec (.layStart q) s = .next (answer (startLayer t false) w sOK []))
  ∧ (∀ q s w t at_, Runs 0x0303 8 q s w t → t.layer.st = .armed ∨ t.layer.st = .runUp ∨ t.layer.st = .expose →
    t.layer.abort = none → exec (.layAbort q at_) s = .next (sampleEarly (armAbort t w at_)))
  ∧ (∀ q s w t at_, Runs 0x0303 8 q s w t → t.layer.st = .runOut ∨ t.layer.st = .commit → t.layer.record.outcome = 1 →
    exec (.layAbort q at_) s = .next (answer (lateAbort t w) w sOK []))
  ∧ (∀ q s w t at_, Runs 0x0303 8 q s w t → t.layer.st = .runOut ∨ t.layer.st = .commit → t.layer.record.outcome ≠ 1 →
    exec (.layAbort q at_) s = .next (answer (lateAbort t w) w sTooLate []))
  ∧ (∀ q s w t m, Runs 0x0304 0 q s w t → t.layer.marker = some m →
    exec (.layStatus q) s = .next (answer t w sOK
      (le 1 (layerByte t.layer) ++ le 4 t.layer.desc.layerNo.toNat ++ le 4 m ++ le 4 t.layer.mFinal)))
  ∧ (∀ q s w t, Runs 0x0304 0 q s w t → t.layer.marker = none →
    exec (.layStatus q) s = .next (answer t.freeTaken w sOK
      (le 1 (layerByte t.layer) ++ le 4 t.layer.desc.layerNo.toNat ++ le 4 (t.freeBits 32) ++ le 4 t.layer.mFinal)))
  ∧ (∀ q s w t no rep r, Runs 0x0305 5 q s w t → rep.toNat ≤ 1 →
    (t.layer.records.find? fun r => r.layerNo == no && r.repair == (rep == 1)) = some r →
    exec (.layRecordGet q no rep) s = .next (answer t w sOK (recordBytes r)))

/-- The layer cycle's events (02 R31, R34, R38 to R43; 13 R283). Choices of the model: log entries 14, 16, 30. -/
def Obligations.LayerEventsComplete : Prop :=
  (∀ dt s u v, s.pass dt = u → u.mainOn = true → emitStart u = v → u.layer.st = .armed → u.layer.desc.startSrc = 1 →
    exec (.stagelineStartMarker dt) s = .next (startLayer v (!primed v)))
  ∧ (∀ dt s u, s.pass dt = u → u.therm.tripped = false → u.layer.st = .armed → u.layer.desc.startSrc = 2 → primed u = true →
    exec (.doseRingPrimed dt) s = .next (startLayer u false))
  ∧ (∀ dt s u m nb, s.pass dt = u → u.therm.tripped = false → markerExpected u m = true → u.layer.st = .expose →
    exec (.lineMarker dt m nb) s = .next
      (atInstant u (markerInstant u m) fun v => markerPassed (passMarker v m.toNat) m.toNat nb))
  ∧ (∀ dt s u m nb, s.pass dt = u → u.therm.tripped = false → markerExpected u m = true → u.layer.st = .runUp → 0 ≤ m →
    exec (.lineMarker dt m nb) s = .next (atInstant u (markerInstant u m) fun v => markerPassed (passMarker v 0) 0 nb))
  ∧ (∀ dt s u nb, s.pass dt = u → u.therm.tripped = false → markerExpected u (-1) = true → u.layer.st = .runUp →
    exec (.lineMarker dt (-1) nb) s = .next (atInstant u (markerInstant u (-1)) preMarker))
  ∧ (∀ dt s u, s.pass dt = u → u.layer.st = .expose → stalled u = true →
    exec (.carriageStall dt) s = .next (inExpose (raise u 0x044 0 false)
      fun v => if v.layer.c2Wait.isSome then sampleAt v (v.layer.marker.getD 0 + 1) else v))
  ∧ (∀ dt s u rtt, s.pass dt = u → u.layer.st = .runUp → timedOut u = true →
    exec (.runupTimeout dt rtt) s = .next (raise (enterRunOut (markAborted u 2 0xFFFFFFFF) .runOut) 0x042 0 false))
  ∧ (∀ dt s u rtt, s.pass dt = u → u.layer.st = .runOut → timedOut u = true →
    exec (.runupTimeout dt rtt) s = .next (finishPass (raise u 0x045 0 false) rtt))
  ∧ (∀ dt s u, s.pass dt = u → u.layer.st = .runOut → u.driver = false → followerRest u = true →
    exec (.followerAtRest dt) s =
      .next (drainPass { u with layer := { u.layer with atRest := true, restPos := carriagePos u } }))
  ∧ (∀ dt s u rtt, s.pass dt = u → u.layer.st = .runOut → u.layer.atRest = true →
    exec (.runOutDone dt rtt) s = .next (finishPass u rtt))
  ∧ (∀ dt s u k, s.pass dt = u → u.layer.repair = true → u.keep.running = true → u.layer.st ≠ .idle →
    k < u.layer.desc.lineCount.toNat → slotFree u k = true → lineComplete u.dose k = false → lineStale u k = false →
    exec (.repairLineBuilt dt k) s = .next (completeLine { u with
      mem := memPuts u.mem (k % 2048 * 2048) ((List.range 1024).flatMap fun c => le 2 (repairDose u k c)) } k))
  ∧ (∀ dt s u k, s.pass dt = u → u.layer.repair = true → u.keep.running = true → u.layer.st ≠ .idle →
    k < u.layer.desc.lineCount.toNat → lineComplete u.dose k = false → lineStale u k = true →
    exec (.repairLineBuilt dt k) s = .next { u with layer := { u.layer with record := { u.layer.record with
      staleLines := u.layer.record.staleLines + 1 } } })

/-! ### Dose synthesiser and emission monitor -/

/-- The requests of the dose synthesiser and the emission monitor, where they are taken (03 R70, R86; 04 R96, R105
to R109, Tables EMON-5, EMON-6, EMON-9). Choices of the model: log entries 30, 31, 32. -/
def Obligations.DoseAndMonitorRequestsComplete : Prop :=
  (∀ q s w t c, Runs 0x0401 2 q s w t → c.toNat ≤ 1023 → serves (t.chain (laneOf c.toNat)) = true →
    exec (.doseBilletRead q c) s = .next (answer t w sOK (billetRecord (nextWeights t c.toNat) (t.pv 0x0411 0))))
  ∧ (∀ q s w t c ws, Runs 0x0402 290 q s w t → c.toNat ≤ 1023 → serves (t.chain (laneOf c.toNat)) = true →
    (List.range 288).countP (fun r => ws.getD r 0 != 0) ≤ 256 →
    (∀ r < 288, ws.getD r 0 ≠ 0 → rowPresent t (laneOf c.toNat) r = true ∧ liveRetired t r c.toNat = false) →
    exec (.doseBilletWrite q c ws) s = .next (answer (billetChanged (setWeights t c.toNat ws)) w sOK
      (le 2 (billetChanged (setWeights t c.toNat ws)).dose.billetVersion.toNat)))
  ∧ (∀ q s w t l, Runs 0x0403 1 q s w t → l.toNat ≤ 3 → serves (t.chain l.toNat) = true →
    exec (.doseBilletDefault q l) s = .next (answer (billetChanged (buildLane t l.toNat)) w sOK
      (le 2 (billetChanged (buildLane t l.toNat)).dose.billetVersion.toNat)))
  ∧ (∀ q s w t lanes, Runs 0x0403 1 q s w t → ((List.range 4).filter fun n => serves (t.chain n)) = lanes → lanes ≠ [] →
    exec (.doseBilletDefault q 0xFF) s = .next (answer (billetChanged (lanes.foldl buildLane t)) w sOK
      (le 2 (billetChanged (lanes.foldl buildLane t)).dose.billetVersion.toNat)))
  ∧ (∀ q s w t, Runs 0x0501 0 q s w t → t.emon.cap.st = .off → t.readyOn = true → windowEmpty t 0 = false →
    t.pv 0x0530 0 + t.pv 0x0531 0 ≤ capRing t →
    exec (.emonCapArm q) s = .next (answer { t with
      mem := memClear t.mem capBase 64
      emon := { t.emon with cap := { t.emon.cap with st := .arming, next := 0, pre := 0, stopAfterClear := false } } } w sOK []))
  ∧ (∀ q s w t, Runs 0x0502 0 q s w t → t.emon.cap.st = .filling ∨ t.emon.cap.st = .triggered →
    exec (.emonCapTrigger q) s = .next (answer (triggerAt t 0 (w.line.getD 0) w.tRx) w sOK []))
  ∧ (∀ q s w t, Runs 0x0503 0 q s w t → t.emon.cap.stop = none → t.layer.st = .expose →
    exec (.emonCapStop q) s = .next { t with emon := { t.emon with cap := { t.emon.cap with stop := some w } } })
  ∧ (∀ q s w t, Runs 0x0503 0 q s w t → t.emon.cap.stop = none → t.layer.st ≠ .expose → t.emon.cap.st = .filling →
    exec (.emonCapStop q) s =
      .next (answer { t with emon := { t.emon with cap := { t.emon.cap with st := .off, stop := none } } } w sOK []))
  ∧ (∀ q s w t, Runs 0x0504 0 q s w t → t.emon.cap.st = .done →
    exec (.emonCapHeader q) s = .next (answer t w sOK (memBytes t.mem capBase 64)))
  ∧ (∀ q s w t, Runs 0x0505 1 q s w t → t.emon.cap.st = .done →
    exec (.emonCapRelease q 0) s = .next (answer { t with emon := { t.emon with cap := { t.emon.cap with st := .off } } } w sOK []))
  ∧ (∀ q s w t, Runs 0x0505 1 q s w t → t.emon.cap.st = .done →
    exec (.emonCapRelease q 1) s = .next (answer { t with
      mem := memClear t.mem capBase 64
      emon := { t.emon with cap := { t.emon.cap with st := .arming, next := 0, pre := 0, stopAfterClear := false } } } w sOK []))
  ∧ (∀ q s w t, Runs 0x0506 0 q s w t → t.layer.st = .idle →
    exec (.emonLearnReset q) s = .next (answer (learnReset t) w sOK []))

/-- The events of the dose synthesiser and the emission monitor (03 R77; 04 R87, R96, R102, Table EMON-5). Choices
of the model: log entries 14, 31, 32. -/
def Obligations.DoseAndMonitorEventsComplete : Prop :=
  (∀ dt s u, s.pass dt = u → u.mainOn = true → u.pv 0x0418 0 ≤ u.dose.staleRounds → u.dose.staleRaised = false →
    exec (.calibrationStale dt) s = .next (raise { u with dose := { u.dose with staleRaised := true } } 0x048 0 true))
  ∧ (∀ dt s u, s.pass dt = u → u.keep.running = true → u.emon.learnDue = true →
    exec (.learnUpdate dt) s = .next (Machine.learnUpdate u))
  ∧ (∀ dt s u row x rest, s.pass dt = u → u.therm.tripped = false → u.data.made.getD 0 [] = x :: rest →
    x.first = BitVec.ofNat 32 (row + 1) → x.bytes.length = 6152 → x.since + msU ≤ u.time →
    (rest.any fun z => z.first != 0 && z.bytes.length == 32) = false →
    exec (.mapRowDrop dt row) s = .next (raise { u with
      data := { u.data with made := u.data.made.set 0 rest }
      emon := { u.emon with mapGaps := u.emon.mapGaps + 1 } } 0x084 0 false))
  ∧ (∀ dt s u m, s.pass dt = u → u.therm.tripped = false → u.readyOn = true → u.emon.cap.st = .arming → u.emon.cap.stopAfterClear = false → u.layer.marker = some m →
    exec (.captureClearDone dt) s = .next { u with emon := { u.emon with cap := { u.emon.cap with
      st := .filling, pre := 0, since := m + 1 } } })
  ∧ (∀ dt s u n p m fl smp rx, s.pass dt = u → u.therm.tripped = false → u.serdesOn = true → (rx : RxFrame).good = true →
    chainLive (u.chain (n : Fin 4).val) = true → (p : Fin 18).val < (u.chain n.val).tiles.length →
    (buildOf u (m : U32).toNat).isSome = true →
    exec (.photodiodeReturn dt n p m fl ⟨smp, rx⟩) s = .next { u with emon := { u.emon with
      samples := AMap.put u.emon.samples (m.toNat * 72 + 18 * n.val + p.val) smp } })
  ∧ (∀ dt s u n p m fl smp rx, s.pass dt = u → u.therm.tripped = false → u.serdesOn = true → u.linkOn = true →
    (rx : RxFrame).good = false →
    exec (.photodiodeReturn dt n p m fl ⟨smp, rx⟩) s = .next (discardFrames u (u.chain (n : Fin 4).val).servedBy 1))

/-! ### Layer data engines -/

/-- The requests of the layer data engines, where they are taken (07 R175, R176, R178, R182, Table DATA-8). Choices
of the model: log entries 8, 36. -/
def Obligations.DataRequestsComplete : Prop :=
  (∀ q s w t key x kek dev sig, Runs 0x0801 97 q s w t → t.session q.mb.val = some x →
    agreement t.free x.id key = some (kek, dev, sig) →
    exec (.dataKekAgree q key) s = .next (answer (setKek (agreeDraws t) q.mb.val (some kek)
      (some (privateKey (Config.ephemeralKey t.free)))) w sOK (dev ++ sig)))
  ∧ (∀ q s w t key x, Runs 0x0801 97 q s w t → t.session q.mb.val = some x → agreement t.free x.id key = none →
    exec (.dataKekAgree q key) s = .next (answer (setKek (agreeDraws t) q.mb.val none none) w sAuthFail []))
  ∧ (∀ q s w t slot iv wrapped kek, Runs 0x0802 45 q s w t → slot.toNat ≤ 3 → (t.session q.mb.val).bind (·.kek) = some kek →
    exec (.dataKeyLoad q slot iv wrapped) s = .next (match keyUnwrap kek wrapped with
      | some key => answer { t with data := { t.data with
        aesRegs := kek
        keys := t.data.keys.set slot.toNat { loaded := true, key := key, ivFixed := iv, ivCount := 0 } } } w sOK []
      | none => answer { t with data := { t.data with aesRegs := kek } } w sAuthFail []))
  ∧ (∀ q s w t slot, Runs 0x0803 1 q s w t → slot.toNat ≤ 3 →
    exec (.dataKeyClear q slot) s = .next (answer { t with data := { t.data with
      keys := t.data.keys.set slot.toNat {} } } w sOK []))
  ∧ (∀ q s w t, Runs 0x0803 1 q s w t →
    exec (.dataKeyClear q 0xFF) s = .next (answer { t with data := { t.data with
      keys := [{}, {}, {}, {}] } } w sOK []))
  ∧ (∀ q s w t, Runs 0x0804 0 q s w t →
    exec (.dataKeyStatus q) s = .next (answer t w sOK
      (t.data.keys.flatMap fun k => le 1 (bitN k.loaded) ++ le 4 k.ivFixed.toNat ++ le 8 k.ivCount.toNat)))
  ∧ (∀ q s w t n, Runs 0x0805 1 q s w t → n.toNat ≤ 1 →
    exec (.dataStreamStatus q n) s = .next (answer t w sOK
      (le 1 (bitN (t.queue n.toNat).sequenced) ++ le 4 (t.queue n.toNat).nextSeq.toNat ++ le 2 (t.queue n.toNat).lastError.toNat
        ++ le 4 (t.queue n.toNat).lastErrorSeq.toNat ++ le 4 (t.pv 0x0820 n.toNat))))
  ∧ (∀ q s w t m n r c e a, Runs 0x0806 0 q s w t → t.data.mismatch = some (m, n, r, c, e, a) →
    exec (.dataShadowReport q) s = .next (answer t w sOK
      (le 4 m ++ le 1 n ++ le 2 r ++ le 2 c ++ le 2 e.toNat ++ le 2 a.toNat)))
  ∧ (∀ q s w t src len, Runs 0x0807 8 q s w t → 1 ≤ len.toNat → len.toNat ≤ 65536 → dmaReads src.toNat len.toNat = true →
    t.data.out5Len ≤ t.data.out5Read → t.data.cmp = [none, none, none, none] → t.data.cmpWait = [] → engineOut t 2 = false → engineFaulty t 2 = false →
    exec (.dataCompress q src len) s = .next { t with data := { t.data with cmp := [some
      { kind := 5, layerNo := t.layer.desc.layerNo, firstLine := src, items := 1
        content := memBytes t.mem src.toNat len.toNat, since := t.time, w := some w }, none, none, none] } })

/-- The events of the layer data engines (03 R61; 07 R172, R173, R177, R179, R182). Choices of the model: log
entries 14, 36. -/
def Obligations.DataEventsComplete : Prop :=
  (∀ dt s u e v (k : Fin 2) bs rest parity, s.pass dt = u → u.therm.tripped = false → u.mainOn = true →
    (blockWaits u k.val).isSome = true → engineCheck u k.val parity = e → blockWaits e k.val = some (bs, rest) →
    e.onQueue k.val (fun x => { x with arrived := rest }) = v → hdrOk k.val bs = true → layerVerdict v (blkHdr (padTo 48 bs)).layerNo = 0 →
    exec (.aqripolBlock dt k parity) s = .next (settleQueue (takeBlock v k.val (blkHdr (padTo 48 bs)) bs) k.val))
  ∧ (∀ dt s u e (k : Fin 2) parity, s.pass dt = u → u.therm.tripped = false → u.mainOn = true →
    (blockWaits u k.val).isSome = true → engineCheck u k.val parity = e → blockWaits e k.val = none →
    exec (.aqripolBlock dt k parity) s = .next e)
  ∧ (∀ dt s u e v (k : Fin 2) bs rest parity, s.pass dt = u → u.therm.tripped = false → u.mainOn = true →
    (blockWaits u k.val).isSome = true → engineCheck u k.val parity = e → blockWaits e k.val = some (bs, rest) →
    e.onQueue k.val (fun x => { x with arrived := rest }) = v → hdrOk k.val bs = false →
    exec (.aqripolBlock dt k parity) s = .next (settleQueue (blockFail v k.val (blkHdr (padTo 48 bs)).seq 0x0805 0x0E0) k.val))
  ∧ (∀ dt s u (k : Fin 2) c, s.pass dt = u → u.therm.tripped = false → u.mainOn = true → (u.queue k.val).cur = some c →
    c.written = c.count → layerVerdict u c.layerNo = 0 → exec (.blockAccepted dt ⟨k, false⟩) s = .next (acceptBlock u k.val c))
  ∧ (∀ dt s u (k : Fin 2) c, s.pass dt = u → u.therm.tripped = false → u.mainOn = true → (u.queue k.val).cur = some c →
    c.written = c.count → exec (.blockAccepted dt ⟨k, true⟩) s =
      .next (engineCheck (blockFail (dropInflation u k.val) k.val c.seq.toNat 0x0802 0x0E2) k.val true))
  ∧ (∀ dt s u (k : Fin 2), s.pass dt = u → u.therm.tripped = false → (u.queue k.val).cur.isSome = true →
    exec (.inflaterSlotFree dt k) s = .next (writeLines u k.val))
  ∧ (∀ dt s u kind (place : Fin 4) n parity j rest, s.pass dt = u → u.therm.tripped = false → u.mainOn = true → kind = 2 ∨ kind = 3 →
    takeMade kind n.toNat u.time (u.data.made.getD (kind.toNat - 2) []) = some (j, rest) →
    exec (.compressHandover dt kind place n parity) s =
      .next (startJobAt { u with data := { u.data with made := u.data.made.set (kind.toNat - 2) rest } } j place.val parity))
  ∧ (∀ dt s u (place : Fin 4) parity, s.pass dt = u → u.therm.tripped = false → u.mainOn = true → gbReader u = true →
    2048 ≤ (u.gb.next - gbStart u.gb).toNat →
    exec (.compressHandover dt 4 place 2048 parity) s = .next (handEntries u 2048 place.val parity))
  ∧ (∀ dt s u (k : Fin 4) j v, s.pass dt = u → u.therm.tripped = false → u.mainOn = true →
    u.data.cmp.getD k.val none = some j → { u with data := { u.data with cmp := u.data.cmp.set k.val none } } = v →
    exec (.compressDone dt k false) s = .next (nextJob (engineCheck (putBlock
      (if u.pv 0x0810 (j.kind.toNat - 2) ≠ 0 ∧ codedOf u j = none then v.count 0x0822 1 1 else v) j (codedOf u j))
      (2 + k.val) false)))
  ∧ (∀ dt s u (k : Fin 4) j, s.pass dt = u → u.therm.tripped = false → u.mainOn = true →
    u.data.cmp.getD k.val none = some j →
    exec (.compressDone dt k true) s = .next (nextJob (engineCheck (putBlock
      { u with data := { u.data with cmp := u.data.cmp.set k.val none } } j none) (2 + k.val) true)))
  ∧ (∀ dt s u j rest, s.pass dt = u → u.therm.tripped = false → u.mainOn = true → u.data.cmpWait = j :: rest →
    j.since + u.pv 0x0812 0 * usU ≤ u.time → u.layer.st = .idle →
    exec (.compressBypass dt) s = .next ((putBlock { u with data := { u.data with cmpWait := rest } } j none).count 0x0822 2 1))
  ∧ (∀ dt s u x wrong, s.pass dt = u → u.keep.running = true → u.data.shadow = some x → firstWrong x wrong = none →
    exec (.shadowCompare dt wrong) s = .next { u with data := { u.data with shadow := none } })
  ∧ (∀ dt s u v x wrong r c e a, s.pass dt = u → u.keep.running = true → u.data.shadow = some x →
    firstWrong x wrong = some (r, c, e, a) →
    raise { ({ u with data := { u.data with shadow := none } } : State).count 0x0823 0 1 with
      data := { u.data with shadow := none, mismatch := some (x.m, x.chain, r, c, e, a) } } 0x0E8 0 false = v →
    exec (.shadowCompare dt wrong) s =
      .next (gbRecord v.freeTaken.freeTaken 8 (v.freeBits 16) (v.freeTaken.freeBits 64)))

/-! ### Tile links -/

/-- The requests of the tile link controller, where they are taken (05 R119, R131 to R134, R144). Choices of the
model: log entry 33. -/
def Obligations.LinkRequestsComplete : Prop :=
  (∀ q s w t n, Runs 0x0601 2 q s w t → n.toNat ≤ 3 → t.layer.st = .idle → t.readyOn = true → t.flt.c4 = none →
    (t.chain n.toNat).presence = true → (t.chain n.toNat).st = .off →
    exec (.linkChainPower q n 1) s = .next (answer (chainOn t n.toNat) w sOK []))
  ∧ (∀ q s w t n, Runs 0x0601 2 q s w t → n.toNat ≤ 3 → t.layer.st = .idle → t.readyOn = true → (t.chain n.toNat).st ≠ .off →
    exec (.linkChainPower q n 0) s = .next (answer (chainOff t n.toNat) w sOK []))
  ∧ (∀ q s w t n p a len, Runs 0x0602 8 q s w t → 1 ≤ len.toNat → len.toNat ≤ 256 →
    len.toNat ≤ (payloadLimit w.mb).2 → tileStatus t n p = 0 →
    exec (.linkDescRead q n p a len) s = .next (mgmtAsk t (some w) n.toNat p.toNat 1 a.toNat (le 2 len.toNat)))
  ∧ (∀ q s w t n p a len data, Runs 0x0603 (8 + data.length) q s w t → data.length = len.toNat → 1 ≤ len.toNat → len.toNat ≤ 256 →
    0x100 ≤ a.toNat → a.toNat + len.toNat ≤ 0x140 → t.layer.st = .idle → tileStatus t n p = 0 →
    exec (.linkDescWrite q n p a len data) s = .next (mgmtAsk t (some w) n.toNat p.toNat 2 a.toNat data))
  ∧ (∀ q s w t n p (close : Byte), Runs 0x0604 3 q s w t → close.toNat ≤ 1 → t.layer.st = .idle → tileStatus t n p = 0 →
    (close = 1 → (t.tile n.toNat p.toNat).usable = true) →
    exec (.linkTileSwitch q n p close) s = .next (mgmtAsk t (some w) n.toNat p.toNat 2 0x208 [close]))
  ∧ (∀ q s w t n, Runs 0x0605 1 q s w t → n.toNat ≤ 3 → t.layer.st = .idle → tl4Free t n.toNat = true →
    chainLive (t.chain n.toNat) = true →
    exec (.linkFailover q n) s = .next (answer (startMove t n.toNat) w sOK []))
  ∧ (∀ q s w t n, Runs 0x0606 1 q s w t → n.toNat ≤ 3 → t.layer.st = .idle → onReserve t n.toNat = true →
    exec (.linkRestore q n) s = .next (answer (settlePitch ((laneReset (freeTl4 (dropMgmt t n.toNat) n.toNat) n.toNat).onChain n.toNat fun c => { c with
      st := .bringup, servedBy := n.toNat, tiles := [], judged := false, found := false, ended := false
      lswNext := 0 })) w sOK []))
  ∧ (∀ q s w t n, Runs 0x0607 1 q s w t → n.toNat ≤ 3 →
    exec (.linkStatus q n) s = .next (answer t w sOK
      (le 1 (chainCode (t.chain n.toNat).st) ++ le 1 (t.chain n.toNat).servedBy ++ le 1 ((shownTiles (t.chain n.toNat)).countP (·.usable))
        ++ le 4 (t.pv 0x0623 n.toNat) ++ le 4 (t.pv 0x0624 (t.chain n.toNat).servedBy) ++ le 4 (t.pv 0x0625 n.toNat))))

/-- The events of frames, reports and lanes (05 R117, R121 to R124, R132, R133, R138 to R140). Choices of the model:
log entries 14, 33. -/
def Obligations.LinkFrameEventsComplete : Prop :=
  (∀ dt s u v x wait tAdv, s.pass dt = u → u.therm.tripped = false → u.layer.st = .runUp ∨ u.layer.st = .expose →
    u.link.nextAdvance ≤ u.layer.mFinal + 1 → advanceCount u.link.advNm (carriageSpeed u) wait = (tAdv, false) →
    ((List.range 4).filter fun n => chainLive (u.chain n)).foldl (fun v n => linkSend v n
      [Out.sync n u.link.nextAdvance (BitVec.ofNat 16 tAdv) 0 0 (BitVec.ofNat 64 (time64 (u.time + wait * nsU)))]) u = v →
    { v with link := { v.link with nextAdvance := u.link.nextAdvance + 1 } } = x →
    exec (.markerAdvance dt wait) s = .next (onBuild x u.link.nextAdvance fun b =>
      { b with unsent := b.unsent ++ (tilesUnreached x).filter fun y => !(b.unsent.contains y) }))
  ∧ (∀ dt s u v x wait, s.pass dt = u → u.therm.tripped = false → u.layer.st = .runUp ∨ u.layer.st = .expose →
    u.link.nextAdvance ≤ u.layer.mFinal + 1 → advanceCount u.link.advNm (carriageSpeed u) wait = (0xFFFF, true) →
    ((List.range 4).filter fun n => chainLive (u.chain n)).foldl (fun v n => linkSend v n
      [Out.sync n u.link.nextAdvance 0xFFFF 0 1 (BitVec.ofNat 64 (time64 (u.time + wait * nsU)))]) u = v →
    { v with link := { v.link with nextAdvance := u.link.nextAdvance + 1 } } = x →
    exec (.markerAdvance dt wait) s = .next (linkFirst (onBuild ((onBuild x u.link.nextAdvance fun b =>
      { b with unsent := b.unsent ++ (tilesUnreached x).filter fun y => !(b.unsent.contains y) }).count 0x0626 0 1) u.link.nextAdvance fun b => { b with noFire := true }) 2 0x0B4 0))
  ∧ (∀ dt s u (n : Fin 4) (p : Fin 18) m st rx, s.pass dt = u → u.therm.tripped = false → u.serdesOn = true → (rx : RxFrame).good = true →
    chainLive (u.chain n.val) = true → p.val < (u.chain n.val).tiles.length → reportTimely u m.toNat = true →
    exec (.deliveryReport dt n p m 0xFFFF ⟨st, rx⟩) s = .next (u.onTile n.val p.val fun t => { t with missing := 0 }))
  ∧ (∀ dt s u (n : Fin 4) (p : Fin 18) m f st rx, s.pass dt = u → u.therm.tripped = false → u.serdesOn = true → (rx : RxFrame).good = true →
    chainLive (u.chain n.val) = true → p.val < (u.chain n.val).tiles.length → reportTimely u m.toNat = true →
    exec (.deliveryReport dt n p m f ⟨st, rx⟩) s = .next ((List.range 16).foldl (fun v i =>
        if (f : U16).getLsbD i then v else loseFrame v m.toNat n.val (16 * p.val + i))
      (u.onTile n.val p.val fun t => { t with missing := 0 })))
  ∧ (∀ dt s u (n : Fin 4) (p : Fin 18) m f st rx, s.pass dt = u → u.therm.tripped = false → u.serdesOn = true →
    u.linkOn = true → (rx : RxFrame).good = false →
    exec (.deliveryReport dt n p m f ⟨st, rx⟩) s = .next (discardFrames u (u.chain n.val).servedBy 1))
  ∧ (∀ dt s u v (n : Fin 4) (p : Fin 18) m, s.pass dt = u → u.therm.tripped = false →
    p.val < (u.chain n.val).tiles.length → unsentTo u m.toNat n.val p.val = false →
    periodBegun u m.toNat = true → m.toNat < u.layer.marker.getD 0 →
    raise ((u.onTile n.val p.val fun t => { t with missing := t.missing + 1 }).count 0x0625 n.val 1) 0x0A8 0 false = v →
    exec (.ackUnknown dt n p m) s = .next (if chainLive (v.chain n.val) = true ∧ p.val ≠ 0
        ∧ ((List.range p.val).all fun k => (v.tile n.val k).missing == 0) = true ∧ (v.tile n.val p.val).lost = false
      then raise (v.onTile n.val p.val fun t => { t with lost := true }) 0x0A3 0 false else v))
  ∧ (∀ dt s u (n : Fin 4) (p : Fin 18) f rx, s.pass dt = u → u.therm.tripped = false → u.serdesOn = true → (rx : RxFrame).good = true →
    chainLive (u.chain n.val) = true → p.val < (u.chain n.val).tiles.length → f.cellFaults = [] → f.status = 0 → tooHot (u.tile n.val p.val) f = false →
    anyTooHot (u.onTile n.val p.val fun t => { t with telem := some (f, u.time) }) = false →
    exec (.telemetryFrame dt n p ⟨f, rx⟩) s =
      .next (clearCond (u.onTile n.val p.val fun t => { t with telem := some (f, u.time) }) 0x0AE))
  ∧ (∀ dt s u (n : Fin 4) (p : Fin 18) tag data m w rest rx, s.pass dt = u →
    u.therm.tripped = false → u.serdesOn = true → (rx : RxFrame).good = true → u.link.mgmt = m :: rest →
    m.chain = n.val → m.pos = p.val → m.tag = tag → m.op = 1 → m.w = some w →
    exec (.managementResponse dt n p tag 0 ⟨data, rx⟩) s = .next (answer { u with link := { u.link with mgmt := rest } } w sOK data))
  ∧ (∀ dt s u (n : Fin 4) (p : Fin 18) tag st data m w rest rx, s.pass dt = u →
    u.therm.tripped = false → u.serdesOn = true → (rx : RxFrame).good = true → u.link.mgmt = m :: rest →
    m.chain = n.val → m.pos = p.val → m.tag = tag → st ≠ 0 → m.w = some w →
    exec (.managementResponse dt n p tag st ⟨data, rx⟩) s =
      .next (answer { u with link := { u.link with mgmt := rest } } w 0x0601 [st]))
  ∧ (∀ dt s u (n : Fin 4) (p : Fin 18) tag m w rest rx, s.pass dt = u →
    u.therm.tripped = false → u.serdesOn = true → (rx : RxFrame).good = true → u.link.mgmt = m :: rest →
    m.chain = n.val → m.pos = p.val → m.tag = tag → m.op = 2 → m.addr = 0x208 → m.w = some w →
    exec (.managementResponse dt n p tag 0 ⟨[], rx⟩) s = .next (answer
      (State.onTile { u with link := { u.link with mgmt := rest } } n.val p.val fun t => { t with lsw := m.data == ([1] : List Byte) }) w sOK []))
  ∧ (∀ dt s u (lane : Fin 5) k, s.pass dt = u → u.therm.tripped = false → u.serdesOn = true → u.linkOn = true →
    exec (.codewordUncorrectable dt lane ⟨true, k⟩) s = .next { u.count 0x0624 lane.val 1 with link := { u.link with
      discards := u.link.discards.modify lane.val (· + k)
      chkRun := u.link.chkRun.set lane.val (if followsBad u lane.val then u.link.chkRun.getD lane.val 0 + 1 else 1)
      uncorr := u.link.uncorr.set lane.val (u.time :: (u.link.uncorr.getD lane.val []).filter fun t => decide (u.time ≤ t + msU)) } })
  ∧ (∀ dt s u (lane : Fin 5) k, s.pass dt = u → u.therm.tripped = false → u.serdesOn = true → u.linkOn = true →
    exec (.codewordUncorrectable dt lane ⟨false, k⟩) s = .next { u.count 0x0624 lane.val 1 with link := { u.link with
      discards := u.link.discards.modify lane.val (· + k)
      chkRun := u.link.chkRun.set lane.val 0
      uncorr := u.link.uncorr.set lane.val (u.time :: (u.link.uncorr.getD lane.val []).filter fun t => decide (u.time ≤ t + msU)) } })
  ∧ (∀ dt s u (n : Fin 4), s.pass dt = u → u.therm.tripped = false → chainLive (u.chain n.val) = true ∨ (u.chain n.val).st = .doze →
    (u.chain n.val).moving = false → laneTrigger u n.val = true → exec (.laneFailover dt n) s = .next (laneLost u n.val))
  ∧ (∀ dt s u (n : Fin 4), s.pass dt = u → u.therm.tripped = false → u.serdesOn = true → (u.chain n.val).moving = true →
    exec (.failoverComplete dt n) s = .next (moveDone u n.val))
  ∧ (∀ dt s u v (n : Fin 4), s.pass dt = u → u.therm.tripped = false → u.layer.st = .idle → u.readyOn = true →
    u.link.tl4Chain = none → u.link.pretrain = none → u.pv 0x0617 0 ≠ 0 → u.link.pretrainNext = n.val →
    chainLive (u.chain n.val) = true → n.val < u.link.chains.length →
    laneReset { u with link := { u.link with pretrain := some n.val, tl4Sel := n.val } } 4 = v →
    exec (.reservePretrain dt) s = .next ((List.range (u.chain n.val).tiles.length).foldl
      (fun v p => laneSend v 4 [.management n.val p 4 0 0 []]) v))
  ∧ (∀ dt s u n lat coef, s.pass dt = u → u.therm.tripped = false → u.link.pretrain = some n →
    exec (.pretrainDone dt true ⟨lat, coef⟩) s = .next (laneReset { u with link := { u.link with
      pretrain := none, pretrainNext := (n + 1) % 4, tl4Sel := u.pv 0x0616 0, tl4Ready := u.link.tl4Ready.set n true
      tl4Coef := u.link.tl4Coef.set n coef, tl4Lat := u.link.tl4Lat.set n lat } } 4))
  ∧ (∀ dt s u n lat coef, s.pass dt = u → u.therm.tripped = false → u.link.pretrain = some n →
    exec (.pretrainDone dt false ⟨lat, coef⟩) s = .next (raise (laneReset
      { u with link := { u.link with
        pretrain := none, pretrainNext := (n + 1) % 4, tl4Sel := u.pv 0x0616 0
        tl4Ready := u.link.tl4Ready.set n false } } 4) 0x0B3 0 false))

/-- The events of bring-up and presence (05 R126 to R137). Choices of the model: log entries 14, 33. -/
def Obligations.LinkBringUpEventsComplete : Prop :=
  (∀ dt s u (n : Fin 4), s.pass dt = u → (u.chain n.val).st = .powering → chainRailsGood u n.val = true →
    exec (.chainRailsGood dt n) s = .next (u.onChain n.val fun c => { c with st := .bringup }))
  ∧ (∀ dt s u v (n : Fin 4) space k, s.pass dt = u → u.therm.tripped = false → u.serdesOn = true →
    discovering (u.chain n.val) = true → (u.chain n.val).tiles.length = k → k < 17 → headerOk { space := space } = true →
    mgmtRead (mgmtRead (mgmtSend u n.val k 3 0 []) n.val k 0 256) n.val k 0x100 64 = v →
    exec (.segmentTrained dt n space) s = .next ((v.send (.trainNext n.val k)).onChain n.val fun c =>
      { c with tiles := c.tiles ++ [{ space := space, usable := true }] }))
  ∧ (∀ dt s u (n : Fin 4) v, s.pass dt = u → u.therm.tripped = false → discovering (u.chain n.val) = true →
    raise (u.onChain n.val fun c => { c with found := true }) 0x0A2 0 false = v → (v.chain n.val).tiles ≠ [] →
    exec (.segmentTrainFail dt n) s = .next v)
  ∧ (∀ dt s u (n : Fin 4) v, s.pass dt = u → u.therm.tripped = false → discovering (u.chain n.val) = true →
    raise (u.onChain n.val fun c => { c with found := true }) 0x0A2 0 false = v → (v.chain n.val).tiles = [] →
    v.pv 0x0614 n.val = 0 → exec (.segmentTrainFail dt n) s = .next (settlePower (chainFail v n.val)))
  ∧ (∀ dt s u v (n : Fin 4) rtt blocks k, s.pass dt = u → u.therm.tripped = false → u.serdesOn = true →
    (u.chain n.val).st = .bringup → (u.chain n.val).ended = false → (u.chain n.val).tiles.length = k → 0 < k →
    (List.range k).foldl (fun v p => calDiscovered v n.val p (blocks.getD p [])) (measureChain
      (sendTelem (mgmtSend (u.onChain n.val fun c => { c with ended := true }) n.val 31 2 0x200 (le 1 k)) n.val) n.val rtt).1 = v →
    v.pv 0x0614 n.val = 0 ∨ v.pv 0x0614 n.val = k →
    exec (.chainDiscovered dt n rtt blocks) s = .next (settlePower v))
  ∧ (∀ dt s u (n : Fin 4) (p : Fin 18), s.pass dt = u → u.therm.tripped = false → (u.chain n.val).judged = true → chainLive (u.chain n.val) = true →
    (u.chain n.val).lswNext = p.val → (u.tile n.val p.val).usable = true →
    exec (.loadSwitchClose dt n) s = .next (((mgmtSend u n.val p.val 2 0x208 [1]).onTile n.val p.val fun t =>
      { t with lsw := true }).onChain n.val fun c => { c with lswNext := p.val + 1 }))
  ∧ (∀ dt s u (n : Fin 4), s.pass dt = u → u.mainOn = true → (u.chain n.val).presence = true → (u.chain n.val).st ≠ .off →
    exec (.presenceLoss dt n) s = .next (settlePower (presenceLost (u.onChain n.val fun c => { c with presence := false }) n.val)))
  ∧ (∀ dt s u (n : Fin 4) k, s.pass dt = u → u.mainOn = true → (u.chain n.val).presence = true → (u.chain n.val).st = .off →
    k ∈ chainSlots n.val → railDown (u.rail k).st = false →
    exec (.presenceLoss dt n) s = .next (settlePower (presenceLost (u.onChain n.val fun c => { c with presence := false }) n.val)))
  ∧ (∀ dt s u (n : Fin 4), s.pass dt = u → u.mainOn = true → (u.chain n.val).presence = true → (u.chain n.val).st = .off →
    (∀ k ∈ chainSlots n.val, railDown (u.rail k).st = true) →
    exec (.presenceLoss dt n) s = .next (settlePower (u.onChain n.val fun c => { c with presence := false })))
  ∧ (∀ dt s u (n : Fin 4) mv, s.pass dt = u → u.mainOn = true → (u.chain n.val).st = .off → (u.chain n.val).presence = false →
    2000 ≤ mv → exec (.railDischargeCheck dt n mv) s = .next (raise u 0x0B2 0 false))
  ∧ (∀ dt s u (n : Fin 4), s.pass dt = u → u.mainOn = true → (u.chain n.val).presence = false →
    (u.chain n.val).st ≠ .off →
    exec (.presenceReturn dt n) s = .next (u.onChain n.val fun c => { c with presence := true }))
  ∧ (∀ dt s u (n : Fin 4), s.pass dt = u → u.mainOn = true → (u.chain n.val).presence = false →
    (u.chain n.val).st = .off → n.val < u.link.chains.length →
    exec (.presenceReturn dt n) s = .next (gbRecord (u.onChain n.val fun c => { c with presence := true }) 6 1 n.val))

/-! ### Host ports, transport and DMA -/

/-- The requests of the host ports, where they are taken (06 R155, R158, R168, Table HOST-10). Choices of the model:
log entry 34. -/
def Obligations.HostRequestsComplete : Prop :=
  (∀ q s w t p, Runs 0x0701 1 q s w t → p.toNat ≤ 1 →
    exec (.hostPortStatus q p) s = .next (answer t w sOK
      (le 1 (t.port p.toNat).link ++ le 4 (t.portParam 0x0710 p.toNat) ++ le 16 (t.portParam 0x0711 p.toNat)
        ++ le 1 (t.portParam 0x0712 0) ++ le 2 (t.portParam 0x0713 0) ++ le 2 (t.portParam 0x0714 0)
        ++ le 2 (t.portParam 0x0715 0) ++ le 2 (t.portParam 0x0716 0)
        ++ le 8 (t.port p.toNat).fecCorr.toNat ++ le 8 (t.port p.toNat).fecUncorr.toNat)))
  ∧ (∀ q s w t p, Runs 0x0702 1 q s w t → p.toNat ≤ 1 → t.layer.st = .idle →
    exec (.hostPortRestart q p) s =
      .next (answer ((applyPortParams t p.toNat).onPort p.toNat fun x => { x with link := 1, moved := false }) w sOK []))
  ∧ (∀ q s w t ch rel dir, Runs 0x0703 3 q s w t → 8 ≤ ch.toNat → ch.toNat ≤ 63 → rel.toNat ≤ 1 → dir.toNat ≤ 1 →
    (t.chan ch.toNat).isOpen = false →
    exec (.hostChanOpen q ch rel dir) s = .next (answer { t with host := { t.host with
      chans := AMap.put t.host.chans ch.toNat { isOpen := true, reliable := rel == 1, outbound := dir == 1 } } } w sOK []))
  ∧ (∀ q s w t ch, Runs 0x0704 1 q s w t → 8 ≤ ch.toNat → ch.toNat ≤ 63 → (t.chan ch.toNat).isOpen = true →
    (t.dma.any fun d => dmaUses d ch.toNat) = false →
    exec (.hostChanClose q ch) s = .next (answer { t with host := { t.host with
      chans := AMap.put t.host.chans ch.toNat {} } } w sOK []))

/-- The transport's events (06 R147 to R154). Choices of the model: log entries 12, 14, 34. -/
def Obligations.TransportEventsComplete : Prop :=
  (∀ dt s u c v (p : Fin 2) (f : EthFrame) pkt, s.pass dt = u → u.mainOn = true → u.portsOn = true →
    (u.onPort p.val fun x => { x with
      fecCorr := x.fecCorr + BitVec.ofNat 64 f.fecCorr, fecUncorr := x.fecUncorr + BitVec.ofNat 64 f.fecUncorr }) = c →
    f.fcsOk = true → f.len ≤ c.portParam 0x0715 0 → f.body ≠ .pause → f.vlan = c.vid →
    (c.onPort p.val fun x => { x with lastRx := c.time }) = v →
    framePacket v p.val f.body = some pkt → packetOk v pkt = true → pkt.channel.toNat = 0 ∨ 8 ≤ pkt.channel.toNat →
    pkt.channel.toNat < 64 → (v.chan pkt.channel.toNat).isOpen = true →
    exec (.transportPacketRx dt p f false) s = .next (rxPacket v pkt.channel.toNat pkt))
  ∧ (∀ dt s u c v (p : Fin 2) (f : EthFrame) pkt, s.pass dt = u → u.mainOn = true → u.portsOn = true →
    (u.onPort p.val fun x => { x with
      fecCorr := x.fecCorr + BitVec.ofNat 64 f.fecCorr, fecUncorr := x.fecUncorr + BitVec.ofNat 64 f.fecUncorr }) = c →
    f.fcsOk = true → f.len ≤ c.portParam 0x0715 0 → f.body ≠ .pause → f.vlan = c.vid →
    (c.onPort p.val fun x => { x with lastRx := c.time }) = v →
    framePacket v p.val f.body = some pkt → packetOk v pkt = true → 1 ≤ pkt.channel.toNat → pkt.channel.toNat ≤ 4 →
    (v.chan pkt.channel.toNat).isOpen = true → mailboxDead v (pkt.channel.toNat - 1) = false → sessionOk v pkt.channel.toNat pkt = true →
    exec (.transportPacketRx dt p f false) s = .next
      (rxPacket (if pkt.session ≠ 0 then touchSession v (pkt.channel.toNat - 1) else v) pkt.channel.toNat pkt))
  ∧ (∀ dt s u c v (p : Fin 2) (f : EthFrame) r full, s.pass dt = u → u.mainOn = true → u.portsOn = true →
    (u.onPort p.val fun x => { x with
      fecCorr := x.fecCorr + BitVec.ofNat 64 f.fecCorr, fecUncorr := x.fecUncorr + BitVec.ofNat 64 f.fecUncorr }) = c →
    f.fcsOk = true → f.len ≤ c.portParam 0x0715 0 → f.body ≠ .pause → f.vlan = c.vid →
    (c.onPort p.val fun x => { x with lastRx := c.time }) = v →
    framePacket v p.val f.body = none → frameReply v p.val f.body = some r →
    exec (.transportPacketRx dt p f full) s = .next (portReply v p.val r))
  ∧ (∀ dt s u c (p : Fin 2) (f : EthFrame) full, s.pass dt = u → u.mainOn = true → u.portsOn = true →
    (u.onPort p.val fun x => { x with
      fecCorr := x.fecCorr + BitVec.ofNat 64 f.fecCorr, fecUncorr := x.fecUncorr + BitVec.ofNat 64 f.fecUncorr }) = c →
    f.fcsOk = true → c.portParam 0x0715 0 < f.len ∨ f.body = .pause →
    exec (.transportPacketRx dt p f full) s = .next (c.count 0x071E 3 1))
  ∧ (∀ dt s u c (p : Fin 2) (f : EthFrame) full, s.pass dt = u → u.mainOn = true → u.portsOn = true →
    (u.onPort p.val fun x => { x with
      fecCorr := x.fecCorr + BitVec.ofNat 64 f.fecCorr, fecUncorr := x.fecUncorr + BitVec.ofNat 64 f.fecUncorr }) = c →
    f.fcsOk = false → exec (.transportPacketRx dt p f full) s = .next c)
  ∧ (∀ dt s u (ch : Fin 64), s.pass dt = u → u.mainOn = true → (u.chan ch.val).isOpen = true →
    (u.chan ch.val).reliable = true → 0 < (u.chan ch.val).ackDue →
    (u.chan ch.val).ackSince + u.pv 0x071C 1 * usU ≤ u.time →
    exec (.ackTimer dt ch) s = .next ((emitPacket u ch.val 1 4 none (le 8 (sackOf (u.chan ch.val)))).onChan ch.val
      fun c => { c with ackDue := 0 }))
  ∧ (∀ dt s u (ch : Fin 64), s.pass dt = u → u.mainOn = true → (u.chan ch.val).isOpen = true →
    (u.chan ch.val).reliable = true → (u.chan ch.val).ooo = [] →
    ((retransmit u ch.val fun p => decide (p.last + u.pv 0x071A 0 * usU ≤ u.time)).chan ch.val).ooo = [] →
    exec (.retransmitTimeout dt ch) s = .next (retransmit u ch.val fun p => decide (p.last + u.pv 0x071A 0 * usU ≤ u.time)))
  ∧ (∀ dt s u v (ch : Fin 64) t0, s.pass dt = u → u.mainOn = true → (u.chan ch.val).isOpen = true →
    holeSince (u.chan ch.val) = some t0 → t0 + u.pv 0x071B 0 * msU ≤ u.time →
    drainOoo (u.onChan ch.val fun c => { c with
      rxNext := (((u.chan ch.val).ooo.head?).map (·.seq)).getD 0, broken := decide (8 ≤ ch.val) }) ch.val = v →
    exec (.inboundGapTimeout dt ch) s = .next (raise (v.count 0x071E 0 1) 0x0D3 0 false))
  ∧ (∀ dt s u (ch : Fin 64) p rest, s.pass dt = u → u.mainOn = true → (u.chan ch.val).isOpen = true →
    (u.chan ch.val).unacked = p :: rest → p.first + u.pv 0x071B 0 * msU < u.time →
    exec (.outboundPeerLost dt ch) s = .next (raise { u with
      host := { u.host with
        chans := AMap.put u.host.chans ch.val ({ (u.chan ch.val) with unacked := [], txWait := [], isOpen := decide (ch.val < 5) } : Chan) }
      dma := u.dma.map fun d => if dmaUses d ch.val then { d with lost := true } else d } 0x0D2 0 false))
  ∧ (∀ dt s u (p : Fin 2), s.pass dt = u → u.mainOn = true → u.portUp p.val = true →
    4 * (u.port p.val).lastTx + u.pv 0x0718 0 * usU ≤ 4 * u.time →
    exec (.keepaliveSend dt p) s = .next ((u.onPort p.val fun x => { x with lastTx := u.time }).send
      (.packet p.val u.vid (u.encap p.val) 3 (if p.val = 1 then 16 else 0) 0 0 none (u.chan 0).rxNext (BitVec.ofNat 64 u.now64) [])))

/-- The events of the ports and of IEEE 1588 (06 R145, R155 to R157). Choices of the model: log entries 14, 34, 37. -/
def Obligations.PortEventsComplete : Prop :=
  (∀ dt s u (p : Fin 2), s.pass dt = u → u.mainOn = true → (u.port p.val).link ≠ 0 →
    u.portUp (1 - p.val) = true →
    exec (.portDown dt p) s = .next (failOver (u.onPort p.val fun x => { x with link := 0 }) p.val))
  ∧ (∀ dt s u (p : Fin 2), s.pass dt = u → u.mainOn = true → (u.port p.val).link ≠ 0 →
    u.portUp (1 - p.val) = false →
    exec (.portDown dt p) s = .next (raise (u.onPort p.val fun x => { x with link := 0 }) 0x0D1 0 true))
  ∧ (∀ dt s u (p : Fin 2), s.pass dt = u → u.mainOn = true → u.portsOn = true → (u.port (1 - p.val)).link ≠ 0 →
    exec (.portLinkUp dt p) s = .next (clearCond (u.onPort p.val fun x => { x with link := 2, lastRx := u.time }) 0x0D1))
  ∧ (∀ dt s u (p : Fin 2), s.pass dt = u → u.mainOn = true → u.portsOn = true → (u.port (1 - p.val)).link = 0 →
    exec (.portLinkUp dt p) s =
      .next (failOver (clearCond (u.onPort p.val fun x => { x with link := 2, lastRx := u.time }) 0x0D1) (1 - p.val)))
  ∧ (∀ dt s u (p : Fin 2) via origin, s.pass dt = u → u.mainOn = true → u.portsOn = true → u.pv 0x071D 0 = ptpModeOf via →
    portFor u 0 = p.val → exec (.ptpMessageRx dt p ⟨.sync (u.pv 0x071D 1) true origin, via, u.vid⟩) s =
      .next { u with host := { u.host with ptpSync := some u.time } })
  ∧ (∀ dt s u (p : Fin 2) via origin, s.pass dt = u → u.mainOn = true → u.portsOn = true → u.pv 0x071D 0 = ptpModeOf via →
    portFor u 0 = p.val → exec (.ptpMessageRx dt p ⟨.sync (u.pv 0x071D 1) false origin, via, u.vid⟩) s =
      .next (ptpForward u u.time origin))
  ∧ (∀ dt s u (p : Fin 2) via origin t0, s.pass dt = u → u.mainOn = true → u.portsOn = true → u.pv 0x071D 0 = ptpModeOf via →
    portFor u 0 = p.val → u.host.ptpSync = some t0 →
    exec (.ptpMessageRx dt p ⟨.followUp (u.pv 0x071D 1) origin, via, u.vid⟩) s = .next (ptpForward u t0 origin))
  ∧ (∀ dt s u (p : Fin 2) via rx t0, s.pass dt = u → u.mainOn = true → u.portsOn = true → u.pv 0x071D 0 = ptpModeOf via →
    portFor u 0 = p.val → u.host.ptpReq = some t0 →
    exec (.ptpMessageRx dt p ⟨.delayResp (u.pv 0x071D 1) rx, via, u.vid⟩) s =
      .next (ptpLaw { u with host := { u.host with ptpRev := some (rx - psOf t0), ptpReq := none } }))
  ∧ (∀ dt s u, s.pass dt = u → u.mainOn = true → u.pv 0x071D 0 ≠ 0 →
    exec (.ptpSyncLost dt) s = .next (raise { u with host := { u.host with
      ptpSynced := false, ptpSync := none, ptpReq := none, ptpFwd := none, ptpRev := none } } 0x0D4 0 true))

/-- DMA: a channel starts on its own engine, ends its element before a stop or a disable, and moves one burst (06
R159 to R168). Choices of the model: log entry 35. -/
def Obligations.DmaCommandsComplete : Prop :=
  (∀ q s w t k desc, Runs 0x0710 5 q s w t → k.toNat ≤ 31 → (t.dch k.toNat).st = .idle → descStatus t.mem desc.toNat = 0 →
    dmaFaulty t (t.dch k.toNat).phys = false →
    exec (.dmaStart q k desc) s = .next (answer (beginDesc (t.onDma k.toNat fun c => { c with
      st := .running, passes := [], stop := none, disable := none, lost := false, lastGrant := t.time, credit := 0 })
      k.toNat desc.toNat) w sOK []))
  ∧ (∀ q s w t k, Runs 0x0711 1 q s w t → k.toNat ≤ 31 → (t.dch k.toNat).st = .running → (t.dch k.toNat).stop = none →
    (t.dch k.toNat).moved = 0 →
    exec (.dmaStop q k) s = .next (answer (t.onDma k.toNat fun c => { c with st := .stopping }) w sOK []))
  ∧ (∀ q s w t k, Runs 0x0711 1 q s w t → k.toNat ≤ 31 → (t.dch k.toNat).st = .running → (t.dch k.toNat).stop = none →
    (t.dch k.toNat).moved ≠ 0 →
    exec (.dmaStop q k) s = .next (t.onDma k.toNat fun c => { c with stop := some w }))
  ∧ (∀ q s w t k, Runs 0x0712 1 q s w t → k.toNat ≤ 31 → (t.dch k.toNat).st ≠ .idle → t.pv 0x0741 k.toNat ≠ 1 →
    (t.dch k.toNat).disable = none → (t.dch k.toNat).moved ≠ 0 →
    exec (.dmaDisable q k) s = .next (t.onDma k.toNat fun c => { c with disable := some w }))
  ∧ (∀ q s w t k, Runs 0x0712 1 q s w t → k.toNat ≤ 31 → (t.dch k.toNat).st ≠ .idle → t.pv 0x0741 k.toNat ≠ 1 →
    (t.dch k.toNat).disable = none → (t.dch k.toNat).moved = 0 →
    exec (.dmaDisable q k) s = .next (dmaEnd (t.onDma k.toNat fun c => { c with disable := some w }) k.toNat 2 0))
  ∧ (∀ q s w t k, Runs 0x0713 1 q s w t → k.toNat ≤ 31 →
    exec (.dmaStatus q k) s = .next (answer t w sOK
      (le 1 (dmaCode (t.dch k.toNat).st) ++ le 1 (t.dch k.toNat).endCode ++ le 4 (t.dch k.toNat).desc.tag.toNat
        ++ le 4 (t.dch k.toNat).element ++ le 4 (AMap.get (t.dch k.toNat).passes (t.dch k.toNat).descAt 0) ++ le 4 (t.pv 0x0744 k.toNat))))
  ∧ (∀ dt s u (k : Fin 32), s.pass dt = u → u.mainOn = true → dmaReady u k.val = true → starved u = none →
    granted u k.val = true →
    exec (.dmaBurst dt ⟨k, false⟩) s = .next (burst ((refill u).onDma k.val fun c => { c with credit := c.credit - 1 }) k.val))
  ∧ (∀ dt s u (k : Fin 32), s.pass dt = u → u.mainOn = true → dmaReady u k.val = true → starved u = none →
    granted u k.val = true →
    exec (.dmaBurst dt ⟨k, true⟩) s = .next (burst ((refill { u with host := { u.host with
      badEngines := u.host.badEngines ++ [(u.dch k.val).phys] } }).onDma k.val fun c => { c with credit := c.credit - 1 }) k.val))
  ∧ (∀ dt s u (k : Fin 32), s.pass dt = u → u.mainOn = true → starved u = some k.val →
    exec (.dmaStarveBoost dt k) s = .next (burst (u.count 0x0744 k.val 1) k.val))

/-! ### Clocks and time -/

/-- The requests of the clocks, where they are taken (14 R303, R304, Table CLK-7). Choices of the model: log entry
37. -/
def Obligations.ClockRequestsComplete : Prop :=
  (∀ q s w t, Runs 0x0201 0 q s w t →
    exec (.clkTimeGet q) s = .next (answer t w sOK
      (le 8 (time64 t.time) ++ calendar t ++ le 4 (t.time / 256 % 1000000000) ++ leI 2 t.clk.taiUtc ++ le 1 (clkStatusN t.clk))))
  ∧ (∀ q s w t y mo d h mi sec rsv ns, Runs 0x0202 12 q s w t →
    dateOk y.toNat mo.toNat d.toNat h.toNat mi.toNat sec.toNat = true → ns.toNat ≤ 999999999 → t.timeSrc = 0 → t.layer.st = .idle →
    exec (.clkTimeSet q y mo d h mi sec rsv ns) s = .next (answer { t with clk := { t.clk with
      step := some ((((dateDays y.toNat mo.toNat d.toNat * 86400 + h.toNat * 3600 + mi.toNat * 60 + sec.toNat : Nat) + t.clk.taiUtc) * secU
          + (ns.toNat * nsU : Nat)) - t.time) } } w sOK []))
  ∧ (∀ q s w t off at_, Runs 0x0203 10 q s w t → 0 ≤ off.toInt → off.toInt ≤ 1000 → time64 t.time ≤ at_.toNat →
    exec (.clkLeapSet q off at_) s = .next (answer { t with clk := { t.clk with leap := some (off.toInt, at_.toNat) } } w sOK []))
  ∧ (∀ q s w t, Runs 0x0204 0 q s w t →
    exec (.clkStatus q) s = .next (answer t w sOK
      (le 1 t.timeSrc ++ le 1 (clkStatusN t.clk) ++ leI 8 t.clk.offsetPs ++ leI 4 t.clk.freqCorr
        ++ le 4 (t.clk.segDelay.getD 0 0) ++ le 4 (t.clk.segDelay.getD 1 0) ++ (t.clk.plls.flatMap fun p => le 1 p.band.toNat))))

/-- The events of the reference, the PLLs and time (14 R288 to R303). Choices of the model: log entries 14, 37, 42,
52. -/
def Obligations.ClockEventsComplete : Prop :=
  (∀ dt s u, s.pass dt = u → u.mainOn = true → u.clk.refFallback = false → u.clk.refCrystal = false →
    exec (.referenceNotReady dt) s = .next (raise { u with clk := { u.clk with
      plls := u.clk.plls.mapIdx fun k p => if k = 0 then p else { p with locked := false }
      phaseAligned := false, refFallback := true } } 0x030 0 true))
  ∧ (∀ dt s u, s.pass dt = u → u.mainOn = true → u.clk.refFallback = false →
    exec (.referenceLost dt) s = .next ([1, 2, 3, 4].foldl pllUnlock
      (raise { u with clk := { u.clk with refFallback := true, refCrystal := false } } 0x031 0 true)))
  ∧ (∀ dt s u, s.pass dt = u → u.power ≠ .off →
    exec (.porterCrystalFail dt) s = .next (raise { u with clk := { u.clk with porterCrystal := false, degraded := true } } 0x032 0 true))
  ∧ (∀ dt s u, s.pass dt = u → u.mainOn = true → u.clk.refFallback = false →
    exec (.porterRcTrim dt) s = .next { u with clk := { u.clk with rcTrimmed := true } })
  ∧ (∀ dt s u (k : Fin 5) band, s.pass dt = u → pllPowered u k.val = true → k.val = 0 ∨ u.clk.refFallback = false →
    (u.pll k.val).down = false → (u.pll k.val).locked = false ∨ researchOk u k.val = true →
    exec (.pllLock dt k band true) s = .next (clearCond { u with clk := { u.clk with
      refCrystal := u.clk.refCrystal || !u.clk.refFallback
      plls := (u.clk.plls.modify k.val fun p => { p with band := band }).modify k.val fun p =>
        { p with locked := true, relocked := false, research := false } } } (0x033 + k.val)))
  ∧ (∀ dt s u (k : Fin 5) band, s.pass dt = u → pllPowered u k.val = true → k.val = 0 ∨ u.clk.refFallback = false →
    (u.pll k.val).down = false → (u.pll k.val).locked = false ∨ researchOk u k.val = true → band = 0 ∨ band = 63 → k.val ≠ 1 →
    exec (.pllLock dt k band false) s = .next (raise { u with clk := { u.clk with
      plls := (u.clk.plls.modify k.val fun p => { p with band := band }).modify k.val fun p =>
        { p with locked := false, down := p.relocked, relocked := true } } } (0x033 + k.val) 0 true))
  ∧ (∀ dt s u (k : Fin 5), s.pass dt = u → u.mainOn = true → exec (.pllUnlock dt k) s = .next (Machine.pllUnlock u k.val))
  ∧ (∀ dt s u, s.pass dt = u → (u.pll 1).locked = true →
    exec (.exppllPhaseAligned dt) s = .next { u with clk := { u.clk with phaseAligned := true } })
  ∧ (∀ dt s u, s.pass dt = u → u.mainOn = true → u.time % secU < nsU → u.stage.master = false → u.clk.step = none →
    exec (.secondBoundary dt) s = .next { u with clk := { (latchClock u).clk with
      porterTime := porterCut u.time, porterCrystal := !u.clk.degraded } })
  ∧ (∀ dt s u v, s.pass dt = u → u.mainOn = true → u.time % secU < nsU →
    applyStep (latchClock (if u.stage.master ∧ u.stageOn = true then u.send (.stageMarker true true 0) else u)) = v →
    exec (.secondBoundary dt) s = .next { v with clk := { v.clk with
      porterTime := porterCut v.time, porterCrystal := !v.clk.degraded } })
  ∧ (∀ dt s u v (p : Fin 2), s.pass dt = u → u.stageOn = true → u.stage.master = false → (u.stage.ports.getD p.val {}).masterSide = true →
    u.send (.stageMarker (p.val == 1) (p.val == 0) 0) = v →
    exec (.timeMarkerRx dt p) s = .next (timeLaw (clearCond { v with clk := { v.clk with chained := true, holdover := false, srcLost := false } } 0x038)
      (markerOffset u ((u.stage.ports.getD p.val {}).accPs + u.clk.segDelay.getD p.val 0))))
  ∧ (∀ dt s u (p : Fin 2), s.pass dt = u → u.stageOn = true → u.stage.master = false → (u.stage.ports.getD p.val {}).masterSide = false →
    exec (.timeMarkerRx dt p) s = .next (u.send (.stageMarker (p.val == 1) (p.val == 0) 0)))
  ∧ (∀ dt s u (p : Fin 2) ex, s.pass dt = u → u.stageOn = true → ex ≠ [] →
    exec (.segmentDelayMeasure dt p ex) s = .next { u with clk := { u.clk with
      segDelay := u.clk.segDelay.set p.val ((ex.map fun e => e.1 - e.2).sum / (2 * ex.length)) } })
  ∧ (∀ dt s u, s.pass dt = u → u.mainOn = true → u.stage.master = false → u.clk.srcLost = false →
    u.clk.chained = true ∨ (u.stage.ports.any fun p => p.up) = true →
    exec (.holdoverEntry dt) s = .next (raise { u with clk := { u.clk with holdover := true, srcLost := true } } 0x038 0 true))
  ∧ (∀ dt s u off at_, s.pass dt = u → u.mainOn = true → u.clk.leap = some (off, at_) → at_ ≤ time64 u.time →
    exec (.leapApply dt) s = .next (raise (markDirty (gbOpen { u with clk := { u.clk with taiUtc := off, leap := none } } 2 2)) 0x03C 0 false))
  ∧ (∀ dt s u o, s.pass dt = u → u.mainOn = true → u.stage.master = false → u.pv 0x071D 0 ≠ 0 → ptpOffset u = some o →
    exec (.ptpDisagreement dt) s = .next (if u.clk.inForce.getD 3 0 * 1000 < o.natAbs then raise u 0x03B 0 false else u))

/-! ### Servo engine -/

/-- The servo engine's requests, where they are taken (08 R189 to R194, R200, R203, R204, Table SERVO-7). Choices of
the model: log entries 6, 63. -/
def Obligations.ServoRequestsComplete : Prop :=
  (∀ q s w t n, Runs 0x0901 2 q s w t → n.toNat ≤ 23 → (slotType t n.toNat = 7 → t.c4On = false) →
    t.motionOn = true → t.bist.failed.getLsbD 60 = false → (t.slot n.toNat).en = false →
    slotType t n.toNat ≠ 0 → selectorsOk t n.toNat = true → destInUse t n.toNat = false →
    exec (.servoLoopEnable q n 1) s = .next (answer (slotOn t n.toNat) w sOK []))
  ∧ (∀ q s w t n, Runs 0x0901 2 q s w t → n.toNat ≤ 23 → (t.slot n.toNat).en = true → t.servo.test = none →
    exec (.servoLoopEnable q n 0) s = .next (answer (slotOff t n.toNat) w sOK []))
  ∧ (∀ q s w t n, Runs 0x0902 1 q s w t → n.toNat ≤ 23 → t.motionOn = true →
    exec (.servoLoopCommit q n) s = .next (answer (t.onSlot n.toNat fun x => { x with commit := true }) w sOK []))
  ∧ (∀ q s w t, Runs 0x0902 1 q s w t → t.motionOn = true →
    exec (.servoLoopCommit q 0xFF) s = .next (answer
      { t with servo := { t.servo with slots := t.servo.slots.map fun x => { x with commit := true } } } w sOK []))
  ∧ (∀ q s w t tab first n vs, Runs 0x0903 (5 + 4 * n.toNat) q s w t → vs.length = n.toNat → 1 ≤ tab.toNat → tab.toNat ≤ 8 →
    1 ≤ n.toNat → n.toNat ≤ 256 → first.toNat + n.toNat ≤ 1024 → t.motionOn = true →
    exec (.servoTableWrite q tab first n vs) s = .next (answer { t with servo := { t.servo with
      tabWrites := t.servo.tabWrites ++ ((List.range vs.length).zip vs).map fun e =>
        (0x10C0000 + (tab.toNat - 1) * 4096 + 4 * first.toNat + 4 * e.1, e.2) } } w sOK []))
  ∧ (∀ q s w t k, Runs 0x0904 1 q s w t → k.toNat ≤ 3 → t.motionOn = true →
    exec (.servoEncReference q k) s = .next (answer (t.onEnc k.toNat fun e => { e with armed := true }) w sOK []))
  ∧ (∀ q s w t x, Runs 0x0905 4 q s w t → t.motionOn = true → t.driver = true → t.layer.st = .idle → onStopRamp t = false →
    exec (.servoCarriageMove q x) s = .next (answer
      { t with servo := { t.servo with prof := { t.servo.prof with moveTo := some x.toInt } } } w sOK []))
  ∧ (∀ q s w t, Runs 0x0906 0 q s w t → t.driver = true → moveRuns t.servo.prof = true → t.servo.prof.stop = none →
    exec (.servoCarriageStop q) s = .next { t with servo := { t.servo with prof := { t.servo.prof with stop := some w } } })
  ∧ (∀ q s w t x, Runs 0x0907 35 q s w t → t.servo.test = none → x.loop.toNat ≤ 23 → testRangeOk t x = true →
    (2 ≤ slotType t x.loop.toNat → slotType t x.loop.toNat ≤ 5 → t.layer.st = .idle) → (t.slot x.loop.toNat).en = true →
    ∃ seed, 1 ≤ seed ∧ seed ≤ 32767 ∧ exec (.servoTestStart q x) s = .next (answer { t.freeTaken with
      servo := { t.servo with
        test := some { t := x, no := t.servo.testNo + 1, lfsr := seed }, testNo := t.servo.testNo + 1, testEnd := none } } w sOK []))
  ∧ (∀ q s w t r, Runs 0x0908 0 q s w t → t.servo.test = some r → r.stop = none →
    exec (.servoTestStop q) s = .next { t with servo := { t.servo with test := some { r with stop := some w } } })
  ∧ (∀ q s w t n, Runs 0x0909 1 q s w t → n.toNat ≤ 23 →
    exec (.servoStatus q n) s = .next (answer t w sOK ([bitB (t.slot n.toNat).en] ++ leI 4 (t.slot n.toNat).sp
      ++ leI 4 (t.slot n.toNat).fb ++ leI 4 (t.slot n.toNat).out ++ leI 4 (t.slot n.toNat).iAcc
      ++ [bitB ((t.slot n.toNat).coef != shadowCoef t n.toNat)])))

/-- The servo engine's events (08 R186, R194, R198 to R201, R205). Choices of the model: log entries 14, 63. -/
def Obligations.ServoEventsComplete : Prop :=
  (∀ dt s u, s.pass dt = u → u.motionOn = true → u.time / 256 % 10000 = 0 → exec (.baseTick dt) s = .next (Machine.baseTick u))
  ∧ (∀ dt s u (k : Fin 4) p x, s.pass dt = u → u.motionOn = true → u.pv 0x0930 k = 1 ∨ u.pv 0x0930 k = 2 → glitch u k = false →
    ofField 48 (toField 48 p) = x → x ≠ (u.enc k).pos →
    exec (.encoderPositionChange dt k p) s = .next (noteRest ((encFound u k).onEnc k fun e => { e with
      pos := x, changes := (onGrid u.time, x) :: keepChanges (onGrid u.time) e.changes }) k (onGrid u.time)))
  ∧ (∀ dt s u (k : Fin 4) p, s.pass dt = u → u.motionOn = true → u.pv 0x0930 k = 3 →
    exec (.encoderPositionChange dt k p) s = .next (u.onEnc k fun e => { e with raw := p }))
  ∧ (∀ dt s u (k : Fin 4), s.pass dt = u → u.motionOn = true → u.pv 0x0930 k = 1 ∨ u.pv 0x0930 k = 2 → (u.enc k).armed = true →
    exec (.encoderZEdge dt k) s = .next ((clearCond u (0x0F0 + k)).onEnc k fun e => { e with
      pos := u.pvI 48 0x093B k, changes := e.changes.map (fun c => (c.1, c.2 + (u.pvI 48 0x093B k - e.pos)))
      armed := false, referenced := true, lost := false, frozen := false, valid := true, amplitude := false, quadrature := false }))
  ∧ (∀ dt s u (k : Fin 4), s.pass dt = u → u.motionOn = true → u.pv 0x0930 k = 1 ∨ u.pv 0x0930 k = 2 → (u.enc k).armed = false →
    (u.enc k).referenced = true → u.pv 0x093B (k + 4) = 1 →
    exec (.encoderZEdge dt k) s = .next (if zOff u k then raise u 0x0FC k false else u))
  ∧ (∀ dt s u (k : Fin 4) cause, s.pass dt = u → u.motionOn = true → lossFits (u.pv 0x0930 k) cause = true →
    (u.enc k).lost = false → exec (.encoderLost dt k cause) s = .next (encLost u k cause))
  ∧ (∀ dt s u, s.pass dt = u → u.motionOn = true → u.driver = true → profOver u.servo.prof u.time = true →
    u.servo.prof.inPos = false → u.servo.prof.moveTo = none → inPosition u = true → (u.layer.st = .runOut → u.layer.atRest = true) →
    exec (.carriageInPosition dt) s = .next { u with servo := { u.servo with prof := { u.servo.prof with inPos := true } } })
  ∧ (∀ dt s u, s.pass dt = u → u.motionOn = true → u.driver = true → profOver u.servo.prof u.time = true →
    u.servo.prof.inPos = false → u.servo.prof.moveTo = none → inPosition u = true → u.layer.st = .runOut → u.layer.atRest = false →
    exec (.carriageInPosition dt) s =
      .next (restReached { u with servo := { u.servo with prof := { u.servo.prof with inPos := true } } }))
  ∧ (∀ dt s u (n : Fin 24), s.pass dt = u → u.motionOn = true → (u.slot n).en = true → 1000 ≤ (u.slot n).satRun →
    exec (.outputSaturated dt n) s = .next (raise (u.onSlot n fun x => { x with satRun := 0 }) 0x0FB n false))

/-! ### Drives -/

/-- The drives' requests, where they are taken (09 R215, R225, Tables DRV-3, DRV-6). Choices of the model: log entry
64. -/
def Obligations.DriveRequestsComplete : Prop :=
  (∀ q s w t k, Runs 0x0A01 2 q s w t → k.toNat ≤ 7 → t.motionOn = true → driveMode t k.toNat ≠ 0 → t.c4On = false →
    (t.drive k.toNat).st = .disabled ∨ (t.drive k.toNat).st = .fault → (t.drive k.toNat).align = none →
    enableDenied t k.toNat = false → (driveMode t k.toNat = 3 → (t.enc (t.pv 0x0A1F k.toNat)).referenced = true) →
    exec (.drvEnable q k 1) s = .next (answer ((latchDrive t k.toNat).onDrive k.toNat fun d => { driveTo d .idle t.time with
      c3Ramp := false, startFails := 0, catchFails := 0, caughtAt := none, spd := 0, rampRem := 0, iAcc := 0, isumRun := 0, runReq := false }) w sOK []))
  ∧ (∀ q s w t k, Runs 0x0A01 2 q s w t → k.toNat ≤ 7 →
    exec (.drvEnable q k 0) s = .next (answer (driveDisable t k.toNat sDenied) w sOK []))
  ∧ (∀ q s w t k pts, Runs 0x0A02 65 q s w t → pts.length = 8 → k.toNat ≤ 7 → t.motionOn = true →
    curveRising (pts.map fun p : U32 × U32 => (p.1.toInt, p.2.toInt)) = true →
    exec (.drvCurveWrite q k pts) s = .next (answer (t.onDrive k.toNat fun d => { d with
      curveNew := some (pts.map fun p : U32 × U32 => (p.1.toInt, p.2.toInt)) }) w sOK []))
  ∧ (∀ q s w t k, Runs 0x0A03 1 q s w t → k.toNat ≤ 7 → driveMode t k.toNat = 3 → (t.drive k.toNat).st = .disabled →
    t.motionOn = true → (t.drive k.toNat).align = none → t.c4On = false →
    exec (.drvAlign q k) s = .next ((latchDrive t k.toNat).onDrive k.toNat fun d =>
      withVector { d with align := some w, gates := true, chop := false, tState := t.time } 1))
  ∧ (∀ q s w t k, Runs 0x0A04 1 q s w t → k.toNat ≤ 7 →
    exec (.drvStatus q k) s = .next (answer t w sOK
      ([BitVec.ofNat 8 (drvCode (t.drive k.toNat).st)] ++ leI 4 (t.drive k.toNat).speed ++ leI 4 (t.drive k.toNat).tEst
        ++ ((List.range 3).map fun l => BitVec.ofNat 8 (legOfs t (3 * k.toNat + l)).src)
        ++ ((List.range 3).map fun l => le 4 (satN 32 ((t.time - (legOfs t (3 * k.toNat + l)).setAt) / secU))).flatten)))

/-- The drives' events (09 R210, R211, R218 to R220, R225, Tables DRV-3, DRV-4). Choices of the model: log entries
14, 64. -/
def Obligations.DriveEventsComplete : Prop :=
  (∀ dt s u (k : Fin 8) a b c v, s.pass dt = u → u.motionOn = true →
    (u.drive k).st ≠ .disabled ∨ (u.drive k).align.isSome = true → (u.drive k).st ≠ .fault →
    exec (.decisionPeriod dt k a b c v) s = .next (decision u k [a, b, c] v))
  ∧ (∀ dt s u v (k : Fin 8) gd, s.pass dt = u → u.motionOn = true → gd = true ∨ (u.drive k).gates = true → (u.drive k).align = none →
    u.onDrive k (fun d => { d with gdf := d.gdf || gd }) = v →
    exec (.driveOvercurrent dt k (if gd then .gdfLow else .shunt)) s = .next (driveRaise (driveFault v k) k (if gd then 0x119 else 0x110) gd))
  ∧ (∀ dt s u v (k : Fin 8) gd w, s.pass dt = u → u.motionOn = true → gd = true ∨ (u.drive k).gates = true →
    (u.drive k).align = some w → u.onDrive k (fun d => { d with gdf := d.gdf || gd }) = v →
    exec (.driveOvercurrent dt k (if gd then .gdfLow else .shunt)) s = .next (driveRaise (answer ((driveFault v k).onDrive k fun d => { d with align := none })
      w sDenied []) k (if gd then 0x119 else 0x110) gd))
  ∧ (∀ dt s u (k : Fin 8), s.pass dt = u → u.motionOn = true → (u.drive k).gdf = true →
    exec (.driveOvercurrent dt k .gdfHigh) s = .next (driveConds (u.onDrive k fun d => { d with gdf := false })))
  ∧ (∀ dt s u (k : Fin 8) p r, s.pass dt = u → u.motionOn = true → (u.drive k).st = .catch →
    exec (.bemfZeroCrossing dt k p r) s = .next (catchCross u k p r))
  ∧ (∀ dt s u (k : Fin 8) p r, s.pass dt = u → u.motionOn = true → (u.drive k).st = .start → (u.drive k).ramping = true →
    exec (.bemfZeroCrossing dt k p r) s = .next (startCross u k p r))
  ∧ (∀ dt s u (k : Fin 8), s.pass dt = u → u.motionOn = true → (u.drive k).st = .catch →
    (u.drive k).tState + u.dpv 0x0A2D k 0 * msU ≤ u.time → exec (.catchTimeout dt k) s = .next (driveOn u k .brake 0))
  ∧ (∀ dt s u (k : Fin 8), s.pass dt = u → u.motionOn = true → (u.drive k).st = .brake →
    (u.drive k).tState + u.dpv 0x0A2D k 8 * msU ≤ u.time →
    exec (.brakeElapsed dt k) s = .next ((driveOn u k .start 1).onDrive k fun d => { d with stepVec := 1, rampHz := 0 }))
  ∧ (∀ dt s u (k : Fin 8), s.pass dt = u → u.motionOn = true → (u.drive k).st = .start → (u.drive k).ramping = false →
    (u.drive k).tState + u.dpv 0x0A27 k 0 * msU ≤ u.time →
    exec (.alignElapsed dt k) s =
      .next (u.onDrive k fun d => { d with
      ramping := true, lastComm := u.time, rampAcc := 0, rampAt := u.time, lockRun := 0, crossed := false, chop := false }))
  ∧ (∀ dt s u (k : Fin 8), s.pass dt = u → u.motionOn = true → (u.drive k).st = .coast → (u.drive k).coastToStart = false →
    (u.drive k).tState + u.dpv 0x0A2D k 16 * msU ≤ u.time → exec (.coastElapsed dt k) s = .next (enterCatch u k))
  ∧ (∀ dt s u (k : Fin 8), s.pass dt = u → u.motionOn = true → (u.drive k).st = .coast → (u.drive k).coastToStart = true →
    (u.drive k).tState + u.dpv 0x0A2D k 16 * msU ≤ u.time →
    exec (.coastElapsed dt k) s = .next ((driveOn u k .brake 0).onDrive k fun d => { d with coastToStart := false }))
  ∧ (∀ dt s u (k : Fin 8) a b c, s.pass dt = u → u.motionOn = true → (u.drive k).st = .disabled ∨ (u.drive k).st = .idle →
    (u.drive k).gates = false →
    exec (.standstillOffset dt k a b c) s = .next (setOffset (setOffset (setOffset u k 0 a 1) k 1 b 1) k 2 c 1))
  ∧ (∀ dt s u (k : Fin 8), s.pass dt = u → u.motionOn = true → driveMode u k = 1 → (u.drive k).st = .run →
    (u.drive k).tRef.natAbs = u.pv 0x0A19 k → (u.drive k).speed.natAbs < u.dpv 0x0A2A k 0 →
    exec (.driveStall dt k) s = .next (driveRaise u k 0x118 false))
  ∧ (∀ dt s u (k : Fin 8), s.pass dt = u → u.motionOn = true → (u.drive k).st = .start → (u.drive k).ramping = true →
    exec (.sixStepCommutation dt k) s = .next (sixStep u k))
  ∧ (∀ dt s u (k : Fin 8) w p, s.pass dt = u → u.motionOn = true → (u.drive k).align = some w →
    (u.drive k).tState + u.dpv 0x0A27 k 0 * msU ≤ u.time →
    sat32 (encNm u (u.pv 0x0A1F k) (u.enc (u.pv 0x0A1F k)).pos) = p →
    exec (.drvAlignDone dt k) s = .next (answer ((u.pput 0x0A20 k (toField 32 p)).onDrive k
      fun d => { driveTo d .disabled u.time with align := none }) w sOK (leI 4 p)))

/-! ### Steppers -/

/-- The steppers' requests, where they are taken (10 R227 to R238, Table STEP-5). Choices of the model: log entry
65. -/
def Obligations.StepperRequestsComplete : Prop :=
  (∀ q s w t k, Runs 0x0B01 2 q s w t → k.toNat ≤ 7 → t.motionOn = true → t.bist.failed.getLsbD 62 = false → t.c4On = false →
    (t.unit (unitOf t k.toNat)).st = .disabled →
    exec (.stepEnable q k 1) s = .next (answer (t.onUnit (unitOf t k.toNat) fun x => { x with st := .idle }) w sOK []))
  ∧ (∀ q s w t k, Runs 0x0B01 2 q s w t → k.toNat ≤ 7 →
    exec (.stepEnable q k 0) s = .next (answer (unitDisable t (unitOf t k.toNat)) w sOK []))
  ∧ (∀ q s w t uf n abs v a j ts m, Runs 0x0B02 (14 + 6 * ts.length) q s w t → unitField uf = some n → (t.unit n).members ≠ [] →
    (n < 8 → (t.axis n).group = none) → ts.length = (t.unit n).members.length → abs.toNat ≤ 1 →
    planMove t n (abs == 1) v.toNat a.toNat j.toNat (ts.map (·.toInt)) = m → moveRangeOk v.toNat a.toNat j.toNat = true →
    m.targets.all targetOk = true → takesMoves (t.unit n) = true → (t.unit n).queue.length < 32 →
    (abs = 1 → ((t.unit n).members.any fun k => !(t.axis k).homed) = false) →
    towardLimit t n (List.zipWith (fun t p => t - p) m.targets (planStart t n)) = false →
    exec (.stepMove q uf abs v a j ts) s = .next (answer (t.onUnit n fun x => { x with
        queue := x.queue ++ [m], st := if x.st = .idle then .moving else x.st }) w sOK
      [BitVec.ofNat 8 ((t.onUnit n fun x => { x with
        queue := x.queue ++ [m], st := if x.st = .idle then .moving else x.st }).unit n).queue.length]))
  ∧ (∀ q s w t uf n v, Runs 0x0B03 1 q s w t → unitField uf = some n → (t.unit n).members ≠ [] →
    (if n < 8 then unitOf t n else n) = v → t.motionOn = true → (t.unit v).stop = none →
    exec (.stepStop q uf) s = .next (t.onUnit v fun x => { x with stop := some w }))
  ∧ (∀ q s w t uf n, Runs 0x0B04 1 q s w t → unitField uf = some n → (t.unit n).members ≠ [] →
    (n < 8 → (t.axis n).group = none) → (t.unit n).st = .stopped →
    (((t.unit n).cur.map (·.abs)).getD false = true → ((t.unit n).members.any fun k => !(t.axis k).homed) = false) →
    towardLimit t n (((t.unit n).cur.map fun m => moveDelta m (unitPos t n)).getD []) = false →
    exec (.stepResume q uf) s = .next (answer (t.onUnit n fun x => { x with
      st := .moving, cur := x.cur.map fun m => { m with start := unitPos t n }, joint := none, prog := 0, vel := 0, acc := 0 }) w sOK []))
  ∧ (∀ q s w t uf n, Runs 0x0B05 1 q s w t → unitField uf = some n → (t.unit n).members ≠ [] →
    (n < 8 → (t.axis n).group = none) → (t.unit n).st = .idle ∨ (t.unit n).st = .stopped →
    exec (.stepFlush q uf) s = .next (answer (t.onUnit n fun x => { x with
      st := .idle, queue := [], cur := none, joint := none, prog := 0, remain := [] }) w sOK []))
  ∧ (∀ q s w t k, Runs 0x0B06 1 q s w t → k.toNat ≤ 7 → (t.axis k.toNat).group = none → (t.unit k.toNat).st = .idle →
    homeBlocked t k.toNat = false →
    exec (.stepHome q k) s = .next (answer ((t.onUnit k.toNat fun x => { x with
        st := .homing, queue := [], cur := none, remain := [], vel := 0, acc := 0 }).onAxis k.toNat fun a => { a with
        homed := false, homeStep := if swActive t k.toNat (homeSrc t k.toNat) then 1 else 2, homeWait := true
        homeDir := t.pv 0x0B21 k.toNat == 1, homeRev := false }) w sOK []))
  ∧ (∀ q s w t g mask ks, Runs 0x0B07 2 q s w t → g.toNat ≤ 3 → bitsOf mask.toNat 8 = ks → 2 ≤ ks.length → ks.length ≤ 4 →
    (∀ k ∈ ks, ((t.axis k).group = none ∨ (t.axis k).group = some g.toNat)
      ∧ (t.unit (unitOf t k)).st = .idle ∧ (t.unit (unitOf t k)).queue = []) →
    ((t.unit (8 + g.toNat)).members ≠ [] → (t.unit (8 + g.toNat)).st = .idle ∧ (t.unit (8 + g.toNat)).queue = []) →
    exec (.stepGroup q g mask) s = .next (answer ((ks.foldl (fun s k => s.onAxis k fun a => { a with group := some g.toNat })
        ((t.unit (8 + g.toNat)).members.foldl (fun s k => s.onAxis k fun a => { a with group := none }) t)).onUnit (8 + g.toNat)
      fun x => { x with members := ks, st := .idle, queue := [], cur := none, joint := none, prog := 0, remain := [] }) w sOK []))
  ∧ (∀ q s w t g, Runs 0x0B07 2 q s w t → g.toNat ≤ 3 → (t.unit (8 + g.toNat)).members ≠ [] → (t.unit (8 + g.toNat)).st = .idle →
    exec (.stepGroup q g 0) s = .next (answer (((t.unit (8 + g.toNat)).members.foldl
      (fun s k => s.onAxis k fun a => { a with group := none }) t).onUnit (8 + g.toNat) fun x => { x with
        members := [], st := .disabled, queue := [], cur := none, joint := none, prog := 0, remain := [] }) w sOK []))
  ∧ (∀ q s w t k v, Runs 0x0B08 1 q s w t → k.toNat ≤ 7 →
    (∀ x ∈ (t.axis k.toNat).sw, x.unstable = true → ∀ e, x.edgeAt = some e → e + t.pv 0x0B27 (k.toNat + 8) * msU ≤ t.time) →
    (t.onAxis k.toNat fun a => { a with sw := a.sw.map fun x => { x with unstable := false } }) = v →
    exec (.stepSwReset q k) s = .next (answer
      (if (List.range 8).any fun j => (v.axis j).sw.any (·.unstable) then v else clearCond v 0x122) w sOK []))
  ∧ (∀ q s w t uf n v, Runs 0x0B09 1 q s w t → unitField uf = some n → (t.unit n).members ≠ [] →
    (if n < 8 then unitOf t n else n) = v →
    exec (.stepStatus q uf) s = .next (answer t w sOK
      ([BitVec.ofNat 8 (axisCode (t.unit v).st), bitB ((t.unit n).members.all fun k => (t.axis k).homed)]
        ++ ((t.unit n).members.map fun k => leI 6 (axisPos (t.axis k)) ++ leI 6 (axisRemain t k)).flatten
        ++ [BitVec.ofNat 8 (t.unit v).queue.length])))

/-- The steppers' events (10 R226 to R228, R235, R236, Table STEP-3). Choices of the model: log entries 14, 65. -/
def Obligations.StepperEventsComplete : Prop :=
  (∀ dt s u (k : Fin 8) v, s.pass dt = u → u.motionOn = true → unitState u (unitOf u k) ≠ .disabled →
    exec (.stepperPwmPeriod dt k v) s = .next (pwmStep u k v))
  ∧ (∀ dt s u (k : Fin 8) t0, s.pass dt = u → u.motionOn = true → (u.axis k).satAt = some t0 → t0 + u.pv 0x0B15 k * msU ≤ u.time →
    exec (.voltageSaturation dt k) s = .next (raise (u.onAxis k fun a => { a with satAt := some u.time }) 0x123 k false))
  ∧ (∀ dt s u, s.pass dt = u → u.motionOn = true →
    exec (.profileEvaluation dt) s = .next ((List.range 12).foldl unitEval { u with stepAt := u.time }))
  ∧ (∀ dt s u v (k : Fin 8), s.pass dt = u → u.motionOn = true → u.onAxis k (fun a => { a with nflt := true }) = v →
    exec (.stepDriverFault dt ⟨k, false⟩) s = .next (raise (unitDisable v (unitOf v k)) 0x124 k true))
  ∧ (∀ dt s u v (k : Fin 8), s.pass dt = u → u.motionOn = true → (u.axis k).nflt = true →
    u.onAxis k (fun a => { a with nflt := false }) = v →
    exec (.stepDriverFault dt ⟨k, true⟩) s =
      .next (if (List.range 8).any fun j => (v.axis j).nflt then v else clearCond v 0x124))
  ∧ (∀ dt s u (k : Fin 8) l, s.pass dt = u → u.motionOn = true → exec (.switchSample dt k l) s = .next (swSample u k l))
  ∧ (∀ dt s u (k : Fin 8) (i : Fin 3) t0, s.pass dt = u → u.motionOn = true →
    ((u.axis k).sw.getD i {}).qual ≠ ((u.axis k).sw.getD i {}).level → ((u.axis k).sw.getD i {}).edgeAt = some t0 →
    t0 + u.pv 0x0B26 k * 100 * usU ≤ u.time → exec (.switchQualified dt k i) s = .next (swQualify u k i))

/-! ### Housekeeping, heaters and thermal bands -/

/-- The housekeeping and heater requests, where they are taken (11 R253, Tables HKP-5, HKP-7). Choices of the model:
log entry 66. -/
def Obligations.HousekeepingRequestsComplete : Prop :=
  (∀ q s w t first n, Runs 0x0C01 2 q s w t → n ≠ 0 → first.toNat + n.toNat ≤ 128 →
    4 + 16 * n.toNat ≤ (payloadLimit w.mb).2 →
    exec (.hkRead q first n) s = .next (answer t w sOK (le 4 t.house.rounds.toNat
      ++ ((List.range n.toNat).map fun i => hkEntry (t.hk (first.toNat + i))).flatten)))
  ∧ (∀ q s w t first n, Runs 0x0C01 2 q s w t → n ≠ 0 → first.toNat + n.toNat ≤ 128 →
    (payloadLimit w.mb).2 < 4 + 16 * n.toNat → exec (.hkRead q first n) s = .next (answer t w sRange []))
  ∧ (∀ q s w t k v, Runs 0x0C02 1 q s w t → k.toNat ≤ 31 → (t.heater k.toNat).cut = true →
    t.pv 0x0C36 k.toNat = 255 ∨ ((t.hk (t.pv 0x0C36 k.toNat)).flags &&& fValid ≠ 0
      ∧ (t.hk (t.pv 0x0C36 k.toNat)).value < t.pvI 32 0x0C37 k.toNat - t.pv 0x0C38 k.toNat) →
    (t.onHeater k.toNat fun h => { h with cut := false }) = v →
    exec (.htrOtReset q k) s = .next (answer
      (if (List.range 32).any fun j => (v.heater j).cut then v else clearCond v 0x104) w sOK []))

/-- The housekeeping, mains, heater and thermal events (11 R243, R250 to R252; 12 R264, R265). Choices of the model:
log entries 14, 66. -/
def Obligations.HousekeepingEventsComplete : Prop :=
  (∀ dt s u, s.pass dt = u → u.mainOn = true → u.house.roundAt = 0 ∨ u.house.roundAt + u.house.roundMs * msU ≤ u.time →
    exec (.roundStart dt) s = .next { u with house := { u.house with
      roundAt := u.time, roundMs := u.pv 0x0C10 0
      cio := AMap.keep u.params fun k => decide (0x0C20 * 256 ≤ k) && decide (k < 0x0C28 * 256) } })
  ∧ (∀ dt s u x, s.pass dt = u → u.mainOn = true → exec (.roundPublish dt x) s = .next (publishRound u x))
  ∧ (∀ dt s u (l : Fin 2) p, s.pass dt = u → u.mainOn = true → (u.line l).lost = false →
    exec (.mainsZeroCross dt l p) s = .next ((List.range 32).foldl (crossHeater l p) (u.onLine l fun m => { m with
      lastZc := some u.time, half := (m.lastZc.map fun t => u.time - t).getD 0
      halves := if (u.line l).lastZc.isSome then m.halves + 1 else 0
      dur := if (u.line l).lastZc.isSome then m.dur + (((u.line l).lastZc.map fun t => u.time - t).getD 0) else 0
      lost := false, good := 0 })))
  ∧ (∀ dt s u (l : Fin 2) p t0, s.pass dt = u → u.mainOn = true → (u.line l).lost = true → (u.line l).lastZc = some t0 →
    halfGood (u.time - t0) = true → 3 ≤ (u.line l).good →
    exec (.mainsZeroCross dt l p) s = .next ((List.range 32).foldl (crossHeater l p) (clearCond (u.onLine l fun m => { m with
      lastZc := some u.time, half := u.time - t0, halves := 0, dur := 0, lost := false, good := 0 }) (0x105 + l))))
  ∧ (∀ dt s u (l : Fin 2) p t0, s.pass dt = u → u.mainOn = true → (u.line l).lost = true → (u.line l).lastZc = some t0 →
    halfGood (u.time - t0) = true → (u.line l).good < 3 →
    exec (.mainsZeroCross dt l p) s = .next ((List.range 32).foldl (crossHeater l p) (u.onLine l fun m => { m with
      lastZc := some u.time, half := u.time - t0, halves := 0, dur := 0, lost := m.lost, good := (u.line l).good + 1 })))
  ∧ (∀ dt s u (l : Fin 2) p t0, s.pass dt = u → u.mainOn = true → (u.line l).lost = true → (u.line l).lastZc = some t0 →
    halfGood (u.time - t0) = false →
    exec (.mainsZeroCross dt l p) s = .next ((List.range 32).foldl (crossHeater l p) (u.onLine l fun m => { m with
      lastZc := some u.time, half := u.time - t0, halves := 0, dur := 0, lost := m.lost, good := 0 })))
  ∧ (∀ dt s u (l : Fin 2) t0, s.pass dt = u → u.mainOn = true → (u.line l).lost = false → (u.line l).lastZc = some t0 →
    t0 + lossTime (u.line l) < u.time → exec (.mainsLost dt l) s = .next (loseLine u l))
  ∧ (∀ dt s u (k : Fin 32), s.pass dt = u → u.readyOn = true →
    (u.heater k).mode = 2 ∨ ((u.heater k).mode = 0 ∧ u.pv 0x0C30 k = 2) →
    exec (.heaterPwmPeriod dt k) s = .next (pwmPeriod u k))
  ∧ (∀ dt s u v, s.pass dt = u → u.mainOn = true →
    raise { u with therm := { u.therm with tripped := true, div2 := true } } 0x134 0 true = v → v.bist.running = false →
    exec (.analogueTrip dt) s = .next v)
  ∧ (∀ dt s u v, s.pass dt = u → u.mainOn = true →
    raise { u with therm := { u.therm with tripped := true, div2 := true } } 0x134 0 true = v → v.bist.running = true →
    exec (.analogueTrip dt) s = .next (interruptTest v))
  ∧ (∀ dt s u, s.pass dt = u → u.mainOn = true → u.keep.running = true →
    exec (.wearSave dt) s = .next (markDirty { u with therm := { u.therm with
      saved := (u.therm.bandTime.map fun t => satN 32 (t / secU), tjMean u.therm) } }))

/-! ### Power -/

/-- The power requests, where they are taken (13 R275, R278, R286, Table PWR-8; 18 R389). Choices of the model: log
entry 67. -/
def Obligations.PowerRequestsComplete : Prop :=
  (∀ q s w t x, Runs 0x0101 1 q s w t → targetStatus t x.toNat = 0 →
    exec (.pwrState q x) s = .next (applyTarget t x.toNat (some w)))
  ∧ (∀ q s w t k, Runs 0x0102 2 q s w t → 6 ≤ k.toNat → k.toNat ≤ 31 → t.pv 0x0112 k.toNat = 0 → driveSlot k.toNat = true →
    t.flt.c4.isSome = true → exec (.pwrRail q k 1) s = .next (answer t w sDenied []))
  ∧ (∀ q s w t k, Runs 0x0102 2 q s w t → 6 ≤ k.toNat → k.toNat ≤ 31 → t.pv 0x0112 k.toNat = 0 →
    driveSlot k.toNat = false ∨ t.flt.c4 = none →
    exec (.pwrRail q k 1) s = .next (answer (settlePower (startSlots t [k.toNat])) w sOK []))
  ∧ (∀ q s w t k, Runs 0x0102 2 q s w t → 6 ≤ k.toNat → k.toNat ≤ 31 → t.pv 0x0112 k.toNat = 0 →
    exec (.pwrRail q k 0) s = .next (answer (settlePower (releaseSlots t [k.toNat])) w sOK []))
  ∧ (∀ q s w t k p, Runs 0x0103 3 q s w t → k.toNat ≤ 31 → marginRange t k.toNat 0 p.toNat = true → (t.rail k.toNat).st = .good →
    (8 ≤ k.toNat → k.toNat < 28 → t.layer.st = .idle) → t.pv 0x011A k.toNat ≠ 0 → (t.rail k.toNat).w = none →
    exec (.pwrMargin q k 0 p) s = .next (answer (marginNominal t k.toNat) w sOK []))
  ∧ (∀ q s w t k d p, Runs 0x0103 3 q s w t → k.toNat ≤ 31 → 1 ≤ d.toNat → marginRange t k.toNat d.toNat p.toNat = true →
    (t.rail k.toNat).st = .good → (8 ≤ k.toNat → k.toNat < 28 → t.layer.st = .idle) → t.pv 0x011A k.toNat = 1 →
    (t.rail k.toNat).w = none → (t.rail k.toNat).voutMode.toNat < 32 →
    exec (.pwrMargin q k d p) s = .next (answer (marginPmbus (t.onRail k.toNat fun r => { r with
        margin := some (divHalfUp (marginTarget t k.toNat d.toNat p.toNat) 1000, d.toNat == 1) }) k.toNat d.toNat
      (marginCode (marginTarget t k.toNat d.toNat p.toNat) (t.rail k.toNat).voutMode)) w sOK []))
  ∧ (∀ q s w t k d p, Runs 0x0103 3 q s w t → k.toNat ≤ 31 → 1 ≤ d.toNat → marginRange t k.toNat d.toNat p.toNat = true →
    (t.rail k.toNat).st = .good → (8 ≤ k.toNat → k.toNat < 28 → t.layer.st = .idle) → 2 ≤ t.pv 0x011A k.toNat →
    (t.rail k.toNat).w = none →
    exec (.pwrMargin q k d p) s = .next (t.onRail k.toNat fun r => { r with
      margin := some (divHalfUp (marginTarget t k.toNat d.toNat p.toNat) 1000, d.toNat == 1), w := some w }))
  ∧ (∀ q s w t k, Runs 0x0104 1 q s w t → k.toNat ≤ 31 →
    exec (.pwrRailStatus q k) s = .next (answer t w sOK (le 1 (railCode (t.rail k.toNat).st) ++ le 2 (t.rail k.toNat).mv.toNat
      ++ le 1 ((t.rail k.toNat).attempts - 1) ++ le 2 (t.rail k.toNat).vout.toNat ++ le 2 (t.rail k.toNat).iout.toNat)))

/-- The rails' events (13 R270 to R274, Tables PWR-2, PWR-4). Choices of the model: log entries 14, 67. -/
def Obligations.RailEventsComplete : Prop :=
  (∀ dt s u (k : Fin 32), s.pass dt = u → (u.rail k).st = .wait → u.depsGood k = true → latchedOff u k = false →
    exec (.railDelayElapsed dt k) s = .next (enableSlot u k))
  ∧ (∀ dt s u (k : Fin 32) mv vm, s.pass dt = u → (u.rail k).st = .ramp →
    exec (.railGood dt k mv vm) s = .next (settlePower (pmbusRead (u.onRail k fun r => { r with
      st := .good, mv := mv, voutMode := vm, noAck := 0 }) k [0x20])))
  ∧ (∀ dt s u (k : Fin 32), s.pass dt = u → (u.rail k).st = .ramp → (u.rail k).attempts < 3 →
    exec (.railPgTimeout dt k) s = .next (u.onRail k fun r => { r with st := .retry }))
  ∧ (∀ dt s u (k : Fin 32), s.pass dt = u → (u.rail k).st = .ramp → 3 ≤ (u.rail k).attempts →
    exec (.railPgTimeout dt k) s = .next (railFailed u k))
  ∧ (∀ dt s u (k : Fin 32) mv, s.pass dt = u → (u.rail k).st = .retry →
    exec (.railDecayed dt k mv) s = .next (enableSlot (u.onRail k fun r => { r with mv := mv }) k))
  ∧ (∀ dt s u (k : Fin 32) mv, s.pass dt = u → (u.rail k).st = .decay →
    exec (.railDecayed dt k mv) s = .next (railOff (u.onRail k fun r => { r with mv := mv }) k))
  ∧ (∀ dt s u (k : Fin 32), s.pass dt = u → (u.rail k).st = .retry → exec (.railDecayTimeout dt k) s = .next (enableSlot u k))
  ∧ (∀ dt s u (k : Fin 32), s.pass dt = u → (u.rail k).st = .decay →
    exec (.railDecayTimeout dt k) s = .next (raise (railOff u k) 0x005 (railData u k) false))
  ∧ (∀ dt s u (k : Fin 32) mv, s.pass dt = u → u.mainOn = true ∨ u.flt.initLow = true → (u.rail k).st = .good →
    u.bist.running = false ∨ 4 ≤ k.val →
    exec (.railLost dt k mv) s = .next (raise (dropLost u k mv) (lostSource u k) (railData u k) false))
  ∧ (∀ dt s u (k : Fin 32) mv, s.pass dt = u → u.mainOn = true ∨ u.flt.initLow = true → (u.rail k).st = .good →
    u.bist.running = true → k.val < 4 →
    exec (.railLost dt k mv) s = .next (interruptTest (raise (dropLost u k mv) (lostSource u k) (railData u k) false)))
  ∧ (∀ dt s u (k : Fin 32) mv, s.pass dt = u → u.mainOn = true → 8 ≤ k.val → k.val < 28 → (u.rail k).st = .good →
    exec (.railOvervoltage dt k mv) s =
      .next (raise (raise (dropLost u k mv) (lostSource u k) (railData u k) false) 0x004 (railData u k) false))
  ∧ (∀ dt s u (k : Fin 32) x v i, s.pass dt = u → u.mainOn = true → u.pv 0x011B k ≠ 0 → pmbusFault v i = true →
    exec (.pmbusAlert dt k (some (x, v, i))) s = .next (raise (pmbusRead ((pmbusRead u k [0x79, 0x7A, 0x7B]).onRail k
      fun r => { r with noAck := 0 }) k [0x03]) 0x007 (railData u k) false))
  ∧ (∀ dt s u (k : Fin 32) x v i, s.pass dt = u → u.mainOn = true → u.pv 0x011B k ≠ 0 → pmbusFault v i = false →
    exec (.pmbusAlert dt k (some (x, v, i))) s =
      .next ((pmbusRead u k [0x79, 0x7A, 0x7B]).onRail k fun r => { r with noAck := 0 }))
  ∧ (∀ dt s u (k : Fin 32) v i x, s.pass dt = u → u.mainOn = true → u.pv 0x011B k ≠ 0 →
    exec (.pmbusPoll dt k (some (v, i, x))) s = .next ((pmbusRead u k [0x8B, 0x8C, 0x8D]).onRail k
      fun r => { r with vout := v, iout := i, temp := x, noAck := 0 }))
  ∧ (∀ dt s u (k : Fin 32), s.pass dt = u → u.mainOn = true → u.pv 0x011B k ≠ 0 → k.val < u.pwr.rails.length →
    (u.rail k).noAck = 0 → exec (.pmbusPoll dt k none) s =
      .next (raise ((pmbusRead u k [0x8B, 0x8C, 0x8D]).onRail k fun r => { r with noAck := 0 }) 0x006 (railData u k) false))
  ∧ (∀ dt s u (k : Fin 32), s.pass dt = u → u.mainOn = true → u.pv 0x011B k ≠ 0 → k.val < u.pwr.rails.length →
    (u.rail k).noAck = 0 →
    exec (.pmbusAlert dt k none) s = .next (raise ((pmbusRead u k [0x79, 0x7A, 0x7B]).onRail k fun r => { r with noAck := 0 })
      0x006 (railData u k) false))
  ∧ (∀ dt s u (k : Fin 32) w x, s.pass dt = u → u.mainOn = true → (u.rail k).w = some w →
    exec (.marginTrimDone dt k true x) s = .next (answer (u.onRail k fun r => { r with w := none, trim := x }) w 0 []))
  ∧ (∀ dt s u (k : Fin 32) w x, s.pass dt = u → u.mainOn = true → (u.rail k).w = some w →
    exec (.marginTrimDone dt k false x) s = .next (endMargin u k))

/-- Porter's supply, phantom power and wake (01 R26; 13 R276, R277; 18 R376). Choices of the model: log entries 14,
67. -/
def Obligations.SupplyEventsComplete : Prop :=
  (∀ dt s u, s.pass dt = u → u.pwr.vstby = true → u.pwr.phantom = true →
    exec (.vstbyLost dt) s = .next (raise { u with pwr := { u.pwr with vstby := false, foldback := false } } 0x008 0 true))
  ∧ (∀ dt s u, s.pass dt = u → u.pwr.phantom = true → u.pwr.vstby = true →
    exec (.phantomLost dt) s = .next (raise { u with pwr := { u.pwr with phantom := false } } 0x009 0 true))
  ∧ (∀ dt s u v, s.pass dt = u → u.pwr.vstby = true → u.pwr.phantom = false →
    raise { u with pwr := { u.pwr with vstby := false, foldback := false } } 0x008 0 true = v →
    exec (.vstbyLost dt) s = .next (unpowered v))
  ∧ (∀ dt s u v, s.pass dt = u → u.pwr.phantom = true → u.pwr.vstby = false →
    raise { u with pwr := { u.pwr with phantom := false } } 0x009 0 true = v →
    exec (.phantomLost dt) s = .next (unpowered v))
  ∧ (∀ dt s u, s.pass dt = u → u.pwr.vstby = false →
    exec (.vstbyReturn dt) s = .next (clearCond (porterOn { u with pwr := { u.pwr with vstby := true } }) 0x008))
  ∧ (∀ dt s u, s.pass dt = u → u.pwr.phantom = false →
    exec (.phantomReturn dt) s = .next (clearCond (porterOn { u with pwr := { u.pwr with phantom := true } }) 0x009))
  ∧ (∀ dt s u, s.pass dt = u → u.pwr.vstby = true → u.pwr.foldback = false →
    exec (.phantomOvercurrent dt) s = .next (raise { u with pwr := { u.pwr with foldback := true } } 0x018 1 false))
  ∧ (∀ dt s u, s.pass dt = u → u.pwr.foldback = true →
    exec (.phantomFoldbackEnd dt) s = .next { u with pwr := { u.pwr with foldback := false } })
  ∧ (∀ dt s u c, s.pass dt = u → wakeHolds u c = true → u.bist.running = false → u.power = .porter → waking u = false →
    exec (.wakeEvent dt c) s = .next (startWake (repeatPattern u c)))
  ∧ (∀ dt s u c, s.pass dt = u → wakeHolds u c = true → u.bist.running = false → u.mainOn = true →
    exec (.wakeEvent dt c) s = .next (repeatPattern u c))
  ∧ (∀ dt s u c, s.pass dt = u → wakeHolds u c = true → u.power ≠ .off → u.bist.running = true →
    exec (.wakeEvent dt c) s = .next { u with bist := { u.bist with wakeWaits := true, wakeHeld := true } })

/-! ### Stageline -/

/-- The master's requests, where they are taken (13 R281 to R283, Table PWR-8). Choices of the model: log entry 68. -/
def Obligations.StagelineRequestsComplete : Prop :=
  (∀ q s w t f, Runs 0x0105 1 q s w t → f.toNat ≤ 1 → t.stage.master = false → t.stage.claim = none →
    exec (.pwrStageClaim q f) s = .next (startClaim t (f == 1) (some w)))
  ∧ (∀ q s w t f, Runs 0x0105 1 q s w t → f.toNat ≤ 1 → t.stage.master = true →
    exec (.pwrStageClaim q f) s = .next (answer t w sOK []))
  ∧ (∀ q s w t, Runs 0x0106 0 q s w t → t.stage.master = true →
    exec (.pwrStageRelease q) s = .next (answer (yieldToken t) w sOK []))
  ∧ (∀ q s w t, Runs 0x0107 0 q s w t → t.stage.master = true → t.stage.discover = none →
    (t.stagePort 0).up = true ∨ (t.stagePort 1).up = true →
    exec (.pwrStageDiscover q) s = .next (turnedStep ((ask t 0x3FF 1 []).onStage fun g => { g with
      discover := some w, turned := [0, 1].map fun p => if (t.stagePort p).up then none else some 0 })))
  ∧ (∀ q s w t, Runs 0x0107 0 q s w t → t.stage.master = true → t.stage.discover = none →
    (t.stagePort 0).up = false → (t.stagePort 1).up = false →
    exec (.pwrStageDiscover q) s = .next (turnedStep ((sendBoth t 0x3FF 1 0 []).onStage fun g => { g with
      discover := some w, turned := [some 0, some 0] })))
  ∧ (∀ q s w t a first last at_ us p, Runs 0x0108 15 q s w t → t.stage.master = true → 1 ≤ a.toNat → a.toNat ≤ 2 →
    first.toNat ≤ last.toNat → last.toNat ≤ 511 →
    le 1 a.toNat ++ le 2 first.toNat ++ le 2 last.toNat ++ le 8 at_.toNat ++ le 2 us.toNat = p →
    exec (.pwrStageSeq q a first last at_ us) s =
      .next (answer (hearSeq (sendBoth (t.send (.stageMarker true true 2)) 0x3FF 6 0 p) p) w sOK []))
  ∧ (∀ q s w t first last at_ us p, Runs 0x0108 15 q s w t → t.stage.master = true →
    first.toNat ≤ last.toNat → last.toNat ≤ 511 →
    le 1 3 ++ le 2 first.toNat ++ le 2 last.toNat ++ le 8 at_.toNat ++ le 2 us.toNat = p →
    exec (.pwrStageSeq q 3 first last at_ us) s = .next (answer (hearSeq (sendBoth t 0x3FF 6 0 p) p) w sOK []))
  ∧ (∀ q s w t at_, Runs 0x0109 8 q s w t → t.stage.master = true → t.now64 ≤ at_.toNat →
    exec (.pwrStageStart q at_) s = .next (answer ((sendBoth t 0x3FF 8 0 (le 8 at_.toNat)).onStage fun g => { g with
      startAt := some (ofTime64 (fieldAt (le 8 at_.toNat) 0 8)) }) w sOK []))

/-- The Stageline's events (13 R279 to R283, Table PWR-6; 14 R300). Choices of the model: log entries 14, 68. -/
def Obligations.StagelineEventsComplete : Prop :=
  (∀ dt s u (p : Fin 2) f, s.pass dt = u → u.power = .porter → u.bist.running = false →
    exec (.stagelineFrameRx dt p f) s = .next (porterRx u p f))
  ∧ (∀ dt s u (p : Fin 2) f, s.pass dt = u → u.power ≠ .porter → u.power ≠ .off → u.bist.running = false →
    exec (.stagelineFrameRx dt p f) s = .next (stageRx u p f))
  ∧ (∀ dt s u (p : Fin 2), s.pass dt = u → u.stageOn = true → exec (.neighbourSend dt p) s = .next (sendNeighbour u p false))
  ∧ (∀ dt s u, s.pass dt = u → u.stageOn = true → u.stage.node = none → u.pv 0x0140 0 = 1 →
    exec (.nodeZeroTimeout dt) s = .next (u.onStage fun g => { g with
      node := some (u.pv 0x0141 0), autoClaim := decide (u.pv 0x0141 0 = 0) && u.pv 0x0142 0 == 1 }))
  ∧ (∀ dt s u, s.pass dt = u → u.stageOn = true → u.stage.node = none → u.pv 0x0140 0 ≠ 1 → (u.stagePort 0).partner = none →
    exec (.nodeZeroTimeout dt) s = .next (u.onStage fun g => { g with node := some 0, autoClaim := u.pv 0x0142 0 == 1 }))
  ∧ (∀ dt s u, s.pass dt = u → u.stageOn = true → u.stage.master = true → u.stage.yielding = false →
    exec (.sweepSend dt) s = .next (sendBoth u 0x3FF 0 0 (List.replicate 64 0)))
  ∧ (∀ dt s u r rest, s.pass dt = u → u.stageOn = true → u.stage.master = true → u.stage.reqs = r :: rest → r.attempt < 2 →
    exec (.stageRequestTimeout dt) s = .next ((sendBoth u r.frame.dst.toNat r.frame.type.toNat (2 * (r.attempt + 1))
      r.frame.payload).onStage fun g => { g with reqs := rest ++ [{ r with attempt := r.attempt + 1 }] }))
  ∧ (∀ dt s u r rest, s.pass dt = u → u.stageOn = true → u.stage.master = true → u.stage.reqs = r :: rest → r.attempt = 2 →
    exec (.stageRequestTimeout dt) s = .next (raise ((sendBoth u r.frame.dst.toNat r.frame.type.toNat 6 r.frame.payload).onStage
      fun g => { g with reqs := rest ++ [{ r with attempt := 3 }], reserveUses := g.reserveUses + 1 }) 0x016 r.frame.dst.toNat false))
  ∧ (∀ dt s u v r rest, s.pass dt = u → u.stageOn = true → u.stage.master = true → u.stage.reqs = r :: rest → 3 ≤ r.attempt →
    r.frame.type = 1 →
    endDiscover (raise (u.onStage fun g => { g with reqs := rest }) 0x017 r.frame.dst.toNat false) sNotPresent = v →
    v.stage.yielding = false → exec (.stageRequestTimeout dt) s = .next v)
  ∧ (∀ dt s u v r rest, s.pass dt = u → u.stageOn = true → u.stage.master = true → u.stage.reqs = r :: rest → 3 ≤ r.attempt →
    r.frame.type = 3 → raise (u.onStage fun g => { g with reqs := rest }) 0x017 r.frame.dst.toNat false = v →
    v.stage.yielding = true → v.stage.reqs = [] → exec (.stageRequestTimeout dt) s = .next (yieldToken v))
  ∧ (∀ dt s u v r rest, s.pass dt = u → u.stageOn = true → u.stage.master = true → u.stage.reqs = r :: rest → 3 ≤ r.attempt →
    r.frame.type = 2 →
    identStep (raise (u.onStage fun g => { g with reqs := rest }) 0x017 r.frame.dst.toNat false) = v →
    v.stage.yielding = false → exec (.stageRequestTimeout dt) s = .next v)
  ∧ (∀ dt s u v r rest, s.pass dt = u → u.stageOn = true → u.stage.master = true → u.stage.reqs = r :: rest → 3 ≤ r.attempt →
    r.frame.type = 3 → raise (u.onStage fun g => { g with reqs := rest }) 0x017 r.frame.dst.toNat false = v →
    v.stage.yielding = false → exec (.stageRequestTimeout dt) s = .next v)
  ∧ (∀ dt s u, s.pass dt = u → u.stageOn = true → u.stage.claim.isSome = true →
    exec (.claimWindowEnd dt) s = .next (endClaim (endSourceLoss (u.onStage fun g => { g with master := true })) 0))
  ∧ (∀ dt s u f w n, s.pass dt = u → u.stageOn = true → u.stage.claim = some (f, w, n) → n < 3 →
    exec (.claimCollisionResend dt) s =
      .next ((sendBoth u 0x3FF 4 0 (claimPayload f)).onStage fun g => { g with claim := some (f, w, n + 1) }))
  ∧ (∀ dt s u, s.pass dt = u → u.stageOn = true → u.stage.master = false → u.stage.sweepAt + 3 * u.pv 0x0143 0 * msU ≤ u.time →
    ∃ v : State, v = (if (raise u 0x014 (nodeN u.stage) true).clk.srcLost then raise u 0x014 (nodeN u.stage) true
        else enterHoldover (raise u 0x014 (nodeN u.stage) true))
      ∧ exec (.masterLost dt) s = .next (v.onStage fun g => { g with autoClaim := v.pv 0x0142 0 == 1 && g.node.isSome }))
  ∧ (∀ dt s u, s.pass dt = u → u.stageOn = true → u.stage.autoClaim = true → u.stage.master = false → u.stage.claim = none →
    exec (.autoClaim dt) s = .next (startClaim u false none))
  ∧ (∀ dt s u a t0, s.pass dt = u → u.stageOn = true → u.stage.seq = some (a, t0) → t0 ≤ u.time →
    exec (.seqApply dt) s = .next (applySeq u a))
  ∧ (∀ dt s u (p : Fin 2), s.pass dt = u → u.stageOn = true → (u.stagePort p).up = true →
    exec (.stageLinkDown dt p) s = .next (raise (u.onStage fun g => { g with ports := g.ports.modify p fun _ => {} })
      (0x010 + p) p true))

/-! ### Faults -/

/-- The fault requests: one source cleared, all cleared, status, first fault, injection (15 R316, R323, Table
FLT-9). Choices of the model: log entry 43. -/
def Obligations.FaultRequestsComplete : Prop :=
  (∀ q s w t id, Runs 0x0E01 2 q s w t → id ≠ 0xFFFF → (faultSource id.toNat).isSome = true → isC4 t id.toNat = false →
    t.flt.active.getLsbD id.toNat = true → clearHeld t id.toNat = false →
    exec (.faultClear q id) s = .next (answer (rearmFirst (clearSource t id.toNat)) w sOK
      (le 2 (rearmFirst (clearSource t id.toNat)).activeCount)))
  ∧ (∀ q s w t, Runs 0x0E01 2 q s w t →
    exec (.faultClear q 0xFFFF) s = .next (answer (rearmFirst (clearAll t)) w
      (if (rearmFirst (clearAll t)).flt.active = 0 then sOK else 0x0E01) (le 2 (rearmFirst (clearAll t)).activeCount)))
  ∧ (∀ q s w t first n, Runs 0x0E02 4 q s w t → n ≠ 0 → n.toNat ≤ 64 → first.toNat + n.toNat ≤ 0x140 →
    12 * n.toNat ≤ (payloadLimit w.mb).2 → exec (.faultStatus q first n) s =
      .next (answer t w sOK ((List.range n.toNat).flatMap fun k => statusEntry t (first.toNat + k))))
  ∧ (∀ q s w t first n, Runs 0x0E02 4 q s w t → (payloadLimit w.mb).2 < 12 * n.toNat →
    exec (.faultStatus q first n) s = .next (answer t w sRange []))
  ∧ (∀ q s w t, Runs 0x0E03 0 q s w t → exec (.faultFirst q) s = .next (answer t w sOK (firstFaultBytes t.flt.first)))
  ∧ (∀ q s w t id, Runs 0x0E04 2 q s w t → (faultSource id.toNat).isSome = true → t.pv 0x0E21 0 = 1 → t.layer.st = .idle →
    id.toNat ≠ 0x134 → id.toNat ≠ 0x13F →
    exec (.faultInject q id) s = .next (answer (raiseR t { id := id.toNat, injected := true }) w sOK []))

/-- The fault events: raising, the reaction check, EMIT_INHIBIT, memory errors (15 R310 to R313, R319; 01 R29).
Choices of the model: log entries 14, 22, 43. -/
def Obligations.FaultEventsComplete : Prop :=
  (∀ dt s u (id : Fin 320) d c, s.pass dt = u →
    exec (.faultRaise dt id d c) s = .next (raise (noteSource u id.val) id.val d.toNat c))
  ∧ (∀ dt s u, s.pass dt = u → u.mainOn = true → u.flt.checks ≠ [] →
    exec (.reactionCheck dt true true) s = .next { u with flt := { u.flt with checks := u.flt.checks.drop 1 } })
  ∧ (∀ dt s u a b, s.pass dt = u → u.mainOn = true → u.flt.checks ≠ [] → (a && b) = false →
    exec (.reactionCheck dt a b) s = .next (raise { u with flt := { u.flt with checks := u.flt.checks.drop 1 } } 0x13F 0 false))
  ∧ (∀ dt s u v, s.pass dt = u → u.flt.inhibit = false →
    raise { u with flt := { u.flt with inhibit := true, inForce := true } } 0x04D 0 true = v →
    exec (.emitInhibitRise dt) s = .next (raiseLosses v (inhibitLayer v)))
  ∧ (∀ dt s u, s.pass dt = u → u.flt.inhibit = true →
    exec (.emitInhibitFall dt) s = .next (clearCond
      { u with flt := { u.flt with inhibit := false, inhibitFell := u.runningTime } } 0x04D))
  ∧ (∀ dt s u, s.pass dt = u → u.flt.inForce = true → u.flt.inhibit = false →
    u.flt.inhibitFell + u.pv 0x0E20 0 * msU ≤ u.runningTime → exec (.inhibitHoldExpiry dt) s = .next { u with flt := { u.flt with inForce := false } })
  ∧ (∀ dt s u off r, s.pass dt = u → u.mainOn = true → off.toNat < sramSize →
    exec (.sramError dt off true r) s = .next (correctedError u off.toNat))
  ∧ (∀ dt s u off r, s.pass dt = u → u.mainOn = true → off.toNat < sramSize →
    exec (.sramError dt off false r) s = .next (raiseR (regionEffect u off.toNat r)
      { id := 0x139, data := regionData off.toNat, floor := regionClass off.toNat }))
  ∧ (∀ dt s u off m, s.pass dt = u → u.mainOn = true → off.toNat < sramSize →
    exec (.regionWriteBlocked dt off m) s = .next (raise u 0x13A 0 false))
  ∧ (∀ dt s u, s.pass dt = u → exec (.scrubPass dt) s = .next u)

/-! ### Calibration -/

/-- The calibration requests, where they are taken (16 R336 to R338, R341, Table CAL-5). Choices of the model: log
entry 73. -/
def Obligations.CalibrationRequestsComplete : Prop :=
  (∀ q s w t m tiles, Runs 0x0F01 9 q s w t →
    (if m = 0 then tilesInPlace t else (List.range 72).filter fun k => m.getLsbD k) = tiles → tiles.all (tileLive t) = true →
    ∃ v : State, v = tiles.foldl makeDue t ∧ exec (.calRun q m) s = .next (answer (settleCal { v with
      cal := { v.cal with forced := v.cal.forced ||| tileBits tiles } }) w sOK []))
  ∧ (∀ q s w t, Runs 0x0F02 0 q s w t → t.cal.st = 1 →
    exec (.calCancel q) s = .next (answer (settleCal { t with cal := { t.cal with forced := 0 } }) w sOK []))
  ∧ (∀ q s w t, Runs 0x0F02 0 q s w t → t.cal.st = 2 →
    exec (.calCancel q) s = .next (answer (sleepLanes (abandonRun t 2)) w sOK []))
  ∧ (∀ q s w t, Runs 0x0F02 0 q s w t → t.cal.st = 4 → exec (.calCancel q) s = .next (answer (dropTrace t) w sOK []))
  ∧ (∀ q s w t, Runs 0x0F03 0 q s w t →
    exec (.calStatus q) s = .next (answer t w sOK (le 1 t.cal.st ++ le 9 t.cal.due.toNat ++ le 4 (t.pv 0x0F26 0))))
  ∧ (∀ q s w t n p r c b sets, Runs 0x0F04 5 q s w t → calCell t n p r c = 0 → blocksOf t (18 * n.toNat + p.toNat) = b →
    (t.tile n.toNat p.toNat).u 0x7A 1 = sets → exec (.calCellRead q n p r c) s = .next (answer t w sOK
      (le 4 (userWord t.cal (cellIndex (16 * p.toNat + r.toNat) (256 * n.toNat + c.toNat)))
        ++ le 4 (calEntry t (16 * p.toNat + r.toNat) (256 * n.toNat + c.toNat))
        ++ (List.range sets).flatMap fun k => le 4 (cellBlock b k r.toNat c.toNat))))
  ∧ (∀ q s w t n p r c cell, Runs 0x0F05 6 q s w t → calCell t n p r c = 0 → t.layer.st = .idle →
    cellIndex (16 * p.toNat + r.toNat) (256 * n.toNat + c.toNat) = cell →
    exec (.calCellSet q n p r c 0) s = .next (answer (markDirty (setUserWord t cell
        (if (userWord t.cal cell).testBit 24 then userWord t.cal cell - 16777216 else userWord t.cal cell))) w sOK [])
      ∧ exec (.calCellSet q n p r c 1) s =
        .next (answer (retireCell t (16 * p.toNat + r.toNat) (256 * n.toNat + c.toNat) 4) w sOK [])
      ∧ exec (.calCellSet q n p r c 2) s =
        .next (answer (settleCal (markDirty (unretire t (18 * n.toNat + p.toNat) cell))) w sOK []))
  ∧ (∀ q s w t n p smp, Runs 0x0F06 2 q s w t → calTile t n p = 0 → t.cal.st ≠ 2 → t.cal.st ≠ 3 → burstOk t = true → measurable (t.chain n.toNat) = true →
    ∃ v : State, v = sleepLanes ((List.range ((wakeLanes t).pv 0x0F1D 0)).foldl (fun a m => sendMarks
        (sendTiles a [18 * n.toNat + p.toNat] fun k => fireFrames a k m (a.pv 0x0F15 1) fun _ _ => true)
        [18 * n.toNat + p.toNat] m) (wakeLanes t))
      ∧ exec (.calPdTrace q n p smp) s = .next (answer { v with cal := { v.cal with
          st := 4, trace := some (18 * n.toNat + p.toNat, traceEnergy t n.toNat p.toNat smp, v.time) } } w sOK
        (le 8 (traceEnergy t n.toNat p.toNat smp))))
  ∧ (∀ q s w t nj tile e t0 g, Runs 0x0F07 4 q s w t → traceOld t = false → t.cal.trace = some (tile, e, t0) →
    tracedPd (t.pv 0x0F24 tile) nj.toNat e = g → 0x2000 ≤ g → g ≤ 0x8000 →
    exec (.calPdEnter q nj) s = .next (answer (dropTrace (markDirty (makeDue (gbRecord (t.pput 0x0F24 tile g.toNat) 0x0F 5
      (tile / 18 + 256 * (tile % 18) + 65536 * g.toNat)) tile))) w sOK (le 2 g.toNat)))
  ∧ (∀ q s w t, Runs 0x0F08 0 q s w t → t.cal.hkTrace = none →
    exec (.calHkTrace q) s = .next { t with cal := { t.cal with hkTrace := some (w, 0, [0, 0, 0, 0, 0]) } })
  ∧ (∀ q s w t n p, Runs 0x0F09 2 q s w t → calTile t n p = 0 →
    exec (.calUserReset q n p) s = .next (answer (settleCal (markDirty (resetTile t (18 * n.toNat + p.toNat)))) w sOK []))
  ∧ (∀ q s w t, Runs 0x0F09 2 q s w t →
    exec (.calUserReset q 0xFF 0xFF) s = .next (answer (settleCal (markDirty ((tilesInPlace t).foldl resetTile t))) w sOK []))

/-- The calibration events (16 R327 to R338). Choices of the model: log entries 14, 73. -/
def Obligations.CalibrationEventsComplete : Prop :=
  (∀ dt s u (n : Fin 4) (p : Fin 18) tile k, s.pass dt = u → 18 * n.val + p.val = tile → u.mainOn = true → u.keep.running = true →
    wantsSet u tile = true → pickSet (blocksOf u tile) (tileTemp u tile).value = k →
    exec (.bracketLoad dt n p) s =
      .next (writeSets { u with cal := { u.cal with bracket := u.cal.bracket.set tile (some k) } } tile k))
  ∧ (∀ dt s u, s.pass dt = u → u.readyOn = true → u.keep.running = true → ∃ v : State,
    v = requestSwap (rebuildTable (restoreSets (retireReported u)))
      ∧ exec (.liveTableRebuild dt) s = .next (settleCal ((tilesInPlace v).foldl judgeDrift v)))
  ∧ (∀ dt s u, s.pass dt = u → u.keep.running = true → u.cal.st = 1 → runWanted u = true → burstOk u = true →
    ∃ v : State, v = wakeLanes u ∧ exec (.calibrationBurstStart dt) s = .next { v with cal := { v.cal with
      st := 2, run := some { tiles := tileBits (dueTiles u), fromDoze := u.power == .doze } } })
  ∧ (∀ dt s u smp r, s.pass dt = u → u.therm.tripped = false → u.cal.st = 2 → u.layer.emitEnable = true →
    u.cal.run = some r → r.period < 35 →
    ∃ v : State, v = sendPeriod u r
      ∧ exec (.calibrationPeriod dt smp) s = .next { v with cal := { v.cal with run := some { r with
          period := r.period + 1
          samples := smp.foldl (fun m x => AMap.put m (runKey r.period x.1.val x.2.1.val x.2.2.1.val) x.2.2.2.toNat) r.samples } } })
  ∧ (∀ dt s u smp r, s.pass dt = u → u.therm.tripped = false → u.cal.st = 2 → u.layer.emitEnable = true →
    u.cal.run = some r → 35 ≤ r.period →
    ∃ v : State, v = sendPeriod u r
      ∧ exec (.calibrationPeriod dt smp) s = .next (sleepLanes { v with cal := { v.cal with st := 3, run := some { r with
          period := r.period + 1
          samples := smp.foldl (fun m x => AMap.put m (runKey r.period x.1.val x.2.1.val x.2.2.1.val) x.2.2.2.toNat) r.samples } } }))
  ∧ (∀ dt s u, s.pass dt = u → u.cal.st = 2 →
    exec (.calibrationRunEnd dt .enableRemoved) s = .next (sleepLanes (abandonRun u 3))
      ∧ exec (.calibrationRunEnd dt .carriageMoved) s = .next (sleepLanes (abandonRun u 4)))
  ∧ (∀ dt s u r a, s.pass dt = u → u.mainOn = true → u.keep.running = true → u.cal.st = 3 → u.cal.run = some r →
    ((List.range 72).filter fun k => r.tiles.getLsbD k).foldl (applyTile r) (u, {}) = a →
    exec (.calibrationRunApply dt) s = .next (settleCal (markDirty (gbRecord
      (({ a.1 with cal := { a.1.cal with st := 0, run := none } }).count 0x0F26 0 1) 0x0F 1
      (((List.range 72).filter fun k => r.tiles.getLsbD k).length + 256 * (min a.2.updated 65535)
        + 16777216 * (min a.2.suspect 65535) + 1099511627776 * (min a.2.retired 65535))))))
  ∧ (∀ dt s u, s.pass dt = u → u.mainOn = true → traceOld u = true → exec (.traceEnterTimeout dt) s = .next (dropTrace u))
  ∧ (∀ dt s u w n sums gs v, s.pass dt = u → u.mainOn = true → u.keep.running = true → u.cal.hkTrace = some (w, n, sums) →
    u.pv 0x0F1C 1 ≤ n → ((List.range 5).map fun k => tracedGain u k (sums.getD k 0) n) = gs →
    { u with cal := { u.cal with hkTrace := none } } = v →
    exec (.hkTraceDone dt) s = .next (if gs.all fun g => decide (0x3EB8 ≤ g) && decide (g ≤ 0x4148)
      then answer (applyGains v (gs.map Int.toNat)) w sOK ((gs.map Int.toNat).flatMap (le 2)) else answer v w 0x0F02 []))
  ∧ (∀ dt s u (n : Fin 4) (p : Fin 18) tile, s.pass dt = u → 18 * n.val + p.val = tile → u.mainOn = true → u.keep.running = true →
    u.cal.due.getLsbD tile = true → u.cal.warned.getLsbD tile = false →
    AMap.get u.cal.dueSince tile 0 + u.pv 0x0F1D 1 * secU < u.time →
    exec (.tileOverdue dt n p) s = .next (gbRecord { u with cal := { u.cal with warned := setBit u.cal.warned tile true } } 0x0F 9
      (n.val + 256 * p.val + 65536 * wrap32 ((u.time - AMap.get u.cal.dueSince tile 0) / secU))))

/-! ### Keeper, the register window and the store -/

/-- Sessions and reports (17 R355 to R357, R360, R363, R372). Choices of the model: log entries 6, 41, 42, 61, 70. -/
def Obligations.SessionAndReportRequestsComplete : Prop :=
  (∀ q s w t, Runs 0x0001 0 q s w t → exec (.keepIdent q) s = .next (answer t w sOK (wbBlock t (wbIdentity t))))
  ∧ (∀ q s w t, Runs 0x0002 0 q s w t → exec (.keepStatus q) s = .next (answer t w sOK
    (le 1 (keepLoad t.keep) ++ [bitB t.keep.deferAt.isSome] ++ le 4 t.deferMs ++ ((t.keep.queues.take 6).flatMap fun l => le 1 l.length)
      ++ le 2 t.keep.primary.toNat)))
  ∧ (∀ q s w t f v g n, Runs 0x0006 1 q s w t → q.mb.val < 4 → (t.session q.mb.val).isSome = false ∨ f = 1 →
    endSession t q.mb.val = v → v.keep.granted = some g → nextId v 6 g = n →
    exec (.sessionOpen q f) s = .next (answer { v with keep := { v.keep with
      sessions := v.keep.sessions.set q.mb.val (some { id := BitVec.ofNat 16 n, lastRx := v.time })
      granted := some ((n + 1) % 65536) } } w sOK (le 2 n)))
  ∧ (∀ q s w t f v, Runs 0x0006 1 q s w t → q.mb.val < 4 → (t.session q.mb.val).isSome = false ∨ f = 1 →
    endSession t q.mb.val = v → v.keep.granted = none → ∃ first n, nextId v.freeTaken 6 first = n
      ∧ exec (.sessionOpen q f) s = .next (answer { v.freeTaken with keep := { v.keep with
        sessions := v.keep.sessions.set q.mb.val (some { id := BitVec.ofNat 16 n, lastRx := v.time })
        granted := some ((n + 1) % 65536) } } w sOK (le 2 n)))
  ∧ (∀ q s w t, Runs 0x0007 0 q s w t → (t.session q.mb.val).isSome = true →
    exec (.sessionClose q) s = .next (endSession (answer t w sOK []) q.mb.val))
  ∧ (∀ q s w t f x, Runs 0x0008 1 q s w t → t.session q.mb.val = some x →
    exec (.sessionClaim q f) s = .next (takeClaim t { w := w, session := x.id, force := f == 1 }))
  ∧ (∀ q s w t bytes, Runs 0x0009 0 q s w t → waybill t (t.keep.wbGen + 1).toNat = bytes →
    ∃ v : State, v = t.poke waybillAt bytes ∧ exec (.keepResync q) s = .next (answer { v with keep := { v.keep with
        wbGen := t.keep.wbGen + 1, wbPtr := BitVec.ofNat 32 waybillAt, wbLen := BitVec.ofNat 32 bytes.length } } w sOK
      (le 4 (t.keep.wbGen + 1).toNat ++ le 4 bytes.length ++ le 4 waybillAt)))
  ∧ (∀ q s w t off n, Runs 0x000A 10 q s w t → off.toNat + n.toNat ≤ t.keep.wbLen.toNat → n.toNat ≤ (payloadLimit q.mb.val).2 →
    exec (.waybillRead q t.keep.wbGen off n) s = .next (answer t w sOK (memBytes t.mem (t.keep.wbPtr.toNat + off.toNat) n.toNat)))
  ∧ (∀ q s w t from_ n start, Runs 0x000B 6 q s w t → n ≠ 0 → n.toNat ≤ 128 →
    (if serialLater (gbOldest t.gb) from_ then gbOldest t.gb else from_) = start →
    exec (.gbRead q from_ n) s = .next (answer t w sOK (le 4 start.toNat ++ gbEntries t start
      (min (min n.toNat (if serialLater t.gb.next start then (t.gb.next - start).toNat else 0)) (((payloadLimit q.mb.val).2 - 4) / 32)))))
  ∧ (∀ q s w t x, Runs 0x000C 4 q s w t → (x = t.gb.rd ∨ serialLater x t.gb.rd = true) → serialLater t.gb.next x = true →
    exec (.gbAck q x) s = .next (answer { t with gb := { t.gb with rd := x } } w sOK []))
  ∧ (∀ q s w t x, Runs 0x000C 4 q s w t → serialLater t.gb.next x = false →
    exec (.gbAck q x) s = .next (answer t w sRange []))

/-- Parameters: a read gives the stored values, a write that passes its checks is applied and, if kept, dates the
store (17 R358, R366). Choices of the model: log entry 71. -/
def Obligations.ParameterRequestsComplete : Prop :=
  (∀ q s w t idx sub n rs wd, Runs 0x0003 4 q s w t → n ≠ 0 → n.toNat ≤ 16 → rowsFrom idx.toNat sub.toNat n.toNat = some rs →
    (rs.map fun r => valueBytes r.1.bits).foldl max 1 = wd →
    (le 1 wd ++ rs.flatMap fun r => valueIn t wd r.1 r.2).length ≤ (payloadLimit q.mb.val).2 →
    exec (.paramRead q idx sub n) s = .next (answer t w sOK (le 1 wd ++ rs.flatMap fun r => valueIn t wd r.1 r.2)))
  ∧ (∀ q s w t e, Runs 0x0004 (4 + e.value.length) q s w t → paramCheck t (paramsAfter t.params [e]) e = 0 →
    exec (.paramWrite q e) s = .next (answer (applyParams t [e]) w sOK []))
  ∧ (∀ q s w t n es, Runs 0x0005 (1 + (es.map fun e => 4 + e.value.length).sum) q s w t → es.length = n.toNat → n ≠ 0 →
    n.toNat ≤ 32 → firstFailing t (paramsAfter t.params es) 0 es = none →
    exec (.paramWriteSet q n es) s = .next (answer (applyParams t es) w sOK [0xFF]))
  ∧ (∀ q s w t n es k st, Runs 0x0005 (1 + (es.map fun e => 4 + e.value.length).sum) q s w t → es.length = n.toNat → n ≠ 0 →
    n.toNat ≤ 32 → firstFailing t (paramsAfter t.params es) 0 es = some (k, st) →
    exec (.paramWriteSet q n es) s = .next (answer t w st (le 1 k)))

/-- The store and the firmware slots (17 R344, R366, R369, R370; 18 R380, R382). Choices of the model: log entry 42. -/
def Obligations.StoreAndFirmwareRequestsComplete : Prop :=
  (∀ q s w t fl, Runs 0x000D 0 q s w t → t.keep.deferAt = none →
    exec (.storeCommit q fl) s = .next (answer (commitStore t fl).1 w (if (commitStore t fl).2 then sOK else sStoreFail) []))
  ∧ (∀ q s w t fl t0, Runs 0x000D 0 q s w t → t.keep.deferAt = some t0 → t.keep.commitWait = none →
    exec (.storeCommit q fl) s = .next { t with keep := { t.keep with commitWait := some (t.time, some w) } })
  ∧ (∀ q s w t fl t0 t1, Runs 0x000D 0 q s w t → t.keep.deferAt = some t0 → t.keep.commitWait = some (t1, none) →
    exec (.storeCommit q fl) s = .next { t with keep := { t.keep with commitWait := some (t1, some w) } })
  ∧ (∀ q s w t, Runs 0x000E 0 q s w t → exec (.storeStatus q) s = .next (answer t w sOK (wbBlock t (wbStore t))))
  ∧ (∀ q s w t n, Runs 0x000F 4 q s w t → n.toNat ≤ 0x800000 → t.keep.fwTrial = false →
    ∃ v : State, v = t.onFw (updateSlot t) (fun _ => { length := n.toNat, data := [], verified := false })
      ∧ exec (.fwBegin q n) s = .next (answer { v with keep := { v.keep with fwBegun := true } } w sOK (le 1 (updateSlot t))))
  ∧ (∀ q s w t off bs x, Runs 0x0010 (4 + bs.length) q s w t → t.keep.fwBegun = true → t.keep.fwSlots.getD (updateSlot t) {} = x →
    off.toNat + bs.length ≤ x.length → rangeWritten x off.toNat bs.length = false →
    exec (.fwWrite q off bs) s = .next (answer (t.onFw (updateSlot t) fun x => { x with
      data := x.data ++ [(off.toNat, bs)], verified := false }) w sOK []))
  ∧ (∀ q s w t st, Runs 0x0011 0 q s w t → t.keep.fwBegun = true →
    imageStatus t (t.keep.fwSlots.getD (updateSlot t) {}) = st →
    exec (.fwVerify q) s = .next (answer (t.onFw (updateSlot t) fun x => { x with verified := decide (st = 0) }) w
      (if st = 0 then sOK else st) []))
  ∧ (∀ q s w t v, Runs 0x0012 1 q s w t → (t.keep.fwSlots.getD (updateSlot t) {}).verified = true →
    writeDir t (updateSlot t) t.keep.fwActive true = v →
    exec (.fwActivate q 0) s = .next (answer { v with keep := { v.keep with trialRuns := false, fwBegun := false } } w sOK [])
      ∧ (t.layer.st = .idle → exec (.fwActivate q 1) s = .next (keeperReset
        (answer { v with keep := { v.keep with trialRuns := false, fwBegun := false } } w sOK []) 3 0xFF)))
  ∧ (∀ q s w t v, Runs 0x0013 0 q s w t → t.keep.fwTrial = true → writeDir t t.keep.fwActive t.keep.fwPrev false = v →
    exec (.fwConfirm q) s = .next (answer { v with
      keep := { v.keep with trialRuns := false }
      bist := { v.bist with rollback := max v.bist.rollback (min 63 (slotSec v.keep v.keep.fwActive)) } } w sOK []))

/-- Keeper's events: the watchdog and restart, load, ageing, sessions and claims, the Guestbook, the store's delays
(17 R343, R344, R352, R355, R357, R363, R366). Choices of the model: log entries 14, 41, 42. -/
def Obligations.KeeperEventsComplete : Prop :=
  (∀ dt s u (c : Fin 3) v, s.pass dt = u → u.mainOn = true → u.keep.running = true → (activeCores u).contains c.val = true →
    { u with keep := { u.keep with
      trips := (u.keep.trips + 1) % 65536, tripTimes := u.keep.tripTimes.modify c.val fun l => u.time :: l } } = v →
    exec (.keeperWatchdogTrip dt c) s = .next (raise (keeperReset (askReserve v c.val) 1 c.val) 0x13B 0 false))
  ∧ (∀ dt s u cause core t0 v, s.pass dt = u → u.mainOn = true → u.keep.running = false → u.keep.cause = some (cause, core, t0) →
    { u with keep := { u.keep with running := true, cause := none, replaceNext := 0 } } = v →
    exec (.keeperRestartDone dt) s = .next (mb4Copy (deliverHeld (answerBusy (replaceCore (restartImage
      (gbWriteAt v t0 0 0 3 0 0 (cause + 256 * core)) cause) u.keep.replaceNext)))))
  ∧ (∀ dt s u x v, s.pass dt = u → u.mainOn = true → u.keep.running = true → u.keep.deferAt = none →
    { u with keep := { u.keep with loads := (min x.toNat 100 :: u.keep.loads).take 10 } } = v → keepLoad v.keep ≤ 90 →
    exec (.loadWindow dt x) s = .next v)
  ∧ (∀ dt s u x v, s.pass dt = u → u.mainOn = true → u.keep.running = true → u.keep.deferAt = none →
    { u with keep := { u.keep with loads := (min x.toNat 100 :: u.keep.loads).take 10 } } = v → 90 < keepLoad v.keep →
    exec (.loadWindow dt x) s = .next (gbRecord ({ v with keep := { v.keep with deferAt := some v.time } }.count 0x0022 0 1) 0 1
      (keepLoad v.keep)))
  ∧ (∀ dt s u x v t0, s.pass dt = u → u.mainOn = true → u.keep.running = true → u.keep.deferAt = some t0 →
    { u with keep := { u.keep with loads := (min x.toNat 100 :: u.keep.loads).take 10 } } = v → 75 ≤ keepLoad v.keep →
    exec (.loadWindow dt x) s = .next v)
  ∧ (∀ dt s u x v t0, s.pass dt = u → u.mainOn = true → u.keep.running = true → u.keep.deferAt = some t0 →
    { u with keep := { u.keep with loads := (min x.toNat 100 :: u.keep.loads).take 10 } } = v → keepLoad v.keep < 75 →
    v.keep.commitWait = none → exec (.loadWindow dt x) s = .next { v with keep := { v.keep with deferAt := none } })
  ∧ (∀ dt s u x v t0 d, s.pass dt = u → u.mainOn = true → u.keep.running = true → u.keep.deferAt = some t0 →
    { u with keep := { u.keep with loads := (min x.toNat 100 :: u.keep.loads).take 10 } } = v → keepLoad v.keep < 75 →
    v.keep.commitWait = some d → ∃ y : State, y = { v with keep := { v.keep with deferAt := none } }
      ∧ exec (.loadWindow dt x) s = .next (commitNow (freeFlash y).2 (freeFlash y).1))
  ∧ (∀ dt s u (m : Fin 7) tag e, s.pass dt = u → u.mainOn = true →
    (u.keep.queues.getD m.val []).find? (agedEntry u.time tag) = some e →
    ∃ v : State, v = u.count 0x0022 (1 + e.cls.toNat) 1 ∧ exec (.requestAging dt m tag) s = .next { v with keep := { v.keep with
      queues := v.keep.queues.modify m.val (ageFirst v.time tag) } })
  ∧ (∀ dt s u (m : Fin 4) x, s.pass dt = u → u.mainOn = true → u.session m.val = some x →
    x.lastRx + u.pv 0x0011 0 * msU ≤ u.time → exec (.sessionTimeout dt m) s = .next (endSession u m.val))
  ∧ (∀ dt s u t0 l, s.pass dt = u → u.mainOn = true → u.keep.running = true → u.keep.claims = some (t0, l) →
    claimEnd u t0 ≤ u.time → claimQueued u = false → exec (.claimWindowClose dt) s = .next (closeWindow u))
  ∧ (∀ dt s u fl t0, s.pass dt = u → u.mainOn = true → u.keep.running = true → u.keep.commitWait = none →
    u.keep.dirty = some t0 → t0 + u.pv 0x0013 0 * secU ≤ u.time → u.keep.deferAt = none →
    exec (.storeCommitDelay dt fl) s = .next (commitStore u fl).1)
  ∧ (∀ dt s u fl t0 d, s.pass dt = u → u.mainOn = true → u.keep.running = true → u.keep.commitWait = none →
    u.keep.dirty = some t0 → t0 + u.pv 0x0013 0 * secU ≤ u.time → u.keep.deferAt = some d →
    exec (.storeCommitDelay dt fl) s = .next { u with keep := { u.keep with commitWait := some (u.time, none) } })
  ∧ (∀ dt s u fl t0 w, s.pass dt = u → u.mainOn = true → u.keep.running = true → u.keep.commitWait = some (t0, w) →
    t0 + 60 * secU ≤ u.time → exec (.storeDeferralLimit dt fl) s = .next (commitNow u fl))
  ∧ (∀ dt s u, s.pass dt = u → u.mainOn = true → gbReader u = true → u.gb.handedAt + u.pv 0x0015 0 * msU ≤ u.time →
    exec (.gbFlush dt) s = .next (handOut 17 u))

/-- The register window (17 R345 to R347). Choices of the model: log entry 40. -/
def Obligations.WindowEventsComplete : Prop :=
  (∀ dt s u, s.pass dt = u → windowOn u = true → mailboxDead u 4 = false → exec (.mb4ReqDoorbell dt) s = .next (mb4Request u))
  ∧ (∀ dt s u, s.pass dt = u → windowOn u = true → exec (.mb4AckDoorbell dt) s = .next (mb4Ack u))
  ∧ (∀ dt s u, s.pass dt = u → windowOn u = true → exec (.timeNowRead dt) s = .next (latchTime u))
  ∧ (∀ dt s u off v, s.pass dt = u → windowOn u = true →
    exec (.registerWrite dt .spi off v) s = .next (spiWrite u off.toNat v.toNat))
  ∧ (∀ dt s u off v, s.pass dt = u → windowOn u = true →
    exec (.registerWrite dt .transport off v) s =
      .next (windowAccess u ([2, 0] ++ le 2 1 ++ le 4 off.toNat ++ le 4 v.toNat)))

/-! ### Self-test and security -/

/-- The shut-down self-test, the start from its result, and their requests (18 R374 to R379, R383, R387). Choices of
the model: log entries 44, 70. -/
def Obligations.SelfTestCommandsComplete : Prop :=
  (∀ q s w t, Runs 0x1001 0 q s w t → t.bist.result ≠ 0 →
    exec (.bistResultRead q) s = .next (answer t w sOK (bistRecord t.bist)))
  ∧ (∀ q s w t, Runs 0x1002 0 q s w t →
    exec (.secIdentGet q) s = .next (answer t w sOK (le 8 Config.unitId.toNat ++ identityPublic ++ identityCert)))
  ∧ (∀ q s w t, Runs 0x1003 0 q s w t → exec (.wearRead q) s = .next (answer t w sOK (wbBlock t (wbSecurity t))))
  ∧ (∀ dt s u i, s.pass dt = u → shutReleased u = true →
    exec (.shutdownSelfTest dt i) s = .next (toPorter u (shutRecord u i)))
  ∧ (∀ dt s u, s.pass dt = u → u.mainOn = true → u.bist.running = true →
    ∃ (z : Bool) (rows : List Nat) (b : Bist) (v : State), (z = false → rows = []) ∧ (∀ r ∈ rows, r < 96 * 1024)
      ∧ b = rows.foldl repairSramRow u.bist
      ∧ v = { u.freeTaken with bist := { u.bist with otpUsed := b.otpUsed, spares := b.spares, poolBytes := b.poolBytes } } ∧ exec (.selfTestInterrupt dt) s = .next (toPorter v
      { noTest v.bist 5 z (BitVec.ofNat 32 ((v.time - v.bist.tTest) / usU)) with wakeHeld := v.bist.wakeWaits }))
  ∧ (∀ dt s u, s.pass dt = u → waking u = true → boardReady u = true → exec (.boot dt) s = .next (Machine.boot u))

/-! ### What commands share: answers, reports, parameters, records, faults -/

/-- An answer goes through its mailbox and changes nothing else: not the SRAM, no parameter, no fault, no session, no queue,
no subsystem (17 R347 to R349). -/
def Obligations.AnswersLeaveMachineAlone : Prop :=
  ∀ (s : State) (w : Waiting) (status : U16) (data : List Byte),
    Quiet s (answer s w status data) ∧ (answer s w status data).params = s.params
      ∧ (answer s w status data).keep.sessions = s.keep.sessions ∧ (answer s w status data).keep.queues = s.keep.queues
      ∧ (answer s w status data).keep.fast = s.keep.fast ∧ (answer s w status data).keep.mbBad = s.keep.mbBad

/-- A report changes nothing but its own way through a mailbox, whatever it answers (17 R372, Tables KEEP-9, LAY-8,
EMON-9, HOST-10, DATA-8, SERVO-7, DRV-6, STEP-5, HKP-7, PWR-8, CLK-7, FLT-9, CAL-5). -/
def Obligations.ReportsChangeNothing : Prop :=
  ∀ (c : Instr) (q : Req) (s t : State), reportReq c = some q → exec c s = .next t → Quiet (s.pass q.dt) t

/-- A parameter write that is applied is what the parameter then reads as, but for the reserved bits of a servo selector
(00 R9, 08 R190), and no other parameter changes (17 R358). -/
def Obligations.WrittenParameterReadsBack : Prop :=
  ∀ (t : State) (e : ParamEntry) (r : PRow), findParam e.index.toNat e.sub.toNat = some r →
    (applyParams t [e]).pv e.index.toNat e.sub.toNat = writtenBits e.index.toNat (toField r.bits (ofLe e.value))
    ∧ (e.index.toNat < 0x0913 ∨ 0x0916 < e.index.toNat →
      (applyParams t [e]).pv e.index.toNat e.sub.toNat = toField r.bits (ofLe e.value))
    ∧ ∀ idx sub, sub < 256 → (idx, sub) ≠ (e.index.toNat, e.sub.toNat) → (applyParams t [e]).pv idx sub = t.pv idx sub

/-- The parameters of Table LAY-9, as (index, bytes of the value, least, largest), are writable in IDLE only (02 R57). A write
of LAY.AUTO_DOZE is one of them; what it does to the power state is not said here. -/
def Obligations.LayerParametersOnlyInIdle : Prop :=
  ∀ idx n lo hi, (idx, n, lo, hi) ∈ [(0x0310, 1, 0, 1), (0x0311, 1, 1, 20), (0x0312, 1, 2, 30), (0x0313, 1, 10, 90),
      (0x0314, 2, 10, 60000), (0x0315, 2, 1, 2048), (0x0316, 1, 0, 1), (0x0317, 2, 1, 65535), (0x0318, 1, 0, 2),
      (0x0319, 2, 1, 65535), (0x031A, 1, 0, 1), (0x031B, 4, 100, 100000)] →
    ∀ q s w t e, Runs 0x0004 (4 + n) q s w t → (e : ParamEntry).index.toNat = idx → e.sub = 0 → e.value.length = n →
      (t.layer.st ≠ .idle → exec (.paramWrite q e) s = .next (answer t w sBadState []))
      ∧ (t.layer.st = .idle → ofLe e.value < lo ∨ hi < ofLe e.value → exec (.paramWrite q e) s = .next (answer t w sRange []))
      ∧ (t.layer.st = .idle → lo ≤ ofLe e.value → ofLe e.value ≤ hi →
        ∃ v : State, exec (.paramWrite q e) s = .next (answer v w sOK []) ∧ v.pv idx 0 = ofLe e.value
          ∧ (idx ≠ 0x031A → v = t.pput idx 0 (ofLe e.value)))

/-- Serial-number order (00 R402). -/
def Obligations.SerialNumberOrder : Prop :=
  ∀ a b : U32, (serialLater a b = true ↔ 0 < (a - b).toInt)
    ∧ (a - b = 0x80000000 → serialLater a b = false ∧ serialLater b a = false)
    ∧ (serialLater a b = true → serialLater b a = false)
    ∧ (serialLater a b = false → a = b ∨ serialLater b a = true ∨ a - b = 0x80000000)

/-- A time stamp's nanosecond field stays below 10⁹, and the stamp names the counter's nanosecond (00 R14, Table
SCOPE-7). -/
def Obligations.TimeStampsNameNanoseconds : Prop :=
  ∀ t : Nat, time64 t % 1073741824 ≤ 999999999 ∧ (t < 17179869184 * secU → ofTime64 (time64 t) = t / 256 * 256 ∧
    ofTime64 (time64 t) + expFrac t = t)

/-- The product of 08 R187 is `divr` by the power of two of the shift, saturated to s32; it rounds a half up. -/
def Obligations.ServoProductRoundsHalfUp : Prop :=
  ∀ (x : Int) (c sh k : Nat), sh ≤ 31 → c < 4294967296 → k = c + 4294967296 * sh →
    coefMul x k = sat32 (divr (x * ofField 32 c) (2 ^ sh)) ∧ -2147483648 ≤ coefMul x k ∧ coefMul x k ≤ 2147483647
      ∧ (∀ n : Int, sh ≠ 0 → x * ofField 32 c = n * 2 ^ sh + 2 ^ (sh - 1) → coefMul x k = sat32 (n + 1))

/-- A carry reads back, saturated at 0xFF_FFFF; no byte outside its three changes (03 R66, R76). -/
def Obligations.CarryReadsBack : Prop :=
  ∀ (m : List Host.Cell) (e v : Nat), memWf m = true →
    carryGet (carrySet m e v) e = min v 0xFFFFFF ∧ memWf (carrySet m e v) = true
      ∧ (∀ a, a < carryAt e ∨ carryAt e + 3 ≤ a → memGet (carrySet m e v) a = memGet m a)
      ∧ ∀ e', e' ≠ e → carryGet (carrySet m e v) e' = carryGet m e'

/-- A Guestbook record lies in its slot as the 32 bytes of Table CLK-4; no byte outside the slot changes, the next record
has the next number (14 R301; 17 R363). -/
def Obligations.GuestbookRecordLiesInItsSlot : Prop :=
  ∀ (s : State) (subsys id data : Nat), memWf s.mem = true →
    memBytes (gbRecord s subsys id data).mem (gbSlot s.gb.next.toNat) 32 =
        gbEntry s s.time s.gb.next.toNat id subsys 5 0 0 data (s.gb.lost || gbOverwrites s.gb)
      ∧ (∀ a, a < gbSlot s.gb.next.toNat ∨ gbSlot s.gb.next.toNat + 32 ≤ a →
        memGet (gbRecord s subsys id data).mem a = memGet s.mem a)
      ∧ (gbRecord s subsys id data).gb.next = s.gb.next + 1
      ∧ memWf (gbRecord s subsys id data).mem = true

/-- Raising a source leaves it active, raised and counted at this instant, whatever its class's reaction does; of the
others only 0x087, 0x0A7 and 0x0FD can become active with it (15 R310, R312; 04 R107; 05 R123; 08 R204). A reaction ends
the condition of four sources: it takes a pending swap and stops drives (03 R77, 09 R223). -/
def Obligations.RaiseRecordsItsSource : Prop :=
  ∀ dt s u (id : Fin 320) d c t, s.pass dt = u → (faultSource id.val).isSome = true → u.mainOn = true ∨ u.flt.initLow = true →
    exec (.faultRaise dt id d c) s = .next t →
      t.flt.active.getLsbD id = true ∧ t.flt.raised.getLsbD id = true
      ∧ (id.val ∉ [0x048, 0x111, 0x112, 0x119] → t.flt.cond.getLsbD id = (c || u.flt.cond.getLsbD id))
      ∧ AMap.find t.flt.tLast id = some u.time
      ∧ (id.val ∉ [0x087, 0x0A7, 0x0FD] → AMap.get t.flt.raises id 0 = min 65535 (AMap.get u.flt.raises id 0 + 1))
      ∧ ∀ j < 320, j ≠ id.val → j ∉ [0x087, 0x0A7, 0x0FD] → t.flt.active.getLsbD j = u.flt.active.getLsbD j

/-- FIRST_FAULT keeps the first raise of class C1 to C4; in the same instant the higher class wins, then the lower ID;
later ones set OVF only (15 R315). EXPFRAC of the source goes with it (14 R295). -/
def Obligations.FirstFaultKeepsTheFirst : Prop :=
  ∀ dt s u (id : Fin 320) d c t k, s.pass dt = u → (faultSource id.val).isSome = true → u.mainOn = true →
    u.faultClass id = k → 1 ≤ k → u.servo.test = none → u.emon.cap.st = .off →
    u.layer.st ≠ .expose ∨ u.link.firsts.getD 0 false = true → exec (.faultRaise dt id d c) s = .next t →
      (u.flt.first.valid = false → t.flt.first =
        { id := id, cls := k, valid := true, ovf := false, sameCycle := false, time := u.time, frac := u.srcFrac id })
      ∧ (u.flt.first.valid = true → u.flt.first.time ≠ u.time → t.flt.first = { u.flt.first with ovf := true })
      ∧ (u.flt.first.valid = true → u.flt.first.time = u.time → u.flt.first.cls < k ∨ (u.flt.first.cls = k ∧ id.val < u.flt.first.id) →
        t.flt.first = { u.flt.first with id := id, cls := k, sameCycle := true, frac := u.srcFrac id })
      ∧ (u.flt.first.valid = true → u.flt.first.time = u.time → k < u.flt.first.cls ∨ (u.flt.first.cls = k ∧ u.flt.first.id ≤ id.val) →
        t.flt.first = { u.flt.first with sameCycle := true })

/-- A raise of class C3 or C4 takes emitter enable away in every layer state; C4 also disables every axis and drive,
clears the job keys and sets the lockout latch (15 R312, R318, Table FLT-3). -/
def Obligations.SevereRaiseStopsEmission : Prop :=
  ∀ dt s u (id : Fin 320) d c t, s.pass dt = u → (faultSource id.val).isSome = true → u.mainOn = true ∨ u.flt.initLow = true →
    3 ≤ u.faultClass id → exec (.faultRaise dt id d c) s = .next t →
      Dark t ∧ t.flt.c3Src.getLsbD id = true
      ∧ (4 ≤ u.faultClass id → MotionDead t ∧ t.flt.c4.isSome = true ∧ t.data.keys = List.replicate 4 {}
        ∧ ∀ h ∈ t.house.heaters, h.on = false ∧ h.c4Off = true)

/-- A qualified EMIT_INHIBIT takes emitter enable away in every power state and layer state, and while it is in force no
layer arms (15 R313; 02 Table LAY-2). -/
def Obligations.InhibitStopsEmissionAndArming : Prop :=
  (∀ dt s u t, s.pass dt = u → u.flt.inhibit = false → exec (.emitInhibitRise dt) s = .next t →
    Dark t ∧ t.flt.inhibit = true ∧ t.flt.inForce = true)
  ∧ (∀ t d, t.flt.inForce = true → armChecks t d ≠ 0)
  ∧ (∀ dt s u, s.pass dt = u → u.flt.inhibit = true → exec (.emitInhibitFall dt) s =
    .next { u with flt := { u.flt with inhibit := false, inhibitFell := u.runningTime, cond := setBit u.flt.cond 0x04D false } })

/-- A missing line ends no layer by itself; with LAY.UNDERRUN_ACTION = 1 the run that reaches LAY.UNDERRUN_LINES raises
0x040 at that marker, and a line that came ends the run (02 R48). -/
def Obligations.UnderrunRaisesAtItsLength : Prop :=
  State.reset.faultClass 0x040 = 2
  ∧ ∀ (s : State) (m : Nat), qLast s + 1 ≤ m → m - 1 - qLast s < s.layer.desc.lineCount.toNat →
    (lineComplete s.dose (m - 1 - qLast s) = true → (passLine s m).layer.missRun = 0)
    ∧ (lineComplete s.dose (m - 1 - qLast s) = false →
      ∃ v : State, v.layer.missRun = s.layer.missRun + 1 ∧ v.layer.st = s.layer.st ∧ v.flt = s.flt
        ∧ (s.pv 0x0316 0 = 0 → passLine s m = v)
        ∧ (s.pv 0x0316 0 = 1 → s.layer.missRun + 1 = s.pv 0x0317 0 → passLine s m = raise v 0x040 0 false)
        ∧ (s.pv 0x0316 0 = 1 → s.layer.missRun + 1 ≠ s.pv 0x0317 0 → passLine s m = v))

/-- A commit goes to the other bank of the pair, or to the next pair once the pair has had its share, with the next SEQ;
a failed read-back moves it to bank 0 of the next pair. The newest bank is never erased, whatever command commits and
however the read-backs come out (17 R366). -/
def Obligations.NewestBankIsNeverErased : Prop :=
  (∀ c s t n bank, commits c = true → exec c s = .next t → s.keep.newest = some n → AMap.find s.keep.banks n = some bank →
    AMap.find t.keep.banks n = some bank)
  ∧ (∀ q s w t fl n bank tgt, Runs 0x000D 0 q s w t → t.keep.deferAt = none → t.keep.flashOk = true → t.keep.newest = some n →
    n < 16 → AMap.find t.keep.banks n = some bank →
    (if t.keep.pairCommits < t.pv 0x0014 0 then n / 2 * 2 + (1 - n % 2) else (n / 2 + 1) % 8 * 2) = tgt →
    tgt ∉ t.keep.badBanks →
    (fl.headD true = true → ∃ v b', exec (.storeCommit q fl) s = .next (answer v w sOK []) ∧ v.keep.newest = some tgt ∧ tgt ≠ n
      ∧ AMap.find v.keep.banks tgt = some b' ∧ b'.seq = bank.seq + 1 ∧ b'.image = storeImage (eraseBank t tgt)
      ∧ v.keep.pairCommits = (if t.keep.pairCommits < t.pv 0x0014 0 then t.keep.pairCommits + 1 else 1))
    ∧ ∀ more next, fl = false :: true :: more → (tgt / 2 + 1) % 8 * 2 = next → next ∉ t.keep.badBanks →
      ∃ v b', exec (.storeCommit q fl) s = .next (answer v w sOK []) ∧ v.keep.newest = some next ∧ tgt ∈ v.keep.badBanks
        ∧ AMap.find v.keep.banks next = some b' ∧ b'.seq = bank.seq + 1)
end

