-- ==== Sys2Proof/Laws/State.lean ====
section
/-!
SUPPORT. The named updates of the state: one lemma per field per update, so that no proof unfolds a record update.
-/

namespace Sys2Proof.Machine

/-! ### send -/

@[simp] theorem State.send_pending (s : State) (o : Out) : (s.send o).pending = s.pending := rfl
@[simp] theorem State.send_time (s : State) (o : Out) : (s.send o).time = s.time := rfl
@[simp] theorem State.send_sent (s : State) (o : Out) : (s.send o).sent = o :: s.sent := rfl
@[simp] theorem State.send_free (s : State) (o : Out) : (s.send o).free = s.free := rfl
@[simp] theorem State.send_power (s : State) (o : Out) : (s.send o).power = s.power := rfl
@[simp] theorem State.send_params (s : State) (o : Out) : (s.send o).params = s.params := rfl
@[simp] theorem State.send_mem (s : State) (o : Out) : (s.send o).mem = s.mem := rfl
@[simp] theorem State.send_layer (s : State) (o : Out) : (s.send o).layer = s.layer := rfl
@[simp] theorem State.send_dose (s : State) (o : Out) : (s.send o).dose = s.dose := rfl
@[simp] theorem State.send_emon (s : State) (o : Out) : (s.send o).emon = s.emon := rfl
@[simp] theorem State.send_link (s : State) (o : Out) : (s.send o).link = s.link := rfl
@[simp] theorem State.send_host (s : State) (o : Out) : (s.send o).host = s.host := rfl
@[simp] theorem State.send_dma (s : State) (o : Out) : (s.send o).dma = s.dma := rfl
@[simp] theorem State.send_data (s : State) (o : Out) : (s.send o).data = s.data := rfl
@[simp] theorem State.send_servo (s : State) (o : Out) : (s.send o).servo = s.servo := rfl
@[simp] theorem State.send_drv (s : State) (o : Out) : (s.send o).drv = s.drv := rfl
@[simp] theorem State.send_axes (s : State) (o : Out) : (s.send o).axes = s.axes := rfl
@[simp] theorem State.send_units (s : State) (o : Out) : (s.send o).units = s.units := rfl
@[simp] theorem State.send_stepAt (s : State) (o : Out) : (s.send o).stepAt = s.stepAt := rfl
@[simp] theorem State.send_house (s : State) (o : Out) : (s.send o).house = s.house := rfl
@[simp] theorem State.send_therm (s : State) (o : Out) : (s.send o).therm = s.therm := rfl
@[simp] theorem State.send_pwr (s : State) (o : Out) : (s.send o).pwr = s.pwr := rfl
@[simp] theorem State.send_stage (s : State) (o : Out) : (s.send o).stage = s.stage := rfl
@[simp] theorem State.send_clk (s : State) (o : Out) : (s.send o).clk = s.clk := rfl
@[simp] theorem State.send_flt (s : State) (o : Out) : (s.send o).flt = s.flt := rfl
@[simp] theorem State.send_gb (s : State) (o : Out) : (s.send o).gb = s.gb := rfl
@[simp] theorem State.send_cal (s : State) (o : Out) : (s.send o).cal = s.cal := rfl
@[simp] theorem State.send_keep (s : State) (o : Out) : (s.send o).keep = s.keep := rfl
@[simp] theorem State.send_bist (s : State) (o : Out) : (s.send o).bist = s.bist := rfl

/-! ### sendAll -/

@[simp] theorem State.sendAll_pending (s : State) (os : List Out) : (s.sendAll os).pending = s.pending := rfl
@[simp] theorem State.sendAll_time (s : State) (os : List Out) : (s.sendAll os).time = s.time := rfl
@[simp] theorem State.sendAll_sent (s : State) (os : List Out) : (s.sendAll os).sent = os.reverse ++ s.sent := rfl
@[simp] theorem State.sendAll_free (s : State) (os : List Out) : (s.sendAll os).free = s.free := rfl
@[simp] theorem State.sendAll_power (s : State) (os : List Out) : (s.sendAll os).power = s.power := rfl
@[simp] theorem State.sendAll_params (s : State) (os : List Out) : (s.sendAll os).params = s.params := rfl
@[simp] theorem State.sendAll_mem (s : State) (os : List Out) : (s.sendAll os).mem = s.mem := rfl
@[simp] theorem State.sendAll_layer (s : State) (os : List Out) : (s.sendAll os).layer = s.layer := rfl
@[simp] theorem State.sendAll_dose (s : State) (os : List Out) : (s.sendAll os).dose = s.dose := rfl
@[simp] theorem State.sendAll_emon (s : State) (os : List Out) : (s.sendAll os).emon = s.emon := rfl
@[simp] theorem State.sendAll_link (s : State) (os : List Out) : (s.sendAll os).link = s.link := rfl
@[simp] theorem State.sendAll_host (s : State) (os : List Out) : (s.sendAll os).host = s.host := rfl
@[simp] theorem State.sendAll_dma (s : State) (os : List Out) : (s.sendAll os).dma = s.dma := rfl
@[simp] theorem State.sendAll_data (s : State) (os : List Out) : (s.sendAll os).data = s.data := rfl
@[simp] theorem State.sendAll_servo (s : State) (os : List Out) : (s.sendAll os).servo = s.servo := rfl
@[simp] theorem State.sendAll_drv (s : State) (os : List Out) : (s.sendAll os).drv = s.drv := rfl
@[simp] theorem State.sendAll_axes (s : State) (os : List Out) : (s.sendAll os).axes = s.axes := rfl
@[simp] theorem State.sendAll_units (s : State) (os : List Out) : (s.sendAll os).units = s.units := rfl
@[simp] theorem State.sendAll_stepAt (s : State) (os : List Out) : (s.sendAll os).stepAt = s.stepAt := rfl
@[simp] theorem State.sendAll_house (s : State) (os : List Out) : (s.sendAll os).house = s.house := rfl
@[simp] theorem State.sendAll_therm (s : State) (os : List Out) : (s.sendAll os).therm = s.therm := rfl
@[simp] theorem State.sendAll_pwr (s : State) (os : List Out) : (s.sendAll os).pwr = s.pwr := rfl
@[simp] theorem State.sendAll_stage (s : State) (os : List Out) : (s.sendAll os).stage = s.stage := rfl
@[simp] theorem State.sendAll_clk (s : State) (os : List Out) : (s.sendAll os).clk = s.clk := rfl
@[simp] theorem State.sendAll_flt (s : State) (os : List Out) : (s.sendAll os).flt = s.flt := rfl
@[simp] theorem State.sendAll_gb (s : State) (os : List Out) : (s.sendAll os).gb = s.gb := rfl
@[simp] theorem State.sendAll_cal (s : State) (os : List Out) : (s.sendAll os).cal = s.cal := rfl
@[simp] theorem State.sendAll_keep (s : State) (os : List Out) : (s.sendAll os).keep = s.keep := rfl
@[simp] theorem State.sendAll_bist (s : State) (os : List Out) : (s.sendAll os).bist = s.bist := rfl

/-! ### freeTaken -/

@[simp] theorem State.freeTaken_pending (s : State) : (s.freeTaken).pending = s.pending := rfl
@[simp] theorem State.freeTaken_time (s : State) : (s.freeTaken).time = s.time := rfl
@[simp] theorem State.freeTaken_sent (s : State) : (s.freeTaken).sent = s.sent := rfl
@[simp] theorem State.freeTaken_free (s : State) : (s.freeTaken).free = s.free + 1 := rfl
@[simp] theorem State.freeTaken_power (s : State) : (s.freeTaken).power = s.power := rfl
@[simp] theorem State.freeTaken_params (s : State) : (s.freeTaken).params = s.params := rfl
@[simp] theorem State.freeTaken_mem (s : State) : (s.freeTaken).mem = s.mem := rfl
@[simp] theorem State.freeTaken_layer (s : State) : (s.freeTaken).layer = s.layer := rfl
@[simp] theorem State.freeTaken_dose (s : State) : (s.freeTaken).dose = s.dose := rfl
@[simp] theorem State.freeTaken_emon (s : State) : (s.freeTaken).emon = s.emon := rfl
@[simp] theorem State.freeTaken_link (s : State) : (s.freeTaken).link = s.link := rfl
@[simp] theorem State.freeTaken_host (s : State) : (s.freeTaken).host = s.host := rfl
@[simp] theorem State.freeTaken_dma (s : State) : (s.freeTaken).dma = s.dma := rfl
@[simp] theorem State.freeTaken_data (s : State) : (s.freeTaken).data = s.data := rfl
@[simp] theorem State.freeTaken_servo (s : State) : (s.freeTaken).servo = s.servo := rfl
@[simp] theorem State.freeTaken_drv (s : State) : (s.freeTaken).drv = s.drv := rfl
@[simp] theorem State.freeTaken_axes (s : State) : (s.freeTaken).axes = s.axes := rfl
@[simp] theorem State.freeTaken_units (s : State) : (s.freeTaken).units = s.units := rfl
@[simp] theorem State.freeTaken_stepAt (s : State) : (s.freeTaken).stepAt = s.stepAt := rfl
@[simp] theorem State.freeTaken_house (s : State) : (s.freeTaken).house = s.house := rfl
@[simp] theorem State.freeTaken_therm (s : State) : (s.freeTaken).therm = s.therm := rfl
@[simp] theorem State.freeTaken_pwr (s : State) : (s.freeTaken).pwr = s.pwr := rfl
@[simp] theorem State.freeTaken_stage (s : State) : (s.freeTaken).stage = s.stage := rfl
@[simp] theorem State.freeTaken_clk (s : State) : (s.freeTaken).clk = s.clk := rfl
@[simp] theorem State.freeTaken_flt (s : State) : (s.freeTaken).flt = s.flt := rfl
@[simp] theorem State.freeTaken_gb (s : State) : (s.freeTaken).gb = s.gb := rfl
@[simp] theorem State.freeTaken_cal (s : State) : (s.freeTaken).cal = s.cal := rfl
@[simp] theorem State.freeTaken_keep (s : State) : (s.freeTaken).keep = s.keep := rfl
@[simp] theorem State.freeTaken_bist (s : State) : (s.freeTaken).bist = s.bist := rfl

/-! ### poke -/

@[simp] theorem State.poke_pending (s : State) (a : Nat) (bs : List Byte) : (s.poke a bs).pending = s.pending := rfl
@[simp] theorem State.poke_time (s : State) (a : Nat) (bs : List Byte) : (s.poke a bs).time = s.time := rfl
@[simp] theorem State.poke_sent (s : State) (a : Nat) (bs : List Byte) : (s.poke a bs).sent = s.sent := rfl
@[simp] theorem State.poke_free (s : State) (a : Nat) (bs : List Byte) : (s.poke a bs).free = s.free := rfl
@[simp] theorem State.poke_power (s : State) (a : Nat) (bs : List Byte) : (s.poke a bs).power = s.power := rfl
@[simp] theorem State.poke_params (s : State) (a : Nat) (bs : List Byte) : (s.poke a bs).params = s.params := rfl
@[simp] theorem State.poke_mem (s : State) (a : Nat) (bs : List Byte) : (s.poke a bs).mem = memPuts s.mem a bs := rfl
@[simp] theorem State.poke_layer (s : State) (a : Nat) (bs : List Byte) : (s.poke a bs).layer = s.layer := rfl
@[simp] theorem State.poke_dose (s : State) (a : Nat) (bs : List Byte) : (s.poke a bs).dose = s.dose := rfl
@[simp] theorem State.poke_emon (s : State) (a : Nat) (bs : List Byte) : (s.poke a bs).emon = s.emon := rfl
@[simp] theorem State.poke_link (s : State) (a : Nat) (bs : List Byte) : (s.poke a bs).link = s.link := rfl
@[simp] theorem State.poke_host (s : State) (a : Nat) (bs : List Byte) : (s.poke a bs).host = s.host := rfl
@[simp] theorem State.poke_dma (s : State) (a : Nat) (bs : List Byte) : (s.poke a bs).dma = s.dma := rfl
@[simp] theorem State.poke_data (s : State) (a : Nat) (bs : List Byte) : (s.poke a bs).data = s.data := rfl
@[simp] theorem State.poke_servo (s : State) (a : Nat) (bs : List Byte) : (s.poke a bs).servo = s.servo := rfl
@[simp] theorem State.poke_drv (s : State) (a : Nat) (bs : List Byte) : (s.poke a bs).drv = s.drv := rfl
@[simp] theorem State.poke_axes (s : State) (a : Nat) (bs : List Byte) : (s.poke a bs).axes = s.axes := rfl
@[simp] theorem State.poke_units (s : State) (a : Nat) (bs : List Byte) : (s.poke a bs).units = s.units := rfl
@[simp] theorem State.poke_stepAt (s : State) (a : Nat) (bs : List Byte) : (s.poke a bs).stepAt = s.stepAt := rfl
@[simp] theorem State.poke_house (s : State) (a : Nat) (bs : List Byte) : (s.poke a bs).house = s.house := rfl
@[simp] theorem State.poke_therm (s : State) (a : Nat) (bs : List Byte) : (s.poke a bs).therm = s.therm := rfl
@[simp] theorem State.poke_pwr (s : State) (a : Nat) (bs : List Byte) : (s.poke a bs).pwr = s.pwr := rfl
@[simp] theorem State.poke_stage (s : State) (a : Nat) (bs : List Byte) : (s.poke a bs).stage = s.stage := rfl
@[simp] theorem State.poke_clk (s : State) (a : Nat) (bs : List Byte) : (s.poke a bs).clk = s.clk := rfl
@[simp] theorem State.poke_flt (s : State) (a : Nat) (bs : List Byte) : (s.poke a bs).flt = s.flt := rfl
@[simp] theorem State.poke_gb (s : State) (a : Nat) (bs : List Byte) : (s.poke a bs).gb = s.gb := rfl
@[simp] theorem State.poke_cal (s : State) (a : Nat) (bs : List Byte) : (s.poke a bs).cal = s.cal := rfl
@[simp] theorem State.poke_keep (s : State) (a : Nat) (bs : List Byte) : (s.poke a bs).keep = s.keep := rfl
@[simp] theorem State.poke_bist (s : State) (a : Nat) (bs : List Byte) : (s.poke a bs).bist = s.bist := rfl

/-! ### pput -/

@[simp] theorem State.pput_pending (s : State) (idx sub v : Nat) : (s.pput idx sub v).pending = s.pending := rfl
@[simp] theorem State.pput_time (s : State) (idx sub v : Nat) : (s.pput idx sub v).time = s.time := rfl
@[simp] theorem State.pput_sent (s : State) (idx sub v : Nat) : (s.pput idx sub v).sent = s.sent := rfl
@[simp] theorem State.pput_free (s : State) (idx sub v : Nat) : (s.pput idx sub v).free = s.free := rfl
@[simp] theorem State.pput_power (s : State) (idx sub v : Nat) : (s.pput idx sub v).power = s.power := rfl
@[simp] theorem State.pput_params (s : State) (idx sub v : Nat) : (s.pput idx sub v).params = pset s.params idx sub v := rfl
@[simp] theorem State.pput_mem (s : State) (idx sub v : Nat) : (s.pput idx sub v).mem = s.mem := rfl
@[simp] theorem State.pput_layer (s : State) (idx sub v : Nat) : (s.pput idx sub v).layer = s.layer := rfl
@[simp] theorem State.pput_dose (s : State) (idx sub v : Nat) : (s.pput idx sub v).dose = s.dose := rfl
@[simp] theorem State.pput_emon (s : State) (idx sub v : Nat) : (s.pput idx sub v).emon = s.emon := rfl
@[simp] theorem State.pput_link (s : State) (idx sub v : Nat) : (s.pput idx sub v).link = s.link := rfl
@[simp] theorem State.pput_host (s : State) (idx sub v : Nat) : (s.pput idx sub v).host = s.host := rfl
@[simp] theorem State.pput_dma (s : State) (idx sub v : Nat) : (s.pput idx sub v).dma = s.dma := rfl
@[simp] theorem State.pput_data (s : State) (idx sub v : Nat) : (s.pput idx sub v).data = s.data := rfl
@[simp] theorem State.pput_servo (s : State) (idx sub v : Nat) : (s.pput idx sub v).servo = s.servo := rfl
@[simp] theorem State.pput_drv (s : State) (idx sub v : Nat) : (s.pput idx sub v).drv = s.drv := rfl
@[simp] theorem State.pput_axes (s : State) (idx sub v : Nat) : (s.pput idx sub v).axes = s.axes := rfl
@[simp] theorem State.pput_units (s : State) (idx sub v : Nat) : (s.pput idx sub v).units = s.units := rfl
@[simp] theorem State.pput_stepAt (s : State) (idx sub v : Nat) : (s.pput idx sub v).stepAt = s.stepAt := rfl
@[simp] theorem State.pput_house (s : State) (idx sub v : Nat) : (s.pput idx sub v).house = s.house := rfl
@[simp] theorem State.pput_therm (s : State) (idx sub v : Nat) : (s.pput idx sub v).therm = s.therm := rfl
@[simp] theorem State.pput_pwr (s : State) (idx sub v : Nat) : (s.pput idx sub v).pwr = s.pwr := rfl
@[simp] theorem State.pput_stage (s : State) (idx sub v : Nat) : (s.pput idx sub v).stage = s.stage := rfl
@[simp] theorem State.pput_clk (s : State) (idx sub v : Nat) : (s.pput idx sub v).clk = s.clk := rfl
@[simp] theorem State.pput_flt (s : State) (idx sub v : Nat) : (s.pput idx sub v).flt = s.flt := rfl
@[simp] theorem State.pput_gb (s : State) (idx sub v : Nat) : (s.pput idx sub v).gb = s.gb := rfl
@[simp] theorem State.pput_cal (s : State) (idx sub v : Nat) : (s.pput idx sub v).cal = s.cal := rfl
@[simp] theorem State.pput_keep (s : State) (idx sub v : Nat) : (s.pput idx sub v).keep = s.keep := rfl
@[simp] theorem State.pput_bist (s : State) (idx sub v : Nat) : (s.pput idx sub v).bist = s.bist := rfl

/-! ### count -/

@[simp] theorem State.count_pending (s : State) (idx sub n : Nat) : (s.count idx sub n).pending = s.pending := rfl
@[simp] theorem State.count_time (s : State) (idx sub n : Nat) : (s.count idx sub n).time = s.time := rfl
@[simp] theorem State.count_sent (s : State) (idx sub n : Nat) : (s.count idx sub n).sent = s.sent := rfl
@[simp] theorem State.count_free (s : State) (idx sub n : Nat) : (s.count idx sub n).free = s.free := rfl
@[simp] theorem State.count_power (s : State) (idx sub n : Nat) : (s.count idx sub n).power = s.power := rfl
@[simp] theorem State.count_params (s : State) (idx sub n : Nat) : (s.count idx sub n).params = pset s.params idx sub (wrap32 (s.pv idx sub + n)) := rfl
@[simp] theorem State.count_mem (s : State) (idx sub n : Nat) : (s.count idx sub n).mem = s.mem := rfl
@[simp] theorem State.count_layer (s : State) (idx sub n : Nat) : (s.count idx sub n).layer = s.layer := rfl
@[simp] theorem State.count_dose (s : State) (idx sub n : Nat) : (s.count idx sub n).dose = s.dose := rfl
@[simp] theorem State.count_emon (s : State) (idx sub n : Nat) : (s.count idx sub n).emon = s.emon := rfl
@[simp] theorem State.count_link (s : State) (idx sub n : Nat) : (s.count idx sub n).link = s.link := rfl
@[simp] theorem State.count_host (s : State) (idx sub n : Nat) : (s.count idx sub n).host = s.host := rfl
@[simp] theorem State.count_dma (s : State) (idx sub n : Nat) : (s.count idx sub n).dma = s.dma := rfl
@[simp] theorem State.count_data (s : State) (idx sub n : Nat) : (s.count idx sub n).data = s.data := rfl
@[simp] theorem State.count_servo (s : State) (idx sub n : Nat) : (s.count idx sub n).servo = s.servo := rfl
@[simp] theorem State.count_drv (s : State) (idx sub n : Nat) : (s.count idx sub n).drv = s.drv := rfl
@[simp] theorem State.count_axes (s : State) (idx sub n : Nat) : (s.count idx sub n).axes = s.axes := rfl
@[simp] theorem State.count_units (s : State) (idx sub n : Nat) : (s.count idx sub n).units = s.units := rfl
@[simp] theorem State.count_stepAt (s : State) (idx sub n : Nat) : (s.count idx sub n).stepAt = s.stepAt := rfl
@[simp] theorem State.count_house (s : State) (idx sub n : Nat) : (s.count idx sub n).house = s.house := rfl
@[simp] theorem State.count_therm (s : State) (idx sub n : Nat) : (s.count idx sub n).therm = s.therm := rfl
@[simp] theorem State.count_pwr (s : State) (idx sub n : Nat) : (s.count idx sub n).pwr = s.pwr := rfl
@[simp] theorem State.count_stage (s : State) (idx sub n : Nat) : (s.count idx sub n).stage = s.stage := rfl
@[simp] theorem State.count_clk (s : State) (idx sub n : Nat) : (s.count idx sub n).clk = s.clk := rfl
@[simp] theorem State.count_flt (s : State) (idx sub n : Nat) : (s.count idx sub n).flt = s.flt := rfl
@[simp] theorem State.count_gb (s : State) (idx sub n : Nat) : (s.count idx sub n).gb = s.gb := rfl
@[simp] theorem State.count_cal (s : State) (idx sub n : Nat) : (s.count idx sub n).cal = s.cal := rfl
@[simp] theorem State.count_keep (s : State) (idx sub n : Nat) : (s.count idx sub n).keep = s.keep := rfl
@[simp] theorem State.count_bist (s : State) (idx sub n : Nat) : (s.count idx sub n).bist = s.bist := rfl

/-! ### wear -/

@[simp] theorem State.wear_pending (s : State) (sub n : Nat) : (s.wear sub n).pending = s.pending := rfl
@[simp] theorem State.wear_time (s : State) (sub n : Nat) : (s.wear sub n).time = s.time := rfl
@[simp] theorem State.wear_sent (s : State) (sub n : Nat) : (s.wear sub n).sent = s.sent := rfl
@[simp] theorem State.wear_free (s : State) (sub n : Nat) : (s.wear sub n).free = s.free := rfl
@[simp] theorem State.wear_power (s : State) (sub n : Nat) : (s.wear sub n).power = s.power := rfl
@[simp] theorem State.wear_params (s : State) (sub n : Nat) : (s.wear sub n).params = pset s.params 0x1020 sub (min (s.pv 0x1020 sub + n) 4294967295) := rfl
@[simp] theorem State.wear_mem (s : State) (sub n : Nat) : (s.wear sub n).mem = s.mem := rfl
@[simp] theorem State.wear_layer (s : State) (sub n : Nat) : (s.wear sub n).layer = s.layer := rfl
@[simp] theorem State.wear_dose (s : State) (sub n : Nat) : (s.wear sub n).dose = s.dose := rfl
@[simp] theorem State.wear_emon (s : State) (sub n : Nat) : (s.wear sub n).emon = s.emon := rfl
@[simp] theorem State.wear_link (s : State) (sub n : Nat) : (s.wear sub n).link = s.link := rfl
@[simp] theorem State.wear_host (s : State) (sub n : Nat) : (s.wear sub n).host = s.host := rfl
@[simp] theorem State.wear_dma (s : State) (sub n : Nat) : (s.wear sub n).dma = s.dma := rfl
@[simp] theorem State.wear_data (s : State) (sub n : Nat) : (s.wear sub n).data = s.data := rfl
@[simp] theorem State.wear_servo (s : State) (sub n : Nat) : (s.wear sub n).servo = s.servo := rfl
@[simp] theorem State.wear_drv (s : State) (sub n : Nat) : (s.wear sub n).drv = s.drv := rfl
@[simp] theorem State.wear_axes (s : State) (sub n : Nat) : (s.wear sub n).axes = s.axes := rfl
@[simp] theorem State.wear_units (s : State) (sub n : Nat) : (s.wear sub n).units = s.units := rfl
@[simp] theorem State.wear_stepAt (s : State) (sub n : Nat) : (s.wear sub n).stepAt = s.stepAt := rfl
@[simp] theorem State.wear_house (s : State) (sub n : Nat) : (s.wear sub n).house = s.house := rfl
@[simp] theorem State.wear_therm (s : State) (sub n : Nat) : (s.wear sub n).therm = s.therm := rfl
@[simp] theorem State.wear_pwr (s : State) (sub n : Nat) : (s.wear sub n).pwr = s.pwr := rfl
@[simp] theorem State.wear_stage (s : State) (sub n : Nat) : (s.wear sub n).stage = s.stage := rfl
@[simp] theorem State.wear_clk (s : State) (sub n : Nat) : (s.wear sub n).clk = s.clk := rfl
@[simp] theorem State.wear_flt (s : State) (sub n : Nat) : (s.wear sub n).flt = s.flt := rfl
@[simp] theorem State.wear_gb (s : State) (sub n : Nat) : (s.wear sub n).gb = s.gb := rfl
@[simp] theorem State.wear_cal (s : State) (sub n : Nat) : (s.wear sub n).cal = s.cal := rfl
@[simp] theorem State.wear_keep (s : State) (sub n : Nat) : (s.wear sub n).keep = s.keep := rfl
@[simp] theorem State.wear_bist (s : State) (sub n : Nat) : (s.wear sub n).bist = s.bist := rfl

/-! ### onPort -/

@[simp] theorem State.onPort_pending (s : State) (p : Nat) (f : Port → Port) : (s.onPort p f).pending = s.pending := rfl
@[simp] theorem State.onPort_time (s : State) (p : Nat) (f : Port → Port) : (s.onPort p f).time = s.time := rfl
@[simp] theorem State.onPort_sent (s : State) (p : Nat) (f : Port → Port) : (s.onPort p f).sent = s.sent := rfl
@[simp] theorem State.onPort_free (s : State) (p : Nat) (f : Port → Port) : (s.onPort p f).free = s.free := rfl
@[simp] theorem State.onPort_power (s : State) (p : Nat) (f : Port → Port) : (s.onPort p f).power = s.power := rfl
@[simp] theorem State.onPort_params (s : State) (p : Nat) (f : Port → Port) : (s.onPort p f).params = s.params := rfl
@[simp] theorem State.onPort_mem (s : State) (p : Nat) (f : Port → Port) : (s.onPort p f).mem = s.mem := rfl
@[simp] theorem State.onPort_layer (s : State) (p : Nat) (f : Port → Port) : (s.onPort p f).layer = s.layer := rfl
@[simp] theorem State.onPort_dose (s : State) (p : Nat) (f : Port → Port) : (s.onPort p f).dose = s.dose := rfl
@[simp] theorem State.onPort_emon (s : State) (p : Nat) (f : Port → Port) : (s.onPort p f).emon = s.emon := rfl
@[simp] theorem State.onPort_link (s : State) (p : Nat) (f : Port → Port) : (s.onPort p f).link = s.link := rfl
@[simp] theorem State.onPort_host (s : State) (p : Nat) (f : Port → Port) : (s.onPort p f).host = { s.host with ports := s.host.ports.modify p f } := rfl
@[simp] theorem State.onPort_dma (s : State) (p : Nat) (f : Port → Port) : (s.onPort p f).dma = s.dma := rfl
@[simp] theorem State.onPort_data (s : State) (p : Nat) (f : Port → Port) : (s.onPort p f).data = s.data := rfl
@[simp] theorem State.onPort_servo (s : State) (p : Nat) (f : Port → Port) : (s.onPort p f).servo = s.servo := rfl
@[simp] theorem State.onPort_drv (s : State) (p : Nat) (f : Port → Port) : (s.onPort p f).drv = s.drv := rfl
@[simp] theorem State.onPort_axes (s : State) (p : Nat) (f : Port → Port) : (s.onPort p f).axes = s.axes := rfl
@[simp] theorem State.onPort_units (s : State) (p : Nat) (f : Port → Port) : (s.onPort p f).units = s.units := rfl
@[simp] theorem State.onPort_stepAt (s : State) (p : Nat) (f : Port → Port) : (s.onPort p f).stepAt = s.stepAt := rfl
@[simp] theorem State.onPort_house (s : State) (p : Nat) (f : Port → Port) : (s.onPort p f).house = s.house := rfl
@[simp] theorem State.onPort_therm (s : State) (p : Nat) (f : Port → Port) : (s.onPort p f).therm = s.therm := rfl
@[simp] theorem State.onPort_pwr (s : State) (p : Nat) (f : Port → Port) : (s.onPort p f).pwr = s.pwr := rfl
@[simp] theorem State.onPort_stage (s : State) (p : Nat) (f : Port → Port) : (s.onPort p f).stage = s.stage := rfl
@[simp] theorem State.onPort_clk (s : State) (p : Nat) (f : Port → Port) : (s.onPort p f).clk = s.clk := rfl
@[simp] theorem State.onPort_flt (s : State) (p : Nat) (f : Port → Port) : (s.onPort p f).flt = s.flt := rfl
@[simp] theorem State.onPort_gb (s : State) (p : Nat) (f : Port → Port) : (s.onPort p f).gb = s.gb := rfl
@[simp] theorem State.onPort_cal (s : State) (p : Nat) (f : Port → Port) : (s.onPort p f).cal = s.cal := rfl
@[simp] theorem State.onPort_keep (s : State) (p : Nat) (f : Port → Port) : (s.onPort p f).keep = s.keep := rfl
@[simp] theorem State.onPort_bist (s : State) (p : Nat) (f : Port → Port) : (s.onPort p f).bist = s.bist := rfl

/-! ### onChan -/

@[simp] theorem State.onChan_pending (s : State) (ch : Nat) (f : Chan → Chan) : (s.onChan ch f).pending = s.pending := rfl
@[simp] theorem State.onChan_time (s : State) (ch : Nat) (f : Chan → Chan) : (s.onChan ch f).time = s.time := rfl
@[simp] theorem State.onChan_sent (s : State) (ch : Nat) (f : Chan → Chan) : (s.onChan ch f).sent = s.sent := rfl
@[simp] theorem State.onChan_free (s : State) (ch : Nat) (f : Chan → Chan) : (s.onChan ch f).free = s.free := rfl
@[simp] theorem State.onChan_power (s : State) (ch : Nat) (f : Chan → Chan) : (s.onChan ch f).power = s.power := rfl
@[simp] theorem State.onChan_params (s : State) (ch : Nat) (f : Chan → Chan) : (s.onChan ch f).params = s.params := rfl
@[simp] theorem State.onChan_mem (s : State) (ch : Nat) (f : Chan → Chan) : (s.onChan ch f).mem = s.mem := rfl
@[simp] theorem State.onChan_layer (s : State) (ch : Nat) (f : Chan → Chan) : (s.onChan ch f).layer = s.layer := rfl
@[simp] theorem State.onChan_dose (s : State) (ch : Nat) (f : Chan → Chan) : (s.onChan ch f).dose = s.dose := rfl
@[simp] theorem State.onChan_emon (s : State) (ch : Nat) (f : Chan → Chan) : (s.onChan ch f).emon = s.emon := rfl
@[simp] theorem State.onChan_link (s : State) (ch : Nat) (f : Chan → Chan) : (s.onChan ch f).link = s.link := rfl
@[simp] theorem State.onChan_host (s : State) (ch : Nat) (f : Chan → Chan) : (s.onChan ch f).host = { s.host with chans := AMap.put s.host.chans ch (f (s.chan ch)) } := rfl
@[simp] theorem State.onChan_dma (s : State) (ch : Nat) (f : Chan → Chan) : (s.onChan ch f).dma = s.dma := rfl
@[simp] theorem State.onChan_data (s : State) (ch : Nat) (f : Chan → Chan) : (s.onChan ch f).data = s.data := rfl
@[simp] theorem State.onChan_servo (s : State) (ch : Nat) (f : Chan → Chan) : (s.onChan ch f).servo = s.servo := rfl
@[simp] theorem State.onChan_drv (s : State) (ch : Nat) (f : Chan → Chan) : (s.onChan ch f).drv = s.drv := rfl
@[simp] theorem State.onChan_axes (s : State) (ch : Nat) (f : Chan → Chan) : (s.onChan ch f).axes = s.axes := rfl
@[simp] theorem State.onChan_units (s : State) (ch : Nat) (f : Chan → Chan) : (s.onChan ch f).units = s.units := rfl
@[simp] theorem State.onChan_stepAt (s : State) (ch : Nat) (f : Chan → Chan) : (s.onChan ch f).stepAt = s.stepAt := rfl
@[simp] theorem State.onChan_house (s : State) (ch : Nat) (f : Chan → Chan) : (s.onChan ch f).house = s.house := rfl
@[simp] theorem State.onChan_therm (s : State) (ch : Nat) (f : Chan → Chan) : (s.onChan ch f).therm = s.therm := rfl
@[simp] theorem State.onChan_pwr (s : State) (ch : Nat) (f : Chan → Chan) : (s.onChan ch f).pwr = s.pwr := rfl
@[simp] theorem State.onChan_stage (s : State) (ch : Nat) (f : Chan → Chan) : (s.onChan ch f).stage = s.stage := rfl
@[simp] theorem State.onChan_clk (s : State) (ch : Nat) (f : Chan → Chan) : (s.onChan ch f).clk = s.clk := rfl
@[simp] theorem State.onChan_flt (s : State) (ch : Nat) (f : Chan → Chan) : (s.onChan ch f).flt = s.flt := rfl
@[simp] theorem State.onChan_gb (s : State) (ch : Nat) (f : Chan → Chan) : (s.onChan ch f).gb = s.gb := rfl
@[simp] theorem State.onChan_cal (s : State) (ch : Nat) (f : Chan → Chan) : (s.onChan ch f).cal = s.cal := rfl
@[simp] theorem State.onChan_keep (s : State) (ch : Nat) (f : Chan → Chan) : (s.onChan ch f).keep = s.keep := rfl
@[simp] theorem State.onChan_bist (s : State) (ch : Nat) (f : Chan → Chan) : (s.onChan ch f).bist = s.bist := rfl

/-! ### onChain -/

@[simp] theorem State.onChain_pending (s : State) (n : Nat) (f : Chain → Chain) : (s.onChain n f).pending = s.pending := rfl
@[simp] theorem State.onChain_time (s : State) (n : Nat) (f : Chain → Chain) : (s.onChain n f).time = s.time := rfl
@[simp] theorem State.onChain_sent (s : State) (n : Nat) (f : Chain → Chain) : (s.onChain n f).sent = s.sent := rfl
@[simp] theorem State.onChain_free (s : State) (n : Nat) (f : Chain → Chain) : (s.onChain n f).free = s.free := rfl
@[simp] theorem State.onChain_power (s : State) (n : Nat) (f : Chain → Chain) : (s.onChain n f).power = s.power := rfl
@[simp] theorem State.onChain_params (s : State) (n : Nat) (f : Chain → Chain) : (s.onChain n f).params = s.params := rfl
@[simp] theorem State.onChain_mem (s : State) (n : Nat) (f : Chain → Chain) : (s.onChain n f).mem = s.mem := rfl
@[simp] theorem State.onChain_layer (s : State) (n : Nat) (f : Chain → Chain) : (s.onChain n f).layer = s.layer := rfl
@[simp] theorem State.onChain_dose (s : State) (n : Nat) (f : Chain → Chain) : (s.onChain n f).dose = s.dose := rfl
@[simp] theorem State.onChain_emon (s : State) (n : Nat) (f : Chain → Chain) : (s.onChain n f).emon = s.emon := rfl
@[simp] theorem State.onChain_link (s : State) (n : Nat) (f : Chain → Chain) : (s.onChain n f).link = { s.link with chains := s.link.chains.modify n f } := rfl
@[simp] theorem State.onChain_host (s : State) (n : Nat) (f : Chain → Chain) : (s.onChain n f).host = s.host := rfl
@[simp] theorem State.onChain_dma (s : State) (n : Nat) (f : Chain → Chain) : (s.onChain n f).dma = s.dma := rfl
@[simp] theorem State.onChain_data (s : State) (n : Nat) (f : Chain → Chain) : (s.onChain n f).data = s.data := rfl
@[simp] theorem State.onChain_servo (s : State) (n : Nat) (f : Chain → Chain) : (s.onChain n f).servo = s.servo := rfl
@[simp] theorem State.onChain_drv (s : State) (n : Nat) (f : Chain → Chain) : (s.onChain n f).drv = s.drv := rfl
@[simp] theorem State.onChain_axes (s : State) (n : Nat) (f : Chain → Chain) : (s.onChain n f).axes = s.axes := rfl
@[simp] theorem State.onChain_units (s : State) (n : Nat) (f : Chain → Chain) : (s.onChain n f).units = s.units := rfl
@[simp] theorem State.onChain_stepAt (s : State) (n : Nat) (f : Chain → Chain) : (s.onChain n f).stepAt = s.stepAt := rfl
@[simp] theorem State.onChain_house (s : State) (n : Nat) (f : Chain → Chain) : (s.onChain n f).house = s.house := rfl
@[simp] theorem State.onChain_therm (s : State) (n : Nat) (f : Chain → Chain) : (s.onChain n f).therm = s.therm := rfl
@[simp] theorem State.onChain_pwr (s : State) (n : Nat) (f : Chain → Chain) : (s.onChain n f).pwr = s.pwr := rfl
@[simp] theorem State.onChain_stage (s : State) (n : Nat) (f : Chain → Chain) : (s.onChain n f).stage = s.stage := rfl
@[simp] theorem State.onChain_clk (s : State) (n : Nat) (f : Chain → Chain) : (s.onChain n f).clk = s.clk := rfl
@[simp] theorem State.onChain_flt (s : State) (n : Nat) (f : Chain → Chain) : (s.onChain n f).flt = s.flt := rfl
@[simp] theorem State.onChain_gb (s : State) (n : Nat) (f : Chain → Chain) : (s.onChain n f).gb = s.gb := rfl
@[simp] theorem State.onChain_cal (s : State) (n : Nat) (f : Chain → Chain) : (s.onChain n f).cal = s.cal := rfl
@[simp] theorem State.onChain_keep (s : State) (n : Nat) (f : Chain → Chain) : (s.onChain n f).keep = s.keep := rfl
@[simp] theorem State.onChain_bist (s : State) (n : Nat) (f : Chain → Chain) : (s.onChain n f).bist = s.bist := rfl

/-! ### onTile -/

@[simp] theorem State.onTile_pending (s : State) (n p : Nat) (f : Tile → Tile) : (s.onTile n p f).pending = s.pending := rfl
@[simp] theorem State.onTile_time (s : State) (n p : Nat) (f : Tile → Tile) : (s.onTile n p f).time = s.time := rfl
@[simp] theorem State.onTile_sent (s : State) (n p : Nat) (f : Tile → Tile) : (s.onTile n p f).sent = s.sent := rfl
@[simp] theorem State.onTile_free (s : State) (n p : Nat) (f : Tile → Tile) : (s.onTile n p f).free = s.free := rfl
@[simp] theorem State.onTile_power (s : State) (n p : Nat) (f : Tile → Tile) : (s.onTile n p f).power = s.power := rfl
@[simp] theorem State.onTile_params (s : State) (n p : Nat) (f : Tile → Tile) : (s.onTile n p f).params = s.params := rfl
@[simp] theorem State.onTile_mem (s : State) (n p : Nat) (f : Tile → Tile) : (s.onTile n p f).mem = s.mem := rfl
@[simp] theorem State.onTile_layer (s : State) (n p : Nat) (f : Tile → Tile) : (s.onTile n p f).layer = s.layer := rfl
@[simp] theorem State.onTile_dose (s : State) (n p : Nat) (f : Tile → Tile) : (s.onTile n p f).dose = s.dose := rfl
@[simp] theorem State.onTile_emon (s : State) (n p : Nat) (f : Tile → Tile) : (s.onTile n p f).emon = s.emon := rfl
@[simp] theorem State.onTile_link (s : State) (n p : Nat) (f : Tile → Tile) : (s.onTile n p f).link = { s.link with chains := s.link.chains.modify n fun c => { c with tiles := c.tiles.modify p f } } := rfl
@[simp] theorem State.onTile_host (s : State) (n p : Nat) (f : Tile → Tile) : (s.onTile n p f).host = s.host := rfl
@[simp] theorem State.onTile_dma (s : State) (n p : Nat) (f : Tile → Tile) : (s.onTile n p f).dma = s.dma := rfl
@[simp] theorem State.onTile_data (s : State) (n p : Nat) (f : Tile → Tile) : (s.onTile n p f).data = s.data := rfl
@[simp] theorem State.onTile_servo (s : State) (n p : Nat) (f : Tile → Tile) : (s.onTile n p f).servo = s.servo := rfl
@[simp] theorem State.onTile_drv (s : State) (n p : Nat) (f : Tile → Tile) : (s.onTile n p f).drv = s.drv := rfl
@[simp] theorem State.onTile_axes (s : State) (n p : Nat) (f : Tile → Tile) : (s.onTile n p f).axes = s.axes := rfl
@[simp] theorem State.onTile_units (s : State) (n p : Nat) (f : Tile → Tile) : (s.onTile n p f).units = s.units := rfl
@[simp] theorem State.onTile_stepAt (s : State) (n p : Nat) (f : Tile → Tile) : (s.onTile n p f).stepAt = s.stepAt := rfl
@[simp] theorem State.onTile_house (s : State) (n p : Nat) (f : Tile → Tile) : (s.onTile n p f).house = s.house := rfl
@[simp] theorem State.onTile_therm (s : State) (n p : Nat) (f : Tile → Tile) : (s.onTile n p f).therm = s.therm := rfl
@[simp] theorem State.onTile_pwr (s : State) (n p : Nat) (f : Tile → Tile) : (s.onTile n p f).pwr = s.pwr := rfl
@[simp] theorem State.onTile_stage (s : State) (n p : Nat) (f : Tile → Tile) : (s.onTile n p f).stage = s.stage := rfl
@[simp] theorem State.onTile_clk (s : State) (n p : Nat) (f : Tile → Tile) : (s.onTile n p f).clk = s.clk := rfl
@[simp] theorem State.onTile_flt (s : State) (n p : Nat) (f : Tile → Tile) : (s.onTile n p f).flt = s.flt := rfl
@[simp] theorem State.onTile_gb (s : State) (n p : Nat) (f : Tile → Tile) : (s.onTile n p f).gb = s.gb := rfl
@[simp] theorem State.onTile_cal (s : State) (n p : Nat) (f : Tile → Tile) : (s.onTile n p f).cal = s.cal := rfl
@[simp] theorem State.onTile_keep (s : State) (n p : Nat) (f : Tile → Tile) : (s.onTile n p f).keep = s.keep := rfl
@[simp] theorem State.onTile_bist (s : State) (n p : Nat) (f : Tile → Tile) : (s.onTile n p f).bist = s.bist := rfl

/-! ### onRail -/

@[simp] theorem State.onRail_pending (s : State) (k : Nat) (f : Rail → Rail) : (s.onRail k f).pending = s.pending := rfl
@[simp] theorem State.onRail_time (s : State) (k : Nat) (f : Rail → Rail) : (s.onRail k f).time = s.time := rfl
@[simp] theorem State.onRail_sent (s : State) (k : Nat) (f : Rail → Rail) : (s.onRail k f).sent = s.sent := rfl
@[simp] theorem State.onRail_free (s : State) (k : Nat) (f : Rail → Rail) : (s.onRail k f).free = s.free := rfl
@[simp] theorem State.onRail_power (s : State) (k : Nat) (f : Rail → Rail) : (s.onRail k f).power = s.power := rfl
@[simp] theorem State.onRail_params (s : State) (k : Nat) (f : Rail → Rail) : (s.onRail k f).params = s.params := rfl
@[simp] theorem State.onRail_mem (s : State) (k : Nat) (f : Rail → Rail) : (s.onRail k f).mem = s.mem := rfl
@[simp] theorem State.onRail_layer (s : State) (k : Nat) (f : Rail → Rail) : (s.onRail k f).layer = s.layer := rfl
@[simp] theorem State.onRail_dose (s : State) (k : Nat) (f : Rail → Rail) : (s.onRail k f).dose = s.dose := rfl
@[simp] theorem State.onRail_emon (s : State) (k : Nat) (f : Rail → Rail) : (s.onRail k f).emon = s.emon := rfl
@[simp] theorem State.onRail_link (s : State) (k : Nat) (f : Rail → Rail) : (s.onRail k f).link = s.link := rfl
@[simp] theorem State.onRail_host (s : State) (k : Nat) (f : Rail → Rail) : (s.onRail k f).host = s.host := rfl
@[simp] theorem State.onRail_dma (s : State) (k : Nat) (f : Rail → Rail) : (s.onRail k f).dma = s.dma := rfl
@[simp] theorem State.onRail_data (s : State) (k : Nat) (f : Rail → Rail) : (s.onRail k f).data = s.data := rfl
@[simp] theorem State.onRail_servo (s : State) (k : Nat) (f : Rail → Rail) : (s.onRail k f).servo = s.servo := rfl
@[simp] theorem State.onRail_drv (s : State) (k : Nat) (f : Rail → Rail) : (s.onRail k f).drv = s.drv := rfl
@[simp] theorem State.onRail_axes (s : State) (k : Nat) (f : Rail → Rail) : (s.onRail k f).axes = s.axes := rfl
@[simp] theorem State.onRail_units (s : State) (k : Nat) (f : Rail → Rail) : (s.onRail k f).units = s.units := rfl
@[simp] theorem State.onRail_stepAt (s : State) (k : Nat) (f : Rail → Rail) : (s.onRail k f).stepAt = s.stepAt := rfl
@[simp] theorem State.onRail_house (s : State) (k : Nat) (f : Rail → Rail) : (s.onRail k f).house = s.house := rfl
@[simp] theorem State.onRail_therm (s : State) (k : Nat) (f : Rail → Rail) : (s.onRail k f).therm = s.therm := rfl
@[simp] theorem State.onRail_pwr (s : State) (k : Nat) (f : Rail → Rail) : (s.onRail k f).pwr = { s.pwr with rails := s.pwr.rails.modify k f } := rfl
@[simp] theorem State.onRail_stage (s : State) (k : Nat) (f : Rail → Rail) : (s.onRail k f).stage = s.stage := rfl
@[simp] theorem State.onRail_clk (s : State) (k : Nat) (f : Rail → Rail) : (s.onRail k f).clk = s.clk := rfl
@[simp] theorem State.onRail_flt (s : State) (k : Nat) (f : Rail → Rail) : (s.onRail k f).flt = s.flt := rfl
@[simp] theorem State.onRail_gb (s : State) (k : Nat) (f : Rail → Rail) : (s.onRail k f).gb = s.gb := rfl
@[simp] theorem State.onRail_cal (s : State) (k : Nat) (f : Rail → Rail) : (s.onRail k f).cal = s.cal := rfl
@[simp] theorem State.onRail_keep (s : State) (k : Nat) (f : Rail → Rail) : (s.onRail k f).keep = s.keep := rfl
@[simp] theorem State.onRail_bist (s : State) (k : Nat) (f : Rail → Rail) : (s.onRail k f).bist = s.bist := rfl

/-! ### onGroup -/

@[simp] theorem State.onGroup_pending (s : State) (key : Nat) (f : Group → Group) : (s.onGroup key f).pending = s.pending := rfl
@[simp] theorem State.onGroup_time (s : State) (key : Nat) (f : Group → Group) : (s.onGroup key f).time = s.time := rfl
@[simp] theorem State.onGroup_sent (s : State) (key : Nat) (f : Group → Group) : (s.onGroup key f).sent = s.sent := rfl
@[simp] theorem State.onGroup_free (s : State) (key : Nat) (f : Group → Group) : (s.onGroup key f).free = s.free := rfl
@[simp] theorem State.onGroup_power (s : State) (key : Nat) (f : Group → Group) : (s.onGroup key f).power = s.power := rfl
@[simp] theorem State.onGroup_params (s : State) (key : Nat) (f : Group → Group) : (s.onGroup key f).params = s.params := rfl
@[simp] theorem State.onGroup_mem (s : State) (key : Nat) (f : Group → Group) : (s.onGroup key f).mem = s.mem := rfl
@[simp] theorem State.onGroup_layer (s : State) (key : Nat) (f : Group → Group) : (s.onGroup key f).layer = s.layer := rfl
@[simp] theorem State.onGroup_dose (s : State) (key : Nat) (f : Group → Group) : (s.onGroup key f).dose = s.dose := rfl
@[simp] theorem State.onGroup_emon (s : State) (key : Nat) (f : Group → Group) : (s.onGroup key f).emon = { s.emon with groups := AMap.put s.emon.groups key (f (s.group key)) } := rfl
@[simp] theorem State.onGroup_link (s : State) (key : Nat) (f : Group → Group) : (s.onGroup key f).link = s.link := rfl
@[simp] theorem State.onGroup_host (s : State) (key : Nat) (f : Group → Group) : (s.onGroup key f).host = s.host := rfl
@[simp] theorem State.onGroup_dma (s : State) (key : Nat) (f : Group → Group) : (s.onGroup key f).dma = s.dma := rfl
@[simp] theorem State.onGroup_data (s : State) (key : Nat) (f : Group → Group) : (s.onGroup key f).data = s.data := rfl
@[simp] theorem State.onGroup_servo (s : State) (key : Nat) (f : Group → Group) : (s.onGroup key f).servo = s.servo := rfl
@[simp] theorem State.onGroup_drv (s : State) (key : Nat) (f : Group → Group) : (s.onGroup key f).drv = s.drv := rfl
@[simp] theorem State.onGroup_axes (s : State) (key : Nat) (f : Group → Group) : (s.onGroup key f).axes = s.axes := rfl
@[simp] theorem State.onGroup_units (s : State) (key : Nat) (f : Group → Group) : (s.onGroup key f).units = s.units := rfl
@[simp] theorem State.onGroup_stepAt (s : State) (key : Nat) (f : Group → Group) : (s.onGroup key f).stepAt = s.stepAt := rfl
@[simp] theorem State.onGroup_house (s : State) (key : Nat) (f : Group → Group) : (s.onGroup key f).house = s.house := rfl
@[simp] theorem State.onGroup_therm (s : State) (key : Nat) (f : Group → Group) : (s.onGroup key f).therm = s.therm := rfl
@[simp] theorem State.onGroup_pwr (s : State) (key : Nat) (f : Group → Group) : (s.onGroup key f).pwr = s.pwr := rfl
@[simp] theorem State.onGroup_stage (s : State) (key : Nat) (f : Group → Group) : (s.onGroup key f).stage = s.stage := rfl
@[simp] theorem State.onGroup_clk (s : State) (key : Nat) (f : Group → Group) : (s.onGroup key f).clk = s.clk := rfl
@[simp] theorem State.onGroup_flt (s : State) (key : Nat) (f : Group → Group) : (s.onGroup key f).flt = s.flt := rfl
@[simp] theorem State.onGroup_gb (s : State) (key : Nat) (f : Group → Group) : (s.onGroup key f).gb = s.gb := rfl
@[simp] theorem State.onGroup_cal (s : State) (key : Nat) (f : Group → Group) : (s.onGroup key f).cal = s.cal := rfl
@[simp] theorem State.onGroup_keep (s : State) (key : Nat) (f : Group → Group) : (s.onGroup key f).keep = s.keep := rfl
@[simp] theorem State.onGroup_bist (s : State) (key : Nat) (f : Group → Group) : (s.onGroup key f).bist = s.bist := rfl

/-! ### flagGroup -/

@[simp] theorem State.flagGroup_pending (s : State) (key : Nat) (bits : Byte) : (s.flagGroup key bits).pending = s.pending := rfl
@[simp] theorem State.flagGroup_time (s : State) (key : Nat) (bits : Byte) : (s.flagGroup key bits).time = s.time := rfl
@[simp] theorem State.flagGroup_sent (s : State) (key : Nat) (bits : Byte) : (s.flagGroup key bits).sent = s.sent := rfl
@[simp] theorem State.flagGroup_free (s : State) (key : Nat) (bits : Byte) : (s.flagGroup key bits).free = s.free := rfl
@[simp] theorem State.flagGroup_power (s : State) (key : Nat) (bits : Byte) : (s.flagGroup key bits).power = s.power := rfl
@[simp] theorem State.flagGroup_params (s : State) (key : Nat) (bits : Byte) : (s.flagGroup key bits).params = s.params := rfl
@[simp] theorem State.flagGroup_mem (s : State) (key : Nat) (bits : Byte) : (s.flagGroup key bits).mem = s.mem := rfl
@[simp] theorem State.flagGroup_layer (s : State) (key : Nat) (bits : Byte) : (s.flagGroup key bits).layer = s.layer := rfl
@[simp] theorem State.flagGroup_dose (s : State) (key : Nat) (bits : Byte) : (s.flagGroup key bits).dose = s.dose := rfl
@[simp] theorem State.flagGroup_emon (s : State) (key : Nat) (bits : Byte) : (s.flagGroup key bits).emon = { s.emon with groups := AMap.put s.emon.groups key ((fun g => { g with flags := g.flags ||| bits }) (s.group key)) } := rfl
@[simp] theorem State.flagGroup_link (s : State) (key : Nat) (bits : Byte) : (s.flagGroup key bits).link = s.link := rfl
@[simp] theorem State.flagGroup_host (s : State) (key : Nat) (bits : Byte) : (s.flagGroup key bits).host = s.host := rfl
@[simp] theorem State.flagGroup_dma (s : State) (key : Nat) (bits : Byte) : (s.flagGroup key bits).dma = s.dma := rfl
@[simp] theorem State.flagGroup_data (s : State) (key : Nat) (bits : Byte) : (s.flagGroup key bits).data = s.data := rfl
@[simp] theorem State.flagGroup_servo (s : State) (key : Nat) (bits : Byte) : (s.flagGroup key bits).servo = s.servo := rfl
@[simp] theorem State.flagGroup_drv (s : State) (key : Nat) (bits : Byte) : (s.flagGroup key bits).drv = s.drv := rfl
@[simp] theorem State.flagGroup_axes (s : State) (key : Nat) (bits : Byte) : (s.flagGroup key bits).axes = s.axes := rfl
@[simp] theorem State.flagGroup_units (s : State) (key : Nat) (bits : Byte) : (s.flagGroup key bits).units = s.units := rfl
@[simp] theorem State.flagGroup_stepAt (s : State) (key : Nat) (bits : Byte) : (s.flagGroup key bits).stepAt = s.stepAt := rfl
@[simp] theorem State.flagGroup_house (s : State) (key : Nat) (bits : Byte) : (s.flagGroup key bits).house = s.house := rfl
@[simp] theorem State.flagGroup_therm (s : State) (key : Nat) (bits : Byte) : (s.flagGroup key bits).therm = s.therm := rfl
@[simp] theorem State.flagGroup_pwr (s : State) (key : Nat) (bits : Byte) : (s.flagGroup key bits).pwr = s.pwr := rfl
@[simp] theorem State.flagGroup_stage (s : State) (key : Nat) (bits : Byte) : (s.flagGroup key bits).stage = s.stage := rfl
@[simp] theorem State.flagGroup_clk (s : State) (key : Nat) (bits : Byte) : (s.flagGroup key bits).clk = s.clk := rfl
@[simp] theorem State.flagGroup_flt (s : State) (key : Nat) (bits : Byte) : (s.flagGroup key bits).flt = s.flt := rfl
@[simp] theorem State.flagGroup_gb (s : State) (key : Nat) (bits : Byte) : (s.flagGroup key bits).gb = s.gb := rfl
@[simp] theorem State.flagGroup_cal (s : State) (key : Nat) (bits : Byte) : (s.flagGroup key bits).cal = s.cal := rfl
@[simp] theorem State.flagGroup_keep (s : State) (key : Nat) (bits : Byte) : (s.flagGroup key bits).keep = s.keep := rfl
@[simp] theorem State.flagGroup_bist (s : State) (key : Nat) (bits : Byte) : (s.flagGroup key bits).bist = s.bist := rfl

/-! ### addDeficit -/

@[simp] theorem State.addDeficit_pending (s : State) (k c u : Nat) : (s.addDeficit k c u).pending = s.pending := rfl
@[simp] theorem State.addDeficit_time (s : State) (k c u : Nat) : (s.addDeficit k c u).time = s.time := rfl
@[simp] theorem State.addDeficit_sent (s : State) (k c u : Nat) : (s.addDeficit k c u).sent = s.sent := rfl
@[simp] theorem State.addDeficit_free (s : State) (k c u : Nat) : (s.addDeficit k c u).free = s.free := rfl
@[simp] theorem State.addDeficit_power (s : State) (k c u : Nat) : (s.addDeficit k c u).power = s.power := rfl
@[simp] theorem State.addDeficit_params (s : State) (k c u : Nat) : (s.addDeficit k c u).params = s.params := rfl
@[simp] theorem State.addDeficit_mem (s : State) (k c u : Nat) : (s.addDeficit k c u).mem = s.mem := rfl
@[simp] theorem State.addDeficit_layer (s : State) (k c u : Nat) : (s.addDeficit k c u).layer = s.layer := rfl
@[simp] theorem State.addDeficit_dose (s : State) (k c u : Nat) : (s.addDeficit k c u).dose = s.dose := rfl
@[simp] theorem State.addDeficit_emon (s : State) (k c u : Nat) : (s.addDeficit k c u).emon = { s.emon with groups := AMap.put s.emon.groups (groupKey s k c) ((fun g => { g with deficitC := g.deficitC + toC u }) (s.group (groupKey s k c))) } := rfl
@[simp] theorem State.addDeficit_link (s : State) (k c u : Nat) : (s.addDeficit k c u).link = s.link := rfl
@[simp] theorem State.addDeficit_host (s : State) (k c u : Nat) : (s.addDeficit k c u).host = s.host := rfl
@[simp] theorem State.addDeficit_dma (s : State) (k c u : Nat) : (s.addDeficit k c u).dma = s.dma := rfl
@[simp] theorem State.addDeficit_data (s : State) (k c u : Nat) : (s.addDeficit k c u).data = s.data := rfl
@[simp] theorem State.addDeficit_servo (s : State) (k c u : Nat) : (s.addDeficit k c u).servo = s.servo := rfl
@[simp] theorem State.addDeficit_drv (s : State) (k c u : Nat) : (s.addDeficit k c u).drv = s.drv := rfl
@[simp] theorem State.addDeficit_axes (s : State) (k c u : Nat) : (s.addDeficit k c u).axes = s.axes := rfl
@[simp] theorem State.addDeficit_units (s : State) (k c u : Nat) : (s.addDeficit k c u).units = s.units := rfl
@[simp] theorem State.addDeficit_stepAt (s : State) (k c u : Nat) : (s.addDeficit k c u).stepAt = s.stepAt := rfl
@[simp] theorem State.addDeficit_house (s : State) (k c u : Nat) : (s.addDeficit k c u).house = s.house := rfl
@[simp] theorem State.addDeficit_therm (s : State) (k c u : Nat) : (s.addDeficit k c u).therm = s.therm := rfl
@[simp] theorem State.addDeficit_pwr (s : State) (k c u : Nat) : (s.addDeficit k c u).pwr = s.pwr := rfl
@[simp] theorem State.addDeficit_stage (s : State) (k c u : Nat) : (s.addDeficit k c u).stage = s.stage := rfl
@[simp] theorem State.addDeficit_clk (s : State) (k c u : Nat) : (s.addDeficit k c u).clk = s.clk := rfl
@[simp] theorem State.addDeficit_flt (s : State) (k c u : Nat) : (s.addDeficit k c u).flt = s.flt := rfl
@[simp] theorem State.addDeficit_gb (s : State) (k c u : Nat) : (s.addDeficit k c u).gb = s.gb := rfl
@[simp] theorem State.addDeficit_cal (s : State) (k c u : Nat) : (s.addDeficit k c u).cal = s.cal := rfl
@[simp] theorem State.addDeficit_keep (s : State) (k c u : Nat) : (s.addDeficit k c u).keep = s.keep := rfl
@[simp] theorem State.addDeficit_bist (s : State) (k c u : Nat) : (s.addDeficit k c u).bist = s.bist := rfl

/-! ### onCap -/

@[simp] theorem State.onCap_pending (s : State) (f : Capture → Capture) : (s.onCap f).pending = s.pending := rfl
@[simp] theorem State.onCap_time (s : State) (f : Capture → Capture) : (s.onCap f).time = s.time := rfl
@[simp] theorem State.onCap_sent (s : State) (f : Capture → Capture) : (s.onCap f).sent = s.sent := rfl
@[simp] theorem State.onCap_free (s : State) (f : Capture → Capture) : (s.onCap f).free = s.free := rfl
@[simp] theorem State.onCap_power (s : State) (f : Capture → Capture) : (s.onCap f).power = s.power := rfl
@[simp] theorem State.onCap_params (s : State) (f : Capture → Capture) : (s.onCap f).params = s.params := rfl
@[simp] theorem State.onCap_mem (s : State) (f : Capture → Capture) : (s.onCap f).mem = s.mem := rfl
@[simp] theorem State.onCap_layer (s : State) (f : Capture → Capture) : (s.onCap f).layer = s.layer := rfl
@[simp] theorem State.onCap_dose (s : State) (f : Capture → Capture) : (s.onCap f).dose = s.dose := rfl
@[simp] theorem State.onCap_emon (s : State) (f : Capture → Capture) : (s.onCap f).emon = { s.emon with cap := f s.emon.cap } := rfl
@[simp] theorem State.onCap_link (s : State) (f : Capture → Capture) : (s.onCap f).link = s.link := rfl
@[simp] theorem State.onCap_host (s : State) (f : Capture → Capture) : (s.onCap f).host = s.host := rfl
@[simp] theorem State.onCap_dma (s : State) (f : Capture → Capture) : (s.onCap f).dma = s.dma := rfl
@[simp] theorem State.onCap_data (s : State) (f : Capture → Capture) : (s.onCap f).data = s.data := rfl
@[simp] theorem State.onCap_servo (s : State) (f : Capture → Capture) : (s.onCap f).servo = s.servo := rfl
@[simp] theorem State.onCap_drv (s : State) (f : Capture → Capture) : (s.onCap f).drv = s.drv := rfl
@[simp] theorem State.onCap_axes (s : State) (f : Capture → Capture) : (s.onCap f).axes = s.axes := rfl
@[simp] theorem State.onCap_units (s : State) (f : Capture → Capture) : (s.onCap f).units = s.units := rfl
@[simp] theorem State.onCap_stepAt (s : State) (f : Capture → Capture) : (s.onCap f).stepAt = s.stepAt := rfl
@[simp] theorem State.onCap_house (s : State) (f : Capture → Capture) : (s.onCap f).house = s.house := rfl
@[simp] theorem State.onCap_therm (s : State) (f : Capture → Capture) : (s.onCap f).therm = s.therm := rfl
@[simp] theorem State.onCap_pwr (s : State) (f : Capture → Capture) : (s.onCap f).pwr = s.pwr := rfl
@[simp] theorem State.onCap_stage (s : State) (f : Capture → Capture) : (s.onCap f).stage = s.stage := rfl
@[simp] theorem State.onCap_clk (s : State) (f : Capture → Capture) : (s.onCap f).clk = s.clk := rfl
@[simp] theorem State.onCap_flt (s : State) (f : Capture → Capture) : (s.onCap f).flt = s.flt := rfl
@[simp] theorem State.onCap_gb (s : State) (f : Capture → Capture) : (s.onCap f).gb = s.gb := rfl
@[simp] theorem State.onCap_cal (s : State) (f : Capture → Capture) : (s.onCap f).cal = s.cal := rfl
@[simp] theorem State.onCap_keep (s : State) (f : Capture → Capture) : (s.onCap f).keep = s.keep := rfl
@[simp] theorem State.onCap_bist (s : State) (f : Capture → Capture) : (s.onCap f).bist = s.bist := rfl

/-! ### onQueue -/

@[simp] theorem State.onQueue_pending (s : State) (q : Nat) (f : InfQueue → InfQueue) : (s.onQueue q f).pending = s.pending := rfl
@[simp] theorem State.onQueue_time (s : State) (q : Nat) (f : InfQueue → InfQueue) : (s.onQueue q f).time = s.time := rfl
@[simp] theorem State.onQueue_sent (s : State) (q : Nat) (f : InfQueue → InfQueue) : (s.onQueue q f).sent = s.sent := rfl
@[simp] theorem State.onQueue_free (s : State) (q : Nat) (f : InfQueue → InfQueue) : (s.onQueue q f).free = s.free := rfl
@[simp] theorem State.onQueue_power (s : State) (q : Nat) (f : InfQueue → InfQueue) : (s.onQueue q f).power = s.power := rfl
@[simp] theorem State.onQueue_params (s : State) (q : Nat) (f : InfQueue → InfQueue) : (s.onQueue q f).params = s.params := rfl
@[simp] theorem State.onQueue_mem (s : State) (q : Nat) (f : InfQueue → InfQueue) : (s.onQueue q f).mem = s.mem := rfl
@[simp] theorem State.onQueue_layer (s : State) (q : Nat) (f : InfQueue → InfQueue) : (s.onQueue q f).layer = s.layer := rfl
@[simp] theorem State.onQueue_dose (s : State) (q : Nat) (f : InfQueue → InfQueue) : (s.onQueue q f).dose = s.dose := rfl
@[simp] theorem State.onQueue_emon (s : State) (q : Nat) (f : InfQueue → InfQueue) : (s.onQueue q f).emon = s.emon := rfl
@[simp] theorem State.onQueue_link (s : State) (q : Nat) (f : InfQueue → InfQueue) : (s.onQueue q f).link = s.link := rfl
@[simp] theorem State.onQueue_host (s : State) (q : Nat) (f : InfQueue → InfQueue) : (s.onQueue q f).host = s.host := rfl
@[simp] theorem State.onQueue_dma (s : State) (q : Nat) (f : InfQueue → InfQueue) : (s.onQueue q f).dma = s.dma := rfl
@[simp] theorem State.onQueue_data (s : State) (q : Nat) (f : InfQueue → InfQueue) : (s.onQueue q f).data = { s.data with queues := s.data.queues.modify q f } := rfl
@[simp] theorem State.onQueue_servo (s : State) (q : Nat) (f : InfQueue → InfQueue) : (s.onQueue q f).servo = s.servo := rfl
@[simp] theorem State.onQueue_drv (s : State) (q : Nat) (f : InfQueue → InfQueue) : (s.onQueue q f).drv = s.drv := rfl
@[simp] theorem State.onQueue_axes (s : State) (q : Nat) (f : InfQueue → InfQueue) : (s.onQueue q f).axes = s.axes := rfl
@[simp] theorem State.onQueue_units (s : State) (q : Nat) (f : InfQueue → InfQueue) : (s.onQueue q f).units = s.units := rfl
@[simp] theorem State.onQueue_stepAt (s : State) (q : Nat) (f : InfQueue → InfQueue) : (s.onQueue q f).stepAt = s.stepAt := rfl
@[simp] theorem State.onQueue_house (s : State) (q : Nat) (f : InfQueue → InfQueue) : (s.onQueue q f).house = s.house := rfl
@[simp] theorem State.onQueue_therm (s : State) (q : Nat) (f : InfQueue → InfQueue) : (s.onQueue q f).therm = s.therm := rfl
@[simp] theorem State.onQueue_pwr (s : State) (q : Nat) (f : InfQueue → InfQueue) : (s.onQueue q f).pwr = s.pwr := rfl
@[simp] theorem State.onQueue_stage (s : State) (q : Nat) (f : InfQueue → InfQueue) : (s.onQueue q f).stage = s.stage := rfl
@[simp] theorem State.onQueue_clk (s : State) (q : Nat) (f : InfQueue → InfQueue) : (s.onQueue q f).clk = s.clk := rfl
@[simp] theorem State.onQueue_flt (s : State) (q : Nat) (f : InfQueue → InfQueue) : (s.onQueue q f).flt = s.flt := rfl
@[simp] theorem State.onQueue_gb (s : State) (q : Nat) (f : InfQueue → InfQueue) : (s.onQueue q f).gb = s.gb := rfl
@[simp] theorem State.onQueue_cal (s : State) (q : Nat) (f : InfQueue → InfQueue) : (s.onQueue q f).cal = s.cal := rfl
@[simp] theorem State.onQueue_keep (s : State) (q : Nat) (f : InfQueue → InfQueue) : (s.onQueue q f).keep = s.keep := rfl
@[simp] theorem State.onQueue_bist (s : State) (q : Nat) (f : InfQueue → InfQueue) : (s.onQueue q f).bist = s.bist := rfl

/-! ### onDma -/

@[simp] theorem State.onDma_pending (s : State) (k : Nat) (f : DmaChan → DmaChan) : (s.onDma k f).pending = s.pending := rfl
@[simp] theorem State.onDma_time (s : State) (k : Nat) (f : DmaChan → DmaChan) : (s.onDma k f).time = s.time := rfl
@[simp] theorem State.onDma_sent (s : State) (k : Nat) (f : DmaChan → DmaChan) : (s.onDma k f).sent = s.sent := rfl
@[simp] theorem State.onDma_free (s : State) (k : Nat) (f : DmaChan → DmaChan) : (s.onDma k f).free = s.free := rfl
@[simp] theorem State.onDma_power (s : State) (k : Nat) (f : DmaChan → DmaChan) : (s.onDma k f).power = s.power := rfl
@[simp] theorem State.onDma_params (s : State) (k : Nat) (f : DmaChan → DmaChan) : (s.onDma k f).params = s.params := rfl
@[simp] theorem State.onDma_mem (s : State) (k : Nat) (f : DmaChan → DmaChan) : (s.onDma k f).mem = s.mem := rfl
@[simp] theorem State.onDma_layer (s : State) (k : Nat) (f : DmaChan → DmaChan) : (s.onDma k f).layer = s.layer := rfl
@[simp] theorem State.onDma_dose (s : State) (k : Nat) (f : DmaChan → DmaChan) : (s.onDma k f).dose = s.dose := rfl
@[simp] theorem State.onDma_emon (s : State) (k : Nat) (f : DmaChan → DmaChan) : (s.onDma k f).emon = s.emon := rfl
@[simp] theorem State.onDma_link (s : State) (k : Nat) (f : DmaChan → DmaChan) : (s.onDma k f).link = s.link := rfl
@[simp] theorem State.onDma_host (s : State) (k : Nat) (f : DmaChan → DmaChan) : (s.onDma k f).host = s.host := rfl
@[simp] theorem State.onDma_dma (s : State) (k : Nat) (f : DmaChan → DmaChan) : (s.onDma k f).dma = s.dma.modify k f := rfl
@[simp] theorem State.onDma_data (s : State) (k : Nat) (f : DmaChan → DmaChan) : (s.onDma k f).data = s.data := rfl
@[simp] theorem State.onDma_servo (s : State) (k : Nat) (f : DmaChan → DmaChan) : (s.onDma k f).servo = s.servo := rfl
@[simp] theorem State.onDma_drv (s : State) (k : Nat) (f : DmaChan → DmaChan) : (s.onDma k f).drv = s.drv := rfl
@[simp] theorem State.onDma_axes (s : State) (k : Nat) (f : DmaChan → DmaChan) : (s.onDma k f).axes = s.axes := rfl
@[simp] theorem State.onDma_units (s : State) (k : Nat) (f : DmaChan → DmaChan) : (s.onDma k f).units = s.units := rfl
@[simp] theorem State.onDma_stepAt (s : State) (k : Nat) (f : DmaChan → DmaChan) : (s.onDma k f).stepAt = s.stepAt := rfl
@[simp] theorem State.onDma_house (s : State) (k : Nat) (f : DmaChan → DmaChan) : (s.onDma k f).house = s.house := rfl
@[simp] theorem State.onDma_therm (s : State) (k : Nat) (f : DmaChan → DmaChan) : (s.onDma k f).therm = s.therm := rfl
@[simp] theorem State.onDma_pwr (s : State) (k : Nat) (f : DmaChan → DmaChan) : (s.onDma k f).pwr = s.pwr := rfl
@[simp] theorem State.onDma_stage (s : State) (k : Nat) (f : DmaChan → DmaChan) : (s.onDma k f).stage = s.stage := rfl
@[simp] theorem State.onDma_clk (s : State) (k : Nat) (f : DmaChan → DmaChan) : (s.onDma k f).clk = s.clk := rfl
@[simp] theorem State.onDma_flt (s : State) (k : Nat) (f : DmaChan → DmaChan) : (s.onDma k f).flt = s.flt := rfl
@[simp] theorem State.onDma_gb (s : State) (k : Nat) (f : DmaChan → DmaChan) : (s.onDma k f).gb = s.gb := rfl
@[simp] theorem State.onDma_cal (s : State) (k : Nat) (f : DmaChan → DmaChan) : (s.onDma k f).cal = s.cal := rfl
@[simp] theorem State.onDma_keep (s : State) (k : Nat) (f : DmaChan → DmaChan) : (s.onDma k f).keep = s.keep := rfl
@[simp] theorem State.onDma_bist (s : State) (k : Nat) (f : DmaChan → DmaChan) : (s.onDma k f).bist = s.bist := rfl

/-! ### onSlot -/

@[simp] theorem State.onSlot_pending (s : State) (n : Nat) (f : Slot → Slot) : (s.onSlot n f).pending = s.pending := rfl
@[simp] theorem State.onSlot_time (s : State) (n : Nat) (f : Slot → Slot) : (s.onSlot n f).time = s.time := rfl
@[simp] theorem State.onSlot_sent (s : State) (n : Nat) (f : Slot → Slot) : (s.onSlot n f).sent = s.sent := rfl
@[simp] theorem State.onSlot_free (s : State) (n : Nat) (f : Slot → Slot) : (s.onSlot n f).free = s.free := rfl
@[simp] theorem State.onSlot_power (s : State) (n : Nat) (f : Slot → Slot) : (s.onSlot n f).power = s.power := rfl
@[simp] theorem State.onSlot_params (s : State) (n : Nat) (f : Slot → Slot) : (s.onSlot n f).params = s.params := rfl
@[simp] theorem State.onSlot_mem (s : State) (n : Nat) (f : Slot → Slot) : (s.onSlot n f).mem = s.mem := rfl
@[simp] theorem State.onSlot_layer (s : State) (n : Nat) (f : Slot → Slot) : (s.onSlot n f).layer = s.layer := rfl
@[simp] theorem State.onSlot_dose (s : State) (n : Nat) (f : Slot → Slot) : (s.onSlot n f).dose = s.dose := rfl
@[simp] theorem State.onSlot_emon (s : State) (n : Nat) (f : Slot → Slot) : (s.onSlot n f).emon = s.emon := rfl
@[simp] theorem State.onSlot_link (s : State) (n : Nat) (f : Slot → Slot) : (s.onSlot n f).link = s.link := rfl
@[simp] theorem State.onSlot_host (s : State) (n : Nat) (f : Slot → Slot) : (s.onSlot n f).host = s.host := rfl
@[simp] theorem State.onSlot_dma (s : State) (n : Nat) (f : Slot → Slot) : (s.onSlot n f).dma = s.dma := rfl
@[simp] theorem State.onSlot_data (s : State) (n : Nat) (f : Slot → Slot) : (s.onSlot n f).data = s.data := rfl
@[simp] theorem State.onSlot_servo (s : State) (n : Nat) (f : Slot → Slot) : (s.onSlot n f).servo = { s.servo with slots := s.servo.slots.modify n f } := rfl
@[simp] theorem State.onSlot_drv (s : State) (n : Nat) (f : Slot → Slot) : (s.onSlot n f).drv = s.drv := rfl
@[simp] theorem State.onSlot_axes (s : State) (n : Nat) (f : Slot → Slot) : (s.onSlot n f).axes = s.axes := rfl
@[simp] theorem State.onSlot_units (s : State) (n : Nat) (f : Slot → Slot) : (s.onSlot n f).units = s.units := rfl
@[simp] theorem State.onSlot_stepAt (s : State) (n : Nat) (f : Slot → Slot) : (s.onSlot n f).stepAt = s.stepAt := rfl
@[simp] theorem State.onSlot_house (s : State) (n : Nat) (f : Slot → Slot) : (s.onSlot n f).house = s.house := rfl
@[simp] theorem State.onSlot_therm (s : State) (n : Nat) (f : Slot → Slot) : (s.onSlot n f).therm = s.therm := rfl
@[simp] theorem State.onSlot_pwr (s : State) (n : Nat) (f : Slot → Slot) : (s.onSlot n f).pwr = s.pwr := rfl
@[simp] theorem State.onSlot_stage (s : State) (n : Nat) (f : Slot → Slot) : (s.onSlot n f).stage = s.stage := rfl
@[simp] theorem State.onSlot_clk (s : State) (n : Nat) (f : Slot → Slot) : (s.onSlot n f).clk = s.clk := rfl
@[simp] theorem State.onSlot_flt (s : State) (n : Nat) (f : Slot → Slot) : (s.onSlot n f).flt = s.flt := rfl
@[simp] theorem State.onSlot_gb (s : State) (n : Nat) (f : Slot → Slot) : (s.onSlot n f).gb = s.gb := rfl
@[simp] theorem State.onSlot_cal (s : State) (n : Nat) (f : Slot → Slot) : (s.onSlot n f).cal = s.cal := rfl
@[simp] theorem State.onSlot_keep (s : State) (n : Nat) (f : Slot → Slot) : (s.onSlot n f).keep = s.keep := rfl
@[simp] theorem State.onSlot_bist (s : State) (n : Nat) (f : Slot → Slot) : (s.onSlot n f).bist = s.bist := rfl

/-! ### onEnc -/

@[simp] theorem State.onEnc_pending (s : State) (k : Nat) (f : Encoder → Encoder) : (s.onEnc k f).pending = s.pending := rfl
@[simp] theorem State.onEnc_time (s : State) (k : Nat) (f : Encoder → Encoder) : (s.onEnc k f).time = s.time := rfl
@[simp] theorem State.onEnc_sent (s : State) (k : Nat) (f : Encoder → Encoder) : (s.onEnc k f).sent = s.sent := rfl
@[simp] theorem State.onEnc_free (s : State) (k : Nat) (f : Encoder → Encoder) : (s.onEnc k f).free = s.free := rfl
@[simp] theorem State.onEnc_power (s : State) (k : Nat) (f : Encoder → Encoder) : (s.onEnc k f).power = s.power := rfl
@[simp] theorem State.onEnc_params (s : State) (k : Nat) (f : Encoder → Encoder) : (s.onEnc k f).params = s.params := rfl
@[simp] theorem State.onEnc_mem (s : State) (k : Nat) (f : Encoder → Encoder) : (s.onEnc k f).mem = s.mem := rfl
@[simp] theorem State.onEnc_layer (s : State) (k : Nat) (f : Encoder → Encoder) : (s.onEnc k f).layer = s.layer := rfl
@[simp] theorem State.onEnc_dose (s : State) (k : Nat) (f : Encoder → Encoder) : (s.onEnc k f).dose = s.dose := rfl
@[simp] theorem State.onEnc_emon (s : State) (k : Nat) (f : Encoder → Encoder) : (s.onEnc k f).emon = s.emon := rfl
@[simp] theorem State.onEnc_link (s : State) (k : Nat) (f : Encoder → Encoder) : (s.onEnc k f).link = s.link := rfl
@[simp] theorem State.onEnc_host (s : State) (k : Nat) (f : Encoder → Encoder) : (s.onEnc k f).host = s.host := rfl
@[simp] theorem State.onEnc_dma (s : State) (k : Nat) (f : Encoder → Encoder) : (s.onEnc k f).dma = s.dma := rfl
@[simp] theorem State.onEnc_data (s : State) (k : Nat) (f : Encoder → Encoder) : (s.onEnc k f).data = s.data := rfl
@[simp] theorem State.onEnc_servo (s : State) (k : Nat) (f : Encoder → Encoder) : (s.onEnc k f).servo = { s.servo with encs := s.servo.encs.modify k f } := rfl
@[simp] theorem State.onEnc_drv (s : State) (k : Nat) (f : Encoder → Encoder) : (s.onEnc k f).drv = s.drv := rfl
@[simp] theorem State.onEnc_axes (s : State) (k : Nat) (f : Encoder → Encoder) : (s.onEnc k f).axes = s.axes := rfl
@[simp] theorem State.onEnc_units (s : State) (k : Nat) (f : Encoder → Encoder) : (s.onEnc k f).units = s.units := rfl
@[simp] theorem State.onEnc_stepAt (s : State) (k : Nat) (f : Encoder → Encoder) : (s.onEnc k f).stepAt = s.stepAt := rfl
@[simp] theorem State.onEnc_house (s : State) (k : Nat) (f : Encoder → Encoder) : (s.onEnc k f).house = s.house := rfl
@[simp] theorem State.onEnc_therm (s : State) (k : Nat) (f : Encoder → Encoder) : (s.onEnc k f).therm = s.therm := rfl
@[simp] theorem State.onEnc_pwr (s : State) (k : Nat) (f : Encoder → Encoder) : (s.onEnc k f).pwr = s.pwr := rfl
@[simp] theorem State.onEnc_stage (s : State) (k : Nat) (f : Encoder → Encoder) : (s.onEnc k f).stage = s.stage := rfl
@[simp] theorem State.onEnc_clk (s : State) (k : Nat) (f : Encoder → Encoder) : (s.onEnc k f).clk = s.clk := rfl
@[simp] theorem State.onEnc_flt (s : State) (k : Nat) (f : Encoder → Encoder) : (s.onEnc k f).flt = s.flt := rfl
@[simp] theorem State.onEnc_gb (s : State) (k : Nat) (f : Encoder → Encoder) : (s.onEnc k f).gb = s.gb := rfl
@[simp] theorem State.onEnc_cal (s : State) (k : Nat) (f : Encoder → Encoder) : (s.onEnc k f).cal = s.cal := rfl
@[simp] theorem State.onEnc_keep (s : State) (k : Nat) (f : Encoder → Encoder) : (s.onEnc k f).keep = s.keep := rfl
@[simp] theorem State.onEnc_bist (s : State) (k : Nat) (f : Encoder → Encoder) : (s.onEnc k f).bist = s.bist := rfl

/-! ### onDrive -/

@[simp] theorem State.onDrive_pending (s : State) (k : Nat) (f : Drive → Drive) : (s.onDrive k f).pending = s.pending := rfl
@[simp] theorem State.onDrive_time (s : State) (k : Nat) (f : Drive → Drive) : (s.onDrive k f).time = s.time := rfl
@[simp] theorem State.onDrive_sent (s : State) (k : Nat) (f : Drive → Drive) : (s.onDrive k f).sent = s.sent := rfl
@[simp] theorem State.onDrive_free (s : State) (k : Nat) (f : Drive → Drive) : (s.onDrive k f).free = s.free := rfl
@[simp] theorem State.onDrive_power (s : State) (k : Nat) (f : Drive → Drive) : (s.onDrive k f).power = s.power := rfl
@[simp] theorem State.onDrive_params (s : State) (k : Nat) (f : Drive → Drive) : (s.onDrive k f).params = s.params := rfl
@[simp] theorem State.onDrive_mem (s : State) (k : Nat) (f : Drive → Drive) : (s.onDrive k f).mem = s.mem := rfl
@[simp] theorem State.onDrive_layer (s : State) (k : Nat) (f : Drive → Drive) : (s.onDrive k f).layer = s.layer := rfl
@[simp] theorem State.onDrive_dose (s : State) (k : Nat) (f : Drive → Drive) : (s.onDrive k f).dose = s.dose := rfl
@[simp] theorem State.onDrive_emon (s : State) (k : Nat) (f : Drive → Drive) : (s.onDrive k f).emon = s.emon := rfl
@[simp] theorem State.onDrive_link (s : State) (k : Nat) (f : Drive → Drive) : (s.onDrive k f).link = s.link := rfl
@[simp] theorem State.onDrive_host (s : State) (k : Nat) (f : Drive → Drive) : (s.onDrive k f).host = s.host := rfl
@[simp] theorem State.onDrive_dma (s : State) (k : Nat) (f : Drive → Drive) : (s.onDrive k f).dma = s.dma := rfl
@[simp] theorem State.onDrive_data (s : State) (k : Nat) (f : Drive → Drive) : (s.onDrive k f).data = s.data := rfl
@[simp] theorem State.onDrive_servo (s : State) (k : Nat) (f : Drive → Drive) : (s.onDrive k f).servo = s.servo := rfl
@[simp] theorem State.onDrive_drv (s : State) (k : Nat) (f : Drive → Drive) : (s.onDrive k f).drv = s.drv.modify k f := rfl
@[simp] theorem State.onDrive_axes (s : State) (k : Nat) (f : Drive → Drive) : (s.onDrive k f).axes = s.axes := rfl
@[simp] theorem State.onDrive_units (s : State) (k : Nat) (f : Drive → Drive) : (s.onDrive k f).units = s.units := rfl
@[simp] theorem State.onDrive_stepAt (s : State) (k : Nat) (f : Drive → Drive) : (s.onDrive k f).stepAt = s.stepAt := rfl
@[simp] theorem State.onDrive_house (s : State) (k : Nat) (f : Drive → Drive) : (s.onDrive k f).house = s.house := rfl
@[simp] theorem State.onDrive_therm (s : State) (k : Nat) (f : Drive → Drive) : (s.onDrive k f).therm = s.therm := rfl
@[simp] theorem State.onDrive_pwr (s : State) (k : Nat) (f : Drive → Drive) : (s.onDrive k f).pwr = s.pwr := rfl
@[simp] theorem State.onDrive_stage (s : State) (k : Nat) (f : Drive → Drive) : (s.onDrive k f).stage = s.stage := rfl
@[simp] theorem State.onDrive_clk (s : State) (k : Nat) (f : Drive → Drive) : (s.onDrive k f).clk = s.clk := rfl
@[simp] theorem State.onDrive_flt (s : State) (k : Nat) (f : Drive → Drive) : (s.onDrive k f).flt = s.flt := rfl
@[simp] theorem State.onDrive_gb (s : State) (k : Nat) (f : Drive → Drive) : (s.onDrive k f).gb = s.gb := rfl
@[simp] theorem State.onDrive_cal (s : State) (k : Nat) (f : Drive → Drive) : (s.onDrive k f).cal = s.cal := rfl
@[simp] theorem State.onDrive_keep (s : State) (k : Nat) (f : Drive → Drive) : (s.onDrive k f).keep = s.keep := rfl
@[simp] theorem State.onDrive_bist (s : State) (k : Nat) (f : Drive → Drive) : (s.onDrive k f).bist = s.bist := rfl

/-! ### onAxis -/

@[simp] theorem State.onAxis_pending (s : State) (k : Nat) (f : Axis → Axis) : (s.onAxis k f).pending = s.pending := rfl
@[simp] theorem State.onAxis_time (s : State) (k : Nat) (f : Axis → Axis) : (s.onAxis k f).time = s.time := rfl
@[simp] theorem State.onAxis_sent (s : State) (k : Nat) (f : Axis → Axis) : (s.onAxis k f).sent = s.sent := rfl
@[simp] theorem State.onAxis_free (s : State) (k : Nat) (f : Axis → Axis) : (s.onAxis k f).free = s.free := rfl
@[simp] theorem State.onAxis_power (s : State) (k : Nat) (f : Axis → Axis) : (s.onAxis k f).power = s.power := rfl
@[simp] theorem State.onAxis_params (s : State) (k : Nat) (f : Axis → Axis) : (s.onAxis k f).params = s.params := rfl
@[simp] theorem State.onAxis_mem (s : State) (k : Nat) (f : Axis → Axis) : (s.onAxis k f).mem = s.mem := rfl
@[simp] theorem State.onAxis_layer (s : State) (k : Nat) (f : Axis → Axis) : (s.onAxis k f).layer = s.layer := rfl
@[simp] theorem State.onAxis_dose (s : State) (k : Nat) (f : Axis → Axis) : (s.onAxis k f).dose = s.dose := rfl
@[simp] theorem State.onAxis_emon (s : State) (k : Nat) (f : Axis → Axis) : (s.onAxis k f).emon = s.emon := rfl
@[simp] theorem State.onAxis_link (s : State) (k : Nat) (f : Axis → Axis) : (s.onAxis k f).link = s.link := rfl
@[simp] theorem State.onAxis_host (s : State) (k : Nat) (f : Axis → Axis) : (s.onAxis k f).host = s.host := rfl
@[simp] theorem State.onAxis_dma (s : State) (k : Nat) (f : Axis → Axis) : (s.onAxis k f).dma = s.dma := rfl
@[simp] theorem State.onAxis_data (s : State) (k : Nat) (f : Axis → Axis) : (s.onAxis k f).data = s.data := rfl
@[simp] theorem State.onAxis_servo (s : State) (k : Nat) (f : Axis → Axis) : (s.onAxis k f).servo = s.servo := rfl
@[simp] theorem State.onAxis_drv (s : State) (k : Nat) (f : Axis → Axis) : (s.onAxis k f).drv = s.drv := rfl
@[simp] theorem State.onAxis_axes (s : State) (k : Nat) (f : Axis → Axis) : (s.onAxis k f).axes = s.axes.modify k f := rfl
@[simp] theorem State.onAxis_units (s : State) (k : Nat) (f : Axis → Axis) : (s.onAxis k f).units = s.units := rfl
@[simp] theorem State.onAxis_stepAt (s : State) (k : Nat) (f : Axis → Axis) : (s.onAxis k f).stepAt = s.stepAt := rfl
@[simp] theorem State.onAxis_house (s : State) (k : Nat) (f : Axis → Axis) : (s.onAxis k f).house = s.house := rfl
@[simp] theorem State.onAxis_therm (s : State) (k : Nat) (f : Axis → Axis) : (s.onAxis k f).therm = s.therm := rfl
@[simp] theorem State.onAxis_pwr (s : State) (k : Nat) (f : Axis → Axis) : (s.onAxis k f).pwr = s.pwr := rfl
@[simp] theorem State.onAxis_stage (s : State) (k : Nat) (f : Axis → Axis) : (s.onAxis k f).stage = s.stage := rfl
@[simp] theorem State.onAxis_clk (s : State) (k : Nat) (f : Axis → Axis) : (s.onAxis k f).clk = s.clk := rfl
@[simp] theorem State.onAxis_flt (s : State) (k : Nat) (f : Axis → Axis) : (s.onAxis k f).flt = s.flt := rfl
@[simp] theorem State.onAxis_gb (s : State) (k : Nat) (f : Axis → Axis) : (s.onAxis k f).gb = s.gb := rfl
@[simp] theorem State.onAxis_cal (s : State) (k : Nat) (f : Axis → Axis) : (s.onAxis k f).cal = s.cal := rfl
@[simp] theorem State.onAxis_keep (s : State) (k : Nat) (f : Axis → Axis) : (s.onAxis k f).keep = s.keep := rfl
@[simp] theorem State.onAxis_bist (s : State) (k : Nat) (f : Axis → Axis) : (s.onAxis k f).bist = s.bist := rfl

/-! ### onUnit -/

@[simp] theorem State.onUnit_pending (s : State) (u : Nat) (f : StepUnit → StepUnit) : (s.onUnit u f).pending = s.pending := rfl
@[simp] theorem State.onUnit_time (s : State) (u : Nat) (f : StepUnit → StepUnit) : (s.onUnit u f).time = s.time := rfl
@[simp] theorem State.onUnit_sent (s : State) (u : Nat) (f : StepUnit → StepUnit) : (s.onUnit u f).sent = s.sent := rfl
@[simp] theorem State.onUnit_free (s : State) (u : Nat) (f : StepUnit → StepUnit) : (s.onUnit u f).free = s.free := rfl
@[simp] theorem State.onUnit_power (s : State) (u : Nat) (f : StepUnit → StepUnit) : (s.onUnit u f).power = s.power := rfl
@[simp] theorem State.onUnit_params (s : State) (u : Nat) (f : StepUnit → StepUnit) : (s.onUnit u f).params = s.params := rfl
@[simp] theorem State.onUnit_mem (s : State) (u : Nat) (f : StepUnit → StepUnit) : (s.onUnit u f).mem = s.mem := rfl
@[simp] theorem State.onUnit_layer (s : State) (u : Nat) (f : StepUnit → StepUnit) : (s.onUnit u f).layer = s.layer := rfl
@[simp] theorem State.onUnit_dose (s : State) (u : Nat) (f : StepUnit → StepUnit) : (s.onUnit u f).dose = s.dose := rfl
@[simp] theorem State.onUnit_emon (s : State) (u : Nat) (f : StepUnit → StepUnit) : (s.onUnit u f).emon = s.emon := rfl
@[simp] theorem State.onUnit_link (s : State) (u : Nat) (f : StepUnit → StepUnit) : (s.onUnit u f).link = s.link := rfl
@[simp] theorem State.onUnit_host (s : State) (u : Nat) (f : StepUnit → StepUnit) : (s.onUnit u f).host = s.host := rfl
@[simp] theorem State.onUnit_dma (s : State) (u : Nat) (f : StepUnit → StepUnit) : (s.onUnit u f).dma = s.dma := rfl
@[simp] theorem State.onUnit_data (s : State) (u : Nat) (f : StepUnit → StepUnit) : (s.onUnit u f).data = s.data := rfl
@[simp] theorem State.onUnit_servo (s : State) (u : Nat) (f : StepUnit → StepUnit) : (s.onUnit u f).servo = s.servo := rfl
@[simp] theorem State.onUnit_drv (s : State) (u : Nat) (f : StepUnit → StepUnit) : (s.onUnit u f).drv = s.drv := rfl
@[simp] theorem State.onUnit_axes (s : State) (u : Nat) (f : StepUnit → StepUnit) : (s.onUnit u f).axes = s.axes := rfl
@[simp] theorem State.onUnit_units (s : State) (u : Nat) (f : StepUnit → StepUnit) : (s.onUnit u f).units = s.units.modify u f := rfl
@[simp] theorem State.onUnit_stepAt (s : State) (u : Nat) (f : StepUnit → StepUnit) : (s.onUnit u f).stepAt = s.stepAt := rfl
@[simp] theorem State.onUnit_house (s : State) (u : Nat) (f : StepUnit → StepUnit) : (s.onUnit u f).house = s.house := rfl
@[simp] theorem State.onUnit_therm (s : State) (u : Nat) (f : StepUnit → StepUnit) : (s.onUnit u f).therm = s.therm := rfl
@[simp] theorem State.onUnit_pwr (s : State) (u : Nat) (f : StepUnit → StepUnit) : (s.onUnit u f).pwr = s.pwr := rfl
@[simp] theorem State.onUnit_stage (s : State) (u : Nat) (f : StepUnit → StepUnit) : (s.onUnit u f).stage = s.stage := rfl
@[simp] theorem State.onUnit_clk (s : State) (u : Nat) (f : StepUnit → StepUnit) : (s.onUnit u f).clk = s.clk := rfl
@[simp] theorem State.onUnit_flt (s : State) (u : Nat) (f : StepUnit → StepUnit) : (s.onUnit u f).flt = s.flt := rfl
@[simp] theorem State.onUnit_gb (s : State) (u : Nat) (f : StepUnit → StepUnit) : (s.onUnit u f).gb = s.gb := rfl
@[simp] theorem State.onUnit_cal (s : State) (u : Nat) (f : StepUnit → StepUnit) : (s.onUnit u f).cal = s.cal := rfl
@[simp] theorem State.onUnit_keep (s : State) (u : Nat) (f : StepUnit → StepUnit) : (s.onUnit u f).keep = s.keep := rfl
@[simp] theorem State.onUnit_bist (s : State) (u : Nat) (f : StepUnit → StepUnit) : (s.onUnit u f).bist = s.bist := rfl

/-! ### onHeater -/

@[simp] theorem State.onHeater_pending (s : State) (k : Nat) (f : Heater → Heater) : (s.onHeater k f).pending = s.pending := rfl
@[simp] theorem State.onHeater_time (s : State) (k : Nat) (f : Heater → Heater) : (s.onHeater k f).time = s.time := rfl
@[simp] theorem State.onHeater_sent (s : State) (k : Nat) (f : Heater → Heater) : (s.onHeater k f).sent = s.sent := rfl
@[simp] theorem State.onHeater_free (s : State) (k : Nat) (f : Heater → Heater) : (s.onHeater k f).free = s.free := rfl
@[simp] theorem State.onHeater_power (s : State) (k : Nat) (f : Heater → Heater) : (s.onHeater k f).power = s.power := rfl
@[simp] theorem State.onHeater_params (s : State) (k : Nat) (f : Heater → Heater) : (s.onHeater k f).params = s.params := rfl
@[simp] theorem State.onHeater_mem (s : State) (k : Nat) (f : Heater → Heater) : (s.onHeater k f).mem = s.mem := rfl
@[simp] theorem State.onHeater_layer (s : State) (k : Nat) (f : Heater → Heater) : (s.onHeater k f).layer = s.layer := rfl
@[simp] theorem State.onHeater_dose (s : State) (k : Nat) (f : Heater → Heater) : (s.onHeater k f).dose = s.dose := rfl
@[simp] theorem State.onHeater_emon (s : State) (k : Nat) (f : Heater → Heater) : (s.onHeater k f).emon = s.emon := rfl
@[simp] theorem State.onHeater_link (s : State) (k : Nat) (f : Heater → Heater) : (s.onHeater k f).link = s.link := rfl
@[simp] theorem State.onHeater_host (s : State) (k : Nat) (f : Heater → Heater) : (s.onHeater k f).host = s.host := rfl
@[simp] theorem State.onHeater_dma (s : State) (k : Nat) (f : Heater → Heater) : (s.onHeater k f).dma = s.dma := rfl
@[simp] theorem State.onHeater_data (s : State) (k : Nat) (f : Heater → Heater) : (s.onHeater k f).data = s.data := rfl
@[simp] theorem State.onHeater_servo (s : State) (k : Nat) (f : Heater → Heater) : (s.onHeater k f).servo = s.servo := rfl
@[simp] theorem State.onHeater_drv (s : State) (k : Nat) (f : Heater → Heater) : (s.onHeater k f).drv = s.drv := rfl
@[simp] theorem State.onHeater_axes (s : State) (k : Nat) (f : Heater → Heater) : (s.onHeater k f).axes = s.axes := rfl
@[simp] theorem State.onHeater_units (s : State) (k : Nat) (f : Heater → Heater) : (s.onHeater k f).units = s.units := rfl
@[simp] theorem State.onHeater_stepAt (s : State) (k : Nat) (f : Heater → Heater) : (s.onHeater k f).stepAt = s.stepAt := rfl
@[simp] theorem State.onHeater_house (s : State) (k : Nat) (f : Heater → Heater) : (s.onHeater k f).house = { s.house with heaters := s.house.heaters.modify k f } := rfl
@[simp] theorem State.onHeater_therm (s : State) (k : Nat) (f : Heater → Heater) : (s.onHeater k f).therm = s.therm := rfl
@[simp] theorem State.onHeater_pwr (s : State) (k : Nat) (f : Heater → Heater) : (s.onHeater k f).pwr = s.pwr := rfl
@[simp] theorem State.onHeater_stage (s : State) (k : Nat) (f : Heater → Heater) : (s.onHeater k f).stage = s.stage := rfl
@[simp] theorem State.onHeater_clk (s : State) (k : Nat) (f : Heater → Heater) : (s.onHeater k f).clk = s.clk := rfl
@[simp] theorem State.onHeater_flt (s : State) (k : Nat) (f : Heater → Heater) : (s.onHeater k f).flt = s.flt := rfl
@[simp] theorem State.onHeater_gb (s : State) (k : Nat) (f : Heater → Heater) : (s.onHeater k f).gb = s.gb := rfl
@[simp] theorem State.onHeater_cal (s : State) (k : Nat) (f : Heater → Heater) : (s.onHeater k f).cal = s.cal := rfl
@[simp] theorem State.onHeater_keep (s : State) (k : Nat) (f : Heater → Heater) : (s.onHeater k f).keep = s.keep := rfl
@[simp] theorem State.onHeater_bist (s : State) (k : Nat) (f : Heater → Heater) : (s.onHeater k f).bist = s.bist := rfl

/-! ### onLine -/

@[simp] theorem State.onLine_pending (s : State) (l : Nat) (f : Mains → Mains) : (s.onLine l f).pending = s.pending := rfl
@[simp] theorem State.onLine_time (s : State) (l : Nat) (f : Mains → Mains) : (s.onLine l f).time = s.time := rfl
@[simp] theorem State.onLine_sent (s : State) (l : Nat) (f : Mains → Mains) : (s.onLine l f).sent = s.sent := rfl
@[simp] theorem State.onLine_free (s : State) (l : Nat) (f : Mains → Mains) : (s.onLine l f).free = s.free := rfl
@[simp] theorem State.onLine_power (s : State) (l : Nat) (f : Mains → Mains) : (s.onLine l f).power = s.power := rfl
@[simp] theorem State.onLine_params (s : State) (l : Nat) (f : Mains → Mains) : (s.onLine l f).params = s.params := rfl
@[simp] theorem State.onLine_mem (s : State) (l : Nat) (f : Mains → Mains) : (s.onLine l f).mem = s.mem := rfl
@[simp] theorem State.onLine_layer (s : State) (l : Nat) (f : Mains → Mains) : (s.onLine l f).layer = s.layer := rfl
@[simp] theorem State.onLine_dose (s : State) (l : Nat) (f : Mains → Mains) : (s.onLine l f).dose = s.dose := rfl
@[simp] theorem State.onLine_emon (s : State) (l : Nat) (f : Mains → Mains) : (s.onLine l f).emon = s.emon := rfl
@[simp] theorem State.onLine_link (s : State) (l : Nat) (f : Mains → Mains) : (s.onLine l f).link = s.link := rfl
@[simp] theorem State.onLine_host (s : State) (l : Nat) (f : Mains → Mains) : (s.onLine l f).host = s.host := rfl
@[simp] theorem State.onLine_dma (s : State) (l : Nat) (f : Mains → Mains) : (s.onLine l f).dma = s.dma := rfl
@[simp] theorem State.onLine_data (s : State) (l : Nat) (f : Mains → Mains) : (s.onLine l f).data = s.data := rfl
@[simp] theorem State.onLine_servo (s : State) (l : Nat) (f : Mains → Mains) : (s.onLine l f).servo = s.servo := rfl
@[simp] theorem State.onLine_drv (s : State) (l : Nat) (f : Mains → Mains) : (s.onLine l f).drv = s.drv := rfl
@[simp] theorem State.onLine_axes (s : State) (l : Nat) (f : Mains → Mains) : (s.onLine l f).axes = s.axes := rfl
@[simp] theorem State.onLine_units (s : State) (l : Nat) (f : Mains → Mains) : (s.onLine l f).units = s.units := rfl
@[simp] theorem State.onLine_stepAt (s : State) (l : Nat) (f : Mains → Mains) : (s.onLine l f).stepAt = s.stepAt := rfl
@[simp] theorem State.onLine_house (s : State) (l : Nat) (f : Mains → Mains) : (s.onLine l f).house = { s.house with mains := s.house.mains.modify l f } := rfl
@[simp] theorem State.onLine_therm (s : State) (l : Nat) (f : Mains → Mains) : (s.onLine l f).therm = s.therm := rfl
@[simp] theorem State.onLine_pwr (s : State) (l : Nat) (f : Mains → Mains) : (s.onLine l f).pwr = s.pwr := rfl
@[simp] theorem State.onLine_stage (s : State) (l : Nat) (f : Mains → Mains) : (s.onLine l f).stage = s.stage := rfl
@[simp] theorem State.onLine_clk (s : State) (l : Nat) (f : Mains → Mains) : (s.onLine l f).clk = s.clk := rfl
@[simp] theorem State.onLine_flt (s : State) (l : Nat) (f : Mains → Mains) : (s.onLine l f).flt = s.flt := rfl
@[simp] theorem State.onLine_gb (s : State) (l : Nat) (f : Mains → Mains) : (s.onLine l f).gb = s.gb := rfl
@[simp] theorem State.onLine_cal (s : State) (l : Nat) (f : Mains → Mains) : (s.onLine l f).cal = s.cal := rfl
@[simp] theorem State.onLine_keep (s : State) (l : Nat) (f : Mains → Mains) : (s.onLine l f).keep = s.keep := rfl
@[simp] theorem State.onLine_bist (s : State) (l : Nat) (f : Mains → Mains) : (s.onLine l f).bist = s.bist := rfl

/-! ### onStage -/

@[simp] theorem State.onStage_pending (s : State) (f : Stage → Stage) : (s.onStage f).pending = s.pending := rfl
@[simp] theorem State.onStage_time (s : State) (f : Stage → Stage) : (s.onStage f).time = s.time := rfl
@[simp] theorem State.onStage_sent (s : State) (f : Stage → Stage) : (s.onStage f).sent = s.sent := rfl
@[simp] theorem State.onStage_free (s : State) (f : Stage → Stage) : (s.onStage f).free = s.free := rfl
@[simp] theorem State.onStage_power (s : State) (f : Stage → Stage) : (s.onStage f).power = s.power := rfl
@[simp] theorem State.onStage_params (s : State) (f : Stage → Stage) : (s.onStage f).params = s.params := rfl
@[simp] theorem State.onStage_mem (s : State) (f : Stage → Stage) : (s.onStage f).mem = s.mem := rfl
@[simp] theorem State.onStage_layer (s : State) (f : Stage → Stage) : (s.onStage f).layer = s.layer := rfl
@[simp] theorem State.onStage_dose (s : State) (f : Stage → Stage) : (s.onStage f).dose = s.dose := rfl
@[simp] theorem State.onStage_emon (s : State) (f : Stage → Stage) : (s.onStage f).emon = s.emon := rfl
@[simp] theorem State.onStage_link (s : State) (f : Stage → Stage) : (s.onStage f).link = s.link := rfl
@[simp] theorem State.onStage_host (s : State) (f : Stage → Stage) : (s.onStage f).host = s.host := rfl
@[simp] theorem State.onStage_dma (s : State) (f : Stage → Stage) : (s.onStage f).dma = s.dma := rfl
@[simp] theorem State.onStage_data (s : State) (f : Stage → Stage) : (s.onStage f).data = s.data := rfl
@[simp] theorem State.onStage_servo (s : State) (f : Stage → Stage) : (s.onStage f).servo = s.servo := rfl
@[simp] theorem State.onStage_drv (s : State) (f : Stage → Stage) : (s.onStage f).drv = s.drv := rfl
@[simp] theorem State.onStage_axes (s : State) (f : Stage → Stage) : (s.onStage f).axes = s.axes := rfl
@[simp] theorem State.onStage_units (s : State) (f : Stage → Stage) : (s.onStage f).units = s.units := rfl
@[simp] theorem State.onStage_stepAt (s : State) (f : Stage → Stage) : (s.onStage f).stepAt = s.stepAt := rfl
@[simp] theorem State.onStage_house (s : State) (f : Stage → Stage) : (s.onStage f).house = s.house := rfl
@[simp] theorem State.onStage_therm (s : State) (f : Stage → Stage) : (s.onStage f).therm = s.therm := rfl
@[simp] theorem State.onStage_pwr (s : State) (f : Stage → Stage) : (s.onStage f).pwr = s.pwr := rfl
@[simp] theorem State.onStage_stage (s : State) (f : Stage → Stage) : (s.onStage f).stage = f s.stage := rfl
@[simp] theorem State.onStage_clk (s : State) (f : Stage → Stage) : (s.onStage f).clk = s.clk := rfl
@[simp] theorem State.onStage_flt (s : State) (f : Stage → Stage) : (s.onStage f).flt = s.flt := rfl
@[simp] theorem State.onStage_gb (s : State) (f : Stage → Stage) : (s.onStage f).gb = s.gb := rfl
@[simp] theorem State.onStage_cal (s : State) (f : Stage → Stage) : (s.onStage f).cal = s.cal := rfl
@[simp] theorem State.onStage_keep (s : State) (f : Stage → Stage) : (s.onStage f).keep = s.keep := rfl
@[simp] theorem State.onStage_bist (s : State) (f : Stage → Stage) : (s.onStage f).bist = s.bist := rfl

/-! ### onPll -/

@[simp] theorem State.onPll_pending (s : State) (k : Nat) (f : Pll → Pll) : (s.onPll k f).pending = s.pending := rfl
@[simp] theorem State.onPll_time (s : State) (k : Nat) (f : Pll → Pll) : (s.onPll k f).time = s.time := rfl
@[simp] theorem State.onPll_sent (s : State) (k : Nat) (f : Pll → Pll) : (s.onPll k f).sent = s.sent := rfl
@[simp] theorem State.onPll_free (s : State) (k : Nat) (f : Pll → Pll) : (s.onPll k f).free = s.free := rfl
@[simp] theorem State.onPll_power (s : State) (k : Nat) (f : Pll → Pll) : (s.onPll k f).power = s.power := rfl
@[simp] theorem State.onPll_params (s : State) (k : Nat) (f : Pll → Pll) : (s.onPll k f).params = s.params := rfl
@[simp] theorem State.onPll_mem (s : State) (k : Nat) (f : Pll → Pll) : (s.onPll k f).mem = s.mem := rfl
@[simp] theorem State.onPll_layer (s : State) (k : Nat) (f : Pll → Pll) : (s.onPll k f).layer = s.layer := rfl
@[simp] theorem State.onPll_dose (s : State) (k : Nat) (f : Pll → Pll) : (s.onPll k f).dose = s.dose := rfl
@[simp] theorem State.onPll_emon (s : State) (k : Nat) (f : Pll → Pll) : (s.onPll k f).emon = s.emon := rfl
@[simp] theorem State.onPll_link (s : State) (k : Nat) (f : Pll → Pll) : (s.onPll k f).link = s.link := rfl
@[simp] theorem State.onPll_host (s : State) (k : Nat) (f : Pll → Pll) : (s.onPll k f).host = s.host := rfl
@[simp] theorem State.onPll_dma (s : State) (k : Nat) (f : Pll → Pll) : (s.onPll k f).dma = s.dma := rfl
@[simp] theorem State.onPll_data (s : State) (k : Nat) (f : Pll → Pll) : (s.onPll k f).data = s.data := rfl
@[simp] theorem State.onPll_servo (s : State) (k : Nat) (f : Pll → Pll) : (s.onPll k f).servo = s.servo := rfl
@[simp] theorem State.onPll_drv (s : State) (k : Nat) (f : Pll → Pll) : (s.onPll k f).drv = s.drv := rfl
@[simp] theorem State.onPll_axes (s : State) (k : Nat) (f : Pll → Pll) : (s.onPll k f).axes = s.axes := rfl
@[simp] theorem State.onPll_units (s : State) (k : Nat) (f : Pll → Pll) : (s.onPll k f).units = s.units := rfl
@[simp] theorem State.onPll_stepAt (s : State) (k : Nat) (f : Pll → Pll) : (s.onPll k f).stepAt = s.stepAt := rfl
@[simp] theorem State.onPll_house (s : State) (k : Nat) (f : Pll → Pll) : (s.onPll k f).house = s.house := rfl
@[simp] theorem State.onPll_therm (s : State) (k : Nat) (f : Pll → Pll) : (s.onPll k f).therm = s.therm := rfl
@[simp] theorem State.onPll_pwr (s : State) (k : Nat) (f : Pll → Pll) : (s.onPll k f).pwr = s.pwr := rfl
@[simp] theorem State.onPll_stage (s : State) (k : Nat) (f : Pll → Pll) : (s.onPll k f).stage = s.stage := rfl
@[simp] theorem State.onPll_clk (s : State) (k : Nat) (f : Pll → Pll) : (s.onPll k f).clk = { s.clk with plls := s.clk.plls.modify k f } := rfl
@[simp] theorem State.onPll_flt (s : State) (k : Nat) (f : Pll → Pll) : (s.onPll k f).flt = s.flt := rfl
@[simp] theorem State.onPll_gb (s : State) (k : Nat) (f : Pll → Pll) : (s.onPll k f).gb = s.gb := rfl
@[simp] theorem State.onPll_cal (s : State) (k : Nat) (f : Pll → Pll) : (s.onPll k f).cal = s.cal := rfl
@[simp] theorem State.onPll_keep (s : State) (k : Nat) (f : Pll → Pll) : (s.onPll k f).keep = s.keep := rfl
@[simp] theorem State.onPll_bist (s : State) (k : Nat) (f : Pll → Pll) : (s.onPll k f).bist = s.bist := rfl

/-! ### onFw -/

@[simp] theorem State.onFw_pending (s : State) (i : Nat) (f : FwSlot → FwSlot) : (s.onFw i f).pending = s.pending := rfl
@[simp] theorem State.onFw_time (s : State) (i : Nat) (f : FwSlot → FwSlot) : (s.onFw i f).time = s.time := rfl
@[simp] theorem State.onFw_sent (s : State) (i : Nat) (f : FwSlot → FwSlot) : (s.onFw i f).sent = s.sent := rfl
@[simp] theorem State.onFw_free (s : State) (i : Nat) (f : FwSlot → FwSlot) : (s.onFw i f).free = s.free := rfl
@[simp] theorem State.onFw_power (s : State) (i : Nat) (f : FwSlot → FwSlot) : (s.onFw i f).power = s.power := rfl
@[simp] theorem State.onFw_params (s : State) (i : Nat) (f : FwSlot → FwSlot) : (s.onFw i f).params = s.params := rfl
@[simp] theorem State.onFw_mem (s : State) (i : Nat) (f : FwSlot → FwSlot) : (s.onFw i f).mem = s.mem := rfl
@[simp] theorem State.onFw_layer (s : State) (i : Nat) (f : FwSlot → FwSlot) : (s.onFw i f).layer = s.layer := rfl
@[simp] theorem State.onFw_dose (s : State) (i : Nat) (f : FwSlot → FwSlot) : (s.onFw i f).dose = s.dose := rfl
@[simp] theorem State.onFw_emon (s : State) (i : Nat) (f : FwSlot → FwSlot) : (s.onFw i f).emon = s.emon := rfl
@[simp] theorem State.onFw_link (s : State) (i : Nat) (f : FwSlot → FwSlot) : (s.onFw i f).link = s.link := rfl
@[simp] theorem State.onFw_host (s : State) (i : Nat) (f : FwSlot → FwSlot) : (s.onFw i f).host = s.host := rfl
@[simp] theorem State.onFw_dma (s : State) (i : Nat) (f : FwSlot → FwSlot) : (s.onFw i f).dma = s.dma := rfl
@[simp] theorem State.onFw_data (s : State) (i : Nat) (f : FwSlot → FwSlot) : (s.onFw i f).data = s.data := rfl
@[simp] theorem State.onFw_servo (s : State) (i : Nat) (f : FwSlot → FwSlot) : (s.onFw i f).servo = s.servo := rfl
@[simp] theorem State.onFw_drv (s : State) (i : Nat) (f : FwSlot → FwSlot) : (s.onFw i f).drv = s.drv := rfl
@[simp] theorem State.onFw_axes (s : State) (i : Nat) (f : FwSlot → FwSlot) : (s.onFw i f).axes = s.axes := rfl
@[simp] theorem State.onFw_units (s : State) (i : Nat) (f : FwSlot → FwSlot) : (s.onFw i f).units = s.units := rfl
@[simp] theorem State.onFw_stepAt (s : State) (i : Nat) (f : FwSlot → FwSlot) : (s.onFw i f).stepAt = s.stepAt := rfl
@[simp] theorem State.onFw_house (s : State) (i : Nat) (f : FwSlot → FwSlot) : (s.onFw i f).house = s.house := rfl
@[simp] theorem State.onFw_therm (s : State) (i : Nat) (f : FwSlot → FwSlot) : (s.onFw i f).therm = s.therm := rfl
@[simp] theorem State.onFw_pwr (s : State) (i : Nat) (f : FwSlot → FwSlot) : (s.onFw i f).pwr = s.pwr := rfl
@[simp] theorem State.onFw_stage (s : State) (i : Nat) (f : FwSlot → FwSlot) : (s.onFw i f).stage = s.stage := rfl
@[simp] theorem State.onFw_clk (s : State) (i : Nat) (f : FwSlot → FwSlot) : (s.onFw i f).clk = s.clk := rfl
@[simp] theorem State.onFw_flt (s : State) (i : Nat) (f : FwSlot → FwSlot) : (s.onFw i f).flt = s.flt := rfl
@[simp] theorem State.onFw_gb (s : State) (i : Nat) (f : FwSlot → FwSlot) : (s.onFw i f).gb = s.gb := rfl
@[simp] theorem State.onFw_cal (s : State) (i : Nat) (f : FwSlot → FwSlot) : (s.onFw i f).cal = s.cal := rfl
@[simp] theorem State.onFw_keep (s : State) (i : Nat) (f : FwSlot → FwSlot) : (s.onFw i f).keep = { s.keep with fwSlots := s.keep.fwSlots.modify i f } := rfl
@[simp] theorem State.onFw_bist (s : State) (i : Nat) (f : FwSlot → FwSlot) : (s.onFw i f).bist = s.bist := rfl

/-! ### advance -/

@[simp] theorem State.countOn_pending (s : State) (dt : Nat) : (s.countOn dt).pending = s.pending := rfl
@[simp] theorem State.porterRuns_pending (s : State) (dt : Nat) : (s.porterRuns dt).pending = s.pending := rfl
@[simp] theorem State.advance_pending (s : State) (dt : Nat) : (s.advance dt).pending = s.pending := by
  unfold State.advance
  split; rfl; split <;> rfl; rfl
@[simp] theorem State.countOn_sent (s : State) (dt : Nat) : (s.countOn dt).sent = s.sent := rfl
@[simp] theorem State.porterRuns_sent (s : State) (dt : Nat) : (s.porterRuns dt).sent = s.sent := rfl
@[simp] theorem State.advance_sent (s : State) (dt : Nat) : (s.advance dt).sent = s.sent := by
  unfold State.advance
  split; rfl; split <;> rfl; rfl
@[simp] theorem State.countOn_free (s : State) (dt : Nat) : (s.countOn dt).free = s.free := rfl
@[simp] theorem State.porterRuns_free (s : State) (dt : Nat) : (s.porterRuns dt).free = s.free := rfl
@[simp] theorem State.advance_free (s : State) (dt : Nat) : (s.advance dt).free = s.free := by
  unfold State.advance
  split; rfl; split <;> rfl; rfl
@[simp] theorem State.countOn_power (s : State) (dt : Nat) : (s.countOn dt).power = s.power := rfl
@[simp] theorem State.porterRuns_power (s : State) (dt : Nat) : (s.porterRuns dt).power = s.power := rfl
@[simp] theorem State.advance_power (s : State) (dt : Nat) : (s.advance dt).power = s.power := by
  unfold State.advance
  split; rfl; split <;> rfl; rfl
@[simp] theorem State.countOn_params (s : State) (dt : Nat) : (s.countOn dt).params = s.params := rfl
@[simp] theorem State.porterRuns_params (s : State) (dt : Nat) : (s.porterRuns dt).params = s.params := rfl
@[simp] theorem State.advance_params (s : State) (dt : Nat) : (s.advance dt).params = s.params := by
  unfold State.advance
  split; rfl; split <;> rfl; rfl
@[simp] theorem State.countOn_mem (s : State) (dt : Nat) : (s.countOn dt).mem = s.mem := rfl
@[simp] theorem State.porterRuns_mem (s : State) (dt : Nat) : (s.porterRuns dt).mem = s.mem := rfl
@[simp] theorem State.advance_mem (s : State) (dt : Nat) : (s.advance dt).mem = s.mem := by
  unfold State.advance
  split; rfl; split <;> rfl; rfl
@[simp] theorem State.countOn_layer (s : State) (dt : Nat) : (s.countOn dt).layer = s.layer := rfl
@[simp] theorem State.porterRuns_layer (s : State) (dt : Nat) : (s.porterRuns dt).layer = s.layer := rfl
@[simp] theorem State.advance_layer (s : State) (dt : Nat) : (s.advance dt).layer = s.layer := by
  unfold State.advance
  split; rfl; split <;> rfl; rfl
@[simp] theorem State.countOn_dose (s : State) (dt : Nat) : (s.countOn dt).dose = s.dose := rfl
@[simp] theorem State.porterRuns_dose (s : State) (dt : Nat) : (s.porterRuns dt).dose = s.dose := rfl
@[simp] theorem State.advance_dose (s : State) (dt : Nat) : (s.advance dt).dose = s.dose := by
  unfold State.advance
  split; rfl; split <;> rfl; rfl
@[simp] theorem State.countOn_emon (s : State) (dt : Nat) : (s.countOn dt).emon = s.emon := rfl
@[simp] theorem State.porterRuns_emon (s : State) (dt : Nat) : (s.porterRuns dt).emon = s.emon := rfl
@[simp] theorem State.advance_emon (s : State) (dt : Nat) : (s.advance dt).emon = s.emon := by
  unfold State.advance
  split; rfl; split <;> rfl; rfl
@[simp] theorem State.countOn_link (s : State) (dt : Nat) : (s.countOn dt).link = s.link := rfl
@[simp] theorem State.porterRuns_link (s : State) (dt : Nat) : (s.porterRuns dt).link = s.link := rfl
@[simp] theorem State.advance_link (s : State) (dt : Nat) : (s.advance dt).link = s.link := by
  unfold State.advance
  split; rfl; split <;> rfl; rfl
@[simp] theorem State.countOn_host (s : State) (dt : Nat) : (s.countOn dt).host = s.host := rfl
@[simp] theorem State.porterRuns_host (s : State) (dt : Nat) : (s.porterRuns dt).host = s.host := rfl
@[simp] theorem State.advance_host (s : State) (dt : Nat) : (s.advance dt).host = s.host := by
  unfold State.advance
  split; rfl; split <;> rfl; rfl
@[simp] theorem State.countOn_dma (s : State) (dt : Nat) : (s.countOn dt).dma = s.dma := rfl
@[simp] theorem State.porterRuns_dma (s : State) (dt : Nat) : (s.porterRuns dt).dma = s.dma := rfl
@[simp] theorem State.advance_dma (s : State) (dt : Nat) : (s.advance dt).dma = s.dma := by
  unfold State.advance
  split; rfl; split <;> rfl; rfl
@[simp] theorem State.countOn_data (s : State) (dt : Nat) : (s.countOn dt).data = s.data := rfl
@[simp] theorem State.porterRuns_data (s : State) (dt : Nat) : (s.porterRuns dt).data = s.data := rfl
@[simp] theorem State.advance_data (s : State) (dt : Nat) : (s.advance dt).data = s.data := by
  unfold State.advance
  split; rfl; split <;> rfl; rfl
@[simp] theorem State.countOn_servo (s : State) (dt : Nat) : (s.countOn dt).servo = s.servo := rfl
@[simp] theorem State.porterRuns_servo (s : State) (dt : Nat) : (s.porterRuns dt).servo = s.servo := rfl
@[simp] theorem State.advance_servo (s : State) (dt : Nat) : (s.advance dt).servo = s.servo := by
  unfold State.advance
  split; rfl; split <;> rfl; rfl
@[simp] theorem State.countOn_drv (s : State) (dt : Nat) : (s.countOn dt).drv = s.drv := rfl
@[simp] theorem State.porterRuns_drv (s : State) (dt : Nat) : (s.porterRuns dt).drv = s.drv := rfl
@[simp] theorem State.advance_drv (s : State) (dt : Nat) : (s.advance dt).drv = s.drv := by
  unfold State.advance
  split; rfl; split <;> rfl; rfl
@[simp] theorem State.countOn_axes (s : State) (dt : Nat) : (s.countOn dt).axes = s.axes := rfl
@[simp] theorem State.porterRuns_axes (s : State) (dt : Nat) : (s.porterRuns dt).axes = s.axes := rfl
@[simp] theorem State.advance_axes (s : State) (dt : Nat) : (s.advance dt).axes = s.axes := by
  unfold State.advance
  split; rfl; split <;> rfl; rfl
@[simp] theorem State.countOn_units (s : State) (dt : Nat) : (s.countOn dt).units = s.units := rfl
@[simp] theorem State.porterRuns_units (s : State) (dt : Nat) : (s.porterRuns dt).units = s.units := rfl
@[simp] theorem State.advance_units (s : State) (dt : Nat) : (s.advance dt).units = s.units := by
  unfold State.advance
  split; rfl; split <;> rfl; rfl
@[simp] theorem State.countOn_stepAt (s : State) (dt : Nat) : (s.countOn dt).stepAt = s.stepAt := rfl
@[simp] theorem State.porterRuns_stepAt (s : State) (dt : Nat) : (s.porterRuns dt).stepAt = s.stepAt := rfl
@[simp] theorem State.advance_stepAt (s : State) (dt : Nat) : (s.advance dt).stepAt = s.stepAt := by
  unfold State.advance
  split; rfl; split <;> rfl; rfl
@[simp] theorem State.countOn_house (s : State) (dt : Nat) : (s.countOn dt).house = s.house := rfl
@[simp] theorem State.porterRuns_house (s : State) (dt : Nat) : (s.porterRuns dt).house = s.house := rfl
@[simp] theorem State.advance_house (s : State) (dt : Nat) : (s.advance dt).house = s.house := by
  unfold State.advance
  split; rfl; split <;> rfl; rfl
@[simp] theorem State.countOn_therm (s : State) (dt : Nat) : (s.countOn dt).therm = s.therm := rfl
@[simp] theorem State.porterRuns_therm (s : State) (dt : Nat) : (s.porterRuns dt).therm = s.therm := rfl
@[simp] theorem State.advance_therm (s : State) (dt : Nat) : (s.advance dt).therm = s.therm := by
  unfold State.advance
  split; rfl; split <;> rfl; rfl
@[simp] theorem State.countOn_pwr (s : State) (dt : Nat) : (s.countOn dt).pwr = s.pwr := rfl
@[simp] theorem State.porterRuns_pwr (s : State) (dt : Nat) : (s.porterRuns dt).pwr = s.pwr := rfl
@[simp] theorem State.advance_pwr (s : State) (dt : Nat) : (s.advance dt).pwr = s.pwr := by
  unfold State.advance
  split; rfl; split <;> rfl; rfl
@[simp] theorem State.countOn_stage (s : State) (dt : Nat) : (s.countOn dt).stage = s.stage := rfl
@[simp] theorem State.porterRuns_stage (s : State) (dt : Nat) : (s.porterRuns dt).stage = s.stage := rfl
@[simp] theorem State.advance_stage (s : State) (dt : Nat) : (s.advance dt).stage = s.stage := by
  unfold State.advance
  split; rfl; split <;> rfl; rfl
@[simp] theorem State.countOn_flt (s : State) (dt : Nat) : (s.countOn dt).flt = s.flt := rfl
@[simp] theorem State.porterRuns_flt (s : State) (dt : Nat) : (s.porterRuns dt).flt = s.flt := rfl
@[simp] theorem State.advance_flt (s : State) (dt : Nat) : (s.advance dt).flt = s.flt := by
  unfold State.advance
  split; rfl; split <;> rfl; rfl
@[simp] theorem State.countOn_gb (s : State) (dt : Nat) : (s.countOn dt).gb = s.gb := rfl
@[simp] theorem State.porterRuns_gb (s : State) (dt : Nat) : (s.porterRuns dt).gb = s.gb := rfl
@[simp] theorem State.advance_gb (s : State) (dt : Nat) : (s.advance dt).gb = s.gb := by
  unfold State.advance
  split; rfl; split <;> rfl; rfl
@[simp] theorem State.countOn_cal (s : State) (dt : Nat) : (s.countOn dt).cal = s.cal := rfl
@[simp] theorem State.porterRuns_cal (s : State) (dt : Nat) : (s.porterRuns dt).cal = s.cal := rfl
@[simp] theorem State.advance_cal (s : State) (dt : Nat) : (s.advance dt).cal = s.cal := by
  unfold State.advance
  split; rfl; split <;> rfl; rfl
@[simp] theorem State.countOn_keep (s : State) (dt : Nat) : (s.countOn dt).keep = s.keep := rfl
@[simp] theorem State.porterRuns_keep (s : State) (dt : Nat) : (s.porterRuns dt).keep = s.keep := rfl
@[simp] theorem State.advance_keep (s : State) (dt : Nat) : (s.advance dt).keep = s.keep := by
  unfold State.advance
  split; rfl; split <;> rfl; rfl
@[simp] theorem State.countOn_bist (s : State) (dt : Nat) : (s.countOn dt).bist = s.bist := rfl
@[simp] theorem State.porterRuns_bist (s : State) (dt : Nat) : (s.porterRuns dt).bist = s.bist := rfl
@[simp] theorem State.advance_bist (s : State) (dt : Nat) : (s.advance dt).bist = s.bist := by
  unfold State.advance
  split; rfl; split <;> rfl; rfl

/-- Time passing changes Porter's copy of the clock and what has run of a reference period, and nothing else of the clocks. -/
theorem State.advance_clk (s : State) (dt : Nat) :
    (s.advance dt).clk = { s.clk with
      porterTime := if s.power = .off then s.clk.porterTime else s.clk.porterTime + dt
      refPart := (s.advance dt).clk.refPart } := by
  unfold State.advance State.countOn State.porterRuns
  cases h : s.power <;> (try cases s.flt.initLow) <;> simp

/-- The counter never runs backwards, and passes by at most the time given and the part of a period that had run. -/
theorem State.advance_time (s : State) (dt : Nat) :
    s.time ≤ (s.advance dt).time ∧ (s.advance dt).time ≤ s.time + s.clk.refPart + dt := by
  unfold State.advance State.countOn State.porterRuns
  cases s.power <;> cases s.flt.initLow <;> simp <;> omega

@[simp] theorem State.advance_mainOn (s : State) (dt : Nat) : (s.advance dt).mainOn = s.mainOn := by simp [State.mainOn]
@[simp] theorem State.advance_readyOn (s : State) (dt : Nat) : (s.advance dt).readyOn = s.readyOn := by simp [State.readyOn]

end Sys2Proof.Machine
end

