-- ==== Sys2Proof/Laws/Calibration.lean ====
section
/-!
SUPPORT. Calibration: taking over a tile's blocks and retiring its cells changes no parameter below index 0x0E00, so
what is set up for a chain stands (16 R324 to R326).
-/

namespace Sys2Proof.Machine

/-! ### Finite tables -/

theorem AMap.find_cons {α : Type} (e : Nat × α) (m : AMap α) (k : Nat) :
    AMap.find (e :: m) k = if e.1 = k then some e.2 else AMap.find m k := by
  by_cases h : e.1 = k <;> simp [AMap.find, h]

theorem AMap.find_put_other {α : Type} (m : AMap α) {k j : Nat} (v : α) (h : j ≠ k) : AMap.find (AMap.put m k v) j = AMap.find m j := by
  induction m with
  | nil => simp [AMap.put, AMap.find_cons, Ne.symm h]
  | cons e m ih =>
    obtain ⟨a, b⟩ := e
    by_cases h1 : k < a
    · simp [AMap.put, h1, AMap.find_cons, Ne.symm h]
    · by_cases h2 : k = a
      · subst h2; simp [AMap.put, AMap.find_cons, Ne.symm h]
      · simp only [AMap.put, h1, h2, if_false, AMap.find_cons, ih]

theorem AMap.find_del_other {α : Type} (m : AMap α) {k j : Nat} (h : j ≠ k) : AMap.find (AMap.del m k) j = AMap.find m j := by
  induction m with
  | nil => rfl
  | cons e m ih =>
    by_cases he : e.1 = k
    · rw [AMap.del, List.filter_cons_of_neg (by simp [he]), AMap.find_cons, if_neg (by omega)]
      exact ih
    · rw [AMap.del, List.filter_cons_of_pos (by simp [he]), AMap.find_cons, AMap.find_cons]
      rw [show AMap.find (List.filter (fun e => !(e.1 == k)) m) j = AMap.find m j from ih]

/-! ### The parameters of lower subsystems -/

/-- The parameters below index 0x0E00 are the same. -/
def SameLow (m m' : AMap Nat) : Prop := ∀ k < 0x0E00 * 256, AMap.find m' k = AMap.find m k

theorem SameLow.refl (m : AMap Nat) : SameLow m m := fun _ _ => rfl

theorem SameLow.trans {a b c : AMap Nat} (h : SameLow a b) (h' : SameLow b c) : SameLow a c :=
  fun k hk => (h' k hk).trans (h k hk)

/-- A fold of steps that keep them keeps them. -/
theorem SameLow.foldl {α : Type} {f : State → α → State} (hf : ∀ s x, SameLow s.params (f s x).params) (l : List α) :
    ∀ s, SameLow s.params (l.foldl f s).params := by
  induction l with
  | nil => exact fun s => .refl _
  | cons x l ih => exact fun s => (hf s x).trans (ih _)

theorem sameLow_pset (m : AMap Nat) {idx : Nat} (sub v : Nat) (h : 0x0E00 ≤ idx) : SameLow m (pset m idx sub v) := by
  intro k hk
  have hne : k ≠ pkey idx sub := by unfold pkey; omega
  unfold pset
  split
  · split
    · exact AMap.find_del_other m hne
    · exact AMap.find_put_other m _ hne
  · exact AMap.find_put_other m _ hne

theorem sameLow_wear (s : State) (sub n : Nat) : SameLow s.params (s.wear sub n).params := by
  rw [State.wear_params]
  exact sameLow_pset _ _ _ (by decide)

theorem sameLow_gbRecord (s : State) (subsys id data : Nat) : SameLow s.params (gbRecord s subsys id data).params := by
  intro k hk
  simp only [gbRecord, gbWriteAt]
  split
  · exact AMap.find_put_other _ _ (by omega)
  · rfl

theorem sameLow_pv {s t : State} (h : SameLow s.params t.params) {idx sub : Nat} (hi : idx < 0x0DFF) (hs : sub < 256) :
    t.pv idx sub = s.pv idx sub := by
  rw [State.pv, State.pv, pread, pread, h (pkey idx sub) (by unfold pkey; omega)]

/-! ### Blocks and cells -/

@[simp] theorem setUserWord_params (s : State) (cell w : Nat) : (setUserWord s cell w).params = s.params := rfl

@[simp] theorem markDirty_params (s : State) : (markDirty s).params = s.params := by unfold markDirty; split <;> rfl

@[simp] theorem makeDue_params (s : State) (tile : Nat) : (makeDue s tile).params = s.params := by
  simp only [makeDue]; split <;> rfl

@[simp] theorem reassign_params (s : State) (r c : Nat) : (reassign s r c).params = s.params := by
  unfold reassign
  split
  · rfl
  · simp only [billetChanged, setWeights]
    split <;> rfl

@[simp] theorem placeWords_params (s : State) (tile : Nat) (ws : AMap Nat) : (placeWords s tile ws).params = s.params := by
  unfold placeWords
  induction ws generalizing s with
  | nil => rfl
  | cons e ws ih => exact ih _

@[simp] theorem linkSend_params (s : State) (n : Nat) (fs : List Out) : (linkSend s n fs).params = s.params := by
  unfold linkSend laneSend
  split
  · split <;> rfl
  · rfl

@[simp] theorem mgmtSend_params (s : State) (n p : Nat) (op : Byte) (addr : Nat) (data : List Byte) :
    (mgmtSend s n p op addr data).params = s.params := linkSend_params s n _

@[simp] theorem mgmtRead_params (s : State) (n p addr len : Nat) : (mgmtRead s n p addr len).params = s.params :=
  mgmtSend_params s n p 1 addr _

@[simp] theorem calRead_params (s : State) (n p : Nat) : (calRead s n p).params = s.params := by
  unfold calRead
  extract_lets a len
  clear_value a len
  generalize List.range (divCeil len 256) = l
  induction l generalizing s with
  | nil => rfl
  | cons k l ih => exact (ih _).trans (mgmtRead_params s n p _ _)

@[simp] theorem unplace_params (s : State) (tile serial : Nat) : (unplace s tile serial).params = s.params := by
  unfold unplace; split <;> rfl

theorem sameLow_retireCell (s : State) (r c reason : Nat) : SameLow s.params (retireCell s r c reason).params := by
  unfold retireCell
  extract_lets w
  clear_value w
  split
  · exact .refl _
  · rename_i t on repl _
    have ht : SameLow s.params t.params := by
      have h := sameLow_wear (setUserWord s (cellIndex r c) (w % 2 ^ 25 + 2 ^ 25 + reason * 2 ^ 26 + w / 2 ^ 29 * 2 ^ 29)) 3 1
      rw [setUserWord_params] at h
      exact h
    clear_value t repl
    rw [markDirty_params]
    refine ht.trans (SameLow.trans ?_ (sameLow_gbRecord (reassign t r c) _ _ _))
    rw [reassign_params]
    exact .refl _

theorem sameLow_retireInvalid (s : State) (r c : Nat) : SameLow s.params (retireInvalid s r c).params := by
  unfold retireInvalid
  extract_lets w
  clear_value w
  split
  · rw [setUserWord_params]; exact .refl _
  · exact sameLow_retireCell s r c 5

theorem sameLow_swapSerial (s : State) (tile serial : Nat) : SameLow s.params (swapSerial s tile serial).params := by
  unfold swapSerial
  extract_lets old
  split
  · exact .refl _
  · rename_i u shelf src t _
    have hu : t.params = s.params := unplace_params s tile serial
    clear_value t
    rw [← hu]
    split
    · rw [State.pput_params, placeWords_params]
      exact sameLow_pset _ _ _ (by decide)
    · rw [markDirty_params, makeDue_params, State.pput_params, State.pput_params]
      exact SameLow.trans (sameLow_pset _ _ _ (by decide)) (sameLow_pset _ _ _ (by decide))

/-- Taking over a tile's blocks changes no parameter below 0x0E00. -/
theorem sameLow_calDiscovered (s : State) (n p : Nat) (block : List Byte) :
    SameLow s.params (calDiscovered s n p block).params := by
  unfold calDiscovered
  extract_lets t k serial crc held u src v
  have hu : SameLow s.params u.params := sameLow_swapSerial s k serial
  have hv : v.params = u.params := by
    show (if held then u else markDirty _).params = u.params
    split
    · rfl
    · rw [markDirty_params, calRead_params]
  clear_value v u
  refine hu.trans ?_
  rw [← hv]
  split
  · exact .refl _
  · rename_i src' w x _
    have hw : w.params = v.params := rfl
    have hx : SameLow w.params x.params := SameLow.foldl (fun s y => sameLow_retireInvalid s _ _) _ w
    clear_value w x
    rw [← hw]
    exact hx.trans (sameLow_gbRecord _ _ _ _)

end Sys2Proof.Machine
end

