-- ==== Sys2Proof/Laws/Memory.lean ====
section
/-!
SUPPORT. The SRAM: every write keeps the canonical form, a read gives the byte last written, and a write
leaves every other byte alone (01 R29).
-/

namespace Sys2Proof.Machine

/-- Outside the billet records and the learned response table an unlisted byte reads 0. -/
theorem memRest_zero {a : Nat} (h : a < 0x980000 ∨ 0xA80000 ≤ a) : memRest a = 0 := by
  unfold memRest
  split
  · rfl
  · rw [if_neg (by omega), if_neg (by omega)]

/-- The canonical form without its first entry. -/
theorem memWf_tail {c : Host.Cell} {m : List Host.Cell} (h : memWf (c :: m) = true) : memWf m = true := by
  cases m with
  | nil => rfl
  | cons d m => simp only [memWf, Bool.and_eq_true] at h; exact h.2

/-- The first entry of the canonical form is not what an unlisted byte there reads as. -/
theorem memWf_head {c : Host.Cell} {m : List Host.Cell} (h : memWf (c :: m) = true) : c.2 ≠ memRest c.1 := by
  cases m with
  | nil => simpa [memWf] using h
  | cons d m =>
    simp only [memWf, Bool.and_eq_true, bne_iff_ne] at h
    exact h.1.1

/-- Every later offset lies above the first. -/
theorem memWf_above {c : Host.Cell} {m : List Host.Cell} (h : memWf (c :: m) = true) : ∀ d ∈ m, c.1 < d.1 := by
  induction m generalizing c with
  | nil => simp
  | cons d m ih =>
    have hd := h
    simp only [memWf, Bool.and_eq_true, decide_eq_true_eq] at hd
    intro e he
    rcases List.mem_cons.mp he with rfl | he
    · exact hd.1.2
    · exact lt_trans hd.1.2 (ih hd.2 e he)

/-- Builds the canonical form from a first entry and a rest that lies above it. -/
theorem memWf_cons {c : Host.Cell} {m : List Host.Cell} (h0 : c.2 ≠ memRest c.1) (hm : memWf m = true)
    (ha : ∀ d ∈ m, c.1 < d.1) : memWf (c :: m) = true := by
  cases m with
  | nil => simpa [memWf] using h0
  | cons d m => simpa [memWf, ha d (by simp), hm] using h0

/-- What a write lists was listed, or is the byte written. -/
theorem memPut_mem {m : List Host.Cell} {a : Nat} {b : Byte} {d : Host.Cell} (h : d ∈ memPut m a b) :
    d ∈ m ∨ d = (a, b) := by
  induction m with
  | nil =>
    simp only [memPut] at h
    split at h <;> simp_all
  | cons c m ih =>
    simp only [memPut] at h
    split at h
    · split at h
      · exact .inl h
      · rcases List.mem_cons.mp h with h | h
        · exact .inr h
        · exact .inl h
    · split at h
      · split at h
        · exact .inl (List.mem_cons_of_mem _ h)
        · rcases List.mem_cons.mp h with h | h
          · exact .inr h
          · exact .inl (List.mem_cons_of_mem _ h)
      · rcases List.mem_cons.mp h with rfl | h
        · simp
        · rcases ih h with h | h
          · exact .inl (by simp [h])
          · exact .inr h

/-- One byte written keeps the canonical form. -/
theorem memPut_wf {m : List Host.Cell} (h : memWf m = true) (a : Nat) (b : Byte) : memWf (memPut m a b) = true := by
  induction m with
  | nil =>
    simp only [memPut]
    split
    · rfl
    · simpa [memWf]
  | cons c m ih =>
    have ht := memWf_tail h
    have hab := memWf_above h
    simp only [memPut]
    split
    · rename_i hlt
      split
      · exact h
      · rename_i hb
        refine memWf_cons hb h ?_
        intro d hd
        rcases List.mem_cons.mp hd with rfl | hd
        · exact hlt
        · exact lt_trans hlt (hab d hd)
    · split
      · rename_i heq
        subst heq
        split
        · exact ht
        · rename_i hb
          exact memWf_cons hb ht hab
      · rename_i h1 h2
        refine memWf_cons (memWf_head h) (ih ht) ?_
        intro d hd
        rcases memPut_mem hd with hd | rfl
        · exact hab d hd
        · exact lt_of_le_of_ne (not_lt.mp h1) (fun e => h2 e.symm)

/-- Bytes written keep the canonical form. -/
theorem memPuts_wf {m : List Host.Cell} (h : memWf m = true) (a : Nat) (bs : List Byte) : memWf (memPuts m a bs) = true := by
  induction bs generalizing m a with
  | nil => exact h
  | cons b bs ih => exact ih (memPut_wf h a b) (a + 1)

/-- Dropping entries keeps the canonical form. -/
theorem memFilter_wf {m : List Host.Cell} (h : memWf m = true) (p : Host.Cell → Bool) : memWf (m.filter p) = true := by
  induction m with
  | nil => rfl
  | cons c m ih =>
    have ht := ih (memWf_tail h)
    simp only [List.filter_cons]
    split
    · exact memWf_cons (memWf_head h) ht fun d hd => memWf_above h d (List.mem_filter.mp hd).1
    · exact ht

/-- Clearing a range keeps the canonical form. -/
theorem memClear_wf {m : List Host.Cell} (h : memWf m = true) (a n : Nat) : memWf (memClear m a n) = true :=
  memFilter_wf h _

/-- An offset below every entry reads as nothing had written it. -/
theorem memGet_below {m : List Host.Cell} {a : Nat} (h : ∀ d ∈ m, a < d.1) : memGet m a = memRest a := by
  induction m with
  | nil => rfl
  | cons c m ih =>
    have := h c (by simp)
    simp only [memGet]
    rw [if_neg (by omega)]
    exact ih fun d hd => h d (by simp [hd])

/-- A byte reads as it was last written. -/
theorem memGet_memPut_same {m : List Host.Cell} (h : memWf m = true) (a : Nat) (b : Byte) :
    memGet (memPut m a b) a = b := by
  induction m with
  | nil =>
    simp only [memPut]
    split <;> simp_all [memGet]
  | cons c m ih =>
    have hab := memWf_above h
    simp only [memPut]
    split
    · rename_i hlt
      split
      · rename_i hb
        rw [hb]
        exact memGet_below fun d hd => by
          rcases List.mem_cons.mp hd with rfl | hd
          · exact hlt
          · exact lt_trans hlt (hab d hd)
      · simp [memGet]
    · split
      · rename_i heq
        subst heq
        split
        · rename_i hb
          rw [hb]
          exact memGet_below hab
        · simp [memGet]
      · rename_i h1 h2
        simp only [memGet]
        rw [if_neg (fun e => h2 e.symm)]
        exact ih (memWf_tail h)

/-- A write leaves every other byte alone. -/
theorem memGet_memPut_other (m : List Host.Cell) {a x : Nat} (b : Byte) (hx : x ≠ a) :
    memGet (memPut m a b) x = memGet m x := by
  induction m with
  | nil =>
    simp only [memPut]
    split
    · rfl
    · simp [memGet, hx.symm]
  | cons c m ih =>
    simp only [memPut]
    split
    · split
      · rfl
      · simp [memGet, hx.symm]
    · split
      · rename_i heq
        split <;> simp [memGet, hx.symm, ← heq]
      · simp only [memGet, ih]

/-- Bytes written leave every byte outside their range alone. -/
theorem memGet_memPuts_outside (m : List Host.Cell) {a x : Nat} (bs : List Byte) (hx : x < a ∨ a + bs.length ≤ x) :
    memGet (memPuts m a bs) x = memGet m x := by
  induction bs generalizing m a with
  | nil => rfl
  | cons b bs ih =>
    simp only [List.length_cons] at hx
    rw [memPuts, ih (memPut m a b) (by omega)]
    exact memGet_memPut_other m b (by omega)

/-- Bytes written read back. -/
theorem memGet_memPuts_inside {m : List Host.Cell} (h : memWf m = true) (a : Nat) (bs : List Byte) {i : Nat}
    (hi : i < bs.length) : memGet (memPuts m a bs) (a + i) = bs[i] := by
  induction bs generalizing m a i with
  | nil => simp at hi
  | cons b bs ih =>
    cases i with
    | zero =>
      rw [memPuts, memGet_memPuts_outside _ _ (by omega)]
      exact memGet_memPut_same h a b
    | succ i =>
      have := ih (memPut_wf h a b) (a + 1) (i := i) (by simpa using hi)
      rw [memPuts, show a + (i + 1) = a + 1 + i by omega, this]
      rfl

/-- `memBytes` in terms of single reads. -/
theorem memBytes_eq (m : List Host.Cell) (a n : Nat) : memBytes m a n = (List.range n).map fun i => memGet m (a + i) := by
  induction n generalizing a with
  | zero => rfl
  | succ n ih =>
    rw [memBytes, ih, List.range_succ_eq_map]
    simp [Function.comp_def, Nat.add_assoc, Nat.add_comm 1]

/-- A whole run of bytes reads back as it was written. -/
theorem memBytes_memPuts {m : List Host.Cell} (h : memWf m = true) (a : Nat) (bs : List Byte) :
    memBytes (memPuts m a bs) a bs.length = bs := by
  rw [memBytes_eq]
  apply List.ext_getElem
  · simp
  · intro i h1 h2
    simp only [List.getElem_map, List.getElem_range]
    exact memGet_memPuts_inside h a bs h2

/-- A range reads as before if nothing in it was written. -/
theorem memBytes_memPuts_outside (m : List Host.Cell) {a x n : Nat} (bs : List Byte)
    (hx : x + n ≤ a ∨ a + bs.length ≤ x) : memBytes (memPuts m a bs) x n = memBytes m x n := by
  rw [memBytes_eq, memBytes_eq]
  apply List.map_congr_left
  intro i hi
  have := List.mem_range.mp hi
  exact memGet_memPuts_outside m bs (by omega)

/-- A cleared range reads as if nothing had written it, and nothing else changes. -/
theorem memGet_memClear (m : List Host.Cell) (a n x : Nat) :
    memGet (memClear m a n) x = if a ≤ x ∧ x < a + n then memRest x else memGet m x := by
  induction m with
  | nil => simp [memClear, memGet]
  | cons c m ih =>
    simp only [memClear] at ih
    simp only [memClear, List.filter_cons]
    split
    · rename_i hc
      simp only [Bool.not_eq_true', Bool.and_eq_false_iff, decide_eq_false_iff_not] at hc
      simp only [memGet, ih]
      by_cases hx : c.1 = x
      · have hn : ¬ (a ≤ x ∧ x < a + n) := by omega
        simp [hx, hn]
      · simp [hx]
    · rename_i hc
      simp only [Bool.not_eq_true', Bool.not_eq_false, Bool.and_eq_true, decide_eq_true_eq] at hc
      rw [ih]
      by_cases hx : a ≤ x ∧ x < a + n
      · simp [hx]
      · rw [if_neg hx, if_neg hx]
        simp only [memGet]
        rw [if_neg (by omega)]

/-- The number of `n` bytes is below 256 ^ n. -/
theorem ofLe_lt (bs : List Byte) : ofLe bs < 256 ^ bs.length := by
  induction bs with
  | nil => simp [ofLe]
  | cons b bs ih =>
    have := b.isLt
    simp only [ofLe, List.length_cons, Nat.pow_succ]
    omega

@[simp] theorem le_length (n v : Nat) : (le n v).length = n := by
  induction n generalizing v with
  | zero => rfl
  | succ n ih => simp [le, ih]

/-- A number written in `n` bytes reads back, cut to them (R8). -/
theorem ofLe_le (n v : Nat) : ofLe (le n v) = v % 256 ^ n := by
  induction n generalizing v with
  | zero => simp [le, ofLe, Nat.mod_one]
  | succ n ih =>
    simp only [le, ofLe, ih, BitVec.toNat_ofNat]
    have h := Nat.mod_mul (a := 256) (b := 256 ^ n) (x := v)
    rw [show (256 : Nat) ^ (n + 1) = 256 * 256 ^ n from Nat.pow_succ', h]

/-- A number stored in the SRAM reads back (R8). -/
theorem memLe_memPuts_le {m : List Host.Cell} (h : memWf m = true) (a n v : Nat) :
    memLe (memPuts m a (le n v)) a n = v % 256 ^ n := by
  have := memBytes_memPuts h a (le n v)
  rw [le_length] at this
  rw [memLe, this, ofLe_le]

/-! ### The state's memory -/

/-- The SRAM is in canonical form. -/
abbrev State.memOk (s : State) : Prop := memWf s.mem = true

theorem State.poke_memOk {s : State} (h : s.memOk) (a : Nat) (bs : List Byte) : (s.poke a bs).memOk := memPuts_wf h a bs

theorem State.reset_memOk : State.reset.memOk := rfl

/-- An entry goes to the slot of its SEQ, and nothing else is stored. -/
theorem gbWriteAt_mem (s : State) (t id subsys kind cls frac data : Nat) :
    (gbWriteAt s t id subsys kind cls frac data).mem
      = memPuts s.mem (gbSlot s.gb.next.toNat) (gbEntry s t s.gb.next.toNat id subsys kind cls frac data (s.gb.lost || gbOverwrites s.gb)) := by
  rw [gbWriteAt]

theorem gbWriteAt_memOk {s : State} (h : s.memOk) (t id subsys kind cls frac data : Nat) :
    (gbWriteAt s t id subsys kind cls frac data).memOk := by
  rw [State.memOk, gbWriteAt_mem]
  exact memPuts_wf h _ _

end Sys2Proof.Machine
end

