-- ==== Sys2Proof/WellFormed.lean ====
section
/-!
DEFINITION. Which commands the outside can form: the sizes that the manual fixes for what a row carries.
Everything else a command may carry is checked by the command's own meaning.
-/

namespace Sys2Proof

/-- A request header's LEN is 16 bits (17 Table KEEP-3). -/
def Req.wf (q : Req) : Bool := decide (q.len < 65536)

/-- Telemetry carries at most 16 temperatures (05 Table TILE-5). -/
def Telemetry.wf (t : Telemetry) : Bool := decide (t.temps.length ≤ 16)

/-- A transport packet's LEN is 16 bits (06 Table HOST-1). -/
def Packet.wf (p : Packet) : Bool := decide (p.payload.length < 65536)

/-- What an IP packet carries fits one. -/
def IpBody.wf : IpBody → Bool
  | .udp _ p => p.wf
  | .echo data => decide (data.length < 65536)
  | _ => true

/-- What a frame carries is well-formed. -/
def EthFrame.wf (f : EthFrame) : Bool :=
  match f.body with
  | .direct _ p => p.wf
  | .ipv4 _ _ _ b => b.wf
  | .ipv6 _ _ _ b => b.wf
  | _ => true

/-- A Stageline frame has at most 256 payload bytes (13 Table PWR-5). -/
def StageFrame.wf (f : StageFrame) : Bool := decide (f.payload.length ≤ 256)

/-- A round has 32 chamber channels, 8 die sensors, 8 drive buses and two mains lines (11 Table HKP-1). -/
def RoundInputs.wf (r : RoundInputs) : Bool :=
  let fits (w : Nat) (x : Int) : Bool := decide (-(2 ^ (w - 1) : Int) ≤ x) && decide (x < 2 ^ (w - 1))
  decide (r.chamber.length ≤ 32) && decide (r.die.length ≤ 8) && decide (r.drvBus.length ≤ 8)
    && decide (r.refcalChamber.length ≤ 4) && decide (r.mains.length ≤ 2)
    && (r.die.all fun x => (x.map (fits 16)).getD true) && (r.stpBus :: r.vstby :: r.phantom :: r.drvBus).all (fits 32)

/-- Well-formed commands. -/
def Instr.wellFormed : Instr → Bool
  | .layArm q _ rtt => q.wf && decide (rtt.length ≤ 72)
  | .layStart q => q.wf
  | .stagelineStartMarker _ => true
  | .doseRingPrimed _ => true
  | .layAbort q _ => q.wf
  | .layStatus q => q.wf
  | .layRecordGet q _ _ => q.wf
  | .lineMarker _ _ _ => true
  | .carriageStall _ => true
  | .calibrationStale _ => true
  | .mapRowDrop _ _ => true
  | .runupTimeout _ rtt => decide (rtt.length ≤ 72)
  | .followerAtRest _ => true
  | .runOutDone _ rtt => decide (rtt.length ≤ 72)
  | .learnUpdate _ => true
  | .aqripolBlock _ _ _ => true
  | .blockAccepted _ _ => true
  | .inflaterSlotFree _ _ => true
  | .compressHandover _ _ _ _ _ => true
  | .compressDone _ _ _ => true
  | .compressBypass _ => true
  | .shadowCompare _ _ => true
  | .dataKekAgree q hostKey => q.wf && decide (hostKey.length ≤ 97)
  | .dataKeyLoad q _ _ wrapped => q.wf && decide (wrapped.length ≤ 40)
  | .dataKeyClear q _ => q.wf
  | .dataKeyStatus q => q.wf
  | .dataStreamStatus q _ => q.wf
  | .dataShadowReport q => q.wf
  | .dataCompress q _ _ => q.wf
  | .doseBilletRead q _ => q.wf
  | .doseBilletWrite q _ weights => q.wf && decide (weights.length ≤ 288)
  | .doseBilletDefault q _ => q.wf
  | .emonCapArm q => q.wf
  | .emonCapTrigger q => q.wf
  | .emonCapStop q => q.wf
  | .emonCapHeader q => q.wf
  | .emonCapRelease q _ => q.wf
  | .emonLearnReset q => q.wf
  | .captureClearDone _ => true
  | .markerAdvance _ _ => true
  | .deliveryReport _ _ _ _ _ _ => true
  | .ackUnknown _ _ _ _ => true
  | .photodiodeReturn _ _ _ _ _ samples => decide (samples.body.length = 1024)
  | .telemetryFrame _ _ _ frame => frame.body.wf
  | .managementResponse _ _ _ _ _ _ => true
  | .codewordUncorrectable _ _ _ => true
  | .laneFailover _ _ => true
  | .failoverComplete _ _ => true
  | .chainRailsGood _ _ => true
  | .segmentTrained _ _ space => decide (space.length ≤ 320)
  | .segmentTrainFail _ _ => true
  | .chainDiscovered _ _ rtt blocks => decide (rtt.length ≤ 18) && decide (blocks.length ≤ 18)
  | .loadSwitchClose _ _ => true
  | .reservePretrain _ => true
  | .pretrainDone _ _ got => decide (got.latencies.length ≤ 18)
  | .presenceLoss _ _ => true
  | .railDischargeCheck _ _ _ => true
  | .presenceReturn _ _ => true
  | .linkChainPower q _ _ => q.wf
  | .linkDescRead q _ _ _ _ => q.wf
  | .linkDescWrite q _ _ _ _ data => q.wf && decide (data.length ≤ 4096)
  | .linkTileSwitch q _ _ _ => q.wf
  | .linkFailover q _ => q.wf
  | .linkRestore q _ => q.wf
  | .linkStatus q _ => q.wf
  | .transportPacketRx _ _ f _ => f.wf
  | .ackTimer _ _ => true
  | .retransmitTimeout _ _ => true
  | .inboundGapTimeout _ _ => true
  | .outboundPeerLost _ _ => true
  | .keepaliveSend _ _ => true
  | .portDown _ _ => true
  | .ptpMessageRx _ _ _ => true
  | .ptpSyncLost _ => true
  | .hostPortStatus q _ => q.wf
  | .hostPortRestart q _ => q.wf
  | .hostChanOpen q _ _ _ => q.wf
  | .hostChanClose q _ => q.wf
  | .dmaStart q _ _ => q.wf
  | .dmaStop q _ => q.wf
  | .dmaDisable q _ => q.wf
  | .dmaStatus q _ => q.wf
  | .dmaBurst _ _ => true
  | .dmaStarveBoost _ _ => true
  | .baseTick _ => true
  | .encoderPositionChange _ _ _ => true
  | .encoderZEdge _ _ => true
  | .encoderLost _ _ _ => true
  | .carriageInPosition _ => true
  | .outputSaturated _ _ => true
  | .servoLoopEnable q _ _ => q.wf
  | .servoLoopCommit q _ => q.wf
  | .servoTableWrite q _ _ _ values => q.wf && decide (values.length ≤ 256)
  | .servoEncReference q _ => q.wf
  | .servoCarriageMove q _ => q.wf
  | .servoCarriageStop q => q.wf
  | .servoTestStart q _ => q.wf
  | .servoTestStop q => q.wf
  | .servoStatus q _ => q.wf
  | .decisionPeriod _ _ _ _ _ _ => true
  | .driveOvercurrent _ _ _ => true
  | .bemfZeroCrossing _ _ _ _ => true
  | .catchTimeout _ _ => true
  | .brakeElapsed _ _ => true
  | .alignElapsed _ _ => true
  | .coastElapsed _ _ => true
  | .standstillOffset _ _ _ _ _ => true
  | .driveStall _ _ => true
  | .drvEnable q _ _ => q.wf
  | .drvCurveWrite q _ points => q.wf && decide (points.length ≤ 8)
  | .drvAlign q _ => q.wf
  | .drvAlignDone _ _ => true
  | .drvStatus q _ => q.wf
  | .stepperPwmPeriod _ _ _ => true
  | .voltageSaturation _ _ => true
  | .profileEvaluation _ => true
  | .stepDriverFault _ _ => true
  | .switchSample _ _ _ => true
  | .switchQualified _ _ _ => true
  | .stepEnable q _ _ => q.wf
  | .stepMove q _ _ _ _ _ targets => q.wf && decide (targets.length ≤ 4)
  | .stepStop q _ => q.wf
  | .stepResume q _ => q.wf
  | .stepFlush q _ => q.wf
  | .stepHome q _ => q.wf
  | .stepGroup q _ _ => q.wf
  | .stepSwReset q _ => q.wf
  | .stepStatus q _ => q.wf
  | .roundStart _ => true
  | .roundPublish _ inputs => inputs.wf
  | .mainsZeroCross _ _ _ => true
  | .mainsLost _ _ => true
  | .heaterPwmPeriod _ _ => true
  | .hkRead q _ _ => q.wf
  | .htrOtReset q _ => q.wf
  | .analogueTrip _ => true
  | .wearSave _ => true
  | .pwrState q _ => q.wf
  | .pwrRail q _ _ => q.wf
  | .pwrMargin q _ _ _ => q.wf
  | .marginTrimDone _ _ _ _ => true
  | .pwrRailStatus q _ => q.wf
  | .pwrStageClaim q _ => q.wf
  | .pwrStageRelease q => q.wf
  | .pwrStageDiscover q => q.wf
  | .pwrStageSeq q _ _ _ _ _ => q.wf
  | .pwrStageStart q _ => q.wf
  | .railDelayElapsed _ _ => true
  | .railGood _ _ _ _ => true
  | .railPgTimeout _ _ => true
  | .railDecayed _ _ _ => true
  | .railDecayTimeout _ _ => true
  | .railLost _ _ _ => true
  | .railOvervoltage _ _ _ => true
  | .pmbusAlert _ _ _ => true
  | .pmbusPoll _ _ _ => true
  | .wakeEvent _ _ => true
  | .vstbyLost _ => true
  | .phantomLost _ => true
  | .phantomOvercurrent _ => true
  | .stagelineFrameRx _ _ frame => frame.wf
  | .neighbourSend _ _ => true
  | .nodeZeroTimeout _ => true
  | .sweepSend _ => true
  | .stageRequestTimeout _ => true
  | .claimWindowEnd _ => true
  | .masterLost _ => true
  | .autoClaim _ => true
  | .seqApply _ => true
  | .stageLinkDown _ _ => true
  | .referenceNotReady _ => true
  | .referenceLost _ => true
  | .porterCrystalFail _ => true
  | .porterRcTrim _ => true
  | .pllLock _ _ _ _ => true
  | .pllUnlock _ _ => true
  | .exppllPhaseAligned _ => true
  | .secondBoundary _ => true
  | .timeMarkerRx _ _ => true
  | .segmentDelayMeasure _ _ exchanges => decide (exchanges.length = 64)
  | .holdoverEntry _ => true
  | .leapApply _ => true
  | .ptpDisagreement _ => true
  | .clkTimeGet q => q.wf
  | .clkTimeSet q _ _ _ _ _ _ _ _ => q.wf
  | .clkLeapSet q _ _ => q.wf
  | .clkStatus q => q.wf
  | .faultRaise _ _ _ _ => true
  | .reactionCheck _ _ _ => true
  | .emitInhibitRise _ => true
  | .inhibitHoldExpiry _ => true
  | .sramError _ _ _ _ => true
  | .regionWriteBlocked _ _ _ => true
  | .scrubPass _ => true
  | .faultClear q _ => q.wf
  | .faultStatus q _ _ => q.wf
  | .faultFirst q => q.wf
  | .faultInject q _ => q.wf
  | .liveTableRebuild _ => true
  | .bracketLoad _ _ _ => true
  | .calibrationBurstStart _ => true
  | .calibrationPeriod _ samples => decide (samples.length ≤ 73728)
  | .calibrationRunApply _ => true
  | .calibrationRunEnd _ _ => true
  | .traceEnterTimeout _ => true
  | .hkTraceDone _ => true
  | .tileOverdue _ _ _ => true
  | .calRun q _ => q.wf
  | .calCancel q => q.wf
  | .calStatus q => q.wf
  | .calCellRead q _ _ _ _ => q.wf
  | .calCellSet q _ _ _ _ _ => q.wf
  | .calPdTrace q _ _ _ => q.wf
  | .calPdEnter q _ => q.wf
  | .calHkTrace q => q.wf
  | .calUserReset q _ _ => q.wf
  | .keeperWatchdogTrip _ _ => true
  | .keeperRestartDone _ => true
  | .loadWindow _ _ => true
  | .requestAging _ _ _ => true
  | .sessionTimeout _ _ => true
  | .claimWindowClose _ => true
  | .storeCommitDelay _ flash => decide (flash.length ≤ 3)
  | .gbFlush _ => true
  | .mb4ReqDoorbell _ => true
  | .mb4AckDoorbell _ => true
  | .timeNowRead _ => true
  | .registerWrite _ _ _ _ => true
  | .keepIdent q => q.wf
  | .keepStatus q => q.wf
  | .paramRead q _ _ _ => q.wf
  | .paramWrite q entry => q.wf && decide (entry.value.length ≤ 4096)
  | .paramWriteSet q _ entries => q.wf && decide (entries.length ≤ 255)
  | .sessionOpen q _ => q.wf
  | .sessionClose q => q.wf
  | .sessionClaim q _ => q.wf
  | .keepResync q => q.wf
  | .waybillRead q _ _ _ => q.wf
  | .gbRead q _ _ => q.wf
  | .gbAck q _ => q.wf
  | .storeCommit q flash => q.wf && decide (flash.length ≤ 3)
  | .storeStatus q => q.wf
  | .fwBegin q _ => q.wf
  | .fwWrite q _ data => q.wf && decide (data.length ≤ 4092)
  | .fwVerify q => q.wf
  | .fwActivate q _ => q.wf
  | .fwConfirm q => q.wf
  | .bistResultRead q => q.wf
  | .secIdentGet q => q.wf
  | .wearRead q => q.wf
  | .shutdownSelfTest _ _ => true
  | .selfTestInterrupt _ => true
  | .boot _ => true
  | .emitInhibitFall _ => true
  | .portLinkUp _ _ => true
  | .vstbyReturn _ => true
  | .phantomReturn _ => true
  | .phantomFoldbackEnd _ => true
  | .sixStepCommutation _ _ => true
  | .claimCollisionResend _ => true
  | .storeDeferralLimit _ flash => decide (flash.length ≤ 3)
  | .repairLineBuilt _ _ => true

end Sys2Proof
end

