-- ==== Sys2Proof/Laws/PerInstr.lean ====
section
/-!
SUPPORT. A fact about every command, one lemma per constructor: a well-formed command carries a request whose LEN
fits the request header (17 Table KEEP-3).
-/

namespace Sys2Proof.Laws.Sized

/-- The mailbox request a command is, for the rows that are requests. -/
def request? : Instr → Option Req
  | .layArm q _ _ => some q
  | .layStart q => some q
  | .stagelineStartMarker _ => none
  | .doseRingPrimed _ => none
  | .layAbort q _ => some q
  | .layStatus q => some q
  | .layRecordGet q _ _ => some q
  | .lineMarker _ _ _ => none
  | .carriageStall _ => none
  | .calibrationStale _ => none
  | .mapRowDrop _ _ => none
  | .runupTimeout _ _ => none
  | .followerAtRest _ => none
  | .runOutDone _ _ => none
  | .learnUpdate _ => none
  | .aqripolBlock _ _ _ => none
  | .blockAccepted _ _ => none
  | .inflaterSlotFree _ _ => none
  | .compressHandover _ _ _ _ _ => none
  | .compressDone _ _ _ => none
  | .compressBypass _ => none
  | .shadowCompare _ _ => none
  | .dataKekAgree q _ => some q
  | .dataKeyLoad q _ _ _ => some q
  | .dataKeyClear q _ => some q
  | .dataKeyStatus q => some q
  | .dataStreamStatus q _ => some q
  | .dataShadowReport q => some q
  | .dataCompress q _ _ => some q
  | .doseBilletRead q _ => some q
  | .doseBilletWrite q _ _ => some q
  | .doseBilletDefault q _ => some q
  | .emonCapArm q => some q
  | .emonCapTrigger q => some q
  | .emonCapStop q => some q
  | .emonCapHeader q => some q
  | .emonCapRelease q _ => some q
  | .emonLearnReset q => some q
  | .captureClearDone _ => none
  | .markerAdvance _ _ => none
  | .deliveryReport _ _ _ _ _ _ => none
  | .ackUnknown _ _ _ _ => none
  | .photodiodeReturn _ _ _ _ _ _ => none
  | .telemetryFrame _ _ _ _ => none
  | .managementResponse _ _ _ _ _ _ => none
  | .codewordUncorrectable _ _ _ => none
  | .laneFailover _ _ => none
  | .failoverComplete _ _ => none
  | .chainRailsGood _ _ => none
  | .segmentTrained _ _ _ => none
  | .segmentTrainFail _ _ => none
  | .chainDiscovered _ _ _ _ => none
  | .loadSwitchClose _ _ => none
  | .reservePretrain _ => none
  | .pretrainDone _ _ _ => none
  | .presenceLoss _ _ => none
  | .railDischargeCheck _ _ _ => none
  | .presenceReturn _ _ => none
  | .linkChainPower q _ _ => some q
  | .linkDescRead q _ _ _ _ => some q
  | .linkDescWrite q _ _ _ _ _ => some q
  | .linkTileSwitch q _ _ _ => some q
  | .linkFailover q _ => some q
  | .linkRestore q _ => some q
  | .linkStatus q _ => some q
  | .transportPacketRx _ _ _ _ => none
  | .ackTimer _ _ => none
  | .retransmitTimeout _ _ => none
  | .inboundGapTimeout _ _ => none
  | .outboundPeerLost _ _ => none
  | .keepaliveSend _ _ => none
  | .portDown _ _ => none
  | .ptpMessageRx _ _ _ => none
  | .ptpSyncLost _ => none
  | .hostPortStatus q _ => some q
  | .hostPortRestart q _ => some q
  | .hostChanOpen q _ _ _ => some q
  | .hostChanClose q _ => some q
  | .dmaStart q _ _ => some q
  | .dmaStop q _ => some q
  | .dmaDisable q _ => some q
  | .dmaStatus q _ => some q
  | .dmaBurst _ _ => none
  | .dmaStarveBoost _ _ => none
  | .baseTick _ => none
  | .encoderPositionChange _ _ _ => none
  | .encoderZEdge _ _ => none
  | .encoderLost _ _ _ => none
  | .carriageInPosition _ => none
  | .outputSaturated _ _ => none
  | .servoLoopEnable q _ _ => some q
  | .servoLoopCommit q _ => some q
  | .servoTableWrite q _ _ _ _ => some q
  | .servoEncReference q _ => some q
  | .servoCarriageMove q _ => some q
  | .servoCarriageStop q => some q
  | .servoTestStart q _ => some q
  | .servoTestStop q => some q
  | .servoStatus q _ => some q
  | .decisionPeriod _ _ _ _ _ _ => none
  | .driveOvercurrent _ _ _ => none
  | .bemfZeroCrossing _ _ _ _ => none
  | .catchTimeout _ _ => none
  | .brakeElapsed _ _ => none
  | .alignElapsed _ _ => none
  | .coastElapsed _ _ => none
  | .standstillOffset _ _ _ _ _ => none
  | .driveStall _ _ => none
  | .drvEnable q _ _ => some q
  | .drvCurveWrite q _ _ => some q
  | .drvAlign q _ => some q
  | .drvAlignDone _ _ => none
  | .drvStatus q _ => some q
  | .stepperPwmPeriod _ _ _ => none
  | .voltageSaturation _ _ => none
  | .profileEvaluation _ => none
  | .stepDriverFault _ _ => none
  | .switchSample _ _ _ => none
  | .switchQualified _ _ _ => none
  | .stepEnable q _ _ => some q
  | .stepMove q _ _ _ _ _ _ => some q
  | .stepStop q _ => some q
  | .stepResume q _ => some q
  | .stepFlush q _ => some q
  | .stepHome q _ => some q
  | .stepGroup q _ _ => some q
  | .stepSwReset q _ => some q
  | .stepStatus q _ => some q
  | .roundStart _ => none
  | .roundPublish _ _ => none
  | .mainsZeroCross _ _ _ => none
  | .mainsLost _ _ => none
  | .heaterPwmPeriod _ _ => none
  | .hkRead q _ _ => some q
  | .htrOtReset q _ => some q
  | .analogueTrip _ => none
  | .wearSave _ => none
  | .pwrState q _ => some q
  | .pwrRail q _ _ => some q
  | .pwrMargin q _ _ _ => some q
  | .marginTrimDone _ _ _ _ => none
  | .pwrRailStatus q _ => some q
  | .pwrStageClaim q _ => some q
  | .pwrStageRelease q => some q
  | .pwrStageDiscover q => some q
  | .pwrStageSeq q _ _ _ _ _ => some q
  | .pwrStageStart q _ => some q
  | .railDelayElapsed _ _ => none
  | .railGood _ _ _ _ => none
  | .railPgTimeout _ _ => none
  | .railDecayed _ _ _ => none
  | .railDecayTimeout _ _ => none
  | .railLost _ _ _ => none
  | .railOvervoltage _ _ _ => none
  | .pmbusAlert _ _ _ => none
  | .pmbusPoll _ _ _ => none
  | .wakeEvent _ _ => none
  | .vstbyLost _ => none
  | .phantomLost _ => none
  | .phantomOvercurrent _ => none
  | .stagelineFrameRx _ _ _ => none
  | .neighbourSend _ _ => none
  | .nodeZeroTimeout _ => none
  | .sweepSend _ => none
  | .stageRequestTimeout _ => none
  | .claimWindowEnd _ => none
  | .masterLost _ => none
  | .autoClaim _ => none
  | .seqApply _ => none
  | .stageLinkDown _ _ => none
  | .referenceNotReady _ => none
  | .referenceLost _ => none
  | .porterCrystalFail _ => none
  | .porterRcTrim _ => none
  | .pllLock _ _ _ _ => none
  | .pllUnlock _ _ => none
  | .exppllPhaseAligned _ => none
  | .secondBoundary _ => none
  | .timeMarkerRx _ _ => none
  | .segmentDelayMeasure _ _ _ => none
  | .holdoverEntry _ => none
  | .leapApply _ => none
  | .ptpDisagreement _ => none
  | .clkTimeGet q => some q
  | .clkTimeSet q _ _ _ _ _ _ _ _ => some q
  | .clkLeapSet q _ _ => some q
  | .clkStatus q => some q
  | .faultRaise _ _ _ _ => none
  | .reactionCheck _ _ _ => none
  | .emitInhibitRise _ => none
  | .inhibitHoldExpiry _ => none
  | .sramError _ _ _ _ => none
  | .regionWriteBlocked _ _ _ => none
  | .scrubPass _ => none
  | .faultClear q _ => some q
  | .faultStatus q _ _ => some q
  | .faultFirst q => some q
  | .faultInject q _ => some q
  | .liveTableRebuild _ => none
  | .bracketLoad _ _ _ => none
  | .calibrationBurstStart _ => none
  | .calibrationPeriod _ _ => none
  | .calibrationRunApply _ => none
  | .calibrationRunEnd _ _ => none
  | .traceEnterTimeout _ => none
  | .hkTraceDone _ => none
  | .tileOverdue _ _ _ => none
  | .calRun q _ => some q
  | .calCancel q => some q
  | .calStatus q => some q
  | .calCellRead q _ _ _ _ => some q
  | .calCellSet q _ _ _ _ _ => some q
  | .calPdTrace q _ _ _ => some q
  | .calPdEnter q _ => some q
  | .calHkTrace q => some q
  | .calUserReset q _ _ => some q
  | .keeperWatchdogTrip _ _ => none
  | .keeperRestartDone _ => none
  | .loadWindow _ _ => none
  | .requestAging _ _ _ => none
  | .sessionTimeout _ _ => none
  | .claimWindowClose _ => none
  | .storeCommitDelay _ _ => none
  | .gbFlush _ => none
  | .mb4ReqDoorbell _ => none
  | .mb4AckDoorbell _ => none
  | .timeNowRead _ => none
  | .registerWrite _ _ _ _ => none
  | .keepIdent q => some q
  | .keepStatus q => some q
  | .paramRead q _ _ _ => some q
  | .paramWrite q _ => some q
  | .paramWriteSet q _ _ => some q
  | .sessionOpen q _ => some q
  | .sessionClose q => some q
  | .sessionClaim q _ => some q
  | .keepResync q => some q
  | .waybillRead q _ _ _ => some q
  | .gbRead q _ _ => some q
  | .gbAck q _ => some q
  | .storeCommit q _ => some q
  | .storeStatus q => some q
  | .fwBegin q _ => some q
  | .fwWrite q _ _ => some q
  | .fwVerify q => some q
  | .fwActivate q _ => some q
  | .fwConfirm q => some q
  | .bistResultRead q => some q
  | .secIdentGet q => some q
  | .wearRead q => some q
  | .shutdownSelfTest _ _ => none
  | .selfTestInterrupt _ => none
  | .boot _ => none
  | .emitInhibitFall _ => none
  | .portLinkUp _ _ => none
  | .vstbyReturn _ => none
  | .phantomReturn _ => none
  | .phantomFoldbackEnd _ => none
  | .sixStepCommutation _ _ => none
  | .claimCollisionResend _ => none
  | .storeDeferralLimit _ _ => none
  | .repairLineBuilt _ _ => none

/-- A well-formed command that is a request has a LEN of 16 bits. -/
def Statement (i : Instr) : Prop :=
  i.wellFormed = true → ∀ q, request? i = some q → q.len < 65536

/-- A request whose own fields are in range. -/
theorem of_wf {q : Req} (h : q.wf = true) : q.len < 65536 := by
  simpa [Req.wf] using h

theorem layArm (q : Req) (d : LayerDesc) (rtt : List Nat) : Statement (.layArm q d rtt) :=
  fun h _ e => Option.some.inj e ▸ of_wf (Bool.and_eq_true_iff.mp h).1

theorem layStart (q : Req) : Statement (.layStart q) :=
  fun h _ e => Option.some.inj e ▸ of_wf h

theorem stagelineStartMarker (dt : Nat) : Statement (.stagelineStartMarker dt) :=
  fun _ _ e => nomatch e

theorem doseRingPrimed (dt : Nat) : Statement (.doseRingPrimed dt) :=
  fun _ _ e => nomatch e

theorem layAbort (q : Req) (atTime : U64) : Statement (.layAbort q atTime) :=
  fun h _ e => Option.some.inj e ▸ of_wf h

theorem layStatus (q : Req) : Statement (.layStatus q) :=
  fun h _ e => Option.some.inj e ▸ of_wf h

theorem layRecordGet (q : Req) (layerNo : U32) (repair : Byte) : Statement (.layRecordGet q layerNo repair) :=
  fun h _ e => Option.some.inj e ▸ of_wf h

theorem lineMarker (dt : Nat) (m : Int) (noBuffer : Bool) : Statement (.lineMarker dt m noBuffer) :=
  fun _ _ e => nomatch e

theorem carriageStall (dt : Nat) : Statement (.carriageStall dt) :=
  fun _ _ e => nomatch e

theorem calibrationStale (dt : Nat) : Statement (.calibrationStale dt) :=
  fun _ _ e => nomatch e

theorem mapRowDrop (dt : Nat) (row : Nat) : Statement (.mapRowDrop dt row) :=
  fun _ _ e => nomatch e

theorem runupTimeout (dt : Nat) (rtt : List Nat) : Statement (.runupTimeout dt rtt) :=
  fun _ _ e => nomatch e

theorem followerAtRest (dt : Nat) : Statement (.followerAtRest dt) :=
  fun _ _ e => nomatch e

theorem runOutDone (dt : Nat) (rtt : List Nat) : Statement (.runOutDone dt rtt) :=
  fun _ _ e => nomatch e

theorem learnUpdate (dt : Nat) : Statement (.learnUpdate dt) :=
  fun _ _ e => nomatch e

theorem aqripolBlock (dt : Nat) (queue : Fin 2) (parity : Bool) : Statement (.aqripolBlock dt queue parity) :=
  fun _ _ e => nomatch e

theorem blockAccepted (dt : Nat) (queue : Part 2) : Statement (.blockAccepted dt queue) :=
  fun _ _ e => nomatch e

theorem inflaterSlotFree (dt : Nat) (queue : Fin 2) : Statement (.inflaterSlotFree dt queue) :=
  fun _ _ e => nomatch e

theorem compressHandover (dt : Nat) (kind : Byte) (place : Fin 4) (items : U16) (parity : Bool) : Statement (.compressHandover dt kind place items parity) :=
  fun _ _ e => nomatch e

theorem compressDone (dt : Nat) (place : Fin 4) (faulty : Bool) : Statement (.compressDone dt place faulty) :=
  fun _ _ e => nomatch e

theorem compressBypass (dt : Nat) : Statement (.compressBypass dt) :=
  fun _ _ e => nomatch e

theorem shadowCompare (dt : Nat) (wrong : List (Nat × Nat × U16)) : Statement (.shadowCompare dt wrong) :=
  fun _ _ e => nomatch e

theorem dataKekAgree (q : Req) (hostKey : List Byte) : Statement (.dataKekAgree q hostKey) :=
  fun h _ e => Option.some.inj e ▸ of_wf (Bool.and_eq_true_iff.mp h).1

theorem dataKeyLoad (q : Req) (slot : Byte) (ivFixed : U32) (wrapped : List Byte) : Statement (.dataKeyLoad q slot ivFixed wrapped) :=
  fun h _ e => Option.some.inj e ▸ of_wf (Bool.and_eq_true_iff.mp h).1

theorem dataKeyClear (q : Req) (slot : Byte) : Statement (.dataKeyClear q slot) :=
  fun h _ e => Option.some.inj e ▸ of_wf h

theorem dataKeyStatus (q : Req) : Statement (.dataKeyStatus q) :=
  fun h _ e => Option.some.inj e ▸ of_wf h

theorem dataStreamStatus (q : Req) (queue : Byte) : Statement (.dataStreamStatus q queue) :=
  fun h _ e => Option.some.inj e ▸ of_wf h

theorem dataShadowReport (q : Req) : Statement (.dataShadowReport q) :=
  fun h _ e => Option.some.inj e ▸ of_wf h

theorem dataCompress (q : Req) (src : U32) (len : U32) : Statement (.dataCompress q src len) :=
  fun h _ e => Option.some.inj e ▸ of_wf h

theorem doseBilletRead (q : Req) (column : U16) : Statement (.doseBilletRead q column) :=
  fun h _ e => Option.some.inj e ▸ of_wf h

theorem doseBilletWrite (q : Req) (column : U16) (weights : List Byte) : Statement (.doseBilletWrite q column weights) :=
  fun h _ e => Option.some.inj e ▸ of_wf (Bool.and_eq_true_iff.mp h).1

theorem doseBilletDefault (q : Req) (lane : Byte) : Statement (.doseBilletDefault q lane) :=
  fun h _ e => Option.some.inj e ▸ of_wf h

theorem emonCapArm (q : Req) : Statement (.emonCapArm q) :=
  fun h _ e => Option.some.inj e ▸ of_wf h

theorem emonCapTrigger (q : Req) : Statement (.emonCapTrigger q) :=
  fun h _ e => Option.some.inj e ▸ of_wf h

theorem emonCapStop (q : Req) : Statement (.emonCapStop q) :=
  fun h _ e => Option.some.inj e ▸ of_wf h

theorem emonCapHeader (q : Req) : Statement (.emonCapHeader q) :=
  fun h _ e => Option.some.inj e ▸ of_wf h

theorem emonCapRelease (q : Req) (mode : Byte) : Statement (.emonCapRelease q mode) :=
  fun h _ e => Option.some.inj e ▸ of_wf h

theorem emonLearnReset (q : Req) : Statement (.emonLearnReset q) :=
  fun h _ e => Option.some.inj e ▸ of_wf h

theorem captureClearDone (dt : Nat) : Statement (.captureClearDone dt) :=
  fun _ _ e => nomatch e

theorem markerAdvance (dt : Nat) (waitNs : Nat) : Statement (.markerAdvance dt waitNs) :=
  fun _ _ e => nomatch e

theorem deliveryReport (dt : Nat) (chain : Fin 4) (pos : Fin 18) (period : U32) (fired : U16) (status : Rx Byte) : Statement (.deliveryReport dt chain pos period fired status) :=
  fun _ _ e => nomatch e

theorem ackUnknown (dt : Nat) (chain : Fin 4) (pos : Fin 18) (period : U32) : Statement (.ackUnknown dt chain pos period) :=
  fun _ _ e => nomatch e

theorem photodiodeReturn (dt : Nat) (chain : Fin 4) (pos : Fin 18) (period : U32) (flags : U16) (samples : Rx (List (BitVec 12))) : Statement (.photodiodeReturn dt chain pos period flags samples) :=
  fun _ _ e => nomatch e

theorem telemetryFrame (dt : Nat) (chain : Fin 4) (pos : Fin 18) (frame : Rx Telemetry) : Statement (.telemetryFrame dt chain pos frame) :=
  fun _ _ e => nomatch e

theorem managementResponse (dt : Nat) (chain : Fin 4) (pos : Fin 18) (tag : Byte) (status : Byte) (data : Rx (List Byte)) : Statement (.managementResponse dt chain pos tag status data) :=
  fun _ _ e => nomatch e

theorem codewordUncorrectable (dt : Nat) (lane : Fin 5) (error : CwError) : Statement (.codewordUncorrectable dt lane error) :=
  fun _ _ e => nomatch e

theorem laneFailover (dt : Nat) (chain : Fin 4) : Statement (.laneFailover dt chain) :=
  fun _ _ e => nomatch e

theorem failoverComplete (dt : Nat) (chain : Fin 4) : Statement (.failoverComplete dt chain) :=
  fun _ _ e => nomatch e

theorem chainRailsGood (dt : Nat) (chain : Fin 4) : Statement (.chainRailsGood dt chain) :=
  fun _ _ e => nomatch e

theorem segmentTrained (dt : Nat) (chain : Fin 4) (space : List Byte) : Statement (.segmentTrained dt chain space) :=
  fun _ _ e => nomatch e

theorem segmentTrainFail (dt : Nat) (chain : Fin 4) : Statement (.segmentTrainFail dt chain) :=
  fun _ _ e => nomatch e

theorem chainDiscovered (dt : Nat) (chain : Fin 4) (rtt : List Nat) (blocks : List (List Byte)) : Statement (.chainDiscovered dt chain rtt blocks) :=
  fun _ _ e => nomatch e

theorem loadSwitchClose (dt : Nat) (chain : Fin 4) : Statement (.loadSwitchClose dt chain) :=
  fun _ _ e => nomatch e

theorem reservePretrain (dt : Nat) : Statement (.reservePretrain dt) :=
  fun _ _ e => nomatch e

theorem pretrainDone (dt : Nat) (ok : Bool) (got : Pretrained) : Statement (.pretrainDone dt ok got) :=
  fun _ _ e => nomatch e

theorem presenceLoss (dt : Nat) (chain : Fin 4) : Statement (.presenceLoss dt chain) :=
  fun _ _ e => nomatch e

theorem railDischargeCheck (dt : Nat) (chain : Fin 4) (maxMv : Nat) : Statement (.railDischargeCheck dt chain maxMv) :=
  fun _ _ e => nomatch e

theorem presenceReturn (dt : Nat) (chain : Fin 4) : Statement (.presenceReturn dt chain) :=
  fun _ _ e => nomatch e

theorem linkChainPower (q : Req) (chain : Byte) (on : Byte) : Statement (.linkChainPower q chain on) :=
  fun h _ e => Option.some.inj e ▸ of_wf h

theorem linkDescRead (q : Req) (chain : Byte) (pos : Byte) (addr : U32) (len : U16) : Statement (.linkDescRead q chain pos addr len) :=
  fun h _ e => Option.some.inj e ▸ of_wf h

theorem linkDescWrite (q : Req) (chain : Byte) (pos : Byte) (addr : U32) (len : U16) (data : List Byte) : Statement (.linkDescWrite q chain pos addr len data) :=
  fun h _ e => Option.some.inj e ▸ of_wf (Bool.and_eq_true_iff.mp h).1

theorem linkTileSwitch (q : Req) (chain : Byte) (pos : Byte) (close : Byte) : Statement (.linkTileSwitch q chain pos close) :=
  fun h _ e => Option.some.inj e ▸ of_wf h

theorem linkFailover (q : Req) (chain : Byte) : Statement (.linkFailover q chain) :=
  fun h _ e => Option.some.inj e ▸ of_wf h

theorem linkRestore (q : Req) (chain : Byte) : Statement (.linkRestore q chain) :=
  fun h _ e => Option.some.inj e ▸ of_wf h

theorem linkStatus (q : Req) (chain : Byte) : Statement (.linkStatus q chain) :=
  fun h _ e => Option.some.inj e ▸ of_wf h

theorem transportPacketRx (dt : Nat) (port : Fin 2) (frame : EthFrame) (buffersFull : Bool) : Statement (.transportPacketRx dt port frame buffersFull) :=
  fun _ _ e => nomatch e

theorem ackTimer (dt : Nat) (channel : Fin 64) : Statement (.ackTimer dt channel) :=
  fun _ _ e => nomatch e

theorem retransmitTimeout (dt : Nat) (channel : Fin 64) : Statement (.retransmitTimeout dt channel) :=
  fun _ _ e => nomatch e

theorem inboundGapTimeout (dt : Nat) (channel : Fin 64) : Statement (.inboundGapTimeout dt channel) :=
  fun _ _ e => nomatch e

theorem outboundPeerLost (dt : Nat) (channel : Fin 64) : Statement (.outboundPeerLost dt channel) :=
  fun _ _ e => nomatch e

theorem keepaliveSend (dt : Nat) (port : Fin 2) : Statement (.keepaliveSend dt port) :=
  fun _ _ e => nomatch e

theorem portDown (dt : Nat) (port : Fin 2) : Statement (.portDown dt port) :=
  fun _ _ e => nomatch e

theorem ptpMessageRx (dt : Nat) (port : Fin 2) (frame : PtpFrame) : Statement (.ptpMessageRx dt port frame) :=
  fun _ _ e => nomatch e

theorem ptpSyncLost (dt : Nat) : Statement (.ptpSyncLost dt) :=
  fun _ _ e => nomatch e

theorem hostPortStatus (q : Req) (port : Byte) : Statement (.hostPortStatus q port) :=
  fun h _ e => Option.some.inj e ▸ of_wf h

theorem hostPortRestart (q : Req) (port : Byte) : Statement (.hostPortRestart q port) :=
  fun h _ e => Option.some.inj e ▸ of_wf h

theorem hostChanOpen (q : Req) (channel : Byte) (reliable : Byte) (dir : Byte) : Statement (.hostChanOpen q channel reliable dir) :=
  fun h _ e => Option.some.inj e ▸ of_wf h

theorem hostChanClose (q : Req) (channel : Byte) : Statement (.hostChanClose q channel) :=
  fun h _ e => Option.some.inj e ▸ of_wf h

theorem dmaStart (q : Req) (ch : Byte) (desc : U32) : Statement (.dmaStart q ch desc) :=
  fun h _ e => Option.some.inj e ▸ of_wf h

theorem dmaStop (q : Req) (ch : Byte) : Statement (.dmaStop q ch) :=
  fun h _ e => Option.some.inj e ▸ of_wf h

theorem dmaDisable (q : Req) (ch : Byte) : Statement (.dmaDisable q ch) :=
  fun h _ e => Option.some.inj e ▸ of_wf h

theorem dmaStatus (q : Req) (ch : Byte) : Statement (.dmaStatus q ch) :=
  fun h _ e => Option.some.inj e ▸ of_wf h

theorem dmaBurst (dt : Nat) (ch : Part 32) : Statement (.dmaBurst dt ch) :=
  fun _ _ e => nomatch e

theorem dmaStarveBoost (dt : Nat) (ch : Fin 32) : Statement (.dmaStarveBoost dt ch) :=
  fun _ _ e => nomatch e

theorem baseTick (dt : Nat) : Statement (.baseTick dt) :=
  fun _ _ e => nomatch e

theorem encoderPositionChange (dt : Nat) (enc : Fin 4) (pos : Int) : Statement (.encoderPositionChange dt enc pos) :=
  fun _ _ e => nomatch e

theorem encoderZEdge (dt : Nat) (enc : Fin 4) : Statement (.encoderZEdge dt enc) :=
  fun _ _ e => nomatch e

theorem encoderLost (dt : Nat) (enc : Fin 4) (cause : EncLoss) : Statement (.encoderLost dt enc cause) :=
  fun _ _ e => nomatch e

theorem carriageInPosition (dt : Nat) : Statement (.carriageInPosition dt) :=
  fun _ _ e => nomatch e

theorem outputSaturated (dt : Nat) (slot : Fin 24) : Statement (.outputSaturated dt slot) :=
  fun _ _ e => nomatch e

theorem servoLoopEnable (q : Req) (slot : Byte) (on : Byte) : Statement (.servoLoopEnable q slot on) :=
  fun h _ e => Option.some.inj e ▸ of_wf h

theorem servoLoopCommit (q : Req) (slot : Byte) : Statement (.servoLoopCommit q slot) :=
  fun h _ e => Option.some.inj e ▸ of_wf h

theorem servoTableWrite (q : Req) (table : Byte) (first : U16) (count : U16) (values : List U32) : Statement (.servoTableWrite q table first count values) :=
  fun h _ e => Option.some.inj e ▸ of_wf (Bool.and_eq_true_iff.mp h).1

theorem servoEncReference (q : Req) (enc : Byte) : Statement (.servoEncReference q enc) :=
  fun h _ e => Option.some.inj e ▸ of_wf h

theorem servoCarriageMove (q : Req) (target : U32) : Statement (.servoCarriageMove q target) :=
  fun h _ e => Option.some.inj e ▸ of_wf h

theorem servoCarriageStop (q : Req) : Statement (.servoCarriageStop q) :=
  fun h _ e => Option.some.inj e ▸ of_wf h

theorem servoTestStart (q : Req) (t : ServoTest) : Statement (.servoTestStart q t) :=
  fun h _ e => Option.some.inj e ▸ of_wf h

theorem servoTestStop (q : Req) : Statement (.servoTestStop q) :=
  fun h _ e => Option.some.inj e ▸ of_wf h

theorem servoStatus (q : Req) (slot : Byte) : Statement (.servoStatus q slot) :=
  fun h _ e => Option.some.inj e ▸ of_wf h

theorem decisionPeriod (dt : Nat) (ch : Fin 8) (iu : Int) (iv : Int) (iw : Int) (vbusMv : Nat) : Statement (.decisionPeriod dt ch iu iv iw vbusMv) :=
  fun _ _ e => nomatch e

theorem driveOvercurrent (dt : Nat) (ch : Fin 8) (trip : DrvTrip) : Statement (.driveOvercurrent dt ch trip) :=
  fun _ _ e => nomatch e

theorem bemfZeroCrossing (dt : Nat) (ch : Fin 8) (phase : Fin 3) (rising : Bool) : Statement (.bemfZeroCrossing dt ch phase rising) :=
  fun _ _ e => nomatch e

theorem catchTimeout (dt : Nat) (ch : Fin 8) : Statement (.catchTimeout dt ch) :=
  fun _ _ e => nomatch e

theorem brakeElapsed (dt : Nat) (ch : Fin 8) : Statement (.brakeElapsed dt ch) :=
  fun _ _ e => nomatch e

theorem alignElapsed (dt : Nat) (ch : Fin 8) : Statement (.alignElapsed dt ch) :=
  fun _ _ e => nomatch e

theorem coastElapsed (dt : Nat) (ch : Fin 8) : Statement (.coastElapsed dt ch) :=
  fun _ _ e => nomatch e

theorem standstillOffset (dt : Nat) (ch : Fin 8) (u : Int) (v : Int) (w : Int) : Statement (.standstillOffset dt ch u v w) :=
  fun _ _ e => nomatch e

theorem driveStall (dt : Nat) (ch : Fin 8) : Statement (.driveStall dt ch) :=
  fun _ _ e => nomatch e

theorem drvEnable (q : Req) (ch : Byte) (on : Byte) : Statement (.drvEnable q ch on) :=
  fun h _ e => Option.some.inj e ▸ of_wf h

theorem drvCurveWrite (q : Req) (ch : Byte) (points : List (U32 × U32)) : Statement (.drvCurveWrite q ch points) :=
  fun h _ e => Option.some.inj e ▸ of_wf (Bool.and_eq_true_iff.mp h).1

theorem drvAlign (q : Req) (ch : Byte) : Statement (.drvAlign q ch) :=
  fun h _ e => Option.some.inj e ▸ of_wf h

theorem drvAlignDone (dt : Nat) (ch : Fin 8) : Statement (.drvAlignDone dt ch) :=
  fun _ _ e => nomatch e

theorem drvStatus (q : Req) (ch : Byte) : Statement (.drvStatus q ch) :=
  fun h _ e => Option.some.inj e ▸ of_wf h

theorem stepperPwmPeriod (dt : Nat) (axis : Fin 8) (vbusUv : Nat) : Statement (.stepperPwmPeriod dt axis vbusUv) :=
  fun _ _ e => nomatch e

theorem voltageSaturation (dt : Nat) (axis : Fin 8) : Statement (.voltageSaturation dt axis) :=
  fun _ _ e => nomatch e

theorem profileEvaluation (dt : Nat) : Statement (.profileEvaluation dt) :=
  fun _ _ e => nomatch e

theorem stepDriverFault (dt : Nat) (pin : FltPin) : Statement (.stepDriverFault dt pin) :=
  fun _ _ e => nomatch e

theorem switchSample (dt : Nat) (axis : Fin 8) (levels : BitVec 3) : Statement (.switchSample dt axis levels) :=
  fun _ _ e => nomatch e

theorem switchQualified (dt : Nat) (axis : Fin 8) (input : Fin 3) : Statement (.switchQualified dt axis input) :=
  fun _ _ e => nomatch e

theorem stepEnable (q : Req) (axis : Byte) (on : Byte) : Statement (.stepEnable q axis on) :=
  fun h _ e => Option.some.inj e ▸ of_wf h

theorem stepMove (q : Req) (unit : Byte) (abs : Byte) (vmax : U32) (amax : U32) (jmax : U32) (targets : List (BitVec 48)) : Statement (.stepMove q unit abs vmax amax jmax targets) :=
  fun h _ e => Option.some.inj e ▸ of_wf (Bool.and_eq_true_iff.mp h).1

theorem stepStop (q : Req) (unit : Byte) : Statement (.stepStop q unit) :=
  fun h _ e => Option.some.inj e ▸ of_wf h

theorem stepResume (q : Req) (unit : Byte) : Statement (.stepResume q unit) :=
  fun h _ e => Option.some.inj e ▸ of_wf h

theorem stepFlush (q : Req) (unit : Byte) : Statement (.stepFlush q unit) :=
  fun h _ e => Option.some.inj e ▸ of_wf h

theorem stepHome (q : Req) (axis : Byte) : Statement (.stepHome q axis) :=
  fun h _ e => Option.some.inj e ▸ of_wf h

theorem stepGroup (q : Req) (group : Byte) (mask : Byte) : Statement (.stepGroup q group mask) :=
  fun h _ e => Option.some.inj e ▸ of_wf h

theorem stepSwReset (q : Req) (axis : Byte) : Statement (.stepSwReset q axis) :=
  fun h _ e => Option.some.inj e ▸ of_wf h

theorem stepStatus (q : Req) (unit : Byte) : Statement (.stepStatus q unit) :=
  fun h _ e => Option.some.inj e ▸ of_wf h

theorem roundStart (dt : Nat) : Statement (.roundStart dt) :=
  fun _ _ e => nomatch e

theorem roundPublish (dt : Nat) (inputs : RoundInputs) : Statement (.roundPublish dt inputs) :=
  fun _ _ e => nomatch e

theorem mainsZeroCross (dt : Nat) (line : Fin 2) (positive : Bool) : Statement (.mainsZeroCross dt line positive) :=
  fun _ _ e => nomatch e

theorem mainsLost (dt : Nat) (line : Fin 2) : Statement (.mainsLost dt line) :=
  fun _ _ e => nomatch e

theorem heaterPwmPeriod (dt : Nat) (heater : Fin 32) : Statement (.heaterPwmPeriod dt heater) :=
  fun _ _ e => nomatch e

theorem hkRead (q : Req) (first : Byte) (count : Byte) : Statement (.hkRead q first count) :=
  fun h _ e => Option.some.inj e ▸ of_wf h

theorem htrOtReset (q : Req) (heater : Byte) : Statement (.htrOtReset q heater) :=
  fun h _ e => Option.some.inj e ▸ of_wf h

theorem analogueTrip (dt : Nat) : Statement (.analogueTrip dt) :=
  fun _ _ e => nomatch e

theorem wearSave (dt : Nat) : Statement (.wearSave dt) :=
  fun _ _ e => nomatch e

theorem pwrState (q : Req) (target : Byte) : Statement (.pwrState q target) :=
  fun h _ e => Option.some.inj e ▸ of_wf h

theorem pwrRail (q : Req) (slot : Byte) (on : Byte) : Statement (.pwrRail q slot on) :=
  fun h _ e => Option.some.inj e ▸ of_wf h

theorem pwrMargin (q : Req) (slot : Byte) (dir : Byte) (permille : Byte) : Statement (.pwrMargin q slot dir permille) :=
  fun h _ e => Option.some.inj e ▸ of_wf h

theorem marginTrimDone (dt : Nat) (slot : Fin 32) (reached : Bool) (trim : BitVec 12) : Statement (.marginTrimDone dt slot reached trim) :=
  fun _ _ e => nomatch e

theorem pwrRailStatus (q : Req) (slot : Byte) : Statement (.pwrRailStatus q slot) :=
  fun h _ e => Option.some.inj e ▸ of_wf h

theorem pwrStageClaim (q : Req) (force : Byte) : Statement (.pwrStageClaim q force) :=
  fun h _ e => Option.some.inj e ▸ of_wf h

theorem pwrStageRelease (q : Req) : Statement (.pwrStageRelease q) :=
  fun h _ e => Option.some.inj e ▸ of_wf h

theorem pwrStageDiscover (q : Req) : Statement (.pwrStageDiscover q) :=
  fun h _ e => Option.some.inj e ▸ of_wf h

theorem pwrStageSeq (q : Req) (action : Byte) (first : U16) (last : U16) (atTime : U64) (staggerUs : U16) : Statement (.pwrStageSeq q action first last atTime staggerUs) :=
  fun h _ e => Option.some.inj e ▸ of_wf h

theorem pwrStageStart (q : Req) (atTime : U64) : Statement (.pwrStageStart q atTime) :=
  fun h _ e => Option.some.inj e ▸ of_wf h

theorem railDelayElapsed (dt : Nat) (slot : Fin 32) : Statement (.railDelayElapsed dt slot) :=
  fun _ _ e => nomatch e

theorem railGood (dt : Nat) (slot : Fin 32) (mv : U16) (voutMode : Byte) : Statement (.railGood dt slot mv voutMode) :=
  fun _ _ e => nomatch e

theorem railPgTimeout (dt : Nat) (slot : Fin 32) : Statement (.railPgTimeout dt slot) :=
  fun _ _ e => nomatch e

theorem railDecayed (dt : Nat) (slot : Fin 32) (mv : U16) : Statement (.railDecayed dt slot mv) :=
  fun _ _ e => nomatch e

theorem railDecayTimeout (dt : Nat) (slot : Fin 32) : Statement (.railDecayTimeout dt slot) :=
  fun _ _ e => nomatch e

theorem railLost (dt : Nat) (slot : Fin 32) (mv : U16) : Statement (.railLost dt slot mv) :=
  fun _ _ e => nomatch e

theorem railOvervoltage (dt : Nat) (slot : Fin 32) (mv : U16) : Statement (.railOvervoltage dt slot mv) :=
  fun _ _ e => nomatch e

theorem pmbusAlert (dt : Nat) (slot : Fin 32) (status : Option (U16 × Byte × Byte)) : Statement (.pmbusAlert dt slot status) :=
  fun _ _ e => nomatch e

theorem pmbusPoll (dt : Nat) (slot : Fin 32) (readings : Option (U16 × U16 × U16)) : Statement (.pmbusPoll dt slot readings) :=
  fun _ _ e => nomatch e

theorem wakeEvent (dt : Nat) (cause : WakeCause) : Statement (.wakeEvent dt cause) :=
  fun _ _ e => nomatch e

theorem vstbyLost (dt : Nat) : Statement (.vstbyLost dt) :=
  fun _ _ e => nomatch e

theorem phantomLost (dt : Nat) : Statement (.phantomLost dt) :=
  fun _ _ e => nomatch e

theorem phantomOvercurrent (dt : Nat) : Statement (.phantomOvercurrent dt) :=
  fun _ _ e => nomatch e

theorem stagelineFrameRx (dt : Nat) (port : Fin 2) (frame : StageFrame) : Statement (.stagelineFrameRx dt port frame) :=
  fun _ _ e => nomatch e

theorem neighbourSend (dt : Nat) (port : Fin 2) : Statement (.neighbourSend dt port) :=
  fun _ _ e => nomatch e

theorem nodeZeroTimeout (dt : Nat) : Statement (.nodeZeroTimeout dt) :=
  fun _ _ e => nomatch e

theorem sweepSend (dt : Nat) : Statement (.sweepSend dt) :=
  fun _ _ e => nomatch e

theorem stageRequestTimeout (dt : Nat) : Statement (.stageRequestTimeout dt) :=
  fun _ _ e => nomatch e

theorem claimWindowEnd (dt : Nat) : Statement (.claimWindowEnd dt) :=
  fun _ _ e => nomatch e

theorem masterLost (dt : Nat) : Statement (.masterLost dt) :=
  fun _ _ e => nomatch e

theorem autoClaim (dt : Nat) : Statement (.autoClaim dt) :=
  fun _ _ e => nomatch e

theorem seqApply (dt : Nat) : Statement (.seqApply dt) :=
  fun _ _ e => nomatch e

theorem stageLinkDown (dt : Nat) (port : Fin 2) : Statement (.stageLinkDown dt port) :=
  fun _ _ e => nomatch e

theorem referenceNotReady (dt : Nat) : Statement (.referenceNotReady dt) :=
  fun _ _ e => nomatch e

theorem referenceLost (dt : Nat) : Statement (.referenceLost dt) :=
  fun _ _ e => nomatch e

theorem porterCrystalFail (dt : Nat) : Statement (.porterCrystalFail dt) :=
  fun _ _ e => nomatch e

theorem porterRcTrim (dt : Nat) : Statement (.porterRcTrim dt) :=
  fun _ _ e => nomatch e

theorem pllLock (dt : Nat) (pll : Fin 5) (band : BitVec 6) (inRange : Bool) : Statement (.pllLock dt pll band inRange) :=
  fun _ _ e => nomatch e

theorem pllUnlock (dt : Nat) (pll : Fin 5) : Statement (.pllUnlock dt pll) :=
  fun _ _ e => nomatch e

theorem exppllPhaseAligned (dt : Nat) : Statement (.exppllPhaseAligned dt) :=
  fun _ _ e => nomatch e

theorem secondBoundary (dt : Nat) : Statement (.secondBoundary dt) :=
  fun _ _ e => nomatch e

theorem timeMarkerRx (dt : Nat) (port : Fin 2) : Statement (.timeMarkerRx dt port) :=
  fun _ _ e => nomatch e

theorem segmentDelayMeasure (dt : Nat) (port : Fin 2) (exchanges : List (Nat × Nat)) : Statement (.segmentDelayMeasure dt port exchanges) :=
  fun _ _ e => nomatch e

theorem holdoverEntry (dt : Nat) : Statement (.holdoverEntry dt) :=
  fun _ _ e => nomatch e

theorem leapApply (dt : Nat) : Statement (.leapApply dt) :=
  fun _ _ e => nomatch e

theorem ptpDisagreement (dt : Nat) : Statement (.ptpDisagreement dt) :=
  fun _ _ e => nomatch e

theorem clkTimeGet (q : Req) : Statement (.clkTimeGet q) :=
  fun h _ e => Option.some.inj e ▸ of_wf h

theorem clkTimeSet (q : Req) (year : U16) (month : Byte) (day : Byte) (hour : Byte) (minute : Byte) (second : Byte) (reserved : Byte) (nsec : U32) : Statement (.clkTimeSet q year month day hour minute second reserved nsec) :=
  fun h _ e => Option.some.inj e ▸ of_wf h

theorem clkLeapSet (q : Req) (offset : U16) (atTime : U64) : Statement (.clkLeapSet q offset atTime) :=
  fun h _ e => Option.some.inj e ▸ of_wf h

theorem clkStatus (q : Req) : Statement (.clkStatus q) :=
  fun h _ e => Option.some.inj e ▸ of_wf h

theorem faultRaise (dt : Nat) (source : Fin 320) (data : BitVec 63) (condition : Bool) : Statement (.faultRaise dt source data condition) :=
  fun _ _ e => nomatch e

theorem reactionCheck (dt : Nat) (nEmitHigh : Bool) (driveRailsLow : Bool) : Statement (.reactionCheck dt nEmitHigh driveRailsLow) :=
  fun _ _ e => nomatch e

theorem emitInhibitRise (dt : Nat) : Statement (.emitInhibitRise dt) :=
  fun _ _ e => nomatch e

theorem inhibitHoldExpiry (dt : Nat) : Statement (.inhibitHoldExpiry dt) :=
  fun _ _ e => nomatch e

theorem sramError (dt : Nat) (offset : U32) (corrected : Bool) (reader : SramReader) : Statement (.sramError dt offset corrected reader) :=
  fun _ _ e => nomatch e

theorem regionWriteBlocked (dt : Nat) (offset : U32) (master : Byte) : Statement (.regionWriteBlocked dt offset master) :=
  fun _ _ e => nomatch e

theorem scrubPass (dt : Nat) : Statement (.scrubPass dt) :=
  fun _ _ e => nomatch e

theorem faultClear (q : Req) (source : U16) : Statement (.faultClear q source) :=
  fun h _ e => Option.some.inj e ▸ of_wf h

theorem faultStatus (q : Req) (first : U16) (count : U16) : Statement (.faultStatus q first count) :=
  fun h _ e => Option.some.inj e ▸ of_wf h

theorem faultFirst (q : Req) : Statement (.faultFirst q) :=
  fun h _ e => Option.some.inj e ▸ of_wf h

theorem faultInject (q : Req) (source : U16) : Statement (.faultInject q source) :=
  fun h _ e => Option.some.inj e ▸ of_wf h

theorem liveTableRebuild (dt : Nat) : Statement (.liveTableRebuild dt) :=
  fun _ _ e => nomatch e

theorem bracketLoad (dt : Nat) (chain : Fin 4) (pos : Fin 18) : Statement (.bracketLoad dt chain pos) :=
  fun _ _ e => nomatch e

theorem calibrationBurstStart (dt : Nat) : Statement (.calibrationBurstStart dt) :=
  fun _ _ e => nomatch e

theorem calibrationPeriod (dt : Nat) (samples : List (Fin 4 × Fin 144 × Fin 128 × BitVec 12)) : Statement (.calibrationPeriod dt samples) :=
  fun _ _ e => nomatch e

theorem calibrationRunApply (dt : Nat) : Statement (.calibrationRunApply dt) :=
  fun _ _ e => nomatch e

theorem calibrationRunEnd (dt : Nat) (cause : CalEnd) : Statement (.calibrationRunEnd dt cause) :=
  fun _ _ e => nomatch e

theorem traceEnterTimeout (dt : Nat) : Statement (.traceEnterTimeout dt) :=
  fun _ _ e => nomatch e

theorem hkTraceDone (dt : Nat) : Statement (.hkTraceDone dt) :=
  fun _ _ e => nomatch e

theorem tileOverdue (dt : Nat) (chain : Fin 4) (pos : Fin 18) : Statement (.tileOverdue dt chain pos) :=
  fun _ _ e => nomatch e

theorem calRun (q : Req) (mask : BitVec 72) : Statement (.calRun q mask) :=
  fun h _ e => Option.some.inj e ▸ of_wf h

theorem calCancel (q : Req) : Statement (.calCancel q) :=
  fun h _ e => Option.some.inj e ▸ of_wf h

theorem calStatus (q : Req) : Statement (.calStatus q) :=
  fun h _ e => Option.some.inj e ▸ of_wf h

theorem calCellRead (q : Req) (chain : Byte) (pos : Byte) (row : Byte) (col : U16) : Statement (.calCellRead q chain pos row col) :=
  fun h _ e => Option.some.inj e ▸ of_wf h

theorem calCellSet (q : Req) (chain : Byte) (pos : Byte) (row : Byte) (col : U16) (action : Byte) : Statement (.calCellSet q chain pos row col action) :=
  fun h _ e => Option.some.inj e ▸ of_wf h

theorem calPdTrace (q : Req) (chain : Byte) (pos : Byte) (samples : List (Fin 8 × Fin 128 × BitVec 12)) : Statement (.calPdTrace q chain pos samples) :=
  fun h _ e => Option.some.inj e ▸ of_wf h

theorem calPdEnter (q : Req) (energyNj : U32) : Statement (.calPdEnter q energyNj) :=
  fun h _ e => Option.some.inj e ▸ of_wf h

theorem calHkTrace (q : Req) : Statement (.calHkTrace q) :=
  fun h _ e => Option.some.inj e ▸ of_wf h

theorem calUserReset (q : Req) (chain : Byte) (pos : Byte) : Statement (.calUserReset q chain pos) :=
  fun h _ e => Option.some.inj e ▸ of_wf h

theorem keeperWatchdogTrip (dt : Nat) (core : Fin 3) : Statement (.keeperWatchdogTrip dt core) :=
  fun _ _ e => nomatch e

theorem keeperRestartDone (dt : Nat) : Statement (.keeperRestartDone dt) :=
  fun _ _ e => nomatch e

theorem loadWindow (dt : Nat) (load : BitVec 7) : Statement (.loadWindow dt load) :=
  fun _ _ e => nomatch e

theorem requestAging (dt : Nat) (mb : Fin 7) (tag : U16) : Statement (.requestAging dt mb tag) :=
  fun _ _ e => nomatch e

theorem sessionTimeout (dt : Nat) (mb : Fin 4) : Statement (.sessionTimeout dt mb) :=
  fun _ _ e => nomatch e

theorem claimWindowClose (dt : Nat) : Statement (.claimWindowClose dt) :=
  fun _ _ e => nomatch e

theorem storeCommitDelay (dt : Nat) (flash : List Bool) : Statement (.storeCommitDelay dt flash) :=
  fun _ _ e => nomatch e

theorem gbFlush (dt : Nat) : Statement (.gbFlush dt) :=
  fun _ _ e => nomatch e

theorem mb4ReqDoorbell (dt : Nat) : Statement (.mb4ReqDoorbell dt) :=
  fun _ _ e => nomatch e

theorem mb4AckDoorbell (dt : Nat) : Statement (.mb4AckDoorbell dt) :=
  fun _ _ e => nomatch e

theorem timeNowRead (dt : Nat) : Statement (.timeNowRead dt) :=
  fun _ _ e => nomatch e

theorem registerWrite (dt : Nat) (path : WindowPath) (offset : BitVec 12) (value : U32) : Statement (.registerWrite dt path offset value) :=
  fun _ _ e => nomatch e

theorem keepIdent (q : Req) : Statement (.keepIdent q) :=
  fun h _ e => Option.some.inj e ▸ of_wf h

theorem keepStatus (q : Req) : Statement (.keepStatus q) :=
  fun h _ e => Option.some.inj e ▸ of_wf h

theorem paramRead (q : Req) (index : U16) (sub : Byte) (count : Byte) : Statement (.paramRead q index sub count) :=
  fun h _ e => Option.some.inj e ▸ of_wf h

theorem paramWrite (q : Req) (entry : ParamEntry) : Statement (.paramWrite q entry) :=
  fun h _ e => Option.some.inj e ▸ of_wf (Bool.and_eq_true_iff.mp h).1

theorem paramWriteSet (q : Req) (n : Byte) (entries : List ParamEntry) : Statement (.paramWriteSet q n entries) :=
  fun h _ e => Option.some.inj e ▸ of_wf (Bool.and_eq_true_iff.mp h).1

theorem sessionOpen (q : Req) (force : Byte) : Statement (.sessionOpen q force) :=
  fun h _ e => Option.some.inj e ▸ of_wf h

theorem sessionClose (q : Req) : Statement (.sessionClose q) :=
  fun h _ e => Option.some.inj e ▸ of_wf h

theorem sessionClaim (q : Req) (force : Byte) : Statement (.sessionClaim q force) :=
  fun h _ e => Option.some.inj e ▸ of_wf h

theorem keepResync (q : Req) : Statement (.keepResync q) :=
  fun h _ e => Option.some.inj e ▸ of_wf h

theorem waybillRead (q : Req) (generation : U32) (offset : U32) (len : U16) : Statement (.waybillRead q generation offset len) :=
  fun h _ e => Option.some.inj e ▸ of_wf h

theorem gbRead (q : Req) (fromSeq : U32) (count : U16) : Statement (.gbRead q fromSeq count) :=
  fun h _ e => Option.some.inj e ▸ of_wf h

theorem gbAck (q : Req) (rdSeq : U32) : Statement (.gbAck q rdSeq) :=
  fun h _ e => Option.some.inj e ▸ of_wf h

theorem storeCommit (q : Req) (flash : List Bool) : Statement (.storeCommit q flash) :=
  fun h _ e => Option.some.inj e ▸ of_wf (Bool.and_eq_true_iff.mp h).1

theorem storeStatus (q : Req) : Statement (.storeStatus q) :=
  fun h _ e => Option.some.inj e ▸ of_wf h

theorem fwBegin (q : Req) (length : U32) : Statement (.fwBegin q length) :=
  fun h _ e => Option.some.inj e ▸ of_wf h

theorem fwWrite (q : Req) (offset : U32) (data : List Byte) : Statement (.fwWrite q offset data) :=
  fun h _ e => Option.some.inj e ▸ of_wf (Bool.and_eq_true_iff.mp h).1

theorem fwVerify (q : Req) : Statement (.fwVerify q) :=
  fun h _ e => Option.some.inj e ▸ of_wf h

theorem fwActivate (q : Req) (mode : Byte) : Statement (.fwActivate q mode) :=
  fun h _ e => Option.some.inj e ▸ of_wf h

theorem fwConfirm (q : Req) : Statement (.fwConfirm q) :=
  fun h _ e => Option.some.inj e ▸ of_wf h

theorem bistResultRead (q : Req) : Statement (.bistResultRead q) :=
  fun h _ e => Option.some.inj e ▸ of_wf h

theorem secIdentGet (q : Req) : Statement (.secIdentGet q) :=
  fun h _ e => Option.some.inj e ▸ of_wf h

theorem wearRead (q : Req) : Statement (.wearRead q) :=
  fun h _ e => Option.some.inj e ▸ of_wf h

theorem shutdownSelfTest (dt : Nat) (inputs : SelfTestInputs) : Statement (.shutdownSelfTest dt inputs) :=
  fun _ _ e => nomatch e

theorem selfTestInterrupt (dt : Nat) : Statement (.selfTestInterrupt dt) :=
  fun _ _ e => nomatch e

theorem boot (dt : Nat) : Statement (.boot dt) :=
  fun _ _ e => nomatch e

theorem emitInhibitFall (dt : Nat) : Statement (.emitInhibitFall dt) :=
  fun _ _ e => nomatch e

theorem portLinkUp (dt : Nat) (port : Fin 2) : Statement (.portLinkUp dt port) :=
  fun _ _ e => nomatch e

theorem vstbyReturn (dt : Nat) : Statement (.vstbyReturn dt) :=
  fun _ _ e => nomatch e

theorem phantomReturn (dt : Nat) : Statement (.phantomReturn dt) :=
  fun _ _ e => nomatch e

theorem phantomFoldbackEnd (dt : Nat) : Statement (.phantomFoldbackEnd dt) :=
  fun _ _ e => nomatch e

theorem sixStepCommutation (dt : Nat) (ch : Fin 8) : Statement (.sixStepCommutation dt ch) :=
  fun _ _ e => nomatch e

theorem claimCollisionResend (dt : Nat) : Statement (.claimCollisionResend dt) :=
  fun _ _ e => nomatch e

theorem storeDeferralLimit (dt : Nat) (flash : List Bool) : Statement (.storeDeferralLimit dt flash) :=
  fun _ _ e => nomatch e

theorem repairLineBuilt (dt : Nat) (line : Nat) : Statement (.repairLineBuilt dt line) :=
  fun _ _ e => nomatch e

end Sys2Proof.Laws.Sized
end

