-- ==== Sys2Proof/Laws/Request.lean ====
section
/-!
SUPPORT. How a command reaches its meaning and how it is answered: what `event`, `request` and `answer` do, once,
for every command that goes through them (17 R347 to R353).
-/

namespace Sys2Proof.Machine

open Sys2Proof.Safety

/-! ### Folds -/

/-- What every step of a fold leaves alone, the fold leaves alone. -/
theorem foldl_same {α β : Type} (g : State → α) (f : State → β → State) (h : ∀ s b, g (f s b) = g s)
    (l : List β) (s : State) : g (l.foldl f s) = g s := by
  induction l generalizing s with
  | nil => rfl
  | cons b l ih => rw [List.foldl_cons, ih, h]

/-! ### Events -/

/-- An event whose condition holds has its effect. -/
theorem event_fires {dt : Nat} {s u : State} {cond : State → Bool} {f : State → State} (hu : s.pass dt = u)
    (h : cond u = true) : event dt s cond f = .next (f u) := by
  subst hu
  simp [event, h]

/-- An event whose condition fails changes nothing but time (log entry 14). -/
theorem event_idle {dt : Nat} {s : State} {cond : State → Bool} {f : State → State}
    (h : cond (s.pass dt) = false) : event dt s cond f = .next (s.pass dt) := by
  simp [event, h]

/-- An event of a domain that the analogue trip gates has its effect while the trip has not come (12 R264). -/
theorem clocked_fires {dt : Nat} {s u : State} {cond : State → Bool} {f : State → State} (hu : s.pass dt = u)
    (ht : u.therm.tripped = false) (h : cond u = true) : clocked dt s cond f = .next (f u) :=
  event_fires hu (by simp [ht, h])

/-- A good frame has its effect while the lanes are clocked and supplied (05 R117, 12 R264, 13 R271). -/
theorem received_fires {dt chain : Nat} {rx : RxFrame} {s u : State} {cond : State → Bool} {f : State → State}
    (hrx : rx.good = true) (hu : s.pass dt = u) (ht : u.therm.tripped = false) (hs : u.serdesOn = true) (h : cond u = true) :
    received dt chain rx s cond f = .next (f u) := by
  rw [received, if_pos hrx]
  exact clocked_fires hu ht (by simp [hs, h])

/-- A frame that fails a check is discarded and counted (05 R117). -/
theorem received_discards {dt chain : Nat} {rx : RxFrame} {s u : State} {cond : State → Bool} {f : State → State}
    (hrx : rx.good = false) (hu : s.pass dt = u) (ht : u.therm.tripped = false) (hs : u.serdesOn = true) (hr : u.linkOn = true) :
    received dt chain rx s cond f = .next (discardFrames u (u.chain chain).servedBy 1) := by
  rw [received, if_neg (by simp [hrx])]
  exact clocked_fires hu ht (by simp [hs, hr])

/-- An event answers a next state. -/
theorem event_next (dt : Nat) (s : State) (cond : State → Bool) (f : State → State) :
    ∃ t, event dt s cond f = .next t := ⟨_, rfl⟩

/-! ### Requests -/

/-- A request that passes the checks is answered by its subsystem (17 R350). -/
theorem request_runs {op : U16} {len : Nat} {q : Req} {s t : State} {w : Waiting} {ok : Bool}
    {body : State → Waiting → Answer} (h : Runs op len q s w t) (hok : q.len = len → ok = true) :
    request op q s ok body = .next (finish w (body t w)) := by
  obtain ⟨hlen, hm, hd, hv, rfl⟩ := h
  rw [hok hlen]
  simp [request, hm, hd, hv]

/-- The same for a payload of one fixed length. -/
theorem request_ok {op : U16} {len : Nat} {q : Req} {s t : State} {w : Waiting} {body : State → Waiting → Answer}
    (h : Runs op len q s w t) : request op q s (q.len == len) body = .next (finish w (body t w)) :=
  request_runs h fun hl => by simp [hl]

/-- A request that fails a check is answered with its status, and its subsystem does not see it (17 R350). -/
theorem request_turnedAway {op : U16} {q : Req} {s : State} {w : Waiting} {ok : Bool} {status : U16}
    {body : State → Waiting → Answer} (h : TurnedAway op ok q s w status) :
    request op q s ok body = .next (answer (arrive op q
      (if status = sBusy then (s.pass q.dt).count 0x0022 3 1 else s.pass q.dt)) w status []) := by
  obtain ⟨hm, hd, hv⟩ := h
  simp [request, hm, hd, hv]

/-- Without Main, or on a mailbox that answers nothing, a request has no effect. -/
theorem request_dead {op : U16} {q : Req} {s : State} {ok : Bool} {body : State → Waiting → Answer}
    (h : (s.pass q.dt).mainOn = false ∨ mailboxDead (s.pass q.dt) q.mb.val = true) :
    request op q s ok body = .next (s.pass q.dt) := by
  rcases h with h | h <;> simp [request, h]

/-- A request answers a next state. -/
theorem request_next (op : U16) (q : Req) (s : State) (ok : Bool) (body : State → Waiting → Answer) :
    ∃ t, request op q s ok body = .next t := by
  unfold request
  simp only
  split
  · exact ⟨_, rfl⟩
  · split <;> exact ⟨_, rfl⟩

/-! ### Messages out: what they leave alone -/

@[simp] theorem emitPort_pending (s : State) (p ch : Nat) (ty fl : Byte) (seq : Option U32) (bs : List Byte) : (emitPort s p ch ty fl seq bs).pending = s.pending := rfl
@[simp] theorem emitPort_time (s : State) (p ch : Nat) (ty fl : Byte) (seq : Option U32) (bs : List Byte) : (emitPort s p ch ty fl seq bs).time = s.time := rfl
@[simp] theorem emitPort_free (s : State) (p ch : Nat) (ty fl : Byte) (seq : Option U32) (bs : List Byte) : (emitPort s p ch ty fl seq bs).free = s.free := rfl
@[simp] theorem emitPort_power (s : State) (p ch : Nat) (ty fl : Byte) (seq : Option U32) (bs : List Byte) : (emitPort s p ch ty fl seq bs).power = s.power := rfl
@[simp] theorem emitPort_params (s : State) (p ch : Nat) (ty fl : Byte) (seq : Option U32) (bs : List Byte) : (emitPort s p ch ty fl seq bs).params = s.params := rfl
@[simp] theorem emitPort_mem (s : State) (p ch : Nat) (ty fl : Byte) (seq : Option U32) (bs : List Byte) : (emitPort s p ch ty fl seq bs).mem = s.mem := rfl
@[simp] theorem emitPort_layer (s : State) (p ch : Nat) (ty fl : Byte) (seq : Option U32) (bs : List Byte) : (emitPort s p ch ty fl seq bs).layer = s.layer := rfl
@[simp] theorem emitPort_dose (s : State) (p ch : Nat) (ty fl : Byte) (seq : Option U32) (bs : List Byte) : (emitPort s p ch ty fl seq bs).dose = s.dose := rfl
@[simp] theorem emitPort_emon (s : State) (p ch : Nat) (ty fl : Byte) (seq : Option U32) (bs : List Byte) : (emitPort s p ch ty fl seq bs).emon = s.emon := rfl
@[simp] theorem emitPort_link (s : State) (p ch : Nat) (ty fl : Byte) (seq : Option U32) (bs : List Byte) : (emitPort s p ch ty fl seq bs).link = s.link := rfl
@[simp] theorem emitPort_dma (s : State) (p ch : Nat) (ty fl : Byte) (seq : Option U32) (bs : List Byte) : (emitPort s p ch ty fl seq bs).dma = s.dma := rfl
@[simp] theorem emitPort_data (s : State) (p ch : Nat) (ty fl : Byte) (seq : Option U32) (bs : List Byte) : (emitPort s p ch ty fl seq bs).data = s.data := rfl
@[simp] theorem emitPort_servo (s : State) (p ch : Nat) (ty fl : Byte) (seq : Option U32) (bs : List Byte) : (emitPort s p ch ty fl seq bs).servo = s.servo := rfl
@[simp] theorem emitPort_drv (s : State) (p ch : Nat) (ty fl : Byte) (seq : Option U32) (bs : List Byte) : (emitPort s p ch ty fl seq bs).drv = s.drv := rfl
@[simp] theorem emitPort_axes (s : State) (p ch : Nat) (ty fl : Byte) (seq : Option U32) (bs : List Byte) : (emitPort s p ch ty fl seq bs).axes = s.axes := rfl
@[simp] theorem emitPort_units (s : State) (p ch : Nat) (ty fl : Byte) (seq : Option U32) (bs : List Byte) : (emitPort s p ch ty fl seq bs).units = s.units := rfl
@[simp] theorem emitPort_stepAt (s : State) (p ch : Nat) (ty fl : Byte) (seq : Option U32) (bs : List Byte) : (emitPort s p ch ty fl seq bs).stepAt = s.stepAt := rfl
@[simp] theorem emitPort_house (s : State) (p ch : Nat) (ty fl : Byte) (seq : Option U32) (bs : List Byte) : (emitPort s p ch ty fl seq bs).house = s.house := rfl
@[simp] theorem emitPort_therm (s : State) (p ch : Nat) (ty fl : Byte) (seq : Option U32) (bs : List Byte) : (emitPort s p ch ty fl seq bs).therm = s.therm := rfl
@[simp] theorem emitPort_pwr (s : State) (p ch : Nat) (ty fl : Byte) (seq : Option U32) (bs : List Byte) : (emitPort s p ch ty fl seq bs).pwr = s.pwr := rfl
@[simp] theorem emitPort_stage (s : State) (p ch : Nat) (ty fl : Byte) (seq : Option U32) (bs : List Byte) : (emitPort s p ch ty fl seq bs).stage = s.stage := rfl
@[simp] theorem emitPort_clk (s : State) (p ch : Nat) (ty fl : Byte) (seq : Option U32) (bs : List Byte) : (emitPort s p ch ty fl seq bs).clk = s.clk := rfl
@[simp] theorem emitPort_flt (s : State) (p ch : Nat) (ty fl : Byte) (seq : Option U32) (bs : List Byte) : (emitPort s p ch ty fl seq bs).flt = s.flt := rfl
@[simp] theorem emitPort_gb (s : State) (p ch : Nat) (ty fl : Byte) (seq : Option U32) (bs : List Byte) : (emitPort s p ch ty fl seq bs).gb = s.gb := rfl
@[simp] theorem emitPort_cal (s : State) (p ch : Nat) (ty fl : Byte) (seq : Option U32) (bs : List Byte) : (emitPort s p ch ty fl seq bs).cal = s.cal := rfl
@[simp] theorem emitPort_keep (s : State) (p ch : Nat) (ty fl : Byte) (seq : Option U32) (bs : List Byte) : (emitPort s p ch ty fl seq bs).keep = s.keep := rfl
@[simp] theorem emitPort_bist (s : State) (p ch : Nat) (ty fl : Byte) (seq : Option U32) (bs : List Byte) : (emitPort s p ch ty fl seq bs).bist = s.bist := rfl

@[simp] theorem emitPacket_pending (s : State) (ch : Nat) (ty fl : Byte) (seq : Option U32) (bs : List Byte) : (emitPacket s ch ty fl seq bs).pending = s.pending := by unfold emitPacket; split <;> rfl
@[simp] theorem emitPacket_time (s : State) (ch : Nat) (ty fl : Byte) (seq : Option U32) (bs : List Byte) : (emitPacket s ch ty fl seq bs).time = s.time := by unfold emitPacket; split <;> rfl
@[simp] theorem emitPacket_free (s : State) (ch : Nat) (ty fl : Byte) (seq : Option U32) (bs : List Byte) : (emitPacket s ch ty fl seq bs).free = s.free := by unfold emitPacket; split <;> rfl
@[simp] theorem emitPacket_power (s : State) (ch : Nat) (ty fl : Byte) (seq : Option U32) (bs : List Byte) : (emitPacket s ch ty fl seq bs).power = s.power := by unfold emitPacket; split <;> rfl
@[simp] theorem emitPacket_params (s : State) (ch : Nat) (ty fl : Byte) (seq : Option U32) (bs : List Byte) : (emitPacket s ch ty fl seq bs).params = s.params := by unfold emitPacket; split <;> rfl
@[simp] theorem emitPacket_mem (s : State) (ch : Nat) (ty fl : Byte) (seq : Option U32) (bs : List Byte) : (emitPacket s ch ty fl seq bs).mem = s.mem := by unfold emitPacket; split <;> rfl
@[simp] theorem emitPacket_layer (s : State) (ch : Nat) (ty fl : Byte) (seq : Option U32) (bs : List Byte) : (emitPacket s ch ty fl seq bs).layer = s.layer := by unfold emitPacket; split <;> rfl
@[simp] theorem emitPacket_dose (s : State) (ch : Nat) (ty fl : Byte) (seq : Option U32) (bs : List Byte) : (emitPacket s ch ty fl seq bs).dose = s.dose := by unfold emitPacket; split <;> rfl
@[simp] theorem emitPacket_emon (s : State) (ch : Nat) (ty fl : Byte) (seq : Option U32) (bs : List Byte) : (emitPacket s ch ty fl seq bs).emon = s.emon := by unfold emitPacket; split <;> rfl
@[simp] theorem emitPacket_link (s : State) (ch : Nat) (ty fl : Byte) (seq : Option U32) (bs : List Byte) : (emitPacket s ch ty fl seq bs).link = s.link := by unfold emitPacket; split <;> rfl
@[simp] theorem emitPacket_dma (s : State) (ch : Nat) (ty fl : Byte) (seq : Option U32) (bs : List Byte) : (emitPacket s ch ty fl seq bs).dma = s.dma := by unfold emitPacket; split <;> rfl
@[simp] theorem emitPacket_data (s : State) (ch : Nat) (ty fl : Byte) (seq : Option U32) (bs : List Byte) : (emitPacket s ch ty fl seq bs).data = s.data := by unfold emitPacket; split <;> rfl
@[simp] theorem emitPacket_servo (s : State) (ch : Nat) (ty fl : Byte) (seq : Option U32) (bs : List Byte) : (emitPacket s ch ty fl seq bs).servo = s.servo := by unfold emitPacket; split <;> rfl
@[simp] theorem emitPacket_drv (s : State) (ch : Nat) (ty fl : Byte) (seq : Option U32) (bs : List Byte) : (emitPacket s ch ty fl seq bs).drv = s.drv := by unfold emitPacket; split <;> rfl
@[simp] theorem emitPacket_axes (s : State) (ch : Nat) (ty fl : Byte) (seq : Option U32) (bs : List Byte) : (emitPacket s ch ty fl seq bs).axes = s.axes := by unfold emitPacket; split <;> rfl
@[simp] theorem emitPacket_units (s : State) (ch : Nat) (ty fl : Byte) (seq : Option U32) (bs : List Byte) : (emitPacket s ch ty fl seq bs).units = s.units := by unfold emitPacket; split <;> rfl
@[simp] theorem emitPacket_stepAt (s : State) (ch : Nat) (ty fl : Byte) (seq : Option U32) (bs : List Byte) : (emitPacket s ch ty fl seq bs).stepAt = s.stepAt := by unfold emitPacket; split <;> rfl
@[simp] theorem emitPacket_house (s : State) (ch : Nat) (ty fl : Byte) (seq : Option U32) (bs : List Byte) : (emitPacket s ch ty fl seq bs).house = s.house := by unfold emitPacket; split <;> rfl
@[simp] theorem emitPacket_therm (s : State) (ch : Nat) (ty fl : Byte) (seq : Option U32) (bs : List Byte) : (emitPacket s ch ty fl seq bs).therm = s.therm := by unfold emitPacket; split <;> rfl
@[simp] theorem emitPacket_pwr (s : State) (ch : Nat) (ty fl : Byte) (seq : Option U32) (bs : List Byte) : (emitPacket s ch ty fl seq bs).pwr = s.pwr := by unfold emitPacket; split <;> rfl
@[simp] theorem emitPacket_stage (s : State) (ch : Nat) (ty fl : Byte) (seq : Option U32) (bs : List Byte) : (emitPacket s ch ty fl seq bs).stage = s.stage := by unfold emitPacket; split <;> rfl
@[simp] theorem emitPacket_clk (s : State) (ch : Nat) (ty fl : Byte) (seq : Option U32) (bs : List Byte) : (emitPacket s ch ty fl seq bs).clk = s.clk := by unfold emitPacket; split <;> rfl
@[simp] theorem emitPacket_flt (s : State) (ch : Nat) (ty fl : Byte) (seq : Option U32) (bs : List Byte) : (emitPacket s ch ty fl seq bs).flt = s.flt := by unfold emitPacket; split <;> rfl
@[simp] theorem emitPacket_gb (s : State) (ch : Nat) (ty fl : Byte) (seq : Option U32) (bs : List Byte) : (emitPacket s ch ty fl seq bs).gb = s.gb := by unfold emitPacket; split <;> rfl
@[simp] theorem emitPacket_cal (s : State) (ch : Nat) (ty fl : Byte) (seq : Option U32) (bs : List Byte) : (emitPacket s ch ty fl seq bs).cal = s.cal := by unfold emitPacket; split <;> rfl
@[simp] theorem emitPacket_keep (s : State) (ch : Nat) (ty fl : Byte) (seq : Option U32) (bs : List Byte) : (emitPacket s ch ty fl seq bs).keep = s.keep := by unfold emitPacket; split <;> rfl
@[simp] theorem emitPacket_bist (s : State) (ch : Nat) (ty fl : Byte) (seq : Option U32) (bs : List Byte) : (emitPacket s ch ty fl seq bs).bist = s.bist := by unfold emitPacket; split <;> rfl

@[simp] theorem transmit_pending (s : State) (ch : Nat) (ty fl : Byte) (bs : List Byte) : (transmit s ch ty fl bs).pending = s.pending := by simp [transmit]
@[simp] theorem transmit_time (s : State) (ch : Nat) (ty fl : Byte) (bs : List Byte) : (transmit s ch ty fl bs).time = s.time := by simp [transmit]
@[simp] theorem transmit_free (s : State) (ch : Nat) (ty fl : Byte) (bs : List Byte) : (transmit s ch ty fl bs).free = s.free := by simp [transmit]
@[simp] theorem transmit_power (s : State) (ch : Nat) (ty fl : Byte) (bs : List Byte) : (transmit s ch ty fl bs).power = s.power := by simp [transmit]
@[simp] theorem transmit_params (s : State) (ch : Nat) (ty fl : Byte) (bs : List Byte) : (transmit s ch ty fl bs).params = s.params := by simp [transmit]
@[simp] theorem transmit_mem (s : State) (ch : Nat) (ty fl : Byte) (bs : List Byte) : (transmit s ch ty fl bs).mem = s.mem := by simp [transmit]
@[simp] theorem transmit_layer (s : State) (ch : Nat) (ty fl : Byte) (bs : List Byte) : (transmit s ch ty fl bs).layer = s.layer := by simp [transmit]
@[simp] theorem transmit_dose (s : State) (ch : Nat) (ty fl : Byte) (bs : List Byte) : (transmit s ch ty fl bs).dose = s.dose := by simp [transmit]
@[simp] theorem transmit_emon (s : State) (ch : Nat) (ty fl : Byte) (bs : List Byte) : (transmit s ch ty fl bs).emon = s.emon := by simp [transmit]
@[simp] theorem transmit_link (s : State) (ch : Nat) (ty fl : Byte) (bs : List Byte) : (transmit s ch ty fl bs).link = s.link := by simp [transmit]
@[simp] theorem transmit_dma (s : State) (ch : Nat) (ty fl : Byte) (bs : List Byte) : (transmit s ch ty fl bs).dma = s.dma := by simp [transmit]
@[simp] theorem transmit_data (s : State) (ch : Nat) (ty fl : Byte) (bs : List Byte) : (transmit s ch ty fl bs).data = s.data := by simp [transmit]
@[simp] theorem transmit_servo (s : State) (ch : Nat) (ty fl : Byte) (bs : List Byte) : (transmit s ch ty fl bs).servo = s.servo := by simp [transmit]
@[simp] theorem transmit_drv (s : State) (ch : Nat) (ty fl : Byte) (bs : List Byte) : (transmit s ch ty fl bs).drv = s.drv := by simp [transmit]
@[simp] theorem transmit_axes (s : State) (ch : Nat) (ty fl : Byte) (bs : List Byte) : (transmit s ch ty fl bs).axes = s.axes := by simp [transmit]
@[simp] theorem transmit_units (s : State) (ch : Nat) (ty fl : Byte) (bs : List Byte) : (transmit s ch ty fl bs).units = s.units := by simp [transmit]
@[simp] theorem transmit_stepAt (s : State) (ch : Nat) (ty fl : Byte) (bs : List Byte) : (transmit s ch ty fl bs).stepAt = s.stepAt := by simp [transmit]
@[simp] theorem transmit_house (s : State) (ch : Nat) (ty fl : Byte) (bs : List Byte) : (transmit s ch ty fl bs).house = s.house := by simp [transmit]
@[simp] theorem transmit_therm (s : State) (ch : Nat) (ty fl : Byte) (bs : List Byte) : (transmit s ch ty fl bs).therm = s.therm := by simp [transmit]
@[simp] theorem transmit_pwr (s : State) (ch : Nat) (ty fl : Byte) (bs : List Byte) : (transmit s ch ty fl bs).pwr = s.pwr := by simp [transmit]
@[simp] theorem transmit_stage (s : State) (ch : Nat) (ty fl : Byte) (bs : List Byte) : (transmit s ch ty fl bs).stage = s.stage := by simp [transmit]
@[simp] theorem transmit_clk (s : State) (ch : Nat) (ty fl : Byte) (bs : List Byte) : (transmit s ch ty fl bs).clk = s.clk := by simp [transmit]
@[simp] theorem transmit_flt (s : State) (ch : Nat) (ty fl : Byte) (bs : List Byte) : (transmit s ch ty fl bs).flt = s.flt := by simp [transmit]
@[simp] theorem transmit_gb (s : State) (ch : Nat) (ty fl : Byte) (bs : List Byte) : (transmit s ch ty fl bs).gb = s.gb := by simp [transmit]
@[simp] theorem transmit_cal (s : State) (ch : Nat) (ty fl : Byte) (bs : List Byte) : (transmit s ch ty fl bs).cal = s.cal := by simp [transmit]
@[simp] theorem transmit_keep (s : State) (ch : Nat) (ty fl : Byte) (bs : List Byte) : (transmit s ch ty fl bs).keep = s.keep := by simp [transmit]
@[simp] theorem transmit_bist (s : State) (ch : Nat) (ty fl : Byte) (bs : List Byte) : (transmit s ch ty fl bs).bist = s.bist := by simp [transmit]

@[simp] theorem chanSend_pending (s : State) (ch : Nat) (ty fl : Byte) (bs : List Byte) : (chanSend s ch ty fl bs).pending = s.pending := by unfold chanSend; split <;> simp
@[simp] theorem chanSend_time (s : State) (ch : Nat) (ty fl : Byte) (bs : List Byte) : (chanSend s ch ty fl bs).time = s.time := by unfold chanSend; split <;> simp
@[simp] theorem chanSend_free (s : State) (ch : Nat) (ty fl : Byte) (bs : List Byte) : (chanSend s ch ty fl bs).free = s.free := by unfold chanSend; split <;> simp
@[simp] theorem chanSend_power (s : State) (ch : Nat) (ty fl : Byte) (bs : List Byte) : (chanSend s ch ty fl bs).power = s.power := by unfold chanSend; split <;> simp
@[simp] theorem chanSend_params (s : State) (ch : Nat) (ty fl : Byte) (bs : List Byte) : (chanSend s ch ty fl bs).params = s.params := by unfold chanSend; split <;> simp
@[simp] theorem chanSend_mem (s : State) (ch : Nat) (ty fl : Byte) (bs : List Byte) : (chanSend s ch ty fl bs).mem = s.mem := by unfold chanSend; split <;> simp
@[simp] theorem chanSend_layer (s : State) (ch : Nat) (ty fl : Byte) (bs : List Byte) : (chanSend s ch ty fl bs).layer = s.layer := by unfold chanSend; split <;> simp
@[simp] theorem chanSend_dose (s : State) (ch : Nat) (ty fl : Byte) (bs : List Byte) : (chanSend s ch ty fl bs).dose = s.dose := by unfold chanSend; split <;> simp
@[simp] theorem chanSend_emon (s : State) (ch : Nat) (ty fl : Byte) (bs : List Byte) : (chanSend s ch ty fl bs).emon = s.emon := by unfold chanSend; split <;> simp
@[simp] theorem chanSend_link (s : State) (ch : Nat) (ty fl : Byte) (bs : List Byte) : (chanSend s ch ty fl bs).link = s.link := by unfold chanSend; split <;> simp
@[simp] theorem chanSend_dma (s : State) (ch : Nat) (ty fl : Byte) (bs : List Byte) : (chanSend s ch ty fl bs).dma = s.dma := by unfold chanSend; split <;> simp
@[simp] theorem chanSend_data (s : State) (ch : Nat) (ty fl : Byte) (bs : List Byte) : (chanSend s ch ty fl bs).data = s.data := by unfold chanSend; split <;> simp
@[simp] theorem chanSend_servo (s : State) (ch : Nat) (ty fl : Byte) (bs : List Byte) : (chanSend s ch ty fl bs).servo = s.servo := by unfold chanSend; split <;> simp
@[simp] theorem chanSend_drv (s : State) (ch : Nat) (ty fl : Byte) (bs : List Byte) : (chanSend s ch ty fl bs).drv = s.drv := by unfold chanSend; split <;> simp
@[simp] theorem chanSend_axes (s : State) (ch : Nat) (ty fl : Byte) (bs : List Byte) : (chanSend s ch ty fl bs).axes = s.axes := by unfold chanSend; split <;> simp
@[simp] theorem chanSend_units (s : State) (ch : Nat) (ty fl : Byte) (bs : List Byte) : (chanSend s ch ty fl bs).units = s.units := by unfold chanSend; split <;> simp
@[simp] theorem chanSend_stepAt (s : State) (ch : Nat) (ty fl : Byte) (bs : List Byte) : (chanSend s ch ty fl bs).stepAt = s.stepAt := by unfold chanSend; split <;> simp
@[simp] theorem chanSend_house (s : State) (ch : Nat) (ty fl : Byte) (bs : List Byte) : (chanSend s ch ty fl bs).house = s.house := by unfold chanSend; split <;> simp
@[simp] theorem chanSend_therm (s : State) (ch : Nat) (ty fl : Byte) (bs : List Byte) : (chanSend s ch ty fl bs).therm = s.therm := by unfold chanSend; split <;> simp
@[simp] theorem chanSend_pwr (s : State) (ch : Nat) (ty fl : Byte) (bs : List Byte) : (chanSend s ch ty fl bs).pwr = s.pwr := by unfold chanSend; split <;> simp
@[simp] theorem chanSend_stage (s : State) (ch : Nat) (ty fl : Byte) (bs : List Byte) : (chanSend s ch ty fl bs).stage = s.stage := by unfold chanSend; split <;> simp
@[simp] theorem chanSend_clk (s : State) (ch : Nat) (ty fl : Byte) (bs : List Byte) : (chanSend s ch ty fl bs).clk = s.clk := by unfold chanSend; split <;> simp
@[simp] theorem chanSend_flt (s : State) (ch : Nat) (ty fl : Byte) (bs : List Byte) : (chanSend s ch ty fl bs).flt = s.flt := by unfold chanSend; split <;> simp
@[simp] theorem chanSend_gb (s : State) (ch : Nat) (ty fl : Byte) (bs : List Byte) : (chanSend s ch ty fl bs).gb = s.gb := by unfold chanSend; split <;> simp
@[simp] theorem chanSend_cal (s : State) (ch : Nat) (ty fl : Byte) (bs : List Byte) : (chanSend s ch ty fl bs).cal = s.cal := by unfold chanSend; split <;> simp
@[simp] theorem chanSend_keep (s : State) (ch : Nat) (ty fl : Byte) (bs : List Byte) : (chanSend s ch ty fl bs).keep = s.keep := by unfold chanSend; split <;> simp
@[simp] theorem chanSend_bist (s : State) (ch : Nat) (ty fl : Byte) (bs : List Byte) : (chanSend s ch ty fl bs).bist = s.bist := by unfold chanSend; split <;> simp

@[simp] theorem sendMessage_pending (s : State) (ch : Nat) (bs : List Byte) : (sendMessage s ch bs).pending = s.pending := by
  unfold sendMessage
  exact foldl_same (State.pending) _ (fun s b => chanSend_pending s _ _ _ _) _ s
@[simp] theorem sendMessage_time (s : State) (ch : Nat) (bs : List Byte) : (sendMessage s ch bs).time = s.time := by
  unfold sendMessage
  exact foldl_same (State.time) _ (fun s b => chanSend_time s _ _ _ _) _ s
@[simp] theorem sendMessage_free (s : State) (ch : Nat) (bs : List Byte) : (sendMessage s ch bs).free = s.free := by
  unfold sendMessage
  exact foldl_same (State.free) _ (fun s b => chanSend_free s _ _ _ _) _ s
@[simp] theorem sendMessage_power (s : State) (ch : Nat) (bs : List Byte) : (sendMessage s ch bs).power = s.power := by
  unfold sendMessage
  exact foldl_same (State.power) _ (fun s b => chanSend_power s _ _ _ _) _ s
@[simp] theorem sendMessage_params (s : State) (ch : Nat) (bs : List Byte) : (sendMessage s ch bs).params = s.params := by
  unfold sendMessage
  exact foldl_same (State.params) _ (fun s b => chanSend_params s _ _ _ _) _ s
@[simp] theorem sendMessage_mem (s : State) (ch : Nat) (bs : List Byte) : (sendMessage s ch bs).mem = s.mem := by
  unfold sendMessage
  exact foldl_same (State.mem) _ (fun s b => chanSend_mem s _ _ _ _) _ s
@[simp] theorem sendMessage_layer (s : State) (ch : Nat) (bs : List Byte) : (sendMessage s ch bs).layer = s.layer := by
  unfold sendMessage
  exact foldl_same (State.layer) _ (fun s b => chanSend_layer s _ _ _ _) _ s
@[simp] theorem sendMessage_dose (s : State) (ch : Nat) (bs : List Byte) : (sendMessage s ch bs).dose = s.dose := by
  unfold sendMessage
  exact foldl_same (State.dose) _ (fun s b => chanSend_dose s _ _ _ _) _ s
@[simp] theorem sendMessage_emon (s : State) (ch : Nat) (bs : List Byte) : (sendMessage s ch bs).emon = s.emon := by
  unfold sendMessage
  exact foldl_same (State.emon) _ (fun s b => chanSend_emon s _ _ _ _) _ s
@[simp] theorem sendMessage_link (s : State) (ch : Nat) (bs : List Byte) : (sendMessage s ch bs).link = s.link := by
  unfold sendMessage
  exact foldl_same (State.link) _ (fun s b => chanSend_link s _ _ _ _) _ s
@[simp] theorem sendMessage_dma (s : State) (ch : Nat) (bs : List Byte) : (sendMessage s ch bs).dma = s.dma := by
  unfold sendMessage
  exact foldl_same (State.dma) _ (fun s b => chanSend_dma s _ _ _ _) _ s
@[simp] theorem sendMessage_data (s : State) (ch : Nat) (bs : List Byte) : (sendMessage s ch bs).data = s.data := by
  unfold sendMessage
  exact foldl_same (State.data) _ (fun s b => chanSend_data s _ _ _ _) _ s
@[simp] theorem sendMessage_servo (s : State) (ch : Nat) (bs : List Byte) : (sendMessage s ch bs).servo = s.servo := by
  unfold sendMessage
  exact foldl_same (State.servo) _ (fun s b => chanSend_servo s _ _ _ _) _ s
@[simp] theorem sendMessage_drv (s : State) (ch : Nat) (bs : List Byte) : (sendMessage s ch bs).drv = s.drv := by
  unfold sendMessage
  exact foldl_same (State.drv) _ (fun s b => chanSend_drv s _ _ _ _) _ s
@[simp] theorem sendMessage_axes (s : State) (ch : Nat) (bs : List Byte) : (sendMessage s ch bs).axes = s.axes := by
  unfold sendMessage
  exact foldl_same (State.axes) _ (fun s b => chanSend_axes s _ _ _ _) _ s
@[simp] theorem sendMessage_units (s : State) (ch : Nat) (bs : List Byte) : (sendMessage s ch bs).units = s.units := by
  unfold sendMessage
  exact foldl_same (State.units) _ (fun s b => chanSend_units s _ _ _ _) _ s
@[simp] theorem sendMessage_stepAt (s : State) (ch : Nat) (bs : List Byte) : (sendMessage s ch bs).stepAt = s.stepAt := by
  unfold sendMessage
  exact foldl_same (State.stepAt) _ (fun s b => chanSend_stepAt s _ _ _ _) _ s
@[simp] theorem sendMessage_house (s : State) (ch : Nat) (bs : List Byte) : (sendMessage s ch bs).house = s.house := by
  unfold sendMessage
  exact foldl_same (State.house) _ (fun s b => chanSend_house s _ _ _ _) _ s
@[simp] theorem sendMessage_therm (s : State) (ch : Nat) (bs : List Byte) : (sendMessage s ch bs).therm = s.therm := by
  unfold sendMessage
  exact foldl_same (State.therm) _ (fun s b => chanSend_therm s _ _ _ _) _ s
@[simp] theorem sendMessage_pwr (s : State) (ch : Nat) (bs : List Byte) : (sendMessage s ch bs).pwr = s.pwr := by
  unfold sendMessage
  exact foldl_same (State.pwr) _ (fun s b => chanSend_pwr s _ _ _ _) _ s
@[simp] theorem sendMessage_stage (s : State) (ch : Nat) (bs : List Byte) : (sendMessage s ch bs).stage = s.stage := by
  unfold sendMessage
  exact foldl_same (State.stage) _ (fun s b => chanSend_stage s _ _ _ _) _ s
@[simp] theorem sendMessage_clk (s : State) (ch : Nat) (bs : List Byte) : (sendMessage s ch bs).clk = s.clk := by
  unfold sendMessage
  exact foldl_same (State.clk) _ (fun s b => chanSend_clk s _ _ _ _) _ s
@[simp] theorem sendMessage_flt (s : State) (ch : Nat) (bs : List Byte) : (sendMessage s ch bs).flt = s.flt := by
  unfold sendMessage
  exact foldl_same (State.flt) _ (fun s b => chanSend_flt s _ _ _ _) _ s
@[simp] theorem sendMessage_gb (s : State) (ch : Nat) (bs : List Byte) : (sendMessage s ch bs).gb = s.gb := by
  unfold sendMessage
  exact foldl_same (State.gb) _ (fun s b => chanSend_gb s _ _ _ _) _ s
@[simp] theorem sendMessage_cal (s : State) (ch : Nat) (bs : List Byte) : (sendMessage s ch bs).cal = s.cal := by
  unfold sendMessage
  exact foldl_same (State.cal) _ (fun s b => chanSend_cal s _ _ _ _) _ s
@[simp] theorem sendMessage_keep (s : State) (ch : Nat) (bs : List Byte) : (sendMessage s ch bs).keep = s.keep := by
  unfold sendMessage
  exact foldl_same (State.keep) _ (fun s b => chanSend_keep s _ _ _ _) _ s
@[simp] theorem sendMessage_bist (s : State) (ch : Nat) (bs : List Byte) : (sendMessage s ch bs).bist = s.bist := by
  unfold sendMessage
  exact foldl_same (State.bist) _ (fun s b => chanSend_bist s _ _ _ _) _ s

@[simp] theorem mb4Fill_pending (s : State) : (mb4Fill s).pending = s.pending := by unfold mb4Fill; split; rfl; split <;> rfl
@[simp] theorem mb4Fill_time (s : State) : (mb4Fill s).time = s.time := by unfold mb4Fill; split; rfl; split <;> rfl
@[simp] theorem mb4Fill_sent (s : State) : (mb4Fill s).sent = s.sent := by unfold mb4Fill; split; rfl; split <;> rfl
@[simp] theorem mb4Fill_free (s : State) : (mb4Fill s).free = s.free := by unfold mb4Fill; split; rfl; split <;> rfl
@[simp] theorem mb4Fill_power (s : State) : (mb4Fill s).power = s.power := by unfold mb4Fill; split; rfl; split <;> rfl
@[simp] theorem mb4Fill_params (s : State) : (mb4Fill s).params = s.params := by unfold mb4Fill; split; rfl; split <;> rfl
@[simp] theorem mb4Fill_mem (s : State) : (mb4Fill s).mem = s.mem := by unfold mb4Fill; split; rfl; split <;> rfl
@[simp] theorem mb4Fill_layer (s : State) : (mb4Fill s).layer = s.layer := by unfold mb4Fill; split; rfl; split <;> rfl
@[simp] theorem mb4Fill_dose (s : State) : (mb4Fill s).dose = s.dose := by unfold mb4Fill; split; rfl; split <;> rfl
@[simp] theorem mb4Fill_emon (s : State) : (mb4Fill s).emon = s.emon := by unfold mb4Fill; split; rfl; split <;> rfl
@[simp] theorem mb4Fill_link (s : State) : (mb4Fill s).link = s.link := by unfold mb4Fill; split; rfl; split <;> rfl
@[simp] theorem mb4Fill_host (s : State) : (mb4Fill s).host = s.host := by unfold mb4Fill; split; rfl; split <;> rfl
@[simp] theorem mb4Fill_dma (s : State) : (mb4Fill s).dma = s.dma := by unfold mb4Fill; split; rfl; split <;> rfl
@[simp] theorem mb4Fill_data (s : State) : (mb4Fill s).data = s.data := by unfold mb4Fill; split; rfl; split <;> rfl
@[simp] theorem mb4Fill_servo (s : State) : (mb4Fill s).servo = s.servo := by unfold mb4Fill; split; rfl; split <;> rfl
@[simp] theorem mb4Fill_drv (s : State) : (mb4Fill s).drv = s.drv := by unfold mb4Fill; split; rfl; split <;> rfl
@[simp] theorem mb4Fill_axes (s : State) : (mb4Fill s).axes = s.axes := by unfold mb4Fill; split; rfl; split <;> rfl
@[simp] theorem mb4Fill_units (s : State) : (mb4Fill s).units = s.units := by unfold mb4Fill; split; rfl; split <;> rfl
@[simp] theorem mb4Fill_stepAt (s : State) : (mb4Fill s).stepAt = s.stepAt := by unfold mb4Fill; split; rfl; split <;> rfl
@[simp] theorem mb4Fill_house (s : State) : (mb4Fill s).house = s.house := by unfold mb4Fill; split; rfl; split <;> rfl
@[simp] theorem mb4Fill_therm (s : State) : (mb4Fill s).therm = s.therm := by unfold mb4Fill; split; rfl; split <;> rfl
@[simp] theorem mb4Fill_pwr (s : State) : (mb4Fill s).pwr = s.pwr := by unfold mb4Fill; split; rfl; split <;> rfl
@[simp] theorem mb4Fill_stage (s : State) : (mb4Fill s).stage = s.stage := by unfold mb4Fill; split; rfl; split <;> rfl
@[simp] theorem mb4Fill_clk (s : State) : (mb4Fill s).clk = s.clk := by unfold mb4Fill; split; rfl; split <;> rfl
@[simp] theorem mb4Fill_flt (s : State) : (mb4Fill s).flt = s.flt := by unfold mb4Fill; split; rfl; split <;> rfl
@[simp] theorem mb4Fill_gb (s : State) : (mb4Fill s).gb = s.gb := by unfold mb4Fill; split; rfl; split <;> rfl
@[simp] theorem mb4Fill_cal (s : State) : (mb4Fill s).cal = s.cal := by unfold mb4Fill; split; rfl; split <;> rfl
@[simp] theorem mb4Fill_bist (s : State) : (mb4Fill s).bist = s.bist := by unfold mb4Fill; split; rfl; split <;> rfl

@[simp] theorem answer_pending (s : State) (w : Waiting) (st : U16) (d : List Byte) : (answer s w st d).pending = s.pending := by unfold answer; simp only; split; simp; split <;> simp
@[simp] theorem answer_time (s : State) (w : Waiting) (st : U16) (d : List Byte) : (answer s w st d).time = s.time := by unfold answer; simp only; split; simp; split <;> simp
@[simp] theorem answer_free (s : State) (w : Waiting) (st : U16) (d : List Byte) : (answer s w st d).free = s.free := by unfold answer; simp only; split; simp; split <;> simp
@[simp] theorem answer_power (s : State) (w : Waiting) (st : U16) (d : List Byte) : (answer s w st d).power = s.power := by unfold answer; simp only; split; simp; split <;> simp
@[simp] theorem answer_params (s : State) (w : Waiting) (st : U16) (d : List Byte) : (answer s w st d).params = s.params := by unfold answer; simp only; split; simp; split <;> simp
@[simp] theorem answer_mem (s : State) (w : Waiting) (st : U16) (d : List Byte) : (answer s w st d).mem = s.mem := by unfold answer; simp only; split; simp; split <;> simp
@[simp] theorem answer_layer (s : State) (w : Waiting) (st : U16) (d : List Byte) : (answer s w st d).layer = s.layer := by unfold answer; simp only; split; simp; split <;> simp
@[simp] theorem answer_dose (s : State) (w : Waiting) (st : U16) (d : List Byte) : (answer s w st d).dose = s.dose := by unfold answer; simp only; split; simp; split <;> simp
@[simp] theorem answer_emon (s : State) (w : Waiting) (st : U16) (d : List Byte) : (answer s w st d).emon = s.emon := by unfold answer; simp only; split; simp; split <;> simp
@[simp] theorem answer_link (s : State) (w : Waiting) (st : U16) (d : List Byte) : (answer s w st d).link = s.link := by unfold answer; simp only; split; simp; split <;> simp
@[simp] theorem answer_dma (s : State) (w : Waiting) (st : U16) (d : List Byte) : (answer s w st d).dma = s.dma := by unfold answer; simp only; split; simp; split <;> simp
@[simp] theorem answer_data (s : State) (w : Waiting) (st : U16) (d : List Byte) : (answer s w st d).data = s.data := by unfold answer; simp only; split; simp; split <;> simp
@[simp] theorem answer_servo (s : State) (w : Waiting) (st : U16) (d : List Byte) : (answer s w st d).servo = s.servo := by unfold answer; simp only; split; simp; split <;> simp
@[simp] theorem answer_drv (s : State) (w : Waiting) (st : U16) (d : List Byte) : (answer s w st d).drv = s.drv := by unfold answer; simp only; split; simp; split <;> simp
@[simp] theorem answer_axes (s : State) (w : Waiting) (st : U16) (d : List Byte) : (answer s w st d).axes = s.axes := by unfold answer; simp only; split; simp; split <;> simp
@[simp] theorem answer_units (s : State) (w : Waiting) (st : U16) (d : List Byte) : (answer s w st d).units = s.units := by unfold answer; simp only; split; simp; split <;> simp
@[simp] theorem answer_stepAt (s : State) (w : Waiting) (st : U16) (d : List Byte) : (answer s w st d).stepAt = s.stepAt := by unfold answer; simp only; split; simp; split <;> simp
@[simp] theorem answer_house (s : State) (w : Waiting) (st : U16) (d : List Byte) : (answer s w st d).house = s.house := by unfold answer; simp only; split; simp; split <;> simp
@[simp] theorem answer_therm (s : State) (w : Waiting) (st : U16) (d : List Byte) : (answer s w st d).therm = s.therm := by unfold answer; simp only; split; simp; split <;> simp
@[simp] theorem answer_pwr (s : State) (w : Waiting) (st : U16) (d : List Byte) : (answer s w st d).pwr = s.pwr := by unfold answer; simp only; split; simp; split <;> simp
@[simp] theorem answer_clk (s : State) (w : Waiting) (st : U16) (d : List Byte) : (answer s w st d).clk = s.clk := by unfold answer; simp only; split; simp; split <;> simp
@[simp] theorem answer_flt (s : State) (w : Waiting) (st : U16) (d : List Byte) : (answer s w st d).flt = s.flt := by unfold answer; simp only; split; simp; split <;> simp
@[simp] theorem answer_gb (s : State) (w : Waiting) (st : U16) (d : List Byte) : (answer s w st d).gb = s.gb := by unfold answer; simp only; split; simp; split <;> simp
@[simp] theorem answer_cal (s : State) (w : Waiting) (st : U16) (d : List Byte) : (answer s w st d).cal = s.cal := by unfold answer; simp only; split; simp; split <;> simp
@[simp] theorem answer_bist (s : State) (w : Waiting) (st : U16) (d : List Byte) : (answer s w st d).bist = s.bist := by unfold answer; simp only; split; simp; split <;> simp

@[simp] theorem touchSession_pending (s : State) (mb : Nat) : (touchSession s mb).pending = s.pending := by unfold touchSession; split <;> rfl
@[simp] theorem touchSession_time (s : State) (mb : Nat) : (touchSession s mb).time = s.time := by unfold touchSession; split <;> rfl
@[simp] theorem touchSession_sent (s : State) (mb : Nat) : (touchSession s mb).sent = s.sent := by unfold touchSession; split <;> rfl
@[simp] theorem touchSession_free (s : State) (mb : Nat) : (touchSession s mb).free = s.free := by unfold touchSession; split <;> rfl
@[simp] theorem touchSession_power (s : State) (mb : Nat) : (touchSession s mb).power = s.power := by unfold touchSession; split <;> rfl
@[simp] theorem touchSession_params (s : State) (mb : Nat) : (touchSession s mb).params = s.params := by unfold touchSession; split <;> rfl
@[simp] theorem touchSession_mem (s : State) (mb : Nat) : (touchSession s mb).mem = s.mem := by unfold touchSession; split <;> rfl
@[simp] theorem touchSession_layer (s : State) (mb : Nat) : (touchSession s mb).layer = s.layer := by unfold touchSession; split <;> rfl
@[simp] theorem touchSession_dose (s : State) (mb : Nat) : (touchSession s mb).dose = s.dose := by unfold touchSession; split <;> rfl
@[simp] theorem touchSession_emon (s : State) (mb : Nat) : (touchSession s mb).emon = s.emon := by unfold touchSession; split <;> rfl
@[simp] theorem touchSession_link (s : State) (mb : Nat) : (touchSession s mb).link = s.link := by unfold touchSession; split <;> rfl
@[simp] theorem touchSession_host (s : State) (mb : Nat) : (touchSession s mb).host = s.host := by unfold touchSession; split <;> rfl
@[simp] theorem touchSession_dma (s : State) (mb : Nat) : (touchSession s mb).dma = s.dma := by unfold touchSession; split <;> rfl
@[simp] theorem touchSession_data (s : State) (mb : Nat) : (touchSession s mb).data = s.data := by unfold touchSession; split <;> rfl
@[simp] theorem touchSession_servo (s : State) (mb : Nat) : (touchSession s mb).servo = s.servo := by unfold touchSession; split <;> rfl
@[simp] theorem touchSession_drv (s : State) (mb : Nat) : (touchSession s mb).drv = s.drv := by unfold touchSession; split <;> rfl
@[simp] theorem touchSession_axes (s : State) (mb : Nat) : (touchSession s mb).axes = s.axes := by unfold touchSession; split <;> rfl
@[simp] theorem touchSession_units (s : State) (mb : Nat) : (touchSession s mb).units = s.units := by unfold touchSession; split <;> rfl
@[simp] theorem touchSession_stepAt (s : State) (mb : Nat) : (touchSession s mb).stepAt = s.stepAt := by unfold touchSession; split <;> rfl
@[simp] theorem touchSession_house (s : State) (mb : Nat) : (touchSession s mb).house = s.house := by unfold touchSession; split <;> rfl
@[simp] theorem touchSession_therm (s : State) (mb : Nat) : (touchSession s mb).therm = s.therm := by unfold touchSession; split <;> rfl
@[simp] theorem touchSession_pwr (s : State) (mb : Nat) : (touchSession s mb).pwr = s.pwr := by unfold touchSession; split <;> rfl
@[simp] theorem touchSession_stage (s : State) (mb : Nat) : (touchSession s mb).stage = s.stage := by unfold touchSession; split <;> rfl
@[simp] theorem touchSession_clk (s : State) (mb : Nat) : (touchSession s mb).clk = s.clk := by unfold touchSession; split <;> rfl
@[simp] theorem touchSession_flt (s : State) (mb : Nat) : (touchSession s mb).flt = s.flt := by unfold touchSession; split <;> rfl
@[simp] theorem touchSession_gb (s : State) (mb : Nat) : (touchSession s mb).gb = s.gb := by unfold touchSession; split <;> rfl
@[simp] theorem touchSession_cal (s : State) (mb : Nat) : (touchSession s mb).cal = s.cal := by unfold touchSession; split <;> rfl
@[simp] theorem touchSession_bist (s : State) (mb : Nat) : (touchSession s mb).bist = s.bist := by unfold touchSession; split <;> rfl

@[simp] theorem arrive_pending (op : U16) (q : Req) (s : State) : (arrive op q s).pending = s.pending := by unfold arrive; split; rfl; simp
@[simp] theorem arrive_time (op : U16) (q : Req) (s : State) : (arrive op q s).time = s.time := by unfold arrive; split; rfl; simp
@[simp] theorem arrive_sent (op : U16) (q : Req) (s : State) : (arrive op q s).sent = s.sent := by unfold arrive; split; rfl; simp
@[simp] theorem arrive_free (op : U16) (q : Req) (s : State) : (arrive op q s).free = s.free := by unfold arrive; split; rfl; simp
@[simp] theorem arrive_power (op : U16) (q : Req) (s : State) : (arrive op q s).power = s.power := by unfold arrive; split; rfl; simp
@[simp] theorem arrive_params (op : U16) (q : Req) (s : State) : (arrive op q s).params = s.params := by unfold arrive; split; rfl; simp
@[simp] theorem arrive_mem (op : U16) (q : Req) (s : State) : (arrive op q s).mem = s.mem := by unfold arrive; split; rfl; simp
@[simp] theorem arrive_layer (op : U16) (q : Req) (s : State) : (arrive op q s).layer = s.layer := by unfold arrive; split; rfl; simp
@[simp] theorem arrive_dose (op : U16) (q : Req) (s : State) : (arrive op q s).dose = s.dose := by unfold arrive; split; rfl; simp
@[simp] theorem arrive_emon (op : U16) (q : Req) (s : State) : (arrive op q s).emon = s.emon := by unfold arrive; split; rfl; simp
@[simp] theorem arrive_link (op : U16) (q : Req) (s : State) : (arrive op q s).link = s.link := by unfold arrive; split; rfl; simp
@[simp] theorem arrive_host (op : U16) (q : Req) (s : State) : (arrive op q s).host = s.host := by unfold arrive; split; rfl; simp
@[simp] theorem arrive_dma (op : U16) (q : Req) (s : State) : (arrive op q s).dma = s.dma := by unfold arrive; split; rfl; simp
@[simp] theorem arrive_data (op : U16) (q : Req) (s : State) : (arrive op q s).data = s.data := by unfold arrive; split; rfl; simp
@[simp] theorem arrive_servo (op : U16) (q : Req) (s : State) : (arrive op q s).servo = s.servo := by unfold arrive; split; rfl; simp
@[simp] theorem arrive_drv (op : U16) (q : Req) (s : State) : (arrive op q s).drv = s.drv := by unfold arrive; split; rfl; simp
@[simp] theorem arrive_axes (op : U16) (q : Req) (s : State) : (arrive op q s).axes = s.axes := by unfold arrive; split; rfl; simp
@[simp] theorem arrive_units (op : U16) (q : Req) (s : State) : (arrive op q s).units = s.units := by unfold arrive; split; rfl; simp
@[simp] theorem arrive_stepAt (op : U16) (q : Req) (s : State) : (arrive op q s).stepAt = s.stepAt := by unfold arrive; split; rfl; simp
@[simp] theorem arrive_house (op : U16) (q : Req) (s : State) : (arrive op q s).house = s.house := by unfold arrive; split; rfl; simp
@[simp] theorem arrive_therm (op : U16) (q : Req) (s : State) : (arrive op q s).therm = s.therm := by unfold arrive; split; rfl; simp
@[simp] theorem arrive_pwr (op : U16) (q : Req) (s : State) : (arrive op q s).pwr = s.pwr := by unfold arrive; split; rfl; simp
@[simp] theorem arrive_stage (op : U16) (q : Req) (s : State) : (arrive op q s).stage = s.stage := by unfold arrive; split; rfl; simp
@[simp] theorem arrive_clk (op : U16) (q : Req) (s : State) : (arrive op q s).clk = s.clk := by unfold arrive; split; rfl; simp
@[simp] theorem arrive_flt (op : U16) (q : Req) (s : State) : (arrive op q s).flt = s.flt := by unfold arrive; split; rfl; simp
@[simp] theorem arrive_gb (op : U16) (q : Req) (s : State) : (arrive op q s).gb = s.gb := by unfold arrive; split; rfl; simp
@[simp] theorem arrive_cal (op : U16) (q : Req) (s : State) : (arrive op q s).cal = s.cal := by unfold arrive; split; rfl; simp
@[simp] theorem arrive_bist (op : U16) (q : Req) (s : State) : (arrive op q s).bist = s.bist := by unfold arrive; split; rfl; simp

@[simp] theorem dequeue_pending (s : State) (op : U16) (q : Req) : (dequeue s op q).pending = s.pending := rfl
@[simp] theorem dequeue_time (s : State) (op : U16) (q : Req) : (dequeue s op q).time = s.time := rfl
@[simp] theorem dequeue_sent (s : State) (op : U16) (q : Req) : (dequeue s op q).sent = s.sent := rfl
@[simp] theorem dequeue_free (s : State) (op : U16) (q : Req) : (dequeue s op q).free = s.free := rfl
@[simp] theorem dequeue_power (s : State) (op : U16) (q : Req) : (dequeue s op q).power = s.power := rfl
@[simp] theorem dequeue_params (s : State) (op : U16) (q : Req) : (dequeue s op q).params = s.params := rfl
@[simp] theorem dequeue_mem (s : State) (op : U16) (q : Req) : (dequeue s op q).mem = s.mem := rfl
@[simp] theorem dequeue_layer (s : State) (op : U16) (q : Req) : (dequeue s op q).layer = s.layer := rfl
@[simp] theorem dequeue_dose (s : State) (op : U16) (q : Req) : (dequeue s op q).dose = s.dose := rfl
@[simp] theorem dequeue_emon (s : State) (op : U16) (q : Req) : (dequeue s op q).emon = s.emon := rfl
@[simp] theorem dequeue_link (s : State) (op : U16) (q : Req) : (dequeue s op q).link = s.link := rfl
@[simp] theorem dequeue_host (s : State) (op : U16) (q : Req) : (dequeue s op q).host = s.host := rfl
@[simp] theorem dequeue_dma (s : State) (op : U16) (q : Req) : (dequeue s op q).dma = s.dma := rfl
@[simp] theorem dequeue_data (s : State) (op : U16) (q : Req) : (dequeue s op q).data = s.data := rfl
@[simp] theorem dequeue_servo (s : State) (op : U16) (q : Req) : (dequeue s op q).servo = s.servo := rfl
@[simp] theorem dequeue_drv (s : State) (op : U16) (q : Req) : (dequeue s op q).drv = s.drv := rfl
@[simp] theorem dequeue_axes (s : State) (op : U16) (q : Req) : (dequeue s op q).axes = s.axes := rfl
@[simp] theorem dequeue_units (s : State) (op : U16) (q : Req) : (dequeue s op q).units = s.units := rfl
@[simp] theorem dequeue_stepAt (s : State) (op : U16) (q : Req) : (dequeue s op q).stepAt = s.stepAt := rfl
@[simp] theorem dequeue_house (s : State) (op : U16) (q : Req) : (dequeue s op q).house = s.house := rfl
@[simp] theorem dequeue_therm (s : State) (op : U16) (q : Req) : (dequeue s op q).therm = s.therm := rfl
@[simp] theorem dequeue_pwr (s : State) (op : U16) (q : Req) : (dequeue s op q).pwr = s.pwr := rfl
@[simp] theorem dequeue_stage (s : State) (op : U16) (q : Req) : (dequeue s op q).stage = s.stage := rfl
@[simp] theorem dequeue_clk (s : State) (op : U16) (q : Req) : (dequeue s op q).clk = s.clk := rfl
@[simp] theorem dequeue_flt (s : State) (op : U16) (q : Req) : (dequeue s op q).flt = s.flt := rfl
@[simp] theorem dequeue_gb (s : State) (op : U16) (q : Req) : (dequeue s op q).gb = s.gb := rfl
@[simp] theorem dequeue_cal (s : State) (op : U16) (q : Req) : (dequeue s op q).cal = s.cal := rfl
@[simp] theorem dequeue_bist (s : State) (op : U16) (q : Req) : (dequeue s op q).bist = s.bist := rfl

@[simp] theorem enqueue_pending (s : State) (mb : Nat) (e : QEntry) : (enqueue s mb e).pending = s.pending := rfl
@[simp] theorem enqueue_time (s : State) (mb : Nat) (e : QEntry) : (enqueue s mb e).time = s.time := rfl
@[simp] theorem enqueue_sent (s : State) (mb : Nat) (e : QEntry) : (enqueue s mb e).sent = s.sent := rfl
@[simp] theorem enqueue_free (s : State) (mb : Nat) (e : QEntry) : (enqueue s mb e).free = s.free := rfl
@[simp] theorem enqueue_power (s : State) (mb : Nat) (e : QEntry) : (enqueue s mb e).power = s.power := rfl
@[simp] theorem enqueue_params (s : State) (mb : Nat) (e : QEntry) : (enqueue s mb e).params = s.params := rfl
@[simp] theorem enqueue_mem (s : State) (mb : Nat) (e : QEntry) : (enqueue s mb e).mem = s.mem := rfl
@[simp] theorem enqueue_layer (s : State) (mb : Nat) (e : QEntry) : (enqueue s mb e).layer = s.layer := rfl
@[simp] theorem enqueue_dose (s : State) (mb : Nat) (e : QEntry) : (enqueue s mb e).dose = s.dose := rfl
@[simp] theorem enqueue_emon (s : State) (mb : Nat) (e : QEntry) : (enqueue s mb e).emon = s.emon := rfl
@[simp] theorem enqueue_link (s : State) (mb : Nat) (e : QEntry) : (enqueue s mb e).link = s.link := rfl
@[simp] theorem enqueue_host (s : State) (mb : Nat) (e : QEntry) : (enqueue s mb e).host = s.host := rfl
@[simp] theorem enqueue_dma (s : State) (mb : Nat) (e : QEntry) : (enqueue s mb e).dma = s.dma := rfl
@[simp] theorem enqueue_data (s : State) (mb : Nat) (e : QEntry) : (enqueue s mb e).data = s.data := rfl
@[simp] theorem enqueue_servo (s : State) (mb : Nat) (e : QEntry) : (enqueue s mb e).servo = s.servo := rfl
@[simp] theorem enqueue_drv (s : State) (mb : Nat) (e : QEntry) : (enqueue s mb e).drv = s.drv := rfl
@[simp] theorem enqueue_axes (s : State) (mb : Nat) (e : QEntry) : (enqueue s mb e).axes = s.axes := rfl
@[simp] theorem enqueue_units (s : State) (mb : Nat) (e : QEntry) : (enqueue s mb e).units = s.units := rfl
@[simp] theorem enqueue_stepAt (s : State) (mb : Nat) (e : QEntry) : (enqueue s mb e).stepAt = s.stepAt := rfl
@[simp] theorem enqueue_house (s : State) (mb : Nat) (e : QEntry) : (enqueue s mb e).house = s.house := rfl
@[simp] theorem enqueue_therm (s : State) (mb : Nat) (e : QEntry) : (enqueue s mb e).therm = s.therm := rfl
@[simp] theorem enqueue_pwr (s : State) (mb : Nat) (e : QEntry) : (enqueue s mb e).pwr = s.pwr := rfl
@[simp] theorem enqueue_stage (s : State) (mb : Nat) (e : QEntry) : (enqueue s mb e).stage = s.stage := rfl
@[simp] theorem enqueue_clk (s : State) (mb : Nat) (e : QEntry) : (enqueue s mb e).clk = s.clk := rfl
@[simp] theorem enqueue_flt (s : State) (mb : Nat) (e : QEntry) : (enqueue s mb e).flt = s.flt := rfl
@[simp] theorem enqueue_gb (s : State) (mb : Nat) (e : QEntry) : (enqueue s mb e).gb = s.gb := rfl
@[simp] theorem enqueue_cal (s : State) (mb : Nat) (e : QEntry) : (enqueue s mb e).cal = s.cal := rfl
@[simp] theorem enqueue_bist (s : State) (mb : Nat) (e : QEntry) : (enqueue s mb e).bist = s.bist := rfl

end Sys2Proof.Machine
end

