-- ==== Sys2Proof/Tests/Slice0.lean ====
section
/-!
SUPPORT. The model's own tests. A theorem witness_<statement> shows, for each clause of that statement, a state and
operands that meet all its hypotheses together; a theorem test_<what> checks one value of the spec's worked examples, or
that a command the outside cannot form is ill-formed.
-/

namespace Sys2Proof.Tests

open Sys2Proof.Machine Sys2Proof.Safety

set_option Elab.async false

/-! ### Small states and requests -/

/-- A request on MB4, in time and with a right CRC. -/
def req (n : Nat) : Req := { dt := 0, mb := 4, tag := 0, cls := 1, crcOk := true, len := n }

/-- The same as Keeper's own. -/
def own (n : Nat) : Req := { req n with mb := 6 }

/-- The same on MB0. -/
def ask (n : Nat) : Req := { req n with mb := 0 }

/-- The block in READY, its PLLs locked. -/
def rdy : State := { State.reset with power := .ready, clk := { State.reset.clk with plls := List.replicate 5 { locked := true } } }

/-- The block in PORTER. -/
def asleep : State := { State.reset with power := .porter }

/-- A layer state on top of a state. -/
def lay (s : State) (x : LayerState) : State := { s with layer := { s.layer with st := x } }

/-- MB0 is held by the primary session, with a key-encryption key. -/
def held (s : State) : State := { s with keep := { s.keep with
  sessions := [some { id := 7, lastRx := 0, kek := some [1] }, none, none, none], primary := 7, granted := some 8 } }

/-- Chain 0 is UP with one closed, usable tile. -/
def up1 (s : State) : State := s.onChain 0 fun c => { c with
  st := .up, tiles := [{ usable := true, lsw := true }], presence := true }

/-- An answer still to come. -/
def owed : Waiting := { mb := 5, opcode := 1, tag := 9 }

/-- A request of an opcode passes all checks. -/
def canRun (op : U16) (n : Nat) (q : Req) (s : State) : Bool :=
  q.len == n && (s.pass q.dt).mainOn && !(mailboxDead (s.pass q.dt) q.mb.val)
    && (match verdict (s.pass q.dt) op q true with
      | .run _ => true
      | _ => false)

/-- The header its answer carries. -/
def headerOf (op : U16) (q : Req) (s : State) : Waiting :=
  match verdict (s.pass q.dt) op q true with
  | .run w => w
  | _ => {}

/-- Where its subsystem sees it. -/
def seenIn (op : U16) (q : Req) (s : State) : State :=
  dequeue (arrive op q (s.pass q.dt)) op q

theorem runs_of {op : U16} {n : Nat} {q : Req} {s : State} (h : canRun op n q s = true) :
    Runs op n q s (headerOf op q s) (seenIn op q s) := by
  simp only [canRun, Bool.and_eq_true, beq_iff_eq, Bool.not_eq_true'] at h
  obtain ⟨⟨⟨h1, h2⟩, h3⟩, h4⟩ := h
  refine ⟨h1, h2, h3, ?_, rfl⟩
  unfold headerOf
  cases hv : verdict (s.pass q.dt) op q true with
  | run w => rfl
  | refuse w x => rw [hv] at h4; cases h4
  | hold e => rw [hv] at h4; cases h4
  | wait => rw [hv] at h4; cases h4
/-- A dose ring with 2048 complete lines would be long: one line and LAY.PRIME_LINES 1 do. -/
def ringed : Dose := { rdy.dose with ring := [(0, { line := 0, complete := true })] }

/-- READY with a locked EXPPLL and a referenced carriage encoder, which a follower needs to arm. -/
def armable : State := { (rdy.pput 0x0310 0 0).pput 0x0930 0 1 with
  clk := { rdy.clk with phaseAligned := true, plls := [{ locked := true }, { locked := true }, {}, {}, {}] }
  servo := { rdy.servo with encs := [{ valid := true, referenced := true }, {}, {}, {}] } }

/-- A descriptor at the least speed and line count. -/
def goodDesc : LayerDesc := { layerNo := 1, lineCount := 1, pitch := 25000, speed := 1000, runUp := 1000, runOut := 1000 }

/-- Weights that nothing has written are 0. -/
theorem rest_weight (c k : Nat) (h : k < 288) : memRest (billetAt c + k) = 0 := by
  have hk : (billetAt c + k) % 512 = k := by unfold billetAt; omega
  have hb : 0xA00000 ≤ billetAt c + k := by unfold billetAt; omega
  unfold memRest
  rw [hk, if_neg (by omega), if_neg (by omega : ¬(k = 508)), if_neg (by omega : ¬(k = 509)), if_neg (by omega : ¬(k = 510)),
    if_neg (by omega : ¬(k = 511)), if_neg (by omega : ¬(0x9C8000 ≤ billetAt c + k ∧ billetAt c + k < 0x9C8400 ∧ _)), ite_self]

theorem memBytes_zero (a n : Nat) (h : ∀ k < n, memRest (a + k) = 0) : ∀ b ∈ memBytes [] a n, b = 0 := by
  induction n generalizing a with
  | zero => simp [memBytes]
  | succ n ih =>
    intro b hb
    rcases List.mem_cons.mp hb with hb | hb
    · rw [hb]; exact h 0 (by omega)
    · exact ih (a + 1) (fun k hk => by rw [Nat.add_assoc, Nat.add_comm 1 k]; exact h (k + 1) (by omega)) b hb

theorem unscheduled {s : State} (hm : s.mem = []) (hb : s.dose.billetHeld = []) (n p : Nat) :
    tileScheduled s false n p = false := by
  have hw : ∀ c, nextWeights s c = memBytes [] (billetAt c) 288 := fun c => by rw [nextWeights, hm, hb]; rfl
  unfold tileScheduled
  rw [List.any_eq_false]
  intro x _ h
  rw [if_neg Bool.false_ne_true, hw] at h
  obtain ⟨b, hb, h⟩ := List.any_eq_true.mp h
  have := memBytes_zero _ _ (rest_weight _) b (List.mem_of_mem_drop (List.mem_of_mem_take hb))
  simp_all

theorem armable_arms : armChecks (seenIn 0x0301 (req 40) armable) goodDesc = 0 := by
  have ht : tilesReady (seenIn 0x0301 (req 40) armable) false = true := by
    simp only [tilesReady, List.all_eq_true]
    intro n _ p _
    rw [unscheduled rfl rfl]
    rfl
  simp only [armChecks, readyChecks, ht]
  decide +kernel

/-- An accepted header for queue 0: one plain line of layer 1, its body a checksum only. -/
def blockBytes : List Byte :=
  withCrc (padTo 0x2C (le 4 0x50525141 ++ [1, 0, 4, 0] ++ le 4 1 ++ le 4 0 ++ le 4 0 ++ le 2 1 ++ [0, 0] ++ le 4 4)) ++ le 4 0

/-- A block of one line of layer 1 whose line is written. -/
def inflated : Inflating :=
  { layerNo := 1, seq := 0, first := 0, count := 1, dictReset := true, encrypted := false, slot := 0, ivCount := 0
    content := [], written := 1 }

/-- Queue 0 inflates it in ARMED. -/
def inflating : State := { rdy with
  layer := { rdy.layer with st := .armed, desc := { layerNo := 1 } }
  data := { rdy.data with queues := [{ cur := some inflated }, {}] } }

/-- A job of KIND 2. -/
def job : CmpJob := { kind := 2, layerNo := 1, firstLine := 0, items := 1, content := [1, 2], since := 0 }

/-- A tile descriptor that passes Table TILE-9, rows 25 um apart. -/
def space0 : List Byte :=
  withCrc (padTo 0xFC (padTo 0x20 (padTo 0x18 (le 4 0x4B535944 ++ [1, 16] ++ le 2 256) ++ le 4 25000)
    ++ (List.range 16).flatMap (fun i => le 4 (25000 * i)) ++ le 2 0x1000 ++ le 2 0x2000 ++ le 2 0x3000 ++ le 2 0x4000))
  ++ withCrc (padTo 0x3C [])

/-- What a chain's tiles bring along leaves LINK.CHAIN_TILES as it was. -/
theorem taken_keeps (n m : Nat) (hm : m < 256) (blocks : List (List Byte)) (l : List Nat) (s : State) :
    (l.foldl (fun v p => calDiscovered v n p (blocks.getD p [])) s).pv 0x0614 m = s.pv 0x0614 m :=
  sameLow_pv (SameLow.foldl (fun s p => sameLow_calDiscovered s n p _) l s) (by decide) hm

/-- Map row 0 waits for its hand-over. -/
def mapRow : Made := { first := 1, layerNo := 1, bytes := List.replicate 6152 0, since := 0 }

/-- A row that waits for its hand-over. -/
def made1 : Made := { first := 1, layerNo := 1, bytes := [1, 2], since := 0 }

/-- A block's bytes wait in queue 0, in ARMED. -/
def arriving (bs : List Byte) : State := { rdy with
  layer := { rdy.layer with st := .armed, desc := { layerNo := 1 } }
  data := { rdy.data with queues := [{ arrived := [{ bytes := bs, last := true }] }, {}] } }

/-- Queue 0's engine, found faulty while it waits, and the reserve INF2 failed the self-test. -/
def engineless : State := { arriving blockBytes with bist := { rdy.bist with failed := setBit 0 46 true } }

/-- A shadow sample of one word. -/
def shadow0 : Shadow := { m := 0, chain := 0, half := 0, words := [(1, 2, 9)] }

/-- What key agreement with the base point of P-384 gives. -/
def agreed (n : Nat) (x : U16) : List Byte × List Byte × List Byte := (agreement n x (keyBytes pBase)).getD ([], [], [])

set_option exponentiation.threshold 400 in
theorem base_on_curve : (keyPoint (keyBytes pBase)).isSome = true := by decide +kernel

theorem key_agrees (n : Nat) (x : U16) : agreement n x (keyBytes pBase) = some (agreed n x) := by
  obtain ⟨p, hp⟩ := Option.isSome_iff_exists.mp base_on_curve
  rw [agreed, agreement, hp]
  rfl

theorem short_key (n : Nat) (x : U16) : agreement n x [4] = none := by
  rw [agreement, (by decide +kernel : keyPoint [4] = none)]
  rfl

/-- A management request to position 0 of chain 0. -/
def mgmt0 (op : Byte) (addr : Nat) (data : List Byte) : Mgmt :=
  { w := some owed, chain := 0, pos := 0, op := op, tag := 5, addr := addr, data := data }

/-- A good data packet to a channel. -/
def packet0 (ch : Byte) : Packet :=
  { version := 1, type := 0, flags := 0, channel := ch, session := 0, len := 1, seq := 0, ack := 0, txTime := 0, payload := [7] }

/-- It as a frame. -/
def frame0 (ch : Byte) : EthFrame := { len := 64, body := .direct (State.reset.portParam 0x0713 0) (packet0 ch) }

/-- A channel's state. -/
def chan (s : State) (k : Nat) (c : Chan) : State := { s with host := { s.host with chans := AMap.put s.host.chans k c } }

/-- Port states. -/
def ports (s : State) (a b : Nat) : State := { s with host := { s.host with ports := [{ link := a }, { link := b }] } }

/-- A DMA descriptor at the start of the general pool: 8 bytes to the host port buffers. -/
def descMem : List Host.Cell :=
  memPuts [] 0x1400000 (withCrc (padTo 0x3C (le 4 0x1400040 ++ le 4 0x1200000 ++ [0, 0] ++ le 2 8 ++ le 2 1 ++ le 2 1 ++ le 2 1)))

/-- DMA channel 31 runs and has credit. -/
def bursting : State := (State.reset.pput 0x0741 31 1).onDma 31 fun c => { c with st := .running, credit := 1 }

/-- The capture's state. -/
def capIn (s : State) (x : CapState) : State := { s with emon := { s.emon with cap := { s.emon.cap with st := x } } }

/-- A packet sent at time 0. -/
def aged : TxPkt := { seq := 0, type := 0, flags := 0, payload := [], first := 0, last := 0 }

/-- The exposure encoder has moved for two seconds. -/
def moving (s : State) : State := { s with
  time := 2 * secU
  servo := { s.servo with encs := [{ changes := [(2 * secU, 4096), (0, 0)] }, {}, {}, {}] } }

/-- A slot is enabled. -/
def slotEn (s : State) (n : Nat) : State := s.onSlot n fun x => { x with en := true, satRun := 1000 }

/-- A test signal on loop 0. -/
def test0 : ServoTest :=
  { loop := 0, point := 0, wave := 0, nsig := 1, sig := [0], decim := 1, a := 0, f0 := 0, f1 := 0, hold := 0, pre := 0
    duration := 0, samples := 0 }

/-- A drive in a state, entered at time 0, seen long after. -/
def driveIn (x : DrvState) : State := { rdy.onDrive 7 fun d => { d with st := x } with time := 2 ^ 60 }

/-- Axis states. -/
def unitIn (s : State) (k : Nat) (x : AxisState) : State := s.onUnit k fun u => { u with st := x }

/-- Axis 7 with one unstable switch, its last edge at time 0, seen long after. -/
def chattered : State := { rdy.onAxis 7 fun a => { a with sw := [{ unstable := true, edgeAt := some 0 }] } with time := 2 ^ 60 }

theorem chattered_quiet : ∀ x ∈ ((seenIn 0x0B08 (req 1) chattered).axis (7 : Byte).toNat).sw, x.unstable = true →
    ∀ e, x.edgeAt = some e → e + (seenIn 0x0B08 (req 1) chattered).pv 0x0B27 ((7 : Byte).toNat + 8) * msU
      ≤ (seenIn 0x0B08 (req 1) chattered).time := by
  intro x hx _ e he
  have hx : x ∈ ([{ unstable := true, edgeAt := some 0 }] : List Switch) := hx
  rw [List.mem_singleton] at hx
  subst hx
  cases he
  decide +kernel

/-- Rail slot 8 in a state of Table PWR-4. -/
def railIn (x : RailState) (n : Nat) : State := State.reset.onRail 8 fun r => { r with st := x, attempts := n }

/-- Porter's two supplies. -/
def supplied (v p : Bool) : State := { State.reset with pwr := { State.reset.pwr with vstby := v, phantom := p } }

/-- The block holds the Stageline's master token. -/
def mast : State := State.reset.onStage fun g => { g with master := true, node := some 0 }

/-- A request frame of a type sent some times. -/
def sreq (n : Nat) (type : Byte) : StageReq :=
  { frame := { dst := 1, src := 0, type := type, flags := 0, hops := 0, payload := [], crcOk := true }, attempt := n }

/-- Source 0x048 is active. -/
def active1 : State := { State.reset with flt := { State.reset.flt with active := setBit 0 0x048 true } }

/-- CAL.STATE. -/
def calIn (s : State) (n : Nat) : State := { s with cal := { s.cal with st := n } }

/-- A long rest in IDLE with the carriage referenced: a gap. -/
def rested : State := { up1 rdy with
  time := 2 ^ 60, servo := { rdy.servo with encs := [{ valid := true, referenced := true }, {}, {}, {}] } }

/-- A value for parameter 0x0310, range 0 to 1. -/
def entry0 (v : Byte) : ParamEntry := { index := 0x0310, sub := 0, value := [v] }

/-- Keeper defers. -/
def deferring (s : State) : State := { s with keep := { s.keep with deferAt := some 0 } }

/-- An update of one byte has begun. -/
def begun : State := { State.reset with keep := { State.reset.keep with fwBegun := true, fwSlots := [{ verified := true }, { length := 1 }] } }

/-- A class 1 request that waits since time 0. -/
def oldEntry : QEntry := { opcode := 1, tag := 3, cls := 1, aged := false, tRx := 0, since := 0, payload := [] }

/-- It waits on MB6, 50 ms later. -/
def queued0 : State := { State.reset with
  time := 50 * msU, keep := { State.reset.keep with queues := [[], [], [], [], [], [], [oldEntry]] } }

/-! ### Hypotheses of the completion statements -/

theorem witness_LayerRequestsComplete :
    (∃ (q : Req) (s : State) (w : Waiting) (t : State) (d : LayerDesc), Runs 0x0301 40 q s w t ∧
      armChecks t d = 0 ∧ t.cal.st ≠ 2)
    ∧ (∃ (q : Req) (s : State) (w : Waiting) (t : State), Runs 0x0302 0 q s w t ∧ t.layer.st = .armed ∧
      t.layer.desc.startSrc = 0 ∧ primed t = true)
    ∧ (∃ (q : Req) (s : State) (w : Waiting) (t : State), Runs 0x0303 8 q s w t ∧
      (t.layer.st = .armed ∨ t.layer.st = .runUp ∨ t.layer.st = .expose) ∧ t.layer.abort = none)
    ∧ (∃ (q : Req) (s : State) (w : Waiting) (t : State), Runs 0x0303 8 q s w t ∧
      (t.layer.st = .runOut ∨ t.layer.st = .commit) ∧ t.layer.record.outcome = 1)
    ∧ (∃ (q : Req) (s : State) (w : Waiting) (t : State), Runs 0x0303 8 q s w t ∧
      (t.layer.st = .runOut ∨ t.layer.st = .commit) ∧ t.layer.record.outcome ≠ 1)
    ∧ (∃ (q : Req) (s : State) (w : Waiting) (t : State) (m : Nat), Runs 0x0304 0 q s w t ∧ t.layer.marker = some m)
    ∧ (∃ (q : Req) (s : State) (w : Waiting) (t : State), Runs 0x0304 0 q s w t ∧ t.layer.marker = none)
    ∧ (∃ (q : Req) (s : State) (w : Waiting) (t : State) (no : U32) (rep : Byte) (r : LayRec),
      Runs 0x0305 5 q s w t ∧ rep.toNat ≤ 1 ∧
        (t.layer.records.find? fun r => r.layerNo == no && r.repair == (rep == 1)) = some r) :=
  ⟨⟨req 40, armable, _, _, goodDesc, runs_of (by decide +kernel), armable_arms, by decide +kernel⟩,
    ⟨req 0, { lay (rdy.pput 0x0315 0 1) .armed with dose := ringed }, _, _, runs_of (by decide +kernel),
      by decide +kernel, by decide +kernel, by decide +kernel⟩,
    ⟨req 8, lay rdy .expose, _, _, runs_of (by decide +kernel), by decide +kernel, by decide +kernel⟩,
    ⟨req 8, { rdy with layer := { rdy.layer with st := .commit, record := { outcome := 1 } } }, _, _,
      runs_of (by decide +kernel), by decide +kernel, by decide +kernel⟩,
    ⟨req 8, lay rdy .runOut, _, _, runs_of (by decide +kernel), by decide +kernel, by decide +kernel⟩,
    ⟨req 0, { rdy with layer := { rdy.layer with marker := some 0 } }, _, _, 0, runs_of (by decide +kernel),
      by decide +kernel⟩,
    ⟨req 0, rdy, _, _, runs_of (by decide +kernel), by decide +kernel⟩,
    ⟨req 5, { rdy with layer := { rdy.layer with records := [{ layerNo := 5, repair := true }] } }, _, _, 5, 1,
      { layerNo := 5, repair := true }, runs_of (by decide +kernel), by decide +kernel, by decide +kernel⟩⟩

theorem witness_LayerEventsComplete :
    (∃ (dt : Nat) (s : State) (u : State) (v : State), s.pass dt = u ∧ u.mainOn = true ∧ emitStart u = v ∧
      u.layer.st = .armed ∧ u.layer.desc.startSrc = 1)
    ∧ (∃ (dt : Nat) (s : State) (u : State), s.pass dt = u ∧ u.therm.tripped = false ∧ u.layer.st = .armed ∧
      u.layer.desc.startSrc = 2 ∧ primed u = true)
    ∧ (∃ (dt : Nat) (s : State) (u : State) (m : Int), s.pass dt = u ∧ u.therm.tripped = false ∧
      markerExpected u m = true ∧ u.layer.st = .expose)
    ∧ (∃ (dt : Nat) (s : State) (u : State) (m : Int), s.pass dt = u ∧ u.therm.tripped = false ∧
      markerExpected u m = true ∧ u.layer.st = .runUp ∧ 0 ≤ m)
    ∧ (∃ (dt : Nat) (s : State) (u : State), s.pass dt = u ∧ u.therm.tripped = false ∧
      markerExpected u (-1) = true ∧ u.layer.st = .runUp)
    ∧ (∃ (dt : Nat) (s : State) (u : State), s.pass dt = u ∧ u.layer.st = .expose ∧ stalled u = true)
    ∧ (∃ (dt : Nat) (s : State) (u : State), s.pass dt = u ∧ u.layer.st = .runUp ∧ timedOut u = true)
    ∧ (∃ (dt : Nat) (s : State) (u : State), s.pass dt = u ∧ u.layer.st = .runOut ∧ timedOut u = true)
    ∧ (∃ (dt : Nat) (s : State) (u : State), s.pass dt = u ∧ u.layer.st = .runOut ∧ u.driver = false ∧
      followerRest u = true)
    ∧ (∃ (dt : Nat) (s : State) (u : State), s.pass dt = u ∧ u.layer.st = .runOut ∧ u.layer.atRest = true)
    ∧ (∃ (dt : Nat) (s : State) (u : State) (k : Nat), s.pass dt = u ∧ u.layer.repair = true ∧
      u.keep.running = true ∧ u.layer.st ≠ .idle ∧ k < u.layer.desc.lineCount.toNat ∧ slotFree u k = true ∧
        lineComplete u.dose k = false ∧ lineStale u k = false)
    ∧ (∃ (dt : Nat) (s : State) (u : State) (k : Nat), s.pass dt = u ∧ u.layer.repair = true ∧
      u.keep.running = true ∧ u.layer.st ≠ .idle ∧ k < u.layer.desc.lineCount.toNat ∧
        lineComplete u.dose k = false ∧ lineStale u k = true) :=
  ⟨⟨0, { rdy with layer := { rdy.layer with st := .armed, desc := { startSrc := 1 } } }, _, _, rfl,
    by decide +kernel, rfl, by decide +kernel, by decide +kernel⟩,
    ⟨0, { rdy.pput 0x0315 0 1 with layer := { rdy.layer with st := .armed, desc := { startSrc := 2 } }, dose := ringed },
      _, rfl, by decide +kernel, by decide +kernel, by decide +kernel, by decide +kernel⟩,
    ⟨0, { rdy with layer := { rdy.layer with st := .expose, marker := some 0 } }, _, 1, rfl, by decide +kernel,
      by decide +kernel, by decide +kernel⟩,
    ⟨0, lay rdy .runUp, _, 0, rfl, by decide +kernel, by decide +kernel, by decide +kernel, by decide +kernel⟩,
    ⟨0, lay rdy .runUp, _, rfl, by decide +kernel, by decide +kernel, by decide +kernel⟩,
    ⟨0, { rdy with time := 1, layer := { rdy.layer with st := .expose, desc := { speed := 1000 } }, dose := { rdy.dose with markerTimes := [0] } },
      _, rfl, by decide +kernel, by decide +kernel⟩,
    ⟨0, { lay rdy .runUp with time := 2 ^ 60 }, _, rfl, by decide +kernel, by decide +kernel⟩,
    ⟨0, { lay rdy .runOut with time := 2 ^ 60 }, _, rfl, by decide +kernel, by decide +kernel⟩,
    ⟨0, { lay (rdy.pput 0x0310 0 0) .runOut with time := 2 ^ 60 }, _, rfl, by decide +kernel, by decide +kernel,
      by decide +kernel⟩,
    ⟨0, { rdy with layer := { rdy.layer with st := .runOut, atRest := true } }, _, rfl, by decide +kernel,
      by decide +kernel⟩,
    ⟨0, { rdy with layer := { rdy.layer with st := .armed, repair := true, desc := { lineCount := 1 } } }, _, 0,
      rfl, by decide +kernel, by decide +kernel, by decide +kernel, by decide +kernel, by decide +kernel,
        by decide +kernel, by decide +kernel⟩,
    ⟨0, { rdy with layer := { rdy.layer with st := .runOut, repair := true, marker := some 1, desc := { lineCount := 1 } } },
      _, 0, rfl, by decide +kernel, by decide +kernel, by decide +kernel, by decide +kernel, by decide +kernel,
        by decide +kernel⟩⟩

theorem witness_DoseAndMonitorRequestsComplete :
    (∃ (q : Req) (s : State) (w : Waiting) (t : State) (c : U16), Runs 0x0401 2 q s w t ∧ c.toNat ≤ 1023 ∧
      serves (t.chain (laneOf c.toNat)) = true)
    ∧ (∃ (q : Req) (s : State) (w : Waiting) (t : State) (c : U16) (ws : List Byte), Runs 0x0402 290 q s w t ∧
      c.toNat ≤ 1023 ∧ serves (t.chain (laneOf c.toNat)) = true ∧
        (List.range 288).countP (fun r => ws.getD r 0 != 0) ≤ 256 ∧ (∀ r < 288,
          ws.getD r 0 ≠ 0 → rowPresent t (laneOf c.toNat) r = true ∧ liveRetired t r c.toNat = false))
    ∧ (∃ (q : Req) (s : State) (w : Waiting) (t : State) (l : Byte), Runs 0x0403 1 q s w t ∧ l.toNat ≤ 3 ∧
      serves (t.chain l.toNat) = true)
    ∧ (∃ (q : Req) (s : State) (w : Waiting) (t : State) (lanes : List Nat), Runs 0x0403 1 q s w t ∧
      ((List.range 4).filter fun n => serves (t.chain n)) = lanes ∧ lanes ≠ [])
    ∧ (∃ (q : Req) (s : State) (w : Waiting) (t : State), Runs 0x0501 0 q s w t ∧ t.emon.cap.st = .off ∧
      t.readyOn = true ∧ windowEmpty t 0 = false ∧ t.pv 0x0530 0 + t.pv 0x0531 0 ≤ capRing t)
    ∧ (∃ (q : Req) (s : State) (w : Waiting) (t : State), Runs 0x0502 0 q s w t ∧
      (t.emon.cap.st = .filling ∨ t.emon.cap.st = .triggered))
    ∧ (∃ (q : Req) (s : State) (w : Waiting) (t : State), Runs 0x0503 0 q s w t ∧ t.emon.cap.stop = none ∧
      t.layer.st = .expose)
    ∧ (∃ (q : Req) (s : State) (w : Waiting) (t : State), Runs 0x0503 0 q s w t ∧ t.emon.cap.stop = none ∧
      t.layer.st ≠ .expose ∧ t.emon.cap.st = .filling)
    ∧ (∃ (q : Req) (s : State) (w : Waiting) (t : State), Runs 0x0504 0 q s w t ∧ t.emon.cap.st = .done)
    ∧ (∃ (q : Req) (s : State) (w : Waiting) (t : State), Runs 0x0505 1 q s w t ∧ t.emon.cap.st = .done)
    ∧ (∃ (q : Req) (s : State) (w : Waiting) (t : State), Runs 0x0505 1 q s w t ∧ t.emon.cap.st = .done)
    ∧ (∃ (q : Req) (s : State) (w : Waiting) (t : State), Runs 0x0506 0 q s w t ∧ t.layer.st = .idle) :=
  ⟨⟨req 2, up1 rdy, _, _, 0, runs_of (by decide +kernel), by decide +kernel, by decide +kernel⟩,
    ⟨req 290, up1 rdy, _, _, 255, [128], runs_of (by decide +kernel), by decide +kernel, by decide +kernel,
      by decide +kernel, by decide +kernel⟩,
    ⟨req 1, up1 rdy, _, _, 0, runs_of (by decide +kernel), by decide +kernel, by decide +kernel⟩,
    ⟨req 1, up1 rdy, _, _, [0], runs_of (by decide +kernel), by decide +kernel, by decide +kernel⟩,
    ⟨req 0, ((rdy.pput 0x051B 0 1).pput 0x051D 0 0).pput 0x051F 0 0, _, _, runs_of (by decide +kernel),
      by decide +kernel, by decide +kernel, by decide +kernel, by decide +kernel⟩,
    ⟨req 0, capIn rdy .filling, _, _, runs_of (by decide +kernel), by decide +kernel⟩,
    ⟨req 0, lay (capIn rdy .filling) .expose, _, _, runs_of (by decide +kernel), by decide +kernel,
      by decide +kernel⟩,
    ⟨req 0, capIn rdy .filling, _, _, runs_of (by decide +kernel), by decide +kernel, by decide +kernel,
      by decide +kernel⟩,
    ⟨req 0, capIn rdy .done, _, _, runs_of (by decide +kernel), by decide +kernel⟩,
    ⟨req 1, capIn rdy .done, _, _, runs_of (by decide +kernel), by decide +kernel⟩,
    ⟨req 1, capIn rdy .done, _, _, runs_of (by decide +kernel), by decide +kernel⟩,
    ⟨req 0, rdy, _, _, runs_of (by decide +kernel), by decide +kernel⟩⟩

theorem witness_DoseAndMonitorEventsComplete :
    (∃ (dt : Nat) (s : State) (u : State), s.pass dt = u ∧ u.mainOn = true ∧ u.pv 0x0418 0 ≤ u.dose.staleRounds ∧
      u.dose.staleRaised = false)
    ∧ (∃ (dt : Nat) (s : State) (u : State), s.pass dt = u ∧ u.keep.running = true ∧ u.emon.learnDue = true)
    ∧ (∃ (dt : Nat) (s : State) (u : State) (row : Nat) (x : Made) (rest : List Made), s.pass dt = u ∧
      u.therm.tripped = false ∧ u.data.made.getD 0 [] = x :: rest ∧ x.first = BitVec.ofNat 32 (row + 1) ∧
        x.bytes.length = 6152 ∧ x.since + msU ≤ u.time ∧
          (rest.any fun z => z.first != 0 && z.bytes.length == 32) = false)
    ∧ (∃ (dt : Nat) (s : State) (u : State) (m : Nat), s.pass dt = u ∧ u.therm.tripped = false ∧ u.readyOn = true ∧
      u.emon.cap.st = .arming ∧ u.emon.cap.stopAfterClear = false ∧ u.layer.marker = some m)
    ∧ (∃ (dt : Nat) (s : State) (u : State) (n : Fin 4) (p : Fin 18) (m : U32) (rx : RxFrame), s.pass dt = u ∧
      u.therm.tripped = false ∧ u.serdesOn = true ∧ (rx : RxFrame).good = true ∧
        chainLive (u.chain (n : Fin 4).val) = true ∧ (p : Fin 18).val < (u.chain n.val).tiles.length ∧
          (buildOf u (m : U32).toNat).isSome = true)
    ∧ (∃ (dt : Nat) (s : State) (u : State) (rx : RxFrame), s.pass dt = u ∧ u.therm.tripped = false ∧
      u.serdesOn = true ∧ u.linkOn = true ∧ (rx : RxFrame).good = false) :=
  ⟨⟨0, { rdy with dose := { rdy.dose with staleRounds := 1000000 } }, _, rfl, by decide +kernel, by decide +kernel,
    by decide +kernel⟩,
    ⟨0, { rdy with emon := { rdy.emon with learnDue := true } }, _, rfl, by decide +kernel, by decide +kernel⟩,
    ⟨0, { lay rdy .expose with time := 2 ^ 60, emon := { rdy.emon with rowsWritten := 1 }, data := { rdy.data with made := [[mapRow], []] } },
      _, 0, mapRow, [], rfl, by decide +kernel, rfl, by decide +kernel, List.length_replicate, by decide +kernel,
        by decide +kernel⟩,
    ⟨0, { capIn rdy .arming with layer := { rdy.layer with marker := some 0 } }, _, 0, rfl, by decide +kernel,
      by decide +kernel, by decide +kernel, by decide +kernel, by decide +kernel⟩,
    ⟨0, { up1 rdy with dose := { rdy.dose with builds := [{ m := 0, v := 0, tPrev := 0, rows := [] }] } }, _, 0, 0,
      0, {}, rfl, by decide +kernel, by decide +kernel, by decide +kernel, by decide +kernel, by decide +kernel,
        by decide +kernel⟩,
    ⟨0, rdy, _, { crcOk := false }, rfl, by decide +kernel, by decide +kernel, by decide +kernel, by decide +kernel⟩⟩

theorem witness_DataRequestsComplete :
    (∃ (q : Req) (s : State) (w : Waiting) (t : State) (key : List Byte) (x : Session) (kek : List Byte) (dev : List Byte) (sig : List Byte),
      Runs 0x0801 97 q s w t ∧ t.session q.mb.val = some x ∧ agreement t.free x.id key = some (kek, dev, sig))
    ∧ (∃ (q : Req) (s : State) (w : Waiting) (t : State) (key : List Byte) (x : Session), Runs 0x0801 97 q s w t ∧
      t.session q.mb.val = some x ∧ agreement t.free x.id key = none)
    ∧ (∃ (q : Req) (s : State) (w : Waiting) (t : State) (slot : Byte) (kek : List Byte), Runs 0x0802 45 q s w t ∧
      slot.toNat ≤ 3 ∧ (t.session q.mb.val).bind (·.kek) = some kek)
    ∧ (∃ (q : Req) (s : State) (w : Waiting) (t : State) (slot : Byte), Runs 0x0803 1 q s w t ∧ slot.toNat ≤ 3)
    ∧ (∃ (q : Req) (s : State) (w : Waiting) (t : State), Runs 0x0803 1 q s w t)
    ∧ (∃ (q : Req) (s : State) (w : Waiting) (t : State), Runs 0x0804 0 q s w t)
    ∧ (∃ (q : Req) (s : State) (w : Waiting) (t : State) (n : Byte), Runs 0x0805 1 q s w t ∧ n.toNat ≤ 1)
    ∧ (∃ (q : Req) (s : State) (w : Waiting) (t : State) (m : Nat) (n : Nat) (r : Nat) (c : Nat) (e : U16) (a : U16),
      Runs 0x0806 0 q s w t ∧ t.data.mismatch = some (m, n, r, c, e, a))
    ∧ (∃ (q : Req) (s : State) (w : Waiting) (t : State) (src : U32) (len : U32), Runs 0x0807 8 q s w t ∧
      1 ≤ len.toNat ∧ len.toNat ≤ 65536 ∧ dmaReads src.toNat len.toNat = true ∧ t.data.out5Len ≤ t.data.out5Read ∧
        t.data.cmp = [none, none, none, none] ∧ t.data.cmpWait = [] ∧ engineOut t 2 = false ∧
          engineFaulty t 2 = false) :=
  ⟨⟨ask 97, held State.reset, _, _, keyBytes pBase, { id := 7, lastRx := 0, kek := some [1] }, (agreed 0 7).1,
    (agreed 0 7).2.1, (agreed 0 7).2.2, runs_of (by decide +kernel), by decide +kernel, key_agrees 0 7⟩,
    ⟨ask 97, held State.reset, _, _, [4], { id := 7, lastRx := 0, kek := some [1] }, runs_of (by decide +kernel),
      by decide +kernel, short_key 0 7⟩,
    ⟨ask 45, held State.reset, _, _, 3, [1], runs_of (by decide +kernel), by decide +kernel, by decide +kernel⟩,
    ⟨req 1, State.reset, _, _, 3, runs_of (by decide +kernel), by decide +kernel⟩,
    ⟨req 1, State.reset, _, _, runs_of (by decide +kernel)⟩,
    ⟨req 0, State.reset, _, _, runs_of (by decide +kernel)⟩,
    ⟨req 1, State.reset, _, _, 1, runs_of (by decide +kernel), by decide +kernel⟩,
    ⟨req 0, { rdy with data := { rdy.data with mismatch := some (1, 2, 3, 4, 5, 6) } }, _, _, 1, 2, 3, 4, 5, 6,
      runs_of (by decide +kernel), by decide +kernel⟩,
    ⟨req 8, State.reset, _, _, 0x1400000, 65536, runs_of (by decide +kernel), by decide +kernel, by decide +kernel,
      by decide +kernel, by decide +kernel, by decide +kernel, by decide +kernel, by decide +kernel,
        by decide +kernel⟩⟩

theorem witness_DataEventsComplete :
    (∃ (dt : Nat) (s : State) (u : State) (e : State) (v : State) (k : Fin 2) (bs : List Byte) (rest : List Piece) (parity : Bool),
      s.pass dt = u ∧ u.therm.tripped = false ∧ u.mainOn = true ∧ (blockWaits u k.val).isSome = true ∧
        engineCheck u k.val parity = e ∧ blockWaits e k.val = some (bs, rest) ∧
          e.onQueue k.val (fun x => { x with arrived := rest }) = v ∧ hdrOk k.val bs = true ∧
            layerVerdict v (blkHdr (padTo 48 bs)).layerNo = 0)
    ∧ (∃ (dt : Nat) (s : State) (u : State) (e : State) (k : Fin 2) (parity : Bool), s.pass dt = u ∧
      u.therm.tripped = false ∧ u.mainOn = true ∧ (blockWaits u k.val).isSome = true ∧
        engineCheck u k.val parity = e ∧ blockWaits e k.val = none)
    ∧ (∃ (dt : Nat) (s : State) (u : State) (e : State) (v : State) (k : Fin 2) (bs : List Byte) (rest : List Piece) (parity : Bool),
      s.pass dt = u ∧ u.therm.tripped = false ∧ u.mainOn = true ∧ (blockWaits u k.val).isSome = true ∧
        engineCheck u k.val parity = e ∧ blockWaits e k.val = some (bs, rest) ∧
          e.onQueue k.val (fun x => { x with arrived := rest }) = v ∧ hdrOk k.val bs = false)
    ∧ (∃ (dt : Nat) (s : State) (u : State) (k : Fin 2) (c : Inflating), s.pass dt = u ∧ u.therm.tripped = false ∧
      u.mainOn = true ∧ (u.queue k.val).cur = some c ∧ c.written = c.count ∧ layerVerdict u c.layerNo = 0)
    ∧ (∃ (dt : Nat) (s : State) (u : State) (k : Fin 2) (c : Inflating), s.pass dt = u ∧ u.therm.tripped = false ∧
      u.mainOn = true ∧ (u.queue k.val).cur = some c ∧ c.written = c.count)
    ∧ (∃ (dt : Nat) (s : State) (u : State) (k : Fin 2), s.pass dt = u ∧ u.therm.tripped = false ∧
      (u.queue k.val).cur.isSome = true)
    ∧ (∃ (dt : Nat) (s : State) (u : State) (kind : Byte) (n : U16) (j : CmpJob) (rest : List Made),
      s.pass dt = u ∧ u.therm.tripped = false ∧ u.mainOn = true ∧ (kind = 2 ∨ kind = 3) ∧
        takeMade kind n.toNat u.time (u.data.made.getD (kind.toNat - 2) []) = some (j, rest))
    ∧ (∃ (dt : Nat) (s : State) (u : State), s.pass dt = u ∧ u.therm.tripped = false ∧ u.mainOn = true ∧
      gbReader u = true ∧ 2048 ≤ (u.gb.next - gbStart u.gb).toNat)
    ∧ (∃ (dt : Nat) (s : State) (u : State) (k : Fin 4) (j : CmpJob) (v : State), s.pass dt = u ∧
      u.therm.tripped = false ∧ u.mainOn = true ∧ u.data.cmp.getD k.val none = some j ∧
        { u with data := { u.data with cmp := u.data.cmp.set k.val none } } = v)
    ∧ (∃ (dt : Nat) (s : State) (u : State) (k : Fin 4) (j : CmpJob), s.pass dt = u ∧ u.therm.tripped = false ∧
      u.mainOn = true ∧ u.data.cmp.getD k.val none = some j)
    ∧ (∃ (dt : Nat) (s : State) (u : State) (j : CmpJob) (rest : List CmpJob), s.pass dt = u ∧
      u.therm.tripped = false ∧ u.mainOn = true ∧ u.data.cmpWait = j :: rest ∧
        j.since + u.pv 0x0812 0 * usU ≤ u.time ∧ u.layer.st = .idle)
    ∧ (∃ (dt : Nat) (s : State) (u : State) (x : Shadow) (wrong : List (Nat × Nat × U16)), s.pass dt = u ∧
      u.keep.running = true ∧ u.data.shadow = some x ∧ firstWrong x wrong = none)
    ∧ (∃ (dt : Nat) (s : State) (u : State) (v : State) (x : Shadow) (wrong : List (Nat × Nat × U16)) (r : Nat) (c : Nat) (e : U16) (a : U16),
      s.pass dt = u ∧ u.keep.running = true ∧ u.data.shadow = some x ∧ firstWrong x wrong = some (r, c, e, a) ∧
        raise { ({ u with data := { u.data with shadow := none } } : State).count 0x0823 0 1 with data := { u.data with shadow := none, mismatch := some (x.m, x.chain, r, c, e, a) } } 0x0E8 0 false = v) :=
  ⟨⟨0, arriving blockBytes, _, _, _, 0, blockBytes, [], false, rfl, by decide +kernel, by decide +kernel,
    by decide +kernel, rfl, by decide +kernel, rfl, by decide +kernel, by decide +kernel⟩,
    ⟨0, engineless, _, _, 0, true, rfl, by decide +kernel, by decide +kernel, by decide +kernel, rfl,
      by decide +kernel⟩,
    ⟨0, arriving [0], _, _, _, 0, [0], [], false, rfl, by decide +kernel, by decide +kernel, by decide +kernel,
      rfl, by decide +kernel, rfl, by decide +kernel⟩,
    ⟨0, inflating, _, 0, inflated, rfl, by decide +kernel, by decide +kernel, by decide +kernel, by decide +kernel,
      by decide +kernel⟩,
    ⟨0, inflating, _, 0, inflated, rfl, by decide +kernel, by decide +kernel, by decide +kernel, by decide +kernel⟩,
    ⟨0, inflating, _, 0, rfl, by decide +kernel, by decide +kernel⟩,
    ⟨0, { rdy with data := { rdy.data with made := [[made1], []] } }, _, 2, 1, { job with firstLine := 1 }, [],
      rfl, by decide +kernel, by decide +kernel, by decide +kernel, by decide +kernel⟩,
    ⟨0, { rdy.onDma 31 fun c => { c with st := .running, desc := { c.desc with srcSpace := 2, src := 4 } } with gb := { rdy.gb with next := 2048, held := 2048 } },
      _, rfl, by decide +kernel, by decide +kernel, by decide +kernel, by decide +kernel⟩,
    ⟨0, { rdy with data := { rdy.data with cmp := [some job, none, none, none] } }, _, 0, job, _, rfl,
      by decide +kernel, by decide +kernel, by decide +kernel, rfl⟩,
    ⟨0, { rdy with data := { rdy.data with cmp := [some job, none, none, none] } }, _, 0, job, rfl,
      by decide +kernel, by decide +kernel, by decide +kernel⟩,
    ⟨0, { rdy with time := 2 ^ 60, data := { rdy.data with cmpWait := [job] } }, _, job, [], rfl,
      by decide +kernel, by decide +kernel, by decide +kernel, by decide +kernel, by decide +kernel⟩,
    ⟨0, { rdy with data := { rdy.data with shadow := some shadow0 } }, _, shadow0, [], rfl, by decide +kernel,
      by decide +kernel, by decide +kernel⟩,
    ⟨0, { rdy with data := { rdy.data with shadow := some shadow0 } }, _, _, shadow0, [(1, 2, 5)], 1, 2, 9, 5, rfl,
      by decide +kernel, by decide +kernel, by decide +kernel, rfl⟩⟩

theorem witness_LinkRequestsComplete :
    (∃ (q : Req) (s : State) (w : Waiting) (t : State) (n : Byte), Runs 0x0601 2 q s w t ∧ n.toNat ≤ 3 ∧
      t.layer.st = .idle ∧ t.readyOn = true ∧ t.flt.c4 = none ∧ (t.chain n.toNat).presence = true ∧
        (t.chain n.toNat).st = .off)
    ∧ (∃ (q : Req) (s : State) (w : Waiting) (t : State) (n : Byte), Runs 0x0601 2 q s w t ∧ n.toNat ≤ 3 ∧
      t.layer.st = .idle ∧ t.readyOn = true ∧ (t.chain n.toNat).st ≠ .off)
    ∧ (∃ (q : Req) (s : State) (w : Waiting) (t : State) (n : Byte) (p : Byte) (len : U16), Runs 0x0602 8 q s w t ∧
      1 ≤ len.toNat ∧ len.toNat ≤ 256 ∧ len.toNat ≤ (payloadLimit w.mb).2 ∧ tileStatus t n p = 0)
    ∧ (∃ (q : Req) (s : State) (w : Waiting) (t : State) (n : Byte) (p : Byte) (a : U32) (len : U16) (data : List Byte),
      Runs 0x0603 (8 + data.length) q s w t ∧ data.length = len.toNat ∧ 1 ≤ len.toNat ∧ len.toNat ≤ 256 ∧
        0x100 ≤ a.toNat ∧ a.toNat + len.toNat ≤ 0x140 ∧ t.layer.st = .idle ∧ tileStatus t n p = 0)
    ∧ (∃ (q : Req) (s : State) (w : Waiting) (t : State) (n : Byte) (p : Byte) (close : Byte),
      Runs 0x0604 3 q s w t ∧ close.toNat ≤ 1 ∧ t.layer.st = .idle ∧ tileStatus t n p = 0 ∧
        (close = 1 → (t.tile n.toNat p.toNat).usable = true))
    ∧ (∃ (q : Req) (s : State) (w : Waiting) (t : State) (n : Byte), Runs 0x0605 1 q s w t ∧ n.toNat ≤ 3 ∧
      t.layer.st = .idle ∧ tl4Free t n.toNat = true ∧ chainLive (t.chain n.toNat) = true)
    ∧ (∃ (q : Req) (s : State) (w : Waiting) (t : State) (n : Byte), Runs 0x0606 1 q s w t ∧ n.toNat ≤ 3 ∧
      t.layer.st = .idle ∧ onReserve t n.toNat = true)
    ∧ (∃ (q : Req) (s : State) (w : Waiting) (t : State) (n : Byte), Runs 0x0607 1 q s w t ∧ n.toNat ≤ 3) :=
  ⟨⟨req 2, rdy.onChain 3 fun c => { c with presence := true }, _, _, 3, runs_of (by decide +kernel),
    by decide +kernel, by decide +kernel, by decide +kernel, by decide +kernel, by decide +kernel, by decide +kernel⟩,
    ⟨req 2, up1 rdy, _, _, 0, runs_of (by decide +kernel), by decide +kernel, by decide +kernel, by decide +kernel,
      by decide +kernel⟩,
    ⟨req 8, up1 rdy, _, _, 0, 0, 256, runs_of (by decide +kernel), by decide +kernel, by decide +kernel,
      by decide +kernel, by decide +kernel⟩,
    ⟨req 9, up1 rdy, _, _, 0, 0, 0x13F, 1, [0], runs_of (by decide +kernel), by decide +kernel, by decide +kernel,
      by decide +kernel, by decide +kernel, by decide +kernel, by decide +kernel, by decide +kernel⟩,
    ⟨req 3, up1 rdy, _, _, 0, 0, 1, runs_of (by decide +kernel), by decide +kernel, by decide +kernel,
      by decide +kernel, by decide +kernel⟩,
    ⟨req 1, { (up1 rdy).pput 0x0615 0 1 with link := { (up1 rdy).link with tl4Ready := [true, false, false, false] } },
      _, _, 0, runs_of (by decide +kernel), by decide +kernel, by decide +kernel, by decide +kernel,
        by decide +kernel⟩,
    ⟨req 1, { up1 rdy with link := { (up1 rdy).link with tl4Chain := some 0 } }, _, _, 0,
      runs_of (by decide +kernel), by decide +kernel, by decide +kernel, by decide +kernel⟩,
    ⟨req 1, State.reset, _, _, 3, runs_of (by decide +kernel), by decide +kernel⟩⟩

theorem witness_LinkFrameEventsComplete :
    (∃ (dt : Nat) (s : State) (u : State) (v : State) (x : State) (wait : Nat) (tAdv : Nat), s.pass dt = u ∧
      u.therm.tripped = false ∧ (u.layer.st = .runUp ∨ u.layer.st = .expose) ∧
        u.link.nextAdvance ≤ u.layer.mFinal + 1 ∧ advanceCount u.link.advNm (carriageSpeed u) wait = (tAdv,
          false) ∧ ((List.range 4).filter fun n => chainLive (u.chain n)).foldl (fun v n => linkSend v n [Out.sync n u.link.nextAdvance (BitVec.ofNat 16 tAdv) 0 0 (BitVec.ofNat 64 (time64 (u.time + wait * nsU)))]) u = v ∧
            { v with link := { v.link with nextAdvance := u.link.nextAdvance + 1 } } = x)
    ∧ (∃ (dt : Nat) (s : State) (u : State) (v : State) (x : State) (wait : Nat), s.pass dt = u ∧
      u.therm.tripped = false ∧ (u.layer.st = .runUp ∨ u.layer.st = .expose) ∧
        u.link.nextAdvance ≤ u.layer.mFinal + 1 ∧ advanceCount u.link.advNm (carriageSpeed u) wait = (0xFFFF,
          true) ∧ ((List.range 4).filter fun n => chainLive (u.chain n)).foldl (fun v n => linkSend v n [Out.sync n u.link.nextAdvance 0xFFFF 0 1 (BitVec.ofNat 64 (time64 (u.time + wait * nsU)))]) u = v ∧
            { v with link := { v.link with nextAdvance := u.link.nextAdvance + 1 } } = x)
    ∧ (∃ (dt : Nat) (s : State) (u : State) (n : Fin 4) (p : Fin 18) (m : U32) (rx : RxFrame), s.pass dt = u ∧
      u.therm.tripped = false ∧ u.serdesOn = true ∧ (rx : RxFrame).good = true ∧ chainLive (u.chain n.val) = true ∧
        p.val < (u.chain n.val).tiles.length ∧ reportTimely u m.toNat = true)
    ∧ (∃ (dt : Nat) (s : State) (u : State) (n : Fin 4) (p : Fin 18) (m : U32) (rx : RxFrame), s.pass dt = u ∧
      u.therm.tripped = false ∧ u.serdesOn = true ∧ (rx : RxFrame).good = true ∧ chainLive (u.chain n.val) = true ∧
        p.val < (u.chain n.val).tiles.length ∧ reportTimely u m.toNat = true)
    ∧ (∃ (dt : Nat) (s : State) (u : State) (rx : RxFrame), s.pass dt = u ∧ u.therm.tripped = false ∧
      u.serdesOn = true ∧ u.linkOn = true ∧ (rx : RxFrame).good = false)
    ∧ (∃ (dt : Nat) (s : State) (u : State) (v : State) (n : Fin 4) (p : Fin 18) (m : U32), s.pass dt = u ∧
      u.therm.tripped = false ∧ p.val < (u.chain n.val).tiles.length ∧ unsentTo u m.toNat n.val p.val = false ∧
        periodBegun u m.toNat = true ∧ m.toNat < u.layer.marker.getD 0 ∧
          raise ((u.onTile n.val p.val fun t => { t with missing := t.missing + 1 }).count 0x0625 n.val 1) 0x0A8 0 false = v)
    ∧ (∃ (dt : Nat) (s : State) (u : State) (n : Fin 4) (p : Fin 18) (f : Telemetry) (rx : RxFrame),
      s.pass dt = u ∧ u.therm.tripped = false ∧ u.serdesOn = true ∧ (rx : RxFrame).good = true ∧
        chainLive (u.chain n.val) = true ∧ p.val < (u.chain n.val).tiles.length ∧ f.cellFaults = [] ∧
          f.status = 0 ∧ tooHot (u.tile n.val p.val) f = false ∧
            anyTooHot (u.onTile n.val p.val fun t => { t with telem := some (f, u.time) }) = false)
    ∧ (∃ (dt : Nat) (s : State) (u : State) (n : Fin 4) (p : Fin 18) (tag : Byte) (m : Mgmt) (w : Waiting) (rest : List Mgmt) (rx : RxFrame),
      s.pass dt = u ∧ u.therm.tripped = false ∧ u.serdesOn = true ∧ (rx : RxFrame).good = true ∧
        u.link.mgmt = m :: rest ∧ m.chain = n.val ∧ m.pos = p.val ∧ m.tag = tag ∧ m.op = 1 ∧ m.w = some w)
    ∧ (∃ (dt : Nat) (s : State) (u : State) (n : Fin 4) (p : Fin 18) (tag : Byte) (st : Byte) (m : Mgmt) (w : Waiting) (rest : List Mgmt) (rx : RxFrame),
      s.pass dt = u ∧ u.therm.tripped = false ∧ u.serdesOn = true ∧ (rx : RxFrame).good = true ∧
        u.link.mgmt = m :: rest ∧ m.chain = n.val ∧ m.pos = p.val ∧ m.tag = tag ∧ st ≠ 0 ∧ m.w = some w)
    ∧ (∃ (dt : Nat) (s : State) (u : State) (n : Fin 4) (p : Fin 18) (tag : Byte) (m : Mgmt) (w : Waiting) (rest : List Mgmt) (rx : RxFrame),
      s.pass dt = u ∧ u.therm.tripped = false ∧ u.serdesOn = true ∧ (rx : RxFrame).good = true ∧
        u.link.mgmt = m :: rest ∧ m.chain = n.val ∧ m.pos = p.val ∧ m.tag = tag ∧ m.op = 2 ∧ m.addr = 0x208 ∧
          m.w = some w)
    ∧ (∃ (dt : Nat) (s : State) (u : State), s.pass dt = u ∧ u.therm.tripped = false ∧ u.serdesOn = true ∧
      u.linkOn = true)
    ∧ (∃ (dt : Nat) (s : State) (u : State), s.pass dt = u ∧ u.therm.tripped = false ∧ u.serdesOn = true ∧
      u.linkOn = true)
    ∧ (∃ (dt : Nat) (s : State) (u : State) (n : Fin 4), s.pass dt = u ∧ u.therm.tripped = false ∧
      (chainLive (u.chain n.val) = true ∨ (u.chain n.val).st = .doze) ∧ (u.chain n.val).moving = false ∧
        laneTrigger u n.val = true)
    ∧ (∃ (dt : Nat) (s : State) (u : State) (n : Fin 4), s.pass dt = u ∧ u.therm.tripped = false ∧
      u.serdesOn = true ∧ (u.chain n.val).moving = true)
    ∧ (∃ (dt : Nat) (s : State) (u : State) (v : State) (n : Fin 4), s.pass dt = u ∧ u.therm.tripped = false ∧
      u.layer.st = .idle ∧ u.readyOn = true ∧ u.link.tl4Chain = none ∧ u.link.pretrain = none ∧ u.pv 0x0617 0 ≠ 0 ∧
        u.link.pretrainNext = n.val ∧ chainLive (u.chain n.val) = true ∧ n.val < u.link.chains.length ∧
          laneReset { u with link := { u.link with pretrain := some n.val, tl4Sel := n.val } } 4 = v)
    ∧ (∃ (dt : Nat) (s : State) (u : State) (n : Nat), s.pass dt = u ∧ u.therm.tripped = false ∧
      u.link.pretrain = some n)
    ∧ (∃ (dt : Nat) (s : State) (u : State) (n : Nat), s.pass dt = u ∧ u.therm.tripped = false ∧
      u.link.pretrain = some n) :=
  ⟨⟨0, moving (lay rdy .runUp), _, _, _, 0, 0, rfl, by decide +kernel, by decide +kernel, by decide +kernel,
    by decide +kernel, rfl, rfl⟩,
    ⟨0, lay rdy .expose, _, _, _, 20000, rfl, by decide +kernel, by decide +kernel, by decide +kernel,
      by decide +kernel, rfl, rfl⟩,
    ⟨0, { up1 rdy with dose := { rdy.dose with builds := [{ m := 0, v := 0, tPrev := 0, rows := [] }] }, layer := { rdy.layer with marker := some 0 } },
      _, 0, 0, 0, {}, rfl, by decide +kernel, by decide +kernel, by decide +kernel, by decide +kernel,
        by decide +kernel, by decide +kernel⟩,
    ⟨0, { up1 rdy with dose := { rdy.dose with builds := [{ m := 0, v := 0, tPrev := 0, rows := [] }] }, layer := { rdy.layer with marker := some 0 } },
      _, 0, 0, 0, {}, rfl, by decide +kernel, by decide +kernel, by decide +kernel, by decide +kernel,
        by decide +kernel, by decide +kernel⟩,
    ⟨0, rdy, _, { lenChk := false }, rfl, by decide +kernel, by decide +kernel, by decide +kernel, by decide +kernel⟩,
    ⟨0, { up1 rdy with dose := { rdy.dose with builds := [{ m := 0, v := 0, tPrev := 0, rows := [] }] }, layer := { rdy.layer with marker := some 1 } },
      _, _, 0, 0, 0, rfl, by decide +kernel, by decide +kernel, by decide +kernel, by decide +kernel,
        by decide +kernel, rfl⟩,
    ⟨0, up1 rdy, _, 0, 0, { temps := [0] }, {}, rfl, by decide +kernel, by decide +kernel, by decide +kernel,
      by decide +kernel, by decide +kernel, by decide +kernel, by decide +kernel, by decide +kernel,
        by decide +kernel⟩,
    ⟨0, { up1 rdy with link := { (up1 rdy).link with mgmt := [mgmt0 1 0 []] } }, _, 0, 0, 5, mgmt0 1 0 [], owed,
      [], {}, rfl, by decide +kernel, by decide +kernel, by decide +kernel, by decide +kernel, by decide +kernel,
        by decide +kernel, by decide +kernel, by decide +kernel, by decide +kernel⟩,
    ⟨0, { up1 rdy with link := { (up1 rdy).link with mgmt := [mgmt0 1 0 []] } }, _, 0, 0, 5, 1, mgmt0 1 0 [], owed,
      [], {}, rfl, by decide +kernel, by decide +kernel, by decide +kernel, by decide +kernel, by decide +kernel,
        by decide +kernel, by decide +kernel, by decide +kernel, by decide +kernel⟩,
    ⟨0, { up1 rdy with link := { (up1 rdy).link with mgmt := [mgmt0 2 0x208 [1]] } }, _, 0, 0, 5,
      mgmt0 2 0x208 [1], owed, [], {}, rfl, by decide +kernel, by decide +kernel, by decide +kernel,
        by decide +kernel, by decide +kernel, by decide +kernel, by decide +kernel, by decide +kernel,
          by decide +kernel, by decide +kernel⟩,
    ⟨0, rdy, _, rfl, by decide +kernel, by decide +kernel, by decide +kernel⟩,
    ⟨0, rdy, _, rfl, by decide +kernel, by decide +kernel, by decide +kernel⟩,
    ⟨0, { up1 rdy with link := { (up1 rdy).link with chkRun := [4, 0, 0, 0, 0] } }, _, 0, rfl, by decide +kernel,
      by decide +kernel, by decide +kernel, by decide +kernel⟩,
    ⟨0, rdy.onChain 0 fun c => { c with moving := true }, _, 0, rfl, by decide +kernel, by decide +kernel,
      by decide +kernel⟩,
    ⟨0, (up1 rdy).pput 0x0617 0 1, _, _, 0, rfl, by decide +kernel, by decide +kernel, by decide +kernel,
      by decide +kernel, by decide +kernel, by decide +kernel, by decide +kernel, by decide +kernel,
        by decide +kernel, rfl⟩,
    ⟨0, { rdy with link := { rdy.link with pretrain := some 3 } }, _, 3, rfl, by decide +kernel, by decide +kernel⟩,
    ⟨0, { rdy with link := { rdy.link with pretrain := some 3 } }, _, 3, rfl, by decide +kernel, by decide +kernel⟩⟩

theorem witness_LinkBringUpEventsComplete :
    (∃ (dt : Nat) (s : State) (u : State) (n : Fin 4), s.pass dt = u ∧ (u.chain n.val).st = .powering ∧
      chainRailsGood u n.val = true)
    ∧ (∃ (dt : Nat) (s : State) (u : State) (v : State) (n : Fin 4) (space : List Byte) (k : Nat), s.pass dt = u ∧
      u.therm.tripped = false ∧ u.serdesOn = true ∧ discovering (u.chain n.val) = true ∧
        (u.chain n.val).tiles.length = k ∧ k < 17 ∧ headerOk { space := space } = true ∧
          mgmtRead (mgmtRead (mgmtSend u n.val k 3 0 []) n.val k 0 256) n.val k 0x100 64 = v)
    ∧ (∃ (dt : Nat) (s : State) (u : State) (n : Fin 4) (v : State), s.pass dt = u ∧ u.therm.tripped = false ∧
      discovering (u.chain n.val) = true ∧
        raise (u.onChain n.val fun c => { c with found := true }) 0x0A2 0 false = v ∧ (v.chain n.val).tiles ≠ [])
    ∧ (∃ (dt : Nat) (s : State) (u : State) (n : Fin 4) (v : State), s.pass dt = u ∧ u.therm.tripped = false ∧
      discovering (u.chain n.val) = true ∧
        raise (u.onChain n.val fun c => { c with found := true }) 0x0A2 0 false = v ∧ (v.chain n.val).tiles = [] ∧
          v.pv 0x0614 n.val = 0)
    ∧ (∃ (dt : Nat) (s : State) (u : State) (v : State) (n : Fin 4) (rtt : List Nat) (blocks : List (List Byte)) (k : Nat),
      s.pass dt = u ∧ u.therm.tripped = false ∧ u.serdesOn = true ∧ (u.chain n.val).st = .bringup ∧
        (u.chain n.val).ended = false ∧ (u.chain n.val).tiles.length = k ∧ 0 < k ∧
          (List.range k).foldl (fun v p => calDiscovered v n.val p (blocks.getD p [])) (measureChain (sendTelem (mgmtSend (u.onChain n.val fun c => { c with ended := true }) n.val 31 2 0x200 (le 1 k)) n.val) n.val rtt).1 = v ∧
            (v.pv 0x0614 n.val = 0 ∨ v.pv 0x0614 n.val = k))
    ∧ (∃ (dt : Nat) (s : State) (u : State) (n : Fin 4) (p : Fin 18), s.pass dt = u ∧ u.therm.tripped = false ∧
      (u.chain n.val).judged = true ∧ chainLive (u.chain n.val) = true ∧ (u.chain n.val).lswNext = p.val ∧
        (u.tile n.val p.val).usable = true)
    ∧ (∃ (dt : Nat) (s : State) (u : State) (n : Fin 4), s.pass dt = u ∧ u.mainOn = true ∧
      (u.chain n.val).presence = true ∧ (u.chain n.val).st ≠ .off)
    ∧ (∃ (dt : Nat) (s : State) (u : State) (n : Fin 4) (k : Nat), s.pass dt = u ∧ u.mainOn = true ∧
      (u.chain n.val).presence = true ∧ (u.chain n.val).st = .off ∧ k ∈ chainSlots n.val ∧
        railDown (u.rail k).st = false)
    ∧ (∃ (dt : Nat) (s : State) (u : State) (n : Fin 4), s.pass dt = u ∧ u.mainOn = true ∧
      (u.chain n.val).presence = true ∧ (u.chain n.val).st = .off ∧ (∀ k ∈ chainSlots n.val,
        railDown (u.rail k).st = true))
    ∧ (∃ (dt : Nat) (s : State) (u : State) (n : Fin 4) (mv : Nat), s.pass dt = u ∧ u.mainOn = true ∧
      (u.chain n.val).st = .off ∧ (u.chain n.val).presence = false ∧ 2000 ≤ mv)
    ∧ (∃ (dt : Nat) (s : State) (u : State) (n : Fin 4), s.pass dt = u ∧ u.mainOn = true ∧
      (u.chain n.val).presence = false ∧ (u.chain n.val).st ≠ .off)
    ∧ (∃ (dt : Nat) (s : State) (u : State) (n : Fin 4), s.pass dt = u ∧ u.mainOn = true ∧
      (u.chain n.val).presence = false ∧ (u.chain n.val).st = .off ∧ n.val < u.link.chains.length) :=
  ⟨⟨0, [8, 9, 10, 11].foldl (fun s k => s.onRail k fun r => { r with st := .good }) (rdy.onChain 0 fun c => { c with st := .powering }),
    _, 0, rfl, by decide +kernel, by decide +kernel⟩,
    ⟨0, rdy.onChain 0 fun c => { c with st := .bringup }, _, _, 0, space0, 0, rfl, by decide +kernel,
      by decide +kernel, by decide +kernel, by decide +kernel, by decide +kernel, by decide +kernel, rfl⟩,
    ⟨0, (up1 rdy).onChain 0 fun c => { c with st := .bringup }, _, 0, _, rfl, by decide +kernel, by decide +kernel,
      rfl, by decide +kernel⟩,
    ⟨0, rdy.onChain 0 fun c => { c with st := .bringup }, _, 0, _, rfl, by decide +kernel, by decide +kernel, rfl,
      by decide +kernel, by decide +kernel⟩,
    ⟨0, { (up1 rdy).onChain 0 fun c => { c with st := .bringup } with cal := { rdy.cal with blocks := [(0, 0, 0, [])] } },
      _, _, 0, [], [], 1, rfl, by decide +kernel, by decide +kernel, by decide +kernel, by decide +kernel,
        by decide +kernel, by decide +kernel, rfl,
          .inl ((taken_keeps 0 0 (by decide) [] _ _).trans (by decide +kernel))⟩,
    ⟨0, (up1 rdy).onChain 0 fun c => { c with judged := true }, _, 0, 0, rfl, by decide +kernel, by decide +kernel,
      by decide +kernel, by decide +kernel, by decide +kernel⟩,
    ⟨0, up1 rdy, _, 0, rfl, by decide +kernel, by decide +kernel, by decide +kernel⟩,
    ⟨0, rdy.onRail 8 (fun r => { r with st := .decay }) |>.onChain 0 fun c => { c with presence := true }, _, 0, 8,
      rfl, by decide +kernel, by decide +kernel, by decide +kernel, by decide +kernel, by decide +kernel⟩,
    ⟨0, rdy.onChain 0 fun c => { c with presence := true }, _, 0, rfl, by decide +kernel, by decide +kernel,
      by decide +kernel, by decide +kernel⟩,
    ⟨0, rdy, _, 0, 2000, rfl, by decide +kernel, by decide +kernel, by decide +kernel, by decide +kernel⟩,
    ⟨0, (up1 rdy).onChain 0 fun c => { c with presence := false }, _, 0, rfl, by decide +kernel, by decide +kernel,
      by decide +kernel⟩,
    ⟨0, rdy, _, 3, rfl, by decide +kernel, by decide +kernel, by decide +kernel, by decide +kernel⟩⟩

theorem witness_HostRequestsComplete :
    (∃ (q : Req) (s : State) (w : Waiting) (t : State) (p : Byte), Runs 0x0701 1 q s w t ∧ p.toNat ≤ 1)
    ∧ (∃ (q : Req) (s : State) (w : Waiting) (t : State) (p : Byte), Runs 0x0702 1 q s w t ∧ p.toNat ≤ 1 ∧
      t.layer.st = .idle)
    ∧ (∃ (q : Req) (s : State) (w : Waiting) (t : State) (ch : Byte) (rel : Byte) (dir : Byte),
      Runs 0x0703 3 q s w t ∧ 8 ≤ ch.toNat ∧ ch.toNat ≤ 63 ∧ rel.toNat ≤ 1 ∧ dir.toNat ≤ 1 ∧
        (t.chan ch.toNat).isOpen = false)
    ∧ (∃ (q : Req) (s : State) (w : Waiting) (t : State) (ch : Byte), Runs 0x0704 1 q s w t ∧ 8 ≤ ch.toNat ∧
      ch.toNat ≤ 63 ∧ (t.chan ch.toNat).isOpen = true ∧ (t.dma.any fun d => dmaUses d ch.toNat) = false) :=
  ⟨⟨req 1, State.reset, _, _, 1, runs_of (by decide +kernel), by decide +kernel⟩,
    ⟨req 1, State.reset, _, _, 1, runs_of (by decide +kernel), by decide +kernel, by decide +kernel⟩,
    ⟨req 3, State.reset, _, _, 63, 1, 1, runs_of (by decide +kernel), by decide +kernel, by decide +kernel,
      by decide +kernel, by decide +kernel, by decide +kernel⟩,
    ⟨req 1, chan State.reset 8 { isOpen := true }, _, _, 8, runs_of (by decide +kernel), by decide +kernel,
      by decide +kernel, by decide +kernel, by decide +kernel⟩⟩

theorem witness_TransportEventsComplete :
    (∃ (dt : Nat) (s : State) (u : State) (c : State) (v : State) (p : Fin 2) (f : EthFrame) (pkt : Packet),
      s.pass dt = u ∧ u.mainOn = true ∧ u.portsOn = true ∧
        (u.onPort p.val fun x => { x with fecCorr := x.fecCorr + BitVec.ofNat 64 f.fecCorr, fecUncorr := x.fecUncorr + BitVec.ofNat 64 f.fecUncorr }) = c ∧
          f.fcsOk = true ∧ f.len ≤ c.portParam 0x0715 0 ∧ f.body ≠ .pause ∧ f.vlan = c.vid ∧
            (c.onPort p.val fun x => { x with lastRx := c.time }) = v ∧ framePacket v p.val f.body = some pkt ∧
              packetOk v pkt = true ∧ (pkt.channel.toNat = 0 ∨ 8 ≤ pkt.channel.toNat) ∧ pkt.channel.toNat < 64 ∧
                (v.chan pkt.channel.toNat).isOpen = true)
    ∧ (∃ (dt : Nat) (s : State) (u : State) (c : State) (v : State) (p : Fin 2) (f : EthFrame) (pkt : Packet),
      s.pass dt = u ∧ u.mainOn = true ∧ u.portsOn = true ∧
        (u.onPort p.val fun x => { x with fecCorr := x.fecCorr + BitVec.ofNat 64 f.fecCorr, fecUncorr := x.fecUncorr + BitVec.ofNat 64 f.fecUncorr }) = c ∧
          f.fcsOk = true ∧ f.len ≤ c.portParam 0x0715 0 ∧ f.body ≠ .pause ∧ f.vlan = c.vid ∧
            (c.onPort p.val fun x => { x with lastRx := c.time }) = v ∧ framePacket v p.val f.body = some pkt ∧
              packetOk v pkt = true ∧ 1 ≤ pkt.channel.toNat ∧ pkt.channel.toNat ≤ 4 ∧
                (v.chan pkt.channel.toNat).isOpen = true ∧ mailboxDead v (pkt.channel.toNat - 1) = false ∧
                  sessionOk v pkt.channel.toNat pkt = true)
    ∧ (∃ (dt : Nat) (s : State) (u : State) (c : State) (v : State) (p : Fin 2) (f : EthFrame) (r : PortReply),
      s.pass dt = u ∧ u.mainOn = true ∧ u.portsOn = true ∧
        (u.onPort p.val fun x => { x with fecCorr := x.fecCorr + BitVec.ofNat 64 f.fecCorr, fecUncorr := x.fecUncorr + BitVec.ofNat 64 f.fecUncorr }) = c ∧
          f.fcsOk = true ∧ f.len ≤ c.portParam 0x0715 0 ∧ f.body ≠ .pause ∧ f.vlan = c.vid ∧
            (c.onPort p.val fun x => { x with lastRx := c.time }) = v ∧ framePacket v p.val f.body = none ∧
              frameReply v p.val f.body = some r)
    ∧ (∃ (dt : Nat) (s : State) (u : State) (c : State) (p : Fin 2) (f : EthFrame), s.pass dt = u ∧
      u.mainOn = true ∧ u.portsOn = true ∧
        (u.onPort p.val fun x => { x with fecCorr := x.fecCorr + BitVec.ofNat 64 f.fecCorr, fecUncorr := x.fecUncorr + BitVec.ofNat 64 f.fecUncorr }) = c ∧
          f.fcsOk = true ∧ (c.portParam 0x0715 0 < f.len ∨ f.body = .pause))
    ∧ (∃ (dt : Nat) (s : State) (u : State) (c : State) (p : Fin 2) (f : EthFrame), s.pass dt = u ∧
      u.mainOn = true ∧ u.portsOn = true ∧
        (u.onPort p.val fun x => { x with fecCorr := x.fecCorr + BitVec.ofNat 64 f.fecCorr, fecUncorr := x.fecUncorr + BitVec.ofNat 64 f.fecUncorr }) = c ∧
          f.fcsOk = false)
    ∧ (∃ (dt : Nat) (s : State) (u : State) (ch : Fin 64), s.pass dt = u ∧ u.mainOn = true ∧
      (u.chan ch.val).isOpen = true ∧ (u.chan ch.val).reliable = true ∧ 0 < (u.chan ch.val).ackDue ∧
        (u.chan ch.val).ackSince + u.pv 0x071C 1 * usU ≤ u.time)
    ∧ (∃ (dt : Nat) (s : State) (u : State) (ch : Fin 64), s.pass dt = u ∧ u.mainOn = true ∧
      (u.chan ch.val).isOpen = true ∧ (u.chan ch.val).reliable = true ∧ (u.chan ch.val).ooo = [] ∧
        ((retransmit u ch.val fun p => decide (p.last + u.pv 0x071A 0 * usU ≤ u.time)).chan ch.val).ooo = [])
    ∧ (∃ (dt : Nat) (s : State) (u : State) (v : State) (ch : Fin 64) (t0 : Nat), s.pass dt = u ∧ u.mainOn = true ∧
      (u.chan ch.val).isOpen = true ∧ holeSince (u.chan ch.val) = some t0 ∧ t0 + u.pv 0x071B 0 * msU ≤ u.time ∧
        drainOoo (u.onChan ch.val fun c => { c with rxNext := (((u.chan ch.val).ooo.head?).map (·.seq)).getD 0, broken := decide (8 ≤ ch.val) }) ch.val = v)
    ∧ (∃ (dt : Nat) (s : State) (u : State) (ch : Fin 64) (p : TxPkt) (rest : List TxPkt), s.pass dt = u ∧
      u.mainOn = true ∧ (u.chan ch.val).isOpen = true ∧ (u.chan ch.val).unacked = p :: rest ∧
        p.first + u.pv 0x071B 0 * msU < u.time)
    ∧ (∃ (dt : Nat) (s : State) (u : State) (p : Fin 2), s.pass dt = u ∧ u.mainOn = true ∧ u.portUp p.val = true ∧
      4 * (u.port p.val).lastTx + u.pv 0x0718 0 * usU ≤ 4 * u.time) :=
  ⟨⟨0, State.reset, _, _, _, 0, frame0 0, packet0 0, rfl, by decide +kernel, by decide +kernel, rfl,
    by decide +kernel, by decide +kernel, by decide +kernel, by decide +kernel, rfl, by decide +kernel,
      by decide +kernel, by decide +kernel, by decide +kernel, by decide +kernel⟩,
    ⟨0, State.reset, _, _, _, 0, frame0 4, packet0 4, rfl, by decide +kernel, by decide +kernel, rfl,
      by decide +kernel, by decide +kernel, by decide +kernel, by decide +kernel, rfl, by decide +kernel,
        by decide +kernel, by decide +kernel, by decide +kernel, by decide +kernel, by decide +kernel,
          by decide +kernel⟩,
    ⟨0, State.reset, _, _, _, 0, { len := 64, body := .arp 1 (BitVec.ofNat 32 (State.reset.portParam 0x0710 0)) },
      .arp (BitVec.ofNat 32 (State.reset.portParam 0x0710 0)) (Config.mac 0) 1, rfl, by decide +kernel,
        by decide +kernel, rfl, by decide +kernel, by decide +kernel, by decide +kernel, by decide +kernel, rfl,
          by decide +kernel, rfl⟩,
    ⟨0, State.reset, _, _, 0, { len := 64, body := .pause }, rfl, by decide +kernel, by decide +kernel, rfl,
      by decide +kernel, by decide +kernel⟩,
    ⟨0, State.reset, _, _, 0, { len := 64, fcsOk := false, body := .other }, rfl, by decide +kernel,
      by decide +kernel, rfl, by decide +kernel⟩,
    ⟨0, { chan State.reset 8 { isOpen := true, ackDue := 1 } with time := 2 ^ 60 }, _, 8, rfl, by decide +kernel,
      by decide +kernel, by decide +kernel, by decide +kernel, by decide +kernel⟩,
    ⟨0, State.reset, _, 0, rfl, by decide +kernel, by decide +kernel, by decide +kernel, by decide +kernel,
      by decide +kernel⟩,
    ⟨0, { chan State.reset 8 { isOpen := true, ooo := [{ seq := 2, flags := 0, payload := [], came := 0 }] } with time := 2 ^ 60 },
      _, _, 8, 0, rfl, by decide +kernel, by decide +kernel, by decide +kernel, by decide +kernel, rfl⟩,
    ⟨0, { chan State.reset 8 { isOpen := true, unacked := [aged] } with time := 2 ^ 60 }, _, 8, aged, [], rfl,
      by decide +kernel, by decide +kernel, by decide +kernel, by decide +kernel⟩,
    ⟨0, { ports State.reset 2 0 with time := 2 ^ 60 }, _, 0, rfl, by decide +kernel, by decide +kernel,
      by decide +kernel⟩⟩

theorem witness_PortEventsComplete :
    (∃ (dt : Nat) (s : State) (u : State) (p : Fin 2), s.pass dt = u ∧ u.mainOn = true ∧ (u.port p.val).link ≠ 0 ∧
      u.portUp (1 - p.val) = true)
    ∧ (∃ (dt : Nat) (s : State) (u : State) (p : Fin 2), s.pass dt = u ∧ u.mainOn = true ∧
      (u.port p.val).link ≠ 0 ∧ u.portUp (1 - p.val) = false)
    ∧ (∃ (dt : Nat) (s : State) (u : State) (p : Fin 2), s.pass dt = u ∧ u.mainOn = true ∧ u.portsOn = true ∧
      (u.port (1 - p.val)).link ≠ 0)
    ∧ (∃ (dt : Nat) (s : State) (u : State) (p : Fin 2), s.pass dt = u ∧ u.mainOn = true ∧ u.portsOn = true ∧
      (u.port (1 - p.val)).link = 0)
    ∧ (∃ (dt : Nat) (s : State) (u : State) (p : Fin 2) (via : PtpVia), s.pass dt = u ∧ u.mainOn = true ∧
      u.portsOn = true ∧ u.pv 0x071D 0 = ptpModeOf via ∧ portFor u 0 = p.val)
    ∧ (∃ (dt : Nat) (s : State) (u : State) (p : Fin 2) (via : PtpVia), s.pass dt = u ∧ u.mainOn = true ∧
      u.portsOn = true ∧ u.pv 0x071D 0 = ptpModeOf via ∧ portFor u 0 = p.val)
    ∧ (∃ (dt : Nat) (s : State) (u : State) (p : Fin 2) (via : PtpVia) (t0 : Nat), s.pass dt = u ∧
      u.mainOn = true ∧ u.portsOn = true ∧ u.pv 0x071D 0 = ptpModeOf via ∧ portFor u 0 = p.val ∧
        u.host.ptpSync = some t0)
    ∧ (∃ (dt : Nat) (s : State) (u : State) (p : Fin 2) (via : PtpVia) (t0 : Nat), s.pass dt = u ∧
      u.mainOn = true ∧ u.portsOn = true ∧ u.pv 0x071D 0 = ptpModeOf via ∧ portFor u 0 = p.val ∧
        u.host.ptpReq = some t0)
    ∧ (∃ (dt : Nat) (s : State) (u : State), s.pass dt = u ∧ u.mainOn = true ∧ u.pv 0x071D 0 ≠ 0) :=
  ⟨⟨0, ports State.reset 2 2, _, 0, rfl, by decide +kernel, by decide +kernel, by decide +kernel⟩,
    ⟨0, ports State.reset 2 0, _, 0, rfl, by decide +kernel, by decide +kernel, by decide +kernel⟩,
    ⟨0, ports State.reset 0 2, _, 0, rfl, by decide +kernel, by decide +kernel, by decide +kernel⟩,
    ⟨0, State.reset, _, 0, rfl, by decide +kernel, by decide +kernel, by decide +kernel⟩,
    ⟨0, State.reset.pput 0x071D 0 1, _, 0, .layer2, rfl, by decide +kernel, by decide +kernel, by decide +kernel,
      by decide +kernel⟩,
    ⟨0, State.reset.pput 0x071D 0 1, _, 0, .layer2, rfl, by decide +kernel, by decide +kernel, by decide +kernel,
      by decide +kernel⟩,
    ⟨0, { State.reset.pput 0x071D 0 1 with host := { State.reset.host with ptpSync := some 0 } }, _, 0, .layer2, 0,
      rfl, by decide +kernel, by decide +kernel, by decide +kernel, by decide +kernel, by decide +kernel⟩,
    ⟨0, { State.reset.pput 0x071D 0 1 with host := { State.reset.host with ptpReq := some 0 } }, _, 0, .layer2, 0,
      rfl, by decide +kernel, by decide +kernel, by decide +kernel, by decide +kernel, by decide +kernel⟩,
    ⟨0, State.reset.pput 0x071D 0 1, _, rfl, by decide +kernel, by decide +kernel⟩⟩

theorem witness_DmaCommandsComplete :
    (∃ (q : Req) (s : State) (w : Waiting) (t : State) (k : Byte) (desc : U32), Runs 0x0710 5 q s w t ∧
      k.toNat ≤ 31 ∧ (t.dch k.toNat).st = .idle ∧ descStatus t.mem desc.toNat = 0 ∧
        dmaFaulty t (t.dch k.toNat).phys = false)
    ∧ (∃ (q : Req) (s : State) (w : Waiting) (t : State) (k : Byte), Runs 0x0711 1 q s w t ∧ k.toNat ≤ 31 ∧
      (t.dch k.toNat).st = .running ∧ (t.dch k.toNat).stop = none ∧ (t.dch k.toNat).moved = 0)
    ∧ (∃ (q : Req) (s : State) (w : Waiting) (t : State) (k : Byte), Runs 0x0711 1 q s w t ∧ k.toNat ≤ 31 ∧
      (t.dch k.toNat).st = .running ∧ (t.dch k.toNat).stop = none ∧ (t.dch k.toNat).moved ≠ 0)
    ∧ (∃ (q : Req) (s : State) (w : Waiting) (t : State) (k : Byte), Runs 0x0712 1 q s w t ∧ k.toNat ≤ 31 ∧
      (t.dch k.toNat).st ≠ .idle ∧ t.pv 0x0741 k.toNat ≠ 1 ∧ (t.dch k.toNat).disable = none ∧
        (t.dch k.toNat).moved ≠ 0)
    ∧ (∃ (q : Req) (s : State) (w : Waiting) (t : State) (k : Byte), Runs 0x0712 1 q s w t ∧ k.toNat ≤ 31 ∧
      (t.dch k.toNat).st ≠ .idle ∧ t.pv 0x0741 k.toNat ≠ 1 ∧ (t.dch k.toNat).disable = none ∧
        (t.dch k.toNat).moved = 0)
    ∧ (∃ (q : Req) (s : State) (w : Waiting) (t : State) (k : Byte), Runs 0x0713 1 q s w t ∧ k.toNat ≤ 31)
    ∧ (∃ (dt : Nat) (s : State) (u : State) (k : Fin 32), s.pass dt = u ∧ u.mainOn = true ∧
      dmaReady u k.val = true ∧ starved u = none ∧ granted u k.val = true)
    ∧ (∃ (dt : Nat) (s : State) (u : State) (k : Fin 32), s.pass dt = u ∧ u.mainOn = true ∧
      dmaReady u k.val = true ∧ starved u = none ∧ granted u k.val = true)
    ∧ (∃ (dt : Nat) (s : State) (u : State) (k : Fin 32), s.pass dt = u ∧ u.mainOn = true ∧ starved u = some k.val) :=
  ⟨⟨req 5, { State.reset with mem := descMem }, _, _, 31, 0x1400000, runs_of (by decide +kernel),
    by decide +kernel, by decide +kernel, by decide +kernel, by decide +kernel⟩,
    ⟨req 1, State.reset.onDma 31 fun c => { c with st := .running }, _, _, 31, runs_of (by decide +kernel),
      by decide +kernel, by decide +kernel, by decide +kernel, by decide +kernel⟩,
    ⟨req 1, State.reset.onDma 31 fun c => { c with st := .running, moved := 4 }, _, _, 31,
      runs_of (by decide +kernel), by decide +kernel, by decide +kernel, by decide +kernel, by decide +kernel⟩,
    ⟨req 1, State.reset.onDma 31 fun c => { c with st := .running, moved := 4 }, _, _, 31,
      runs_of (by decide +kernel), by decide +kernel, by decide +kernel, by decide +kernel, by decide +kernel,
        by decide +kernel⟩,
    ⟨req 1, State.reset.onDma 31 fun c => { c with st := .running }, _, _, 31, runs_of (by decide +kernel),
      by decide +kernel, by decide +kernel, by decide +kernel, by decide +kernel, by decide +kernel⟩,
    ⟨req 1, State.reset, _, _, 31, runs_of (by decide +kernel), by decide +kernel⟩,
    ⟨0, bursting, _, 31, rfl, by decide +kernel, by decide +kernel, by decide +kernel, by decide +kernel⟩,
    ⟨0, bursting, _, 31, rfl, by decide +kernel, by decide +kernel, by decide +kernel, by decide +kernel⟩,
    ⟨0, { bursting.pput 0x0741 31 0 with time := 2 ^ 60 }, _, 31, rfl, by decide +kernel, by decide +kernel⟩⟩

theorem witness_ClockRequestsComplete :
    (∃ (q : Req) (s : State) (w : Waiting) (t : State), Runs 0x0201 0 q s w t)
    ∧ (∃ (q : Req) (s : State) (w : Waiting) (t : State) (y : U16) (mo : Byte) (d : Byte) (h : Byte) (mi : Byte) (sec : Byte) (ns : U32),
      Runs 0x0202 12 q s w t ∧ dateOk y.toNat mo.toNat d.toNat h.toNat mi.toNat sec.toNat = true ∧
        ns.toNat ≤ 999999999 ∧ t.timeSrc = 0 ∧ t.layer.st = .idle)
    ∧ (∃ (q : Req) (s : State) (w : Waiting) (t : State) (off : U16) (at_ : U64), Runs 0x0203 10 q s w t ∧
      0 ≤ off.toInt ∧ off.toInt ≤ 1000 ∧ time64 t.time ≤ at_.toNat)
    ∧ (∃ (q : Req) (s : State) (w : Waiting) (t : State), Runs 0x0204 0 q s w t) :=
  ⟨⟨req 0, State.reset, _, _, runs_of (by decide +kernel)⟩,
    ⟨req 12, State.reset, _, _, 2024, 12, 31, 23, 59, 59, 999999999, runs_of (by decide +kernel),
      by decide +kernel, by decide +kernel, by decide +kernel, by decide +kernel⟩,
    ⟨req 10, State.reset, _, _, 1000, 0, runs_of (by decide +kernel), by decide +kernel, by decide +kernel,
      by decide +kernel⟩,
    ⟨req 0, State.reset, _, _, runs_of (by decide +kernel)⟩⟩

theorem witness_ClockEventsComplete :
    (∃ (dt : Nat) (s : State) (u : State), s.pass dt = u ∧ u.mainOn = true ∧ u.clk.refFallback = false ∧
      u.clk.refCrystal = false)
    ∧ (∃ (dt : Nat) (s : State) (u : State), s.pass dt = u ∧ u.mainOn = true ∧ u.clk.refFallback = false)
    ∧ (∃ (dt : Nat) (s : State) (u : State), s.pass dt = u ∧ u.power ≠ .off)
    ∧ (∃ (dt : Nat) (s : State) (u : State), s.pass dt = u ∧ u.mainOn = true ∧ u.clk.refFallback = false)
    ∧ (∃ (dt : Nat) (s : State) (u : State) (k : Fin 5), s.pass dt = u ∧ pllPowered u k.val = true ∧
      (k.val = 0 ∨ u.clk.refFallback = false) ∧ (u.pll k.val).down = false ∧
        ((u.pll k.val).locked = false ∨ researchOk u k.val = true))
    ∧ (∃ (dt : Nat) (s : State) (u : State) (k : Fin 5) (band : BitVec 6), s.pass dt = u ∧
      pllPowered u k.val = true ∧ (k.val = 0 ∨ u.clk.refFallback = false) ∧ (u.pll k.val).down = false ∧
        ((u.pll k.val).locked = false ∨ researchOk u k.val = true) ∧ (band = 0 ∨ band = 63) ∧ k.val ≠ 1)
    ∧ (∃ (dt : Nat) (s : State) (u : State), s.pass dt = u ∧ u.mainOn = true)
    ∧ (∃ (dt : Nat) (s : State) (u : State), s.pass dt = u ∧ (u.pll 1).locked = true)
    ∧ (∃ (dt : Nat) (s : State) (u : State), s.pass dt = u ∧ u.mainOn = true ∧ u.time % secU < nsU ∧
      u.stage.master = false ∧ u.clk.step = none)
    ∧ (∃ (dt : Nat) (s : State) (u : State) (v : State), s.pass dt = u ∧ u.mainOn = true ∧ u.time % secU < nsU ∧
      applyStep (latchClock (if u.stage.master ∧ u.stageOn = true then u.send (.stageMarker true true 0) else u)) = v)
    ∧ (∃ (dt : Nat) (s : State) (u : State) (v : State) (p : Fin 2), s.pass dt = u ∧ u.stageOn = true ∧
      u.stage.master = false ∧ (u.stage.ports.getD p.val {}).masterSide = true ∧
        u.send (.stageMarker (p.val == 1) (p.val == 0) 0) = v)
    ∧ (∃ (dt : Nat) (s : State) (u : State) (p : Fin 2), s.pass dt = u ∧ u.stageOn = true ∧
      u.stage.master = false ∧ (u.stage.ports.getD p.val {}).masterSide = false)
    ∧ (∃ (dt : Nat) (s : State) (u : State) (ex : List (Nat × Nat)), s.pass dt = u ∧ u.stageOn = true ∧ ex ≠ [])
    ∧ (∃ (dt : Nat) (s : State) (u : State), s.pass dt = u ∧ u.mainOn = true ∧ u.stage.master = false ∧
      u.clk.srcLost = false ∧ (u.clk.chained = true ∨ (u.stage.ports.any fun p => p.up) = true))
    ∧ (∃ (dt : Nat) (s : State) (u : State) (off : Int) (at_ : Nat), s.pass dt = u ∧ u.mainOn = true ∧
      u.clk.leap = some (off, at_) ∧ at_ ≤ time64 u.time)
    ∧ (∃ (dt : Nat) (s : State) (u : State) (o : Int), s.pass dt = u ∧ u.mainOn = true ∧ u.stage.master = false ∧
      u.pv 0x071D 0 ≠ 0 ∧ ptpOffset u = some o) :=
  ⟨⟨0, State.reset, _, rfl, by decide +kernel, by decide +kernel, by decide +kernel⟩,
    ⟨0, State.reset, _, rfl, by decide +kernel, by decide +kernel⟩,
    ⟨0, State.reset, _, rfl, by decide +kernel⟩,
    ⟨0, State.reset, _, rfl, by decide +kernel, by decide +kernel⟩,
    ⟨0, { State.reset with power := .ready }, _, 1, rfl, by decide +kernel, by decide +kernel, by decide +kernel,
      by decide +kernel⟩,
    ⟨0, { State.reset with power := .ready }, _, 2, 63, rfl, by decide +kernel, by decide +kernel,
      by decide +kernel, by decide +kernel, by decide +kernel, by decide +kernel⟩,
    ⟨0, State.reset, _, rfl, by decide +kernel⟩,
    ⟨0, { rdy with clk := { rdy.clk with plls := [{}, { locked := true }, {}, {}, {}] } }, _, rfl, by decide +kernel⟩,
    ⟨0, State.reset, _, rfl, by decide +kernel, by decide +kernel, by decide +kernel, by decide +kernel⟩,
    ⟨0, State.reset.onStage fun g => { g with master := true }, _, _, rfl, by decide +kernel, by decide +kernel, rfl⟩,
    ⟨0, State.reset.onStage fun g => { g with ports := [{ masterSide := true }, {}] }, _, _, 0, rfl,
      by decide +kernel, by decide +kernel, by decide +kernel, rfl⟩,
    ⟨0, State.reset, _, 0, rfl, by decide +kernel, by decide +kernel, by decide +kernel⟩,
    ⟨0, State.reset, _, [(4, 2)], rfl, by decide +kernel, by decide +kernel⟩,
    ⟨0, { State.reset with clk := { State.reset.clk with chained := true } }, _, rfl, by decide +kernel,
      by decide +kernel, by decide +kernel, by decide +kernel⟩,
    ⟨0, { State.reset with clk := { State.reset.clk with leap := some (1, 0) } }, _, 1, 0, rfl, by decide +kernel,
      by decide +kernel, by decide +kernel⟩,
    ⟨0, { State.reset.pput 0x071D 0 1 with host := { State.reset.host with ptpFwd := some 9, ptpRev := some 1 } },
      _, 4, rfl, by decide +kernel, by decide +kernel, by decide +kernel, by decide +kernel⟩⟩

theorem witness_ServoRequestsComplete :
    (∃ (q : Req) (s : State) (w : Waiting) (t : State) (n : Byte), Runs 0x0901 2 q s w t ∧ n.toNat ≤ 23 ∧
      (slotType t n.toNat = 7 → t.c4On = false) ∧ t.motionOn = true ∧ t.bist.failed.getLsbD 60 = false ∧
        (t.slot n.toNat).en = false ∧ slotType t n.toNat ≠ 0 ∧ selectorsOk t n.toNat = true ∧
          destInUse t n.toNat = false)
    ∧ (∃ (q : Req) (s : State) (w : Waiting) (t : State) (n : Byte), Runs 0x0901 2 q s w t ∧ n.toNat ≤ 23 ∧
      (t.slot n.toNat).en = true ∧ t.servo.test = none)
    ∧ (∃ (q : Req) (s : State) (w : Waiting) (t : State) (n : Byte), Runs 0x0902 1 q s w t ∧ n.toNat ≤ 23 ∧
      t.motionOn = true)
    ∧ (∃ (q : Req) (s : State) (w : Waiting) (t : State), Runs 0x0902 1 q s w t ∧ t.motionOn = true)
    ∧ (∃ (q : Req) (s : State) (w : Waiting) (t : State) (tab : Byte) (first : U16) (n : U16) (vs : List U32),
      Runs 0x0903 (5 + 4 * n.toNat) q s w t ∧ vs.length = n.toNat ∧ 1 ≤ tab.toNat ∧ tab.toNat ≤ 8 ∧ 1 ≤ n.toNat ∧
        n.toNat ≤ 256 ∧ first.toNat + n.toNat ≤ 1024 ∧ t.motionOn = true)
    ∧ (∃ (q : Req) (s : State) (w : Waiting) (t : State) (k : Byte), Runs 0x0904 1 q s w t ∧ k.toNat ≤ 3 ∧
      t.motionOn = true)
    ∧ (∃ (q : Req) (s : State) (w : Waiting) (t : State), Runs 0x0905 4 q s w t ∧ t.motionOn = true ∧
      t.driver = true ∧ t.layer.st = .idle ∧ onStopRamp t = false)
    ∧ (∃ (q : Req) (s : State) (w : Waiting) (t : State), Runs 0x0906 0 q s w t ∧ t.driver = true ∧
      moveRuns t.servo.prof = true ∧ t.servo.prof.stop = none)
    ∧ (∃ (q : Req) (s : State) (w : Waiting) (t : State) (x : ServoTest), Runs 0x0907 35 q s w t ∧
      t.servo.test = none ∧ x.loop.toNat ≤ 23 ∧ testRangeOk t x = true ∧
        (2 ≤ slotType t x.loop.toNat → slotType t x.loop.toNat ≤ 5 → t.layer.st = .idle) ∧
          (t.slot x.loop.toNat).en = true)
    ∧ (∃ (q : Req) (s : State) (w : Waiting) (t : State) (r : TestRun), Runs 0x0908 0 q s w t ∧
      t.servo.test = some r ∧ r.stop = none)
    ∧ (∃ (q : Req) (s : State) (w : Waiting) (t : State) (n : Byte), Runs 0x0909 1 q s w t ∧ n.toNat ≤ 23) :=
  ⟨⟨req 2, rdy.pput 0x0910 0 1, _, _, 0, runs_of (by decide +kernel), by decide +kernel, by decide +kernel,
    by decide +kernel, by decide +kernel, by decide +kernel, by decide +kernel, by decide +kernel, by decide +kernel⟩,
    ⟨req 2, slotEn rdy 23, _, _, 23, runs_of (by decide +kernel), by decide +kernel, by decide +kernel,
      by decide +kernel⟩,
    ⟨req 1, rdy, _, _, 23, runs_of (by decide +kernel), by decide +kernel, by decide +kernel⟩,
    ⟨req 1, rdy, _, _, runs_of (by decide +kernel), by decide +kernel⟩,
    ⟨req 9, rdy, _, _, 8, 1023, 1, [0], runs_of (by decide +kernel), by decide +kernel, by decide +kernel,
      by decide +kernel, by decide +kernel, by decide +kernel, by decide +kernel, by decide +kernel⟩,
    ⟨req 1, rdy, _, _, 3, runs_of (by decide +kernel), by decide +kernel, by decide +kernel⟩,
    ⟨req 4, rdy.pput 0x0310 0 1, _, _, runs_of (by decide +kernel), by decide +kernel, by decide +kernel,
      by decide +kernel, by decide +kernel⟩,
    ⟨req 0, { rdy.pput 0x0310 0 1 with servo := { rdy.servo with prof := { moveTo := some 0 } } }, _, _,
      runs_of (by decide +kernel), by decide +kernel, by decide +kernel, by decide +kernel⟩,
    ⟨req 35, slotEn rdy 0, _, _, test0, runs_of (by decide +kernel), by decide +kernel, by decide +kernel,
      by decide +kernel, by decide +kernel, by decide +kernel⟩,
    ⟨req 0, { rdy with servo := { rdy.servo with test := some { t := test0, no := 1 } } }, _, _,
      { t := test0, no := 1 }, runs_of (by decide +kernel), by decide +kernel, by decide +kernel⟩,
    ⟨req 1, rdy, _, _, 23, runs_of (by decide +kernel), by decide +kernel⟩⟩

theorem witness_ServoEventsComplete :
    (∃ (dt : Nat) (s : State) (u : State), s.pass dt = u ∧ u.motionOn = true ∧ u.time / 256 % 10000 = 0)
    ∧ (∃ (dt : Nat) (s : State) (u : State) (k : Fin 4) (p : Int) (x : Int), s.pass dt = u ∧ u.motionOn = true ∧
      (u.pv 0x0930 k = 1 ∨ u.pv 0x0930 k = 2) ∧ glitch u k = false ∧ ofField 48 (toField 48 p) = x ∧
        x ≠ (u.enc k).pos)
    ∧ (∃ (dt : Nat) (s : State) (u : State) (k : Fin 4), s.pass dt = u ∧ u.motionOn = true ∧ u.pv 0x0930 k = 3)
    ∧ (∃ (dt : Nat) (s : State) (u : State) (k : Fin 4), s.pass dt = u ∧ u.motionOn = true ∧
      (u.pv 0x0930 k = 1 ∨ u.pv 0x0930 k = 2) ∧ (u.enc k).armed = true)
    ∧ (∃ (dt : Nat) (s : State) (u : State) (k : Fin 4), s.pass dt = u ∧ u.motionOn = true ∧
      (u.pv 0x0930 k = 1 ∨ u.pv 0x0930 k = 2) ∧ (u.enc k).armed = false ∧ (u.enc k).referenced = true ∧
        u.pv 0x093B (k + 4) = 1)
    ∧ (∃ (dt : Nat) (s : State) (u : State) (k : Fin 4) (cause : EncLoss), s.pass dt = u ∧ u.motionOn = true ∧
      lossFits (u.pv 0x0930 k) cause = true ∧ (u.enc k).lost = false)
    ∧ (∃ (dt : Nat) (s : State) (u : State), s.pass dt = u ∧ u.motionOn = true ∧ u.driver = true ∧
      profOver u.servo.prof u.time = true ∧ u.servo.prof.inPos = false ∧ u.servo.prof.moveTo = none ∧
        inPosition u = true ∧ (u.layer.st = .runOut → u.layer.atRest = true))
    ∧ (∃ (dt : Nat) (s : State) (u : State), s.pass dt = u ∧ u.motionOn = true ∧ u.driver = true ∧
      profOver u.servo.prof u.time = true ∧ u.servo.prof.inPos = false ∧ u.servo.prof.moveTo = none ∧
        inPosition u = true ∧ u.layer.st = .runOut ∧ u.layer.atRest = false)
    ∧ (∃ (dt : Nat) (s : State) (u : State) (n : Fin 24), s.pass dt = u ∧ u.motionOn = true ∧
      (u.slot n).en = true ∧ 1000 ≤ (u.slot n).satRun) :=
  ⟨⟨0, rdy, _, rfl, by decide +kernel, by decide +kernel⟩,
    ⟨0, rdy.pput 0x0930 0 1, _, 0, -1, -1, rfl, by decide +kernel, by decide +kernel, by decide +kernel,
      by decide +kernel, by decide +kernel⟩,
    ⟨0, rdy.pput 0x0930 3 3, _, 3, rfl, by decide +kernel, by decide +kernel⟩,
    ⟨0, (rdy.pput 0x0930 0 2).onEnc 0 fun e => { e with armed := true }, _, 0, rfl, by decide +kernel,
      by decide +kernel, by decide +kernel⟩,
    ⟨0, ((rdy.pput 0x0930 0 2).pput 0x093B 4 1).onEnc 0 fun e => { e with referenced := true }, _, 0, rfl,
      by decide +kernel, by decide +kernel, by decide +kernel, by decide +kernel, by decide +kernel⟩,
    ⟨0, rdy.pput 0x0930 3 3, _, 3, .ssiFraming, rfl, by decide +kernel, by decide +kernel, by decide +kernel⟩,
    ⟨0, { slotEn ((rdy.pput 0x0310 0 1).pput 0x0910 0 2) 0 with servo := { (slotEn rdy 0).servo with prof := { inPos := false, inSince := some 0 } }, time := 2 ^ 60 },
      _, rfl, by decide +kernel, by decide +kernel, by decide +kernel, by decide +kernel, by decide +kernel,
        by decide +kernel, by decide +kernel⟩,
    ⟨0, { lay (slotEn ((rdy.pput 0x0310 0 1).pput 0x0910 0 2) 0) .runOut with servo := { (slotEn rdy 0).servo with prof := { inPos := false, inSince := some 0 } }, time := 2 ^ 60 },
      _, rfl, by decide +kernel, by decide +kernel, by decide +kernel, by decide +kernel, by decide +kernel,
        by decide +kernel, by decide +kernel, by decide +kernel⟩,
    ⟨0, slotEn rdy 23, _, 23, rfl, by decide +kernel, by decide +kernel, by decide +kernel⟩⟩

theorem witness_DriveRequestsComplete :
    (∃ (q : Req) (s : State) (w : Waiting) (t : State) (k : Byte), Runs 0x0A01 2 q s w t ∧ k.toNat ≤ 7 ∧
      t.motionOn = true ∧ driveMode t k.toNat ≠ 0 ∧ t.c4On = false ∧
        ((t.drive k.toNat).st = .disabled ∨ (t.drive k.toNat).st = .fault) ∧ (t.drive k.toNat).align = none ∧
          enableDenied t k.toNat = false ∧
            (driveMode t k.toNat = 3 → (t.enc (t.pv 0x0A1F k.toNat)).referenced = true))
    ∧ (∃ (q : Req) (s : State) (w : Waiting) (t : State) (k : Byte), Runs 0x0A01 2 q s w t ∧ k.toNat ≤ 7)
    ∧ (∃ (q : Req) (s : State) (w : Waiting) (t : State) (k : Byte) (pts : List (U32 × U32)),
      Runs 0x0A02 65 q s w t ∧ pts.length = 8 ∧ k.toNat ≤ 7 ∧ t.motionOn = true ∧
        curveRising (pts.map fun p : U32 × U32 => (p.1.toInt, p.2.toInt)) = true)
    ∧ (∃ (q : Req) (s : State) (w : Waiting) (t : State) (k : Byte), Runs 0x0A03 1 q s w t ∧ k.toNat ≤ 7 ∧
      driveMode t k.toNat = 3 ∧ (t.drive k.toNat).st = .disabled ∧ t.motionOn = true ∧
        (t.drive k.toNat).align = none ∧ t.c4On = false)
    ∧ (∃ (q : Req) (s : State) (w : Waiting) (t : State) (k : Byte), Runs 0x0A04 1 q s w t ∧ k.toNat ≤ 7) :=
  ⟨⟨req 2, rdy.pput 0x0A10 7 1, _, _, 7, runs_of (by decide +kernel), by decide +kernel, by decide +kernel,
    by decide +kernel, by decide +kernel, by decide +kernel, by decide +kernel, by decide +kernel, by decide +kernel⟩,
    ⟨req 2, rdy, _, _, 7, runs_of (by decide +kernel), by decide +kernel⟩,
    ⟨req 65, rdy, _, _, 7, (List.range 8).map fun i => (BitVec.ofNat 32 i, 0), runs_of (by decide +kernel),
      by decide +kernel, by decide +kernel, by decide +kernel, by decide +kernel⟩,
    ⟨req 1, rdy.pput 0x0A10 7 3, _, _, 7, runs_of (by decide +kernel), by decide +kernel, by decide +kernel,
      by decide +kernel, by decide +kernel, by decide +kernel, by decide +kernel⟩,
    ⟨req 1, rdy, _, _, 7, runs_of (by decide +kernel), by decide +kernel⟩⟩

theorem witness_DriveEventsComplete :
    (∃ (dt : Nat) (s : State) (u : State) (k : Fin 8), s.pass dt = u ∧ u.motionOn = true ∧
      ((u.drive k).st ≠ .disabled ∨ (u.drive k).align.isSome = true) ∧ (u.drive k).st ≠ .fault)
    ∧ (∃ (dt : Nat) (s : State) (u : State) (v : State) (k : Fin 8) (gd : Bool), s.pass dt = u ∧
      u.motionOn = true ∧ (gd = true ∨ (u.drive k).gates = true) ∧ (u.drive k).align = none ∧
        u.onDrive k (fun d => { d with gdf := d.gdf || gd }) = v)
    ∧ (∃ (dt : Nat) (s : State) (u : State) (v : State) (k : Fin 8) (gd : Bool) (w : Waiting), s.pass dt = u ∧
      u.motionOn = true ∧ (gd = true ∨ (u.drive k).gates = true) ∧ (u.drive k).align = some w ∧
        u.onDrive k (fun d => { d with gdf := d.gdf || gd }) = v)
    ∧ (∃ (dt : Nat) (s : State) (u : State) (k : Fin 8), s.pass dt = u ∧ u.motionOn = true ∧ (u.drive k).gdf = true)
    ∧ (∃ (dt : Nat) (s : State) (u : State) (k : Fin 8), s.pass dt = u ∧ u.motionOn = true ∧ (u.drive k).st = .catch)
    ∧ (∃ (dt : Nat) (s : State) (u : State) (k : Fin 8), s.pass dt = u ∧ u.motionOn = true ∧
      (u.drive k).st = .start ∧ (u.drive k).ramping = true)
    ∧ (∃ (dt : Nat) (s : State) (u : State) (k : Fin 8), s.pass dt = u ∧ u.motionOn = true ∧
      (u.drive k).st = .catch ∧ (u.drive k).tState + u.dpv 0x0A2D k 0 * msU ≤ u.time)
    ∧ (∃ (dt : Nat) (s : State) (u : State) (k : Fin 8), s.pass dt = u ∧ u.motionOn = true ∧
      (u.drive k).st = .brake ∧ (u.drive k).tState + u.dpv 0x0A2D k 8 * msU ≤ u.time)
    ∧ (∃ (dt : Nat) (s : State) (u : State) (k : Fin 8), s.pass dt = u ∧ u.motionOn = true ∧
      (u.drive k).st = .start ∧ (u.drive k).ramping = false ∧ (u.drive k).tState + u.dpv 0x0A27 k 0 * msU ≤ u.time)
    ∧ (∃ (dt : Nat) (s : State) (u : State) (k : Fin 8), s.pass dt = u ∧ u.motionOn = true ∧
      (u.drive k).st = .coast ∧ (u.drive k).coastToStart = false ∧
        (u.drive k).tState + u.dpv 0x0A2D k 16 * msU ≤ u.time)
    ∧ (∃ (dt : Nat) (s : State) (u : State) (k : Fin 8), s.pass dt = u ∧ u.motionOn = true ∧
      (u.drive k).st = .coast ∧ (u.drive k).coastToStart = true ∧
        (u.drive k).tState + u.dpv 0x0A2D k 16 * msU ≤ u.time)
    ∧ (∃ (dt : Nat) (s : State) (u : State) (k : Fin 8), s.pass dt = u ∧ u.motionOn = true ∧
      ((u.drive k).st = .disabled ∨ (u.drive k).st = .idle) ∧ (u.drive k).gates = false)
    ∧ (∃ (dt : Nat) (s : State) (u : State) (k : Fin 8), s.pass dt = u ∧ u.motionOn = true ∧ driveMode u k = 1 ∧
      (u.drive k).st = .run ∧ (u.drive k).tRef.natAbs = u.pv 0x0A19 k ∧ (u.drive k).speed.natAbs < u.dpv 0x0A2A k 0)
    ∧ (∃ (dt : Nat) (s : State) (u : State) (k : Fin 8), s.pass dt = u ∧ u.motionOn = true ∧
      (u.drive k).st = .start ∧ (u.drive k).ramping = true)
    ∧ (∃ (dt : Nat) (s : State) (u : State) (k : Fin 8) (w : Waiting) (p : Int), s.pass dt = u ∧
      u.motionOn = true ∧ (u.drive k).align = some w ∧ (u.drive k).tState + u.dpv 0x0A27 k 0 * msU ≤ u.time ∧
        sat32 (encNm u (u.pv 0x0A1F k) (u.enc (u.pv 0x0A1F k)).pos) = p) :=
  ⟨⟨0, driveIn .idle, _, 7, rfl, by decide +kernel, by decide +kernel, by decide +kernel⟩,
    ⟨0, driveIn .run, _, _, 7, true, rfl, by decide +kernel, by decide +kernel, by decide +kernel, rfl⟩,
    ⟨0, (driveIn .disabled).onDrive 7 fun d => { d with gates := true, align := some owed }, _, _, 7, false, owed,
      rfl, by decide +kernel, by decide +kernel, by decide +kernel, rfl⟩,
    ⟨0, (driveIn .fault).onDrive 7 fun d => { d with gdf := true }, _, 7, rfl, by decide +kernel, by decide +kernel⟩,
    ⟨0, driveIn .catch, _, 7, rfl, by decide +kernel, by decide +kernel⟩,
    ⟨0, (driveIn .start).onDrive 7 fun d => { d with ramping := true }, _, 7, rfl, by decide +kernel,
      by decide +kernel, by decide +kernel⟩,
    ⟨0, driveIn .catch, _, 7, rfl, by decide +kernel, by decide +kernel, by decide +kernel⟩,
    ⟨0, driveIn .brake, _, 7, rfl, by decide +kernel, by decide +kernel, by decide +kernel⟩,
    ⟨0, driveIn .start, _, 7, rfl, by decide +kernel, by decide +kernel, by decide +kernel, by decide +kernel⟩,
    ⟨0, driveIn .coast, _, 7, rfl, by decide +kernel, by decide +kernel, by decide +kernel, by decide +kernel⟩,
    ⟨0, (driveIn .coast).onDrive 7 fun d => { d with coastToStart := true }, _, 7, rfl, by decide +kernel,
      by decide +kernel, by decide +kernel, by decide +kernel⟩,
    ⟨0, driveIn .idle, _, 7, rfl, by decide +kernel, by decide +kernel, by decide +kernel⟩,
    ⟨0, ((((driveIn .run).pput 0x0A10 7 1).pput 0x0A19 7 5)).onDrive 7 fun d => { d with tRef := -5, params := pset [] 0x0A2A 7 1 },
      _, 7, rfl, by decide +kernel, by decide +kernel, by decide +kernel, by decide +kernel, by decide +kernel⟩,
    ⟨0, (driveIn .start).onDrive 7 fun d => { d with ramping := true }, _, 7, rfl, by decide +kernel,
      by decide +kernel, by decide +kernel⟩,
    ⟨0, (driveIn .disabled).onDrive 7 fun d => { d with align := some owed }, _, 7, owed, _, rfl,
      by decide +kernel, by decide +kernel, by decide +kernel, rfl⟩⟩

theorem witness_StepperRequestsComplete :
    (∃ (q : Req) (s : State) (w : Waiting) (t : State) (k : Byte), Runs 0x0B01 2 q s w t ∧ k.toNat ≤ 7 ∧
      t.motionOn = true ∧ t.bist.failed.getLsbD 62 = false ∧ t.c4On = false ∧
        (t.unit (unitOf t k.toNat)).st = .disabled)
    ∧ (∃ (q : Req) (s : State) (w : Waiting) (t : State) (k : Byte), Runs 0x0B01 2 q s w t ∧ k.toNat ≤ 7)
    ∧ (∃ (q : Req) (s : State) (w : Waiting) (t : State) (uf : Byte) (n : Nat) (abs : Byte) (v : U32) (a : U32) (j : U32) (ts : List (BitVec 48)) (m : Move),
      Runs 0x0B02 (14 + 6 * ts.length) q s w t ∧ unitField uf = some n ∧ (t.unit n).members ≠ [] ∧
        (n < 8 → (t.axis n).group = none) ∧ ts.length = (t.unit n).members.length ∧ abs.toNat ≤ 1 ∧
          planMove t n (abs == 1) v.toNat a.toNat j.toNat (ts.map (·.toInt)) = m ∧
            moveRangeOk v.toNat a.toNat j.toNat = true ∧ m.targets.all targetOk = true ∧
              takesMoves (t.unit n) = true ∧ (t.unit n).queue.length < 32 ∧
                (abs = 1 → ((t.unit n).members.any fun k => !(t.axis k).homed) = false) ∧
                  towardLimit t n (List.zipWith (fun t p => t - p) m.targets (planStart t n)) = false)
    ∧ (∃ (q : Req) (s : State) (w : Waiting) (t : State) (uf : Byte) (n : Nat) (v : Nat), Runs 0x0B03 1 q s w t ∧
      unitField uf = some n ∧ (t.unit n).members ≠ [] ∧ (if n < 8 then unitOf t n else n) = v ∧ t.motionOn = true ∧
        (t.unit v).stop = none)
    ∧ (∃ (q : Req) (s : State) (w : Waiting) (t : State) (uf : Byte) (n : Nat), Runs 0x0B04 1 q s w t ∧
      unitField uf = some n ∧ (t.unit n).members ≠ [] ∧ (n < 8 → (t.axis n).group = none) ∧
        (t.unit n).st = .stopped ∧
          (((t.unit n).cur.map (·.abs)).getD false = true → ((t.unit n).members.any fun k => !(t.axis k).homed) = false) ∧
            towardLimit t n (((t.unit n).cur.map fun m => moveDelta m (unitPos t n)).getD []) = false)
    ∧ (∃ (q : Req) (s : State) (w : Waiting) (t : State) (uf : Byte) (n : Nat), Runs 0x0B05 1 q s w t ∧
      unitField uf = some n ∧ (t.unit n).members ≠ [] ∧ (n < 8 → (t.axis n).group = none) ∧
        ((t.unit n).st = .idle ∨ (t.unit n).st = .stopped))
    ∧ (∃ (q : Req) (s : State) (w : Waiting) (t : State) (k : Byte), Runs 0x0B06 1 q s w t ∧ k.toNat ≤ 7 ∧
      (t.axis k.toNat).group = none ∧ (t.unit k.toNat).st = .idle ∧ homeBlocked t k.toNat = false)
    ∧ (∃ (q : Req) (s : State) (w : Waiting) (t : State) (g : Byte) (mask : Byte) (ks : List Nat),
      Runs 0x0B07 2 q s w t ∧ g.toNat ≤ 3 ∧ bitsOf mask.toNat 8 = ks ∧ 2 ≤ ks.length ∧ ks.length ≤ 4 ∧ (∀ k ∈ ks,
        ((t.axis k).group = none ∨ (t.axis k).group = some g.toNat) ∧ (t.unit (unitOf t k)).st = .idle ∧
          (t.unit (unitOf t k)).queue = []) ∧
            ((t.unit (8 + g.toNat)).members ≠ [] → (t.unit (8 + g.toNat)).st = .idle ∧
              (t.unit (8 + g.toNat)).queue = []))
    ∧ (∃ (q : Req) (s : State) (w : Waiting) (t : State) (g : Byte), Runs 0x0B07 2 q s w t ∧ g.toNat ≤ 3 ∧
      (t.unit (8 + g.toNat)).members ≠ [] ∧ (t.unit (8 + g.toNat)).st = .idle)
    ∧ (∃ (q : Req) (s : State) (w : Waiting) (t : State) (k : Byte) (v : State), Runs 0x0B08 1 q s w t ∧
      k.toNat ≤ 7 ∧ (∀ x ∈ (t.axis k.toNat).sw, x.unstable = true → ∀ e,
        x.edgeAt = some e → e + t.pv 0x0B27 (k.toNat + 8) * msU ≤ t.time) ∧
          (t.onAxis k.toNat fun a => { a with sw := a.sw.map fun x => { x with unstable := false } }) = v)
    ∧ (∃ (q : Req) (s : State) (w : Waiting) (t : State) (uf : Byte) (n : Nat) (v : Nat), Runs 0x0B09 1 q s w t ∧
      unitField uf = some n ∧ (t.unit n).members ≠ [] ∧ (if n < 8 then unitOf t n else n) = v) :=
  ⟨⟨req 2, rdy, _, _, 7, runs_of (by decide +kernel), by decide +kernel, by decide +kernel, by decide +kernel,
    by decide +kernel, by decide +kernel⟩,
    ⟨req 2, rdy, _, _, 7, runs_of (by decide +kernel), by decide +kernel⟩,
    ⟨req 20, unitIn rdy 0 .idle, _, _, 0, 0, 0, 0, 0, 0, [1], _, runs_of (by decide +kernel), by decide +kernel,
      by decide +kernel, by decide +kernel, by decide +kernel, by decide +kernel, rfl, by decide +kernel,
        by decide +kernel, by decide +kernel, by decide +kernel, by decide +kernel, by decide +kernel⟩,
    ⟨req 1, rdy, _, _, 7, 7, 7, runs_of (by decide +kernel), by decide +kernel, by decide +kernel,
      by decide +kernel, by decide +kernel, by decide +kernel⟩,
    ⟨req 1, unitIn rdy 0 .stopped, _, _, 0, 0, runs_of (by decide +kernel), by decide +kernel, by decide +kernel,
      by decide +kernel, by decide +kernel, by decide +kernel, by decide +kernel⟩,
    ⟨req 1, unitIn rdy 0 .idle, _, _, 0, 0, runs_of (by decide +kernel), by decide +kernel, by decide +kernel,
      by decide +kernel, by decide +kernel⟩,
    ⟨req 1, unitIn rdy 0 .idle, _, _, 0, runs_of (by decide +kernel), by decide +kernel, by decide +kernel,
      by decide +kernel, by decide +kernel⟩,
    ⟨req 2, [4, 5, 6, 7].foldl (fun s k => unitIn s k .idle) rdy, _, _, 3, 0xF0, [4, 5, 6, 7],
      runs_of (by decide +kernel), by decide +kernel, by decide +kernel, by decide +kernel, by decide +kernel,
        by decide +kernel, by decide +kernel⟩,
    ⟨req 2, rdy.onUnit 11 fun u => { u with st := .idle, members := [6, 7] }, _, _, 3, runs_of (by decide +kernel),
      by decide +kernel, by decide +kernel, by decide +kernel⟩,
    ⟨req 1, chattered, _, _, 7, _, runs_of (by decide +kernel), by decide +kernel, chattered_quiet, rfl⟩,
    ⟨req 1, rdy, _, _, 0, 0, 0, runs_of (by decide +kernel), by decide +kernel, by decide +kernel, by decide +kernel⟩⟩

theorem witness_StepperEventsComplete :
    (∃ (dt : Nat) (s : State) (u : State) (k : Fin 8), s.pass dt = u ∧ u.motionOn = true ∧
      unitState u (unitOf u k) ≠ .disabled)
    ∧ (∃ (dt : Nat) (s : State) (u : State) (k : Fin 8) (t0 : Nat), s.pass dt = u ∧ u.motionOn = true ∧
      (u.axis k).satAt = some t0 ∧ t0 + u.pv 0x0B15 k * msU ≤ u.time)
    ∧ (∃ (dt : Nat) (s : State) (u : State), s.pass dt = u ∧ u.motionOn = true)
    ∧ (∃ (dt : Nat) (s : State) (u : State) (v : State) (k : Fin 8), s.pass dt = u ∧ u.motionOn = true ∧
      u.onAxis k (fun a => { a with nflt := true }) = v)
    ∧ (∃ (dt : Nat) (s : State) (u : State) (v : State) (k : Fin 8), s.pass dt = u ∧ u.motionOn = true ∧
      (u.axis k).nflt = true ∧ u.onAxis k (fun a => { a with nflt := false }) = v)
    ∧ (∃ (dt : Nat) (s : State) (u : State), s.pass dt = u ∧ u.motionOn = true)
    ∧ (∃ (dt : Nat) (s : State) (u : State) (k : Fin 8) (i : Fin 3) (t0 : Nat), s.pass dt = u ∧ u.motionOn = true ∧
      ((u.axis k).sw.getD i {}).qual ≠ ((u.axis k).sw.getD i {}).level ∧
        ((u.axis k).sw.getD i {}).edgeAt = some t0 ∧ t0 + u.pv 0x0B26 k * 100 * usU ≤ u.time) :=
  ⟨⟨0, unitIn rdy 7 .idle, _, 7, rfl, by decide +kernel, by decide +kernel⟩,
    ⟨0, { rdy.onAxis 7 fun a => { a with satAt := some 0 } with time := 2 ^ 60 }, _, 7, 0, rfl, by decide +kernel,
      by decide +kernel, by decide +kernel⟩,
    ⟨0, rdy, _, rfl, by decide +kernel⟩,
    ⟨0, rdy, _, _, 7, rfl, by decide +kernel, rfl⟩,
    ⟨0, rdy.onAxis 7 fun a => { a with nflt := true }, _, _, 7, rfl, by decide +kernel, by decide +kernel, rfl⟩,
    ⟨0, rdy, _, rfl, by decide +kernel⟩,
    ⟨0, { rdy.onAxis 7 fun a => { a with sw := [{}, {}, { qual := false, edgeAt := some 0 }] } with time := 2 ^ 60 },
      _, 7, 2, 0, rfl, by decide +kernel, by decide +kernel, by decide +kernel, by decide +kernel⟩⟩

theorem witness_HousekeepingRequestsComplete :
    (∃ (q : Req) (s : State) (w : Waiting) (t : State) (first : Byte) (n : Byte), Runs 0x0C01 2 q s w t ∧ n ≠ 0 ∧
      first.toNat + n.toNat ≤ 128 ∧ 4 + 16 * n.toNat ≤ (payloadLimit w.mb).2)
    ∧ (∃ (q : Req) (s : State) (w : Waiting) (t : State) (first : Byte) (n : Byte), Runs 0x0C01 2 q s w t ∧ n ≠ 0 ∧
      first.toNat + n.toNat ≤ 128 ∧ (payloadLimit w.mb).2 < 4 + 16 * n.toNat)
    ∧ (∃ (q : Req) (s : State) (w : Waiting) (t : State) (k : Byte) (v : State), Runs 0x0C02 1 q s w t ∧
      k.toNat ≤ 31 ∧ (t.heater k.toNat).cut = true ∧
        (t.pv 0x0C36 k.toNat = 255 ∨ ((t.hk (t.pv 0x0C36 k.toNat)).flags &&& fValid ≠ 0 ∧
          (t.hk (t.pv 0x0C36 k.toNat)).value < t.pvI 32 0x0C37 k.toNat - t.pv 0x0C38 k.toNat)) ∧
            (t.onHeater k.toNat fun h => { h with cut := false }) = v) :=
  ⟨⟨req 2, rdy, _, _, 127, 1, runs_of (by decide +kernel), by decide +kernel, by decide +kernel, by decide +kernel⟩,
    ⟨req 2, rdy, _, _, 0, 128, runs_of (by decide +kernel), by decide +kernel, by decide +kernel, by decide +kernel⟩,
    ⟨req 1, (rdy.pput 0x0C36 31 255).onHeater 31 fun h => { h with cut := true }, _, _, 31, _,
      runs_of (by decide +kernel), by decide +kernel, by decide +kernel, by decide +kernel, rfl⟩⟩

theorem witness_HousekeepingEventsComplete :
    (∃ (dt : Nat) (s : State) (u : State), s.pass dt = u ∧ u.mainOn = true ∧
      (u.house.roundAt = 0 ∨ u.house.roundAt + u.house.roundMs * msU ≤ u.time))
    ∧ (∃ (dt : Nat) (s : State) (u : State), s.pass dt = u ∧ u.mainOn = true)
    ∧ (∃ (dt : Nat) (s : State) (u : State) (l : Fin 2), s.pass dt = u ∧ u.mainOn = true ∧ (u.line l).lost = false)
    ∧ (∃ (dt : Nat) (s : State) (u : State) (l : Fin 2) (t0 : Nat), s.pass dt = u ∧ u.mainOn = true ∧
      (u.line l).lost = true ∧ (u.line l).lastZc = some t0 ∧ halfGood (u.time - t0) = true ∧ 3 ≤ (u.line l).good)
    ∧ (∃ (dt : Nat) (s : State) (u : State) (l : Fin 2) (t0 : Nat), s.pass dt = u ∧ u.mainOn = true ∧
      (u.line l).lost = true ∧ (u.line l).lastZc = some t0 ∧ halfGood (u.time - t0) = true ∧ (u.line l).good < 3)
    ∧ (∃ (dt : Nat) (s : State) (u : State) (l : Fin 2) (t0 : Nat), s.pass dt = u ∧ u.mainOn = true ∧
      (u.line l).lost = true ∧ (u.line l).lastZc = some t0 ∧ halfGood (u.time - t0) = false)
    ∧ (∃ (dt : Nat) (s : State) (u : State) (l : Fin 2) (t0 : Nat), s.pass dt = u ∧ u.mainOn = true ∧
      (u.line l).lost = false ∧ (u.line l).lastZc = some t0 ∧ t0 + lossTime (u.line l) < u.time)
    ∧ (∃ (dt : Nat) (s : State) (u : State) (k : Fin 32), s.pass dt = u ∧ u.readyOn = true ∧
      ((u.heater k).mode = 2 ∨ ((u.heater k).mode = 0 ∧ u.pv 0x0C30 k = 2)))
    ∧ (∃ (dt : Nat) (s : State) (u : State) (v : State), s.pass dt = u ∧ u.mainOn = true ∧
      raise { u with therm := { u.therm with tripped := true, div2 := true } } 0x134 0 true = v ∧
        v.bist.running = false)
    ∧ (∃ (dt : Nat) (s : State) (u : State) (v : State), s.pass dt = u ∧ u.mainOn = true ∧
      raise { u with therm := { u.therm with tripped := true, div2 := true } } 0x134 0 true = v ∧
        v.bist.running = true)
    ∧ (∃ (dt : Nat) (s : State) (u : State), s.pass dt = u ∧ u.mainOn = true ∧ u.keep.running = true) :=
  ⟨⟨0, rdy, _, rfl, by decide +kernel, by decide +kernel⟩,
    ⟨0, rdy, _, rfl, by decide +kernel⟩,
    ⟨0, rdy, _, 0, rfl, by decide +kernel, by decide +kernel⟩,
    ⟨0, { rdy.onLine 0 fun m => { m with lost := true, lastZc := some 0, good := 3 } with time := 10 * msU }, _, 0,
      0, rfl, by decide +kernel, by decide +kernel, by decide +kernel, by decide +kernel, by decide +kernel⟩,
    ⟨0, { rdy.onLine 0 fun m => { m with lost := true, lastZc := some 0, good := 2 } with time := 10 * msU }, _, 0,
      0, rfl, by decide +kernel, by decide +kernel, by decide +kernel, by decide +kernel, by decide +kernel⟩,
    ⟨0, { rdy.onLine 0 fun m => { m with lost := true, lastZc := some 0, good := 3 } with time := 2 ^ 60 }, _, 0,
      0, rfl, by decide +kernel, by decide +kernel, by decide +kernel, by decide +kernel⟩,
    ⟨0, { rdy.onLine 0 fun m => { m with lastZc := some 0 } with time := 2 ^ 60 }, _, 0, 0, rfl, by decide +kernel,
      by decide +kernel, by decide +kernel, by decide +kernel⟩,
    ⟨0, rdy.onHeater 31 fun h => { h with mode := 2 }, _, 31, rfl, by decide +kernel, by decide +kernel⟩,
    ⟨0, rdy, _, _, rfl, by decide +kernel, rfl, by decide +kernel⟩,
    ⟨0, { rdy with bist := { rdy.bist with running := true } }, _, _, rfl, by decide +kernel, rfl, by decide +kernel⟩,
    ⟨0, rdy, _, rfl, by decide +kernel, by decide +kernel⟩⟩

theorem witness_PowerRequestsComplete :
    (∃ (q : Req) (s : State) (w : Waiting) (t : State) (x : Byte), Runs 0x0101 1 q s w t ∧ targetStatus t x.toNat = 0)
    ∧ (∃ (q : Req) (s : State) (w : Waiting) (t : State) (k : Byte), Runs 0x0102 2 q s w t ∧ 6 ≤ k.toNat ∧
      k.toNat ≤ 31 ∧ t.pv 0x0112 k.toNat = 0 ∧ driveSlot k.toNat = true ∧ t.flt.c4.isSome = true)
    ∧ (∃ (q : Req) (s : State) (w : Waiting) (t : State) (k : Byte), Runs 0x0102 2 q s w t ∧ 6 ≤ k.toNat ∧
      k.toNat ≤ 31 ∧ t.pv 0x0112 k.toNat = 0 ∧ (driveSlot k.toNat = false ∨ t.flt.c4 = none))
    ∧ (∃ (q : Req) (s : State) (w : Waiting) (t : State) (k : Byte), Runs 0x0102 2 q s w t ∧ 6 ≤ k.toNat ∧
      k.toNat ≤ 31 ∧ t.pv 0x0112 k.toNat = 0)
    ∧ (∃ (q : Req) (s : State) (w : Waiting) (t : State) (k : Byte) (p : Byte), Runs 0x0103 3 q s w t ∧
      k.toNat ≤ 31 ∧ marginRange t k.toNat 0 p.toNat = true ∧ (t.rail k.toNat).st = .good ∧
        (8 ≤ k.toNat → k.toNat < 28 → t.layer.st = .idle) ∧ t.pv 0x011A k.toNat ≠ 0 ∧ (t.rail k.toNat).w = none)
    ∧ (∃ (q : Req) (s : State) (w : Waiting) (t : State) (k : Byte) (d : Byte) (p : Byte), Runs 0x0103 3 q s w t ∧
      k.toNat ≤ 31 ∧ 1 ≤ d.toNat ∧ marginRange t k.toNat d.toNat p.toNat = true ∧ (t.rail k.toNat).st = .good ∧
        (8 ≤ k.toNat → k.toNat < 28 → t.layer.st = .idle) ∧ t.pv 0x011A k.toNat = 1 ∧ (t.rail k.toNat).w = none ∧
          (t.rail k.toNat).voutMode.toNat < 32)
    ∧ (∃ (q : Req) (s : State) (w : Waiting) (t : State) (k : Byte) (d : Byte) (p : Byte), Runs 0x0103 3 q s w t ∧
      k.toNat ≤ 31 ∧ 1 ≤ d.toNat ∧ marginRange t k.toNat d.toNat p.toNat = true ∧ (t.rail k.toNat).st = .good ∧
        (8 ≤ k.toNat → k.toNat < 28 → t.layer.st = .idle) ∧ 2 ≤ t.pv 0x011A k.toNat ∧ (t.rail k.toNat).w = none)
    ∧ (∃ (q : Req) (s : State) (w : Waiting) (t : State) (k : Byte), Runs 0x0104 1 q s w t ∧ k.toNat ≤ 31) :=
  ⟨⟨req 1, State.reset, _, _, 2, runs_of (by decide +kernel), by decide +kernel⟩,
    ⟨req 2, { State.reset.pput 0x0112 22 0 with flt := { State.reset.flt with c4 := some (0x134, 0) } }, _, _, 22,
      runs_of (by decide +kernel), by decide +kernel, by decide +kernel, by decide +kernel, by decide +kernel,
        by decide +kernel⟩,
    ⟨req 2, State.reset, _, _, 28, runs_of (by decide +kernel), by decide +kernel, by decide +kernel,
      by decide +kernel, by decide +kernel⟩,
    ⟨req 2, State.reset, _, _, 31, runs_of (by decide +kernel), by decide +kernel, by decide +kernel,
      by decide +kernel⟩,
    ⟨req 3, (State.reset.pput 0x011A 0 1).onRail 0 fun r => { r with st := .good }, _, _, 0, 50,
      runs_of (by decide +kernel), by decide +kernel, by decide +kernel, by decide +kernel, by decide +kernel,
        by decide +kernel, by decide +kernel⟩,
    ⟨req 3, (State.reset.pput 0x011A 0 1).onRail 0 fun r => { r with st := .good }, _, _, 0, 1, 50,
      runs_of (by decide +kernel), by decide +kernel, by decide +kernel, by decide +kernel, by decide +kernel,
        by decide +kernel, by decide +kernel, by decide +kernel, by decide +kernel⟩,
    ⟨req 3, (State.reset.pput 0x011A 0 2).onRail 0 fun r => { r with st := .good }, _, _, 0, 2, 50,
      runs_of (by decide +kernel), by decide +kernel, by decide +kernel, by decide +kernel, by decide +kernel,
        by decide +kernel, by decide +kernel, by decide +kernel⟩,
    ⟨req 1, State.reset, _, _, 31, runs_of (by decide +kernel), by decide +kernel⟩⟩

theorem witness_RailEventsComplete :
    (∃ (dt : Nat) (s : State) (u : State) (k : Fin 32), s.pass dt = u ∧ (u.rail k).st = .wait ∧
      u.depsGood k = true ∧ latchedOff u k = false)
    ∧ (∃ (dt : Nat) (s : State) (u : State) (k : Fin 32), s.pass dt = u ∧ (u.rail k).st = .ramp)
    ∧ (∃ (dt : Nat) (s : State) (u : State) (k : Fin 32), s.pass dt = u ∧ (u.rail k).st = .ramp ∧
      (u.rail k).attempts < 3)
    ∧ (∃ (dt : Nat) (s : State) (u : State) (k : Fin 32), s.pass dt = u ∧ (u.rail k).st = .ramp ∧
      3 ≤ (u.rail k).attempts)
    ∧ (∃ (dt : Nat) (s : State) (u : State) (k : Fin 32), s.pass dt = u ∧ (u.rail k).st = .retry)
    ∧ (∃ (dt : Nat) (s : State) (u : State) (k : Fin 32), s.pass dt = u ∧ (u.rail k).st = .decay)
    ∧ (∃ (dt : Nat) (s : State) (u : State) (k : Fin 32), s.pass dt = u ∧ (u.rail k).st = .retry)
    ∧ (∃ (dt : Nat) (s : State) (u : State) (k : Fin 32), s.pass dt = u ∧ (u.rail k).st = .decay)
    ∧ (∃ (dt : Nat) (s : State) (u : State) (k : Fin 32), s.pass dt = u ∧
      (u.mainOn = true ∨ u.flt.initLow = true) ∧ (u.rail k).st = .good ∧ (u.bist.running = false ∨ 4 ≤ k.val))
    ∧ (∃ (dt : Nat) (s : State) (u : State) (k : Fin 32), s.pass dt = u ∧
      (u.mainOn = true ∨ u.flt.initLow = true) ∧ (u.rail k).st = .good ∧ u.bist.running = true ∧ k.val < 4)
    ∧ (∃ (dt : Nat) (s : State) (u : State) (k : Fin 32), s.pass dt = u ∧ u.mainOn = true ∧ 8 ≤ k.val ∧
      k.val < 28 ∧ (u.rail k).st = .good)
    ∧ (∃ (dt : Nat) (s : State) (u : State) (k : Fin 32) (v : Byte) (i : Byte), s.pass dt = u ∧ u.mainOn = true ∧
      u.pv 0x011B k ≠ 0 ∧ pmbusFault v i = true)
    ∧ (∃ (dt : Nat) (s : State) (u : State) (k : Fin 32) (v : Byte) (i : Byte), s.pass dt = u ∧ u.mainOn = true ∧
      u.pv 0x011B k ≠ 0 ∧ pmbusFault v i = false)
    ∧ (∃ (dt : Nat) (s : State) (u : State) (k : Fin 32), s.pass dt = u ∧ u.mainOn = true ∧ u.pv 0x011B k ≠ 0)
    ∧ (∃ (dt : Nat) (s : State) (u : State) (k : Fin 32), s.pass dt = u ∧ u.mainOn = true ∧ u.pv 0x011B k ≠ 0 ∧
      k.val < u.pwr.rails.length ∧ (u.rail k).noAck = 0)
    ∧ (∃ (dt : Nat) (s : State) (u : State) (k : Fin 32), s.pass dt = u ∧ u.mainOn = true ∧ u.pv 0x011B k ≠ 0 ∧
      k.val < u.pwr.rails.length ∧ (u.rail k).noAck = 0)
    ∧ (∃ (dt : Nat) (s : State) (u : State) (k : Fin 32) (w : Waiting), s.pass dt = u ∧ u.mainOn = true ∧
      (u.rail k).w = some w)
    ∧ (∃ (dt : Nat) (s : State) (u : State) (k : Fin 32) (w : Waiting), s.pass dt = u ∧ u.mainOn = true ∧
      (u.rail k).w = some w) :=
  ⟨⟨0, State.reset.onRail 0 fun r => { r with st := .wait }, _, 0, rfl, by decide +kernel, by decide +kernel,
    by decide +kernel⟩,
    ⟨0, railIn .ramp 0, _, 8, rfl, by decide +kernel⟩,
    ⟨0, railIn .ramp 2, _, 8, rfl, by decide +kernel, by decide +kernel⟩,
    ⟨0, railIn .ramp 3, _, 8, rfl, by decide +kernel, by decide +kernel⟩,
    ⟨0, railIn .retry 1, _, 8, rfl, by decide +kernel⟩,
    ⟨0, railIn .decay 1, _, 8, rfl, by decide +kernel⟩,
    ⟨0, railIn .retry 1, _, 8, rfl, by decide +kernel⟩,
    ⟨0, railIn .decay 1, _, 8, rfl, by decide +kernel⟩,
    ⟨0, railIn .good 1, _, 8, rfl, by decide +kernel, by decide +kernel, by decide +kernel⟩,
    ⟨0, { State.reset.onRail 3 fun r => { r with st := .good } with bist := { State.reset.bist with running := true } },
      _, 3, rfl, by decide +kernel, by decide +kernel, by decide +kernel, by decide +kernel⟩,
    ⟨0, railIn .good 1, _, 8, rfl, by decide +kernel, by decide +kernel, by decide +kernel, by decide +kernel⟩,
    ⟨0, State.reset.pput 0x011B 31 8, _, 31, 0x80, 0, rfl, by decide +kernel, by decide +kernel, by decide +kernel⟩,
    ⟨0, State.reset.pput 0x011B 31 8, _, 31, 0, 0, rfl, by decide +kernel, by decide +kernel, by decide +kernel⟩,
    ⟨0, State.reset.pput 0x011B 31 8, _, 31, rfl, by decide +kernel, by decide +kernel⟩,
    ⟨0, State.reset.pput 0x011B 31 8, _, 31, rfl, by decide +kernel, by decide +kernel, by decide +kernel,
      by decide +kernel⟩,
    ⟨0, State.reset.pput 0x011B 31 8, _, 31, rfl, by decide +kernel, by decide +kernel, by decide +kernel,
      by decide +kernel⟩,
    ⟨0, State.reset.onRail 31 fun r => { r with w := some owed }, _, 31, owed, rfl, by decide +kernel,
      by decide +kernel⟩,
    ⟨0, State.reset.onRail 31 fun r => { r with w := some owed }, _, 31, owed, rfl, by decide +kernel,
      by decide +kernel⟩⟩

theorem witness_SupplyEventsComplete :
    (∃ (dt : Nat) (s : State) (u : State), s.pass dt = u ∧ u.pwr.vstby = true ∧ u.pwr.phantom = true)
    ∧ (∃ (dt : Nat) (s : State) (u : State), s.pass dt = u ∧ u.pwr.phantom = true ∧ u.pwr.vstby = true)
    ∧ (∃ (dt : Nat) (s : State) (u : State) (v : State), s.pass dt = u ∧ u.pwr.vstby = true ∧
      u.pwr.phantom = false ∧
        raise { u with pwr := { u.pwr with vstby := false, foldback := false } } 0x008 0 true = v)
    ∧ (∃ (dt : Nat) (s : State) (u : State) (v : State), s.pass dt = u ∧ u.pwr.phantom = true ∧
      u.pwr.vstby = false ∧ raise { u with pwr := { u.pwr with phantom := false } } 0x009 0 true = v)
    ∧ (∃ (dt : Nat) (s : State) (u : State), s.pass dt = u ∧ u.pwr.vstby = false)
    ∧ (∃ (dt : Nat) (s : State) (u : State), s.pass dt = u ∧ u.pwr.phantom = false)
    ∧ (∃ (dt : Nat) (s : State) (u : State), s.pass dt = u ∧ u.pwr.vstby = true ∧ u.pwr.foldback = false)
    ∧ (∃ (dt : Nat) (s : State) (u : State), s.pass dt = u ∧ u.pwr.foldback = true)
    ∧ (∃ (dt : Nat) (s : State) (u : State) (c : WakeCause), s.pass dt = u ∧ wakeHolds u c = true ∧
      u.bist.running = false ∧ u.power = .porter ∧ waking u = false)
    ∧ (∃ (dt : Nat) (s : State) (u : State) (c : WakeCause), s.pass dt = u ∧ wakeHolds u c = true ∧
      u.bist.running = false ∧ u.mainOn = true)
    ∧ (∃ (dt : Nat) (s : State) (u : State) (c : WakeCause), s.pass dt = u ∧ wakeHolds u c = true ∧
      u.power ≠ .off ∧ u.bist.running = true) :=
  ⟨⟨0, supplied true true, _, rfl, by decide +kernel, by decide +kernel⟩,
    ⟨0, supplied true true, _, rfl, by decide +kernel, by decide +kernel⟩,
    ⟨0, supplied true false, _, _, rfl, by decide +kernel, by decide +kernel, rfl⟩,
    ⟨0, supplied false true, _, _, rfl, by decide +kernel, by decide +kernel, rfl⟩,
    ⟨0, supplied false true, _, rfl, by decide +kernel⟩,
    ⟨0, supplied true false, _, rfl, by decide +kernel⟩,
    ⟨0, supplied true true, _, rfl, by decide +kernel, by decide +kernel⟩,
    ⟨0, { supplied true true with pwr := { (supplied true true).pwr with foldback := true } }, _, rfl,
      by decide +kernel⟩,
    ⟨0, asleep, _, .nWake, rfl, by decide +kernel, by decide +kernel, by decide +kernel, by decide +kernel⟩,
    ⟨0, State.reset, _, .nWake, rfl, by decide +kernel, by decide +kernel, by decide +kernel⟩,
    ⟨0, { asleep with bist := { asleep.bist with running := true } }, _, .nWake, rfl, by decide +kernel,
      by decide +kernel, by decide +kernel⟩⟩

theorem witness_StagelineRequestsComplete :
    (∃ (q : Req) (s : State) (w : Waiting) (t : State) (f : Byte), Runs 0x0105 1 q s w t ∧ f.toNat ≤ 1 ∧
      t.stage.master = false ∧ t.stage.claim = none)
    ∧ (∃ (q : Req) (s : State) (w : Waiting) (t : State) (f : Byte), Runs 0x0105 1 q s w t ∧ f.toNat ≤ 1 ∧
      t.stage.master = true)
    ∧ (∃ (q : Req) (s : State) (w : Waiting) (t : State), Runs 0x0106 0 q s w t ∧ t.stage.master = true)
    ∧ (∃ (q : Req) (s : State) (w : Waiting) (t : State), Runs 0x0107 0 q s w t ∧ t.stage.master = true ∧
      t.stage.discover = none ∧ ((t.stagePort 0).up = true ∨ (t.stagePort 1).up = true))
    ∧ (∃ (q : Req) (s : State) (w : Waiting) (t : State), Runs 0x0107 0 q s w t ∧ t.stage.master = true ∧
      t.stage.discover = none ∧ (t.stagePort 0).up = false ∧ (t.stagePort 1).up = false)
    ∧ (∃ (q : Req) (s : State) (w : Waiting) (t : State) (a : Byte) (first : U16) (last : U16) (at_ : U64) (us : U16) (p : List Byte),
      Runs 0x0108 15 q s w t ∧ t.stage.master = true ∧ 1 ≤ a.toNat ∧ a.toNat ≤ 2 ∧ first.toNat ≤ last.toNat ∧
        last.toNat ≤ 511 ∧ le 1 a.toNat ++ le 2 first.toNat ++ le 2 last.toNat ++ le 8 at_.toNat ++ le 2 us.toNat = p)
    ∧ (∃ (q : Req) (s : State) (w : Waiting) (t : State) (first : U16) (last : U16) (at_ : U64) (us : U16) (p : List Byte),
      Runs 0x0108 15 q s w t ∧ t.stage.master = true ∧ first.toNat ≤ last.toNat ∧ last.toNat ≤ 511 ∧
        le 1 3 ++ le 2 first.toNat ++ le 2 last.toNat ++ le 8 at_.toNat ++ le 2 us.toNat = p)
    ∧ (∃ (q : Req) (s : State) (w : Waiting) (t : State) (at_ : U64), Runs 0x0109 8 q s w t ∧
      t.stage.master = true ∧ t.now64 ≤ at_.toNat) :=
  ⟨⟨req 1, State.reset, _, _, 1, runs_of (by decide +kernel), by decide +kernel, by decide +kernel,
    by decide +kernel⟩,
    ⟨req 1, mast, _, _, 0, runs_of (by decide +kernel), by decide +kernel, by decide +kernel⟩,
    ⟨req 0, mast, _, _, runs_of (by decide +kernel), by decide +kernel⟩,
    ⟨req 0, mast.onStage fun g => { g with ports := [{ up := true }, {}] }, _, _, runs_of (by decide +kernel),
      by decide +kernel, by decide +kernel, by decide +kernel⟩,
    ⟨req 0, mast, _, _, runs_of (by decide +kernel), by decide +kernel, by decide +kernel, by decide +kernel,
      by decide +kernel⟩,
    ⟨req 15, mast, _, _, 2, 0, 511, 0, 0, _, runs_of (by decide +kernel), by decide +kernel, by decide +kernel,
      by decide +kernel, by decide +kernel, by decide +kernel, rfl⟩,
    ⟨req 15, mast, _, _, 511, 511, 0, 0, _, runs_of (by decide +kernel), by decide +kernel, by decide +kernel,
      by decide +kernel, rfl⟩,
    ⟨req 8, mast, _, _, 0, runs_of (by decide +kernel), by decide +kernel, by decide +kernel⟩⟩

theorem witness_StagelineEventsComplete :
    (∃ (dt : Nat) (s : State) (u : State), s.pass dt = u ∧ u.power = .porter ∧ u.bist.running = false)
    ∧ (∃ (dt : Nat) (s : State) (u : State), s.pass dt = u ∧ u.power ≠ .porter ∧ u.power ≠ .off ∧
      u.bist.running = false)
    ∧ (∃ (dt : Nat) (s : State) (u : State), s.pass dt = u ∧ u.stageOn = true)
    ∧ (∃ (dt : Nat) (s : State) (u : State), s.pass dt = u ∧ u.stageOn = true ∧ u.stage.node = none ∧
      u.pv 0x0140 0 = 1)
    ∧ (∃ (dt : Nat) (s : State) (u : State), s.pass dt = u ∧ u.stageOn = true ∧ u.stage.node = none ∧
      u.pv 0x0140 0 ≠ 1 ∧ (u.stagePort 0).partner = none)
    ∧ (∃ (dt : Nat) (s : State) (u : State), s.pass dt = u ∧ u.stageOn = true ∧ u.stage.master = true ∧
      u.stage.yielding = false)
    ∧ (∃ (dt : Nat) (s : State) (u : State) (r : StageReq) (rest : List StageReq), s.pass dt = u ∧
      u.stageOn = true ∧ u.stage.master = true ∧ u.stage.reqs = r :: rest ∧ r.attempt < 2)
    ∧ (∃ (dt : Nat) (s : State) (u : State) (r : StageReq) (rest : List StageReq), s.pass dt = u ∧
      u.stageOn = true ∧ u.stage.master = true ∧ u.stage.reqs = r :: rest ∧ r.attempt = 2)
    ∧ (∃ (dt : Nat) (s : State) (u : State) (v : State) (r : StageReq) (rest : List StageReq), s.pass dt = u ∧
      u.stageOn = true ∧ u.stage.master = true ∧ u.stage.reqs = r :: rest ∧ 3 ≤ r.attempt ∧ r.frame.type = 1 ∧
        endDiscover (raise (u.onStage fun g => { g with reqs := rest }) 0x017 r.frame.dst.toNat false) sNotPresent = v ∧
          v.stage.yielding = false)
    ∧ (∃ (dt : Nat) (s : State) (u : State) (v : State) (r : StageReq) (rest : List StageReq), s.pass dt = u ∧
      u.stageOn = true ∧ u.stage.master = true ∧ u.stage.reqs = r :: rest ∧ 3 ≤ r.attempt ∧ r.frame.type = 3 ∧
        raise (u.onStage fun g => { g with reqs := rest }) 0x017 r.frame.dst.toNat false = v ∧
          v.stage.yielding = true ∧ v.stage.reqs = [])
    ∧ (∃ (dt : Nat) (s : State) (u : State) (v : State) (r : StageReq) (rest : List StageReq), s.pass dt = u ∧
      u.stageOn = true ∧ u.stage.master = true ∧ u.stage.reqs = r :: rest ∧ 3 ≤ r.attempt ∧ r.frame.type = 2 ∧
        identStep (raise (u.onStage fun g => { g with reqs := rest }) 0x017 r.frame.dst.toNat false) = v ∧
          v.stage.yielding = false)
    ∧ (∃ (dt : Nat) (s : State) (u : State) (v : State) (r : StageReq) (rest : List StageReq), s.pass dt = u ∧
      u.stageOn = true ∧ u.stage.master = true ∧ u.stage.reqs = r :: rest ∧ 3 ≤ r.attempt ∧ r.frame.type = 3 ∧
        raise (u.onStage fun g => { g with reqs := rest }) 0x017 r.frame.dst.toNat false = v ∧
          v.stage.yielding = false)
    ∧ (∃ (dt : Nat) (s : State) (u : State), s.pass dt = u ∧ u.stageOn = true ∧ u.stage.claim.isSome = true)
    ∧ (∃ (dt : Nat) (s : State) (u : State) (f : Bool) (w : Option Waiting) (n : Nat), s.pass dt = u ∧
      u.stageOn = true ∧ u.stage.claim = some (f, w, n) ∧ n < 3)
    ∧ (∃ (dt : Nat) (s : State) (u : State), s.pass dt = u ∧ u.stageOn = true ∧ u.stage.master = false ∧
      u.stage.sweepAt + 3 * u.pv 0x0143 0 * msU ≤ u.time)
    ∧ (∃ (dt : Nat) (s : State) (u : State), s.pass dt = u ∧ u.stageOn = true ∧ u.stage.autoClaim = true ∧
      u.stage.master = false ∧ u.stage.claim = none)
    ∧ (∃ (dt : Nat) (s : State) (u : State) (a : Nat) (t0 : Nat), s.pass dt = u ∧ u.stageOn = true ∧
      u.stage.seq = some (a, t0) ∧ t0 ≤ u.time)
    ∧ (∃ (dt : Nat) (s : State) (u : State) (p : Fin 2), s.pass dt = u ∧ u.stageOn = true ∧
      (u.stagePort p).up = true) :=
  ⟨⟨0, asleep, _, rfl, by decide +kernel, by decide +kernel⟩,
    ⟨0, State.reset, _, rfl, by decide +kernel, by decide +kernel, by decide +kernel⟩,
    ⟨0, State.reset, _, rfl, by decide +kernel⟩,
    ⟨0, State.reset.pput 0x0140 0 1, _, rfl, by decide +kernel, by decide +kernel, by decide +kernel⟩,
    ⟨0, State.reset, _, rfl, by decide +kernel, by decide +kernel, by decide +kernel, by decide +kernel⟩,
    ⟨0, mast, _, rfl, by decide +kernel, by decide +kernel, by decide +kernel⟩,
    ⟨0, mast.onStage fun g => { g with reqs := [sreq 1 1] }, _, sreq 1 1, [], rfl, by decide +kernel,
      by decide +kernel, by decide +kernel, by decide +kernel⟩,
    ⟨0, mast.onStage fun g => { g with reqs := [sreq 2 1] }, _, sreq 2 1, [], rfl, by decide +kernel,
      by decide +kernel, by decide +kernel, by decide +kernel⟩,
    ⟨0, mast.onStage fun g => { g with reqs := [sreq 3 1] }, _, _, sreq 3 1, [], rfl, by decide +kernel,
      by decide +kernel, by decide +kernel, by decide +kernel, by decide +kernel, rfl, by decide +kernel⟩,
    ⟨0, mast.onStage fun g => { g with yielding := true, reqs := [sreq 3 3] }, _, _, sreq 3 3, [], rfl,
      by decide +kernel, by decide +kernel, by decide +kernel, by decide +kernel, by decide +kernel, rfl,
        by decide +kernel, by decide +kernel⟩,
    ⟨0, mast.onStage fun g => { g with reqs := [sreq 3 2] }, _, _, sreq 3 2, [], rfl, by decide +kernel,
      by decide +kernel, by decide +kernel, by decide +kernel, by decide +kernel, rfl, by decide +kernel⟩,
    ⟨0, mast.onStage fun g => { g with reqs := [sreq 3 3] }, _, _, sreq 3 3, [], rfl, by decide +kernel,
      by decide +kernel, by decide +kernel, by decide +kernel, by decide +kernel, rfl, by decide +kernel⟩,
    ⟨0, State.reset.onStage fun g => { g with claim := some (false, none, 0) }, _, rfl, by decide +kernel,
      by decide +kernel⟩,
    ⟨0, State.reset.onStage fun g => { g with claim := some (false, none, 2) }, _, false, none, 2, rfl,
      by decide +kernel, by decide +kernel, by decide +kernel⟩,
    ⟨0, { State.reset with time := 2 ^ 60 }, _, rfl, by decide +kernel, by decide +kernel, by decide +kernel⟩,
    ⟨0, State.reset.onStage fun g => { g with autoClaim := true }, _, rfl, by decide +kernel, by decide +kernel,
      by decide +kernel, by decide +kernel⟩,
    ⟨0, State.reset.onStage fun g => { g with seq := some (1, 0) }, _, 1, 0, rfl, by decide +kernel,
      by decide +kernel, by decide +kernel⟩,
    ⟨0, State.reset.onStage fun g => { g with ports := [{ up := true }, {}] }, _, 0, rfl, by decide +kernel,
      by decide +kernel⟩⟩

theorem witness_FaultRequestsComplete :
    (∃ (q : Req) (s : State) (w : Waiting) (t : State) (id : U16), Runs 0x0E01 2 q s w t ∧ id ≠ 0xFFFF ∧
      (faultSource id.toNat).isSome = true ∧ isC4 t id.toNat = false ∧ t.flt.active.getLsbD id.toNat = true ∧
        clearHeld t id.toNat = false)
    ∧ (∃ (q : Req) (s : State) (w : Waiting) (t : State), Runs 0x0E01 2 q s w t)
    ∧ (∃ (q : Req) (s : State) (w : Waiting) (t : State) (first : U16) (n : U16), Runs 0x0E02 4 q s w t ∧ n ≠ 0 ∧
      n.toNat ≤ 64 ∧ first.toNat + n.toNat ≤ 0x140 ∧ 12 * n.toNat ≤ (payloadLimit w.mb).2)
    ∧ (∃ (q : Req) (s : State) (w : Waiting) (t : State) (n : U16), Runs 0x0E02 4 q s w t ∧
      (payloadLimit w.mb).2 < 12 * n.toNat)
    ∧ (∃ (q : Req) (s : State) (w : Waiting) (t : State), Runs 0x0E03 0 q s w t)
    ∧ (∃ (q : Req) (s : State) (w : Waiting) (t : State) (id : U16), Runs 0x0E04 2 q s w t ∧
      (faultSource id.toNat).isSome = true ∧ t.pv 0x0E21 0 = 1 ∧ t.layer.st = .idle ∧ id.toNat ≠ 0x134 ∧
        id.toNat ≠ 0x13F) :=
  ⟨⟨req 2, active1, _, _, 0x048, runs_of (by decide +kernel), by decide +kernel, by decide +kernel,
    by decide +kernel, by decide +kernel, by decide +kernel⟩,
    ⟨req 2, State.reset, _, _, runs_of (by decide +kernel)⟩,
    ⟨req 4, State.reset, _, _, 0x100, 64, runs_of (by decide +kernel), by decide +kernel, by decide +kernel,
      by decide +kernel, by decide +kernel⟩,
    ⟨{ req 4 with mb := 5 }, State.reset, _, _, 19, runs_of (by decide +kernel), by decide +kernel⟩,
    ⟨req 0, State.reset, _, _, runs_of (by decide +kernel)⟩,
    ⟨req 2, State.reset.pput 0x0E21 0 1, _, _, 0x048, runs_of (by decide +kernel), by decide +kernel,
      by decide +kernel, by decide +kernel, by decide +kernel, by decide +kernel⟩⟩

theorem witness_FaultEventsComplete :
    (∃ (dt : Nat) (s : State) (u : State), s.pass dt = u)
    ∧ (∃ (dt : Nat) (s : State) (u : State), s.pass dt = u ∧ u.mainOn = true ∧ u.flt.checks ≠ [])
    ∧ (∃ (dt : Nat) (s : State) (u : State) (a : Bool) (b : Bool), s.pass dt = u ∧ u.mainOn = true ∧
      u.flt.checks ≠ [] ∧ (a && b) = false)
    ∧ (∃ (dt : Nat) (s : State) (u : State) (v : State), s.pass dt = u ∧ u.flt.inhibit = false ∧
      raise { u with flt := { u.flt with inhibit := true, inForce := true } } 0x04D 0 true = v)
    ∧ (∃ (dt : Nat) (s : State) (u : State), s.pass dt = u ∧ u.flt.inhibit = true)
    ∧ (∃ (dt : Nat) (s : State) (u : State), s.pass dt = u ∧ u.flt.inForce = true ∧ u.flt.inhibit = false ∧
      u.flt.inhibitFell + u.pv 0x0E20 0 * msU ≤ u.runningTime)
    ∧ (∃ (dt : Nat) (s : State) (u : State) (off : U32), s.pass dt = u ∧ u.mainOn = true ∧ off.toNat < sramSize)
    ∧ (∃ (dt : Nat) (s : State) (u : State) (off : U32), s.pass dt = u ∧ u.mainOn = true ∧ off.toNat < sramSize)
    ∧ (∃ (dt : Nat) (s : State) (u : State) (off : U32), s.pass dt = u ∧ u.mainOn = true ∧ off.toNat < sramSize)
    ∧ (∃ (dt : Nat) (s : State) (u : State), s.pass dt = u) :=
  ⟨⟨0, State.reset, _, rfl⟩,
    ⟨0, { State.reset with flt := { State.reset.flt with checks := [0] } }, _, rfl, by decide +kernel,
      by decide +kernel⟩,
    ⟨0, { State.reset with flt := { State.reset.flt with checks := [0, 1] } }, _, true, false, rfl,
      by decide +kernel, by decide +kernel, by decide +kernel⟩,
    ⟨0, State.reset, _, _, rfl, by decide +kernel, rfl⟩,
    ⟨0, { State.reset with flt := { State.reset.flt with inhibit := true } }, _, rfl, by decide +kernel⟩,
    ⟨0, { State.reset with time := 2 ^ 60, flt := { State.reset.flt with inForce := true } }, _, rfl,
      by decide +kernel, by decide +kernel, by decide +kernel⟩,
    ⟨0, State.reset, _, 0x17FFFFF, rfl, by decide +kernel, by decide +kernel⟩,
    ⟨0, State.reset, _, 0x17FFFFF, rfl, by decide +kernel, by decide +kernel⟩,
    ⟨0, State.reset, _, 0x17FFFFF, rfl, by decide +kernel, by decide +kernel⟩,
    ⟨0, State.reset, _, rfl⟩⟩

theorem witness_CalibrationRequestsComplete :
    (∃ (q : Req) (s : State) (w : Waiting) (t : State) (m : BitVec 72) (tiles : List Nat), Runs 0x0F01 9 q s w t ∧
      (if m = 0 then tilesInPlace t else (List.range 72).filter fun k => m.getLsbD k) = tiles ∧
        tiles.all (tileLive t) = true)
    ∧ (∃ (q : Req) (s : State) (w : Waiting) (t : State), Runs 0x0F02 0 q s w t ∧ t.cal.st = 1)
    ∧ (∃ (q : Req) (s : State) (w : Waiting) (t : State), Runs 0x0F02 0 q s w t ∧ t.cal.st = 2)
    ∧ (∃ (q : Req) (s : State) (w : Waiting) (t : State), Runs 0x0F02 0 q s w t ∧ t.cal.st = 4)
    ∧ (∃ (q : Req) (s : State) (w : Waiting) (t : State), Runs 0x0F03 0 q s w t)
    ∧ (∃ (q : Req) (s : State) (w : Waiting) (t : State) (n : Byte) (p : Byte) (r : Byte) (c : U16) (b : List Byte) (sets : Nat),
      Runs 0x0F04 5 q s w t ∧ calCell t n p r c = 0 ∧ blocksOf t (18 * n.toNat + p.toNat) = b ∧
        (t.tile n.toNat p.toNat).u 0x7A 1 = sets)
    ∧ (∃ (q : Req) (s : State) (w : Waiting) (t : State) (n : Byte) (p : Byte) (r : Byte) (c : U16) (cell : Nat),
      Runs 0x0F05 6 q s w t ∧ calCell t n p r c = 0 ∧ t.layer.st = .idle ∧
        cellIndex (16 * p.toNat + r.toNat) (256 * n.toNat + c.toNat) = cell)
    ∧ (∃ (q : Req) (s : State) (w : Waiting) (t : State) (n : Byte) (p : Byte), Runs 0x0F06 2 q s w t ∧
      calTile t n p = 0 ∧ t.cal.st ≠ 2 ∧ t.cal.st ≠ 3 ∧ burstOk t = true ∧ measurable (t.chain n.toNat) = true)
    ∧ (∃ (q : Req) (s : State) (w : Waiting) (t : State) (nj : U32) (tile : Nat) (e : Nat) (t0 : Nat) (g : Int),
      Runs 0x0F07 4 q s w t ∧ traceOld t = false ∧ t.cal.trace = some (tile, e, t0) ∧
        tracedPd (t.pv 0x0F24 tile) nj.toNat e = g ∧ 0x2000 ≤ g ∧ g ≤ 0x8000)
    ∧ (∃ (q : Req) (s : State) (w : Waiting) (t : State), Runs 0x0F08 0 q s w t ∧ t.cal.hkTrace = none)
    ∧ (∃ (q : Req) (s : State) (w : Waiting) (t : State) (n : Byte) (p : Byte), Runs 0x0F09 2 q s w t ∧
      calTile t n p = 0)
    ∧ (∃ (q : Req) (s : State) (w : Waiting) (t : State), Runs 0x0F09 2 q s w t) :=
  ⟨⟨req 9, up1 rdy, _, _, 1, [0], runs_of (by decide +kernel), by decide +kernel, by decide +kernel⟩,
    ⟨req 0, calIn rdy 1, _, _, runs_of (by decide +kernel), by decide +kernel⟩,
    ⟨req 0, calIn rdy 2, _, _, runs_of (by decide +kernel), by decide +kernel⟩,
    ⟨req 0, calIn rdy 4, _, _, runs_of (by decide +kernel), by decide +kernel⟩,
    ⟨req 0, State.reset, _, _, runs_of (by decide +kernel)⟩,
    ⟨req 5, up1 rdy, _, _, 0, 0, 15, 255, _, _, runs_of (by decide +kernel), by decide +kernel, rfl, rfl⟩,
    ⟨req 6, up1 rdy, _, _, 0, 0, 15, 255, _, runs_of (by decide +kernel), by decide +kernel, by decide +kernel, rfl⟩,
    ⟨req 2, rested, _, _, 0, 0, runs_of (by decide +kernel), by decide +kernel, by decide +kernel,
      by decide +kernel, by decide +kernel, by decide +kernel⟩,
    ⟨req 4, { rdy with cal := { rdy.cal with st := 4, trace := some (71, 64, 0) } }, _, _, 1, 71, 64, 0, 0x4000,
      runs_of (by decide +kernel), by decide +kernel, by decide +kernel, by decide +kernel, by decide +kernel,
        by decide +kernel⟩,
    ⟨req 0, State.reset, _, _, runs_of (by decide +kernel), by decide +kernel⟩,
    ⟨req 2, up1 rdy, _, _, 0, 0, runs_of (by decide +kernel), by decide +kernel⟩,
    ⟨req 2, State.reset, _, _, runs_of (by decide +kernel)⟩⟩

theorem witness_CalibrationEventsComplete :
    (∃ (dt : Nat) (s : State) (u : State) (n : Fin 4) (p : Fin 18) (tile : Nat) (k : Nat), s.pass dt = u ∧
      18 * n.val + p.val = tile ∧ u.mainOn = true ∧ u.keep.running = true ∧ wantsSet u tile = true ∧
        pickSet (blocksOf u tile) (tileTemp u tile).value = k)
    ∧ (∃ (dt : Nat) (s : State) (u : State), s.pass dt = u ∧ u.readyOn = true ∧ u.keep.running = true)
    ∧ (∃ (dt : Nat) (s : State) (u : State), s.pass dt = u ∧ u.keep.running = true ∧ u.cal.st = 1 ∧
      runWanted u = true ∧ burstOk u = true)
    ∧ (∃ (dt : Nat) (s : State) (u : State) (r : CalRun), s.pass dt = u ∧ u.therm.tripped = false ∧ u.cal.st = 2 ∧
      u.layer.emitEnable = true ∧ u.cal.run = some r ∧ r.period < 35)
    ∧ (∃ (dt : Nat) (s : State) (u : State) (r : CalRun), s.pass dt = u ∧ u.therm.tripped = false ∧ u.cal.st = 2 ∧
      u.layer.emitEnable = true ∧ u.cal.run = some r ∧ 35 ≤ r.period)
    ∧ (∃ (dt : Nat) (s : State) (u : State), s.pass dt = u ∧ u.cal.st = 2)
    ∧ (∃ (dt : Nat) (s : State) (u : State) (r : CalRun) (a : State × RunSum), s.pass dt = u ∧ u.mainOn = true ∧
      u.keep.running = true ∧ u.cal.st = 3 ∧ u.cal.run = some r ∧
        ((List.range 72).filter fun k => r.tiles.getLsbD k).foldl (applyTile r) (u, {}) = a)
    ∧ (∃ (dt : Nat) (s : State) (u : State), s.pass dt = u ∧ u.mainOn = true ∧ traceOld u = true)
    ∧ (∃ (dt : Nat) (s : State) (u : State) (w : Waiting) (n : Nat) (sums : List Int) (gs : List Int) (v : State),
      s.pass dt = u ∧ u.mainOn = true ∧ u.keep.running = true ∧ u.cal.hkTrace = some (w, n, sums) ∧
        u.pv 0x0F1C 1 ≤ n ∧ ((List.range 5).map fun k => tracedGain u k (sums.getD k 0) n) = gs ∧
          { u with cal := { u.cal with hkTrace := none } } = v)
    ∧ (∃ (dt : Nat) (s : State) (u : State) (n : Fin 4) (p : Fin 18) (tile : Nat), s.pass dt = u ∧
      18 * n.val + p.val = tile ∧ u.mainOn = true ∧ u.keep.running = true ∧ u.cal.due.getLsbD tile = true ∧
        u.cal.warned.getLsbD tile = false ∧ AMap.get u.cal.dueSince tile 0 + u.pv 0x0F1D 1 * secU < u.time) :=
  ⟨⟨0, { up1 rdy with cal := { rdy.cal with blocks := [(0, 0, 0, [1, 2])] } }, _, 0, 0, 0, _, rfl,
    by decide +kernel, by decide +kernel, by decide +kernel, by decide +kernel, rfl⟩,
    ⟨0, rdy, _, rfl, by decide +kernel, by decide +kernel⟩,
    ⟨0, { rested with cal := { rested.cal with st := 1, due := 1, forced := 1 } }, _, rfl, by decide +kernel,
      by decide +kernel, by decide +kernel, by decide +kernel⟩,
    ⟨0, { calIn rdy 2 with layer := { rdy.layer with emitEnable := true }, cal := { (calIn rdy 2).cal with run := some { tiles := 1, period := 34 } } },
      _, { tiles := 1, period := 34 }, rfl, by decide +kernel, by decide +kernel, by decide +kernel,
        by decide +kernel, by decide +kernel⟩,
    ⟨0, { calIn rdy 2 with layer := { rdy.layer with emitEnable := true }, cal := { (calIn rdy 2).cal with run := some { tiles := 1, period := 35 } } },
      _, { tiles := 1, period := 35 }, rfl, by decide +kernel, by decide +kernel, by decide +kernel,
        by decide +kernel, by decide +kernel⟩,
    ⟨0, calIn rdy 2, _, rfl, by decide +kernel⟩,
    ⟨0, { calIn rdy 3 with cal := { (calIn rdy 3).cal with run := some { tiles := 1, period := 36 } } }, _,
      { tiles := 1, period := 36 }, _, rfl, by decide +kernel, by decide +kernel, by decide +kernel,
        by decide +kernel, rfl⟩,
    ⟨0, { rdy with time := 2 ^ 60, cal := { rdy.cal with st := 4, trace := some (71, 64, 0) } }, _, rfl,
      by decide +kernel, by decide +kernel⟩,
    ⟨0, { rdy with cal := { rdy.cal with hkTrace := some (owed, 65535, [0, 0, 0, 0, 0]) } }, _, owed, 65535, [0, 0,
      0, 0, 0], _, _, rfl, by decide +kernel, by decide +kernel, by decide +kernel, by decide +kernel, rfl, rfl⟩,
    ⟨0, { rdy with time := 2 ^ 60, cal := { rdy.cal with due := 1 } }, _, 0, 0, 0, rfl, by decide +kernel,
      by decide +kernel, by decide +kernel, by decide +kernel, by decide +kernel, by decide +kernel⟩⟩

theorem witness_SessionAndReportRequestsComplete :
    (∃ (q : Req) (s : State) (w : Waiting) (t : State), Runs 0x0001 0 q s w t)
    ∧ (∃ (q : Req) (s : State) (w : Waiting) (t : State), Runs 0x0002 0 q s w t)
    ∧ (∃ (q : Req) (s : State) (w : Waiting) (t : State) (f : Byte) (v : State) (g : Nat) (n : Nat),
      Runs 0x0006 1 q s w t ∧ q.mb.val < 4 ∧ ((t.session q.mb.val).isSome = false ∨ f = 1) ∧
        endSession t q.mb.val = v ∧ v.keep.granted = some g ∧ nextId v 6 g = n)
    ∧ (∃ (q : Req) (s : State) (w : Waiting) (t : State) (f : Byte) (v : State), Runs 0x0006 1 q s w t ∧
      q.mb.val < 4 ∧ ((t.session q.mb.val).isSome = false ∨ f = 1) ∧ endSession t q.mb.val = v ∧
        v.keep.granted = none)
    ∧ (∃ (q : Req) (s : State) (w : Waiting) (t : State), Runs 0x0007 0 q s w t ∧ (t.session q.mb.val).isSome = true)
    ∧ (∃ (q : Req) (s : State) (w : Waiting) (t : State) (x : Session), Runs 0x0008 1 q s w t ∧
      t.session q.mb.val = some x)
    ∧ (∃ (q : Req) (s : State) (w : Waiting) (t : State) (bytes : List Byte), Runs 0x0009 0 q s w t ∧
      waybill t (t.keep.wbGen + 1).toNat = bytes)
    ∧ (∃ (q : Req) (s : State) (w : Waiting) (t : State) (off : U32) (n : U16), Runs 0x000A 10 q s w t ∧
      off.toNat + n.toNat ≤ t.keep.wbLen.toNat ∧ n.toNat ≤ (payloadLimit q.mb.val).2)
    ∧ (∃ (q : Req) (s : State) (w : Waiting) (t : State) (from_ : U32) (n : U16) (start : U32),
      Runs 0x000B 6 q s w t ∧ n ≠ 0 ∧ n.toNat ≤ 128 ∧
        (if serialLater (gbOldest t.gb) from_ then gbOldest t.gb else from_) = start)
    ∧ (∃ (q : Req) (s : State) (w : Waiting) (t : State) (x : U32), Runs 0x000C 4 q s w t ∧
      (x = t.gb.rd ∨ serialLater x t.gb.rd = true) ∧ serialLater t.gb.next x = true)
    ∧ (∃ (q : Req) (s : State) (w : Waiting) (t : State) (x : U32), Runs 0x000C 4 q s w t ∧
      serialLater t.gb.next x = false) :=
  ⟨⟨req 0, State.reset, _, _, runs_of (by decide +kernel)⟩,
    ⟨req 0, State.reset, _, _, runs_of (by decide +kernel)⟩,
    ⟨ask 1, { State.reset with keep := { State.reset.keep with granted := some 8 } }, _, _, 0, _, 8, _,
      runs_of (by decide +kernel), by decide +kernel, by decide +kernel, rfl, by decide +kernel, rfl⟩,
    ⟨ask 1, State.reset, _, _, 1, _, runs_of (by decide +kernel), by decide +kernel, by decide +kernel, rfl,
      by decide +kernel⟩,
    ⟨ask 0, held State.reset, _, _, runs_of (by decide +kernel), by decide +kernel⟩,
    ⟨ask 1, held State.reset, _, _, { id := 7, lastRx := 0, kek := some [1] }, runs_of (by decide +kernel),
      by decide +kernel⟩,
    ⟨req 0, State.reset, _, _, _, runs_of (by decide +kernel), rfl⟩,
    ⟨req 10, { State.reset with keep := { State.reset.keep with wbLen := 10 } }, _, _, 9, 1,
      runs_of (by decide +kernel), by decide +kernel, by decide +kernel⟩,
    ⟨req 6, State.reset, _, _, 0, 128, _, runs_of (by decide +kernel), by decide +kernel, by decide +kernel, rfl⟩,
    ⟨req 4, { State.reset with gb := { State.reset.gb with next := 5 } }, _, _, 4, runs_of (by decide +kernel),
      by decide +kernel, by decide +kernel⟩,
    ⟨req 4, { State.reset with gb := { State.reset.gb with next := 5 } }, _, _, 5, runs_of (by decide +kernel),
      by decide +kernel⟩⟩

theorem witness_ParameterRequestsComplete :
    (∃ (q : Req) (s : State) (w : Waiting) (t : State) (idx : U16) (sub : Byte) (n : Byte) (rs : List (PRow × Nat)) (wd : Nat),
      Runs 0x0003 4 q s w t ∧ n ≠ 0 ∧ n.toNat ≤ 16 ∧ rowsFrom idx.toNat sub.toNat n.toNat = some rs ∧
        (rs.map fun r => valueBytes r.1.bits).foldl max 1 = wd ∧
          (le 1 wd ++ rs.flatMap fun r => valueIn t wd r.1 r.2).length ≤ (payloadLimit q.mb.val).2)
    ∧ (∃ (q : Req) (s : State) (w : Waiting) (t : State) (e : ParamEntry),
      Runs 0x0004 (4 + e.value.length) q s w t ∧ paramCheck t (paramsAfter t.params [e]) e = 0)
    ∧ (∃ (q : Req) (s : State) (w : Waiting) (t : State) (n : Byte) (es : List ParamEntry),
      Runs 0x0005 (1 + (es.map fun e => 4 + e.value.length).sum) q s w t ∧ es.length = n.toNat ∧ n ≠ 0 ∧
        n.toNat ≤ 32 ∧ firstFailing t (paramsAfter t.params es) 0 es = none)
    ∧ (∃ (q : Req) (s : State) (w : Waiting) (t : State) (n : Byte) (es : List ParamEntry) (k : Nat) (st : U16),
      Runs 0x0005 (1 + (es.map fun e => 4 + e.value.length).sum) q s w t ∧ es.length = n.toNat ∧ n ≠ 0 ∧
        n.toNat ≤ 32 ∧ firstFailing t (paramsAfter t.params es) 0 es = some (k, st)) :=
  ⟨⟨req 4, State.reset, _, _, 0x0112, 16, 16, (rowsFrom 0x0112 16 16).getD [], _, runs_of (by decide +kernel),
    by decide +kernel, by decide +kernel, by decide +kernel, rfl, by decide +kernel⟩,
    ⟨req 5, State.reset, _, _, entry0 0, runs_of (by decide +kernel), by decide +kernel⟩,
    ⟨req 6, State.reset, _, _, 1, [entry0 0], runs_of (by decide +kernel), by decide +kernel, by decide +kernel,
      by decide +kernel, by decide +kernel⟩,
    ⟨req 11, State.reset, _, _, 2, [entry0 0, entry0 2], 1, sRange, runs_of (by decide +kernel), by decide +kernel,
      by decide +kernel, by decide +kernel, by decide +kernel⟩⟩

theorem witness_StoreAndFirmwareRequestsComplete :
    (∃ (q : Req) (s : State) (w : Waiting) (t : State), Runs 0x000D 0 q s w t ∧ t.keep.deferAt = none)
    ∧ (∃ (q : Req) (s : State) (w : Waiting) (t : State) (t0 : Nat), Runs 0x000D 0 q s w t ∧
      t.keep.deferAt = some t0 ∧ t.keep.commitWait = none)
    ∧ (∃ (q : Req) (s : State) (w : Waiting) (t : State) (t0 : Nat) (t1 : Nat), Runs 0x000D 0 q s w t ∧
      t.keep.deferAt = some t0 ∧ t.keep.commitWait = some (t1, none))
    ∧ (∃ (q : Req) (s : State) (w : Waiting) (t : State), Runs 0x000E 0 q s w t)
    ∧ (∃ (q : Req) (s : State) (w : Waiting) (t : State) (n : U32), Runs 0x000F 4 q s w t ∧ n.toNat ≤ 0x800000 ∧
      t.keep.fwTrial = false)
    ∧ (∃ (q : Req) (s : State) (w : Waiting) (t : State) (off : U32) (bs : List Byte) (x : FwSlot),
      Runs 0x0010 (4 + bs.length) q s w t ∧ t.keep.fwBegun = true ∧ t.keep.fwSlots.getD (updateSlot t) {} = x ∧
        off.toNat + bs.length ≤ x.length ∧ rangeWritten x off.toNat bs.length = false)
    ∧ (∃ (q : Req) (s : State) (w : Waiting) (t : State) (st : U16), Runs 0x0011 0 q s w t ∧
      t.keep.fwBegun = true ∧ imageStatus t (t.keep.fwSlots.getD (updateSlot t) {}) = st)
    ∧ (∃ (q : Req) (s : State) (w : Waiting) (t : State) (v : State), Runs 0x0012 1 q s w t ∧
      (t.keep.fwSlots.getD (updateSlot t) {}).verified = true ∧ writeDir t (updateSlot t) t.keep.fwActive true = v)
    ∧ (∃ (q : Req) (s : State) (w : Waiting) (t : State) (v : State), Runs 0x0013 0 q s w t ∧
      t.keep.fwTrial = true ∧ writeDir t t.keep.fwActive t.keep.fwPrev false = v) :=
  ⟨⟨req 0, State.reset, _, _, runs_of (by decide +kernel), by decide +kernel⟩,
    ⟨own 0, deferring State.reset, _, _, 0, runs_of (by decide +kernel), by decide +kernel, by decide +kernel⟩,
    ⟨own 0, { deferring State.reset with keep := { (deferring State.reset).keep with commitWait := some (0, none) } },
      _, _, 0, 0, runs_of (by decide +kernel), by decide +kernel, by decide +kernel⟩,
    ⟨req 0, State.reset, _, _, runs_of (by decide +kernel)⟩,
    ⟨req 4, State.reset, _, _, 0x800000, runs_of (by decide +kernel), by decide +kernel, by decide +kernel⟩,
    ⟨req 5, begun, _, _, 0, [1], _, runs_of (by decide +kernel), by decide +kernel, rfl, by decide +kernel,
      by decide +kernel⟩,
    ⟨req 0, begun, _, _, _, runs_of (by decide +kernel), by decide +kernel, rfl⟩,
    ⟨req 1, { begun with keep := { begun.keep with fwSlots := [{ verified := true }, { verified := true }] } }, _,
      _, _, runs_of (by decide +kernel), by decide +kernel, rfl⟩,
    ⟨req 0, { State.reset with keep := { State.reset.keep with fwTrial := true } }, _, _, _,
      runs_of (by decide +kernel), by decide +kernel, rfl⟩⟩

theorem witness_KeeperEventsComplete :
    (∃ (dt : Nat) (s : State) (u : State) (c : Fin 3) (v : State), s.pass dt = u ∧ u.mainOn = true ∧
      u.keep.running = true ∧ (activeCores u).contains c.val = true ∧
        { u with keep := { u.keep with trips := (u.keep.trips + 1) % 65536, tripTimes := u.keep.tripTimes.modify c.val fun l => u.time :: l } } = v)
    ∧ (∃ (dt : Nat) (s : State) (u : State) (cause : Nat) (core : Nat) (t0 : Nat) (v : State), s.pass dt = u ∧
      u.mainOn = true ∧ u.keep.running = false ∧ u.keep.cause = some (cause, core, t0) ∧
        { u with keep := { u.keep with running := true, cause := none, replaceNext := 0 } } = v)
    ∧ (∃ (dt : Nat) (s : State) (u : State) (x : Byte) (v : State), s.pass dt = u ∧ u.mainOn = true ∧
      u.keep.running = true ∧ u.keep.deferAt = none ∧
        { u with keep := { u.keep with loads := (min x.toNat 100 :: u.keep.loads).take 10 } } = v ∧
          keepLoad v.keep ≤ 90)
    ∧ (∃ (dt : Nat) (s : State) (u : State) (x : Byte) (v : State), s.pass dt = u ∧ u.mainOn = true ∧
      u.keep.running = true ∧ u.keep.deferAt = none ∧
        { u with keep := { u.keep with loads := (min x.toNat 100 :: u.keep.loads).take 10 } } = v ∧
          90 < keepLoad v.keep)
    ∧ (∃ (dt : Nat) (s : State) (u : State) (x : Byte) (v : State) (t0 : Nat), s.pass dt = u ∧ u.mainOn = true ∧
      u.keep.running = true ∧ u.keep.deferAt = some t0 ∧
        { u with keep := { u.keep with loads := (min x.toNat 100 :: u.keep.loads).take 10 } } = v ∧
          75 ≤ keepLoad v.keep)
    ∧ (∃ (dt : Nat) (s : State) (u : State) (x : Byte) (v : State) (t0 : Nat), s.pass dt = u ∧ u.mainOn = true ∧
      u.keep.running = true ∧ u.keep.deferAt = some t0 ∧
        { u with keep := { u.keep with loads := (min x.toNat 100 :: u.keep.loads).take 10 } } = v ∧
          keepLoad v.keep < 75 ∧ v.keep.commitWait = none)
    ∧ (∃ (dt : Nat) (s : State) (u : State) (x : Byte) (v : State) (t0 : Nat) (d : Nat × Option Waiting),
      s.pass dt = u ∧ u.mainOn = true ∧ u.keep.running = true ∧ u.keep.deferAt = some t0 ∧
        { u with keep := { u.keep with loads := (min x.toNat 100 :: u.keep.loads).take 10 } } = v ∧
          keepLoad v.keep < 75 ∧ v.keep.commitWait = some d)
    ∧ (∃ (dt : Nat) (s : State) (u : State) (m : Fin 7) (tag : U16) (e : QEntry), s.pass dt = u ∧ u.mainOn = true ∧
      (u.keep.queues.getD m.val []).find? (agedEntry u.time tag) = some e)
    ∧ (∃ (dt : Nat) (s : State) (u : State) (m : Fin 4) (x : Session), s.pass dt = u ∧ u.mainOn = true ∧
      u.session m.val = some x ∧ x.lastRx + u.pv 0x0011 0 * msU ≤ u.time)
    ∧ (∃ (dt : Nat) (s : State) (u : State) (t0 : Nat) (l : List Claim), s.pass dt = u ∧ u.mainOn = true ∧
      u.keep.running = true ∧ u.keep.claims = some (t0, l) ∧ claimEnd u t0 ≤ u.time ∧ claimQueued u = false)
    ∧ (∃ (dt : Nat) (s : State) (u : State) (t0 : Nat), s.pass dt = u ∧ u.mainOn = true ∧ u.keep.running = true ∧
      u.keep.commitWait = none ∧ u.keep.dirty = some t0 ∧ t0 + u.pv 0x0013 0 * secU ≤ u.time ∧ u.keep.deferAt = none)
    ∧ (∃ (dt : Nat) (s : State) (u : State) (t0 : Nat) (d : Nat), s.pass dt = u ∧ u.mainOn = true ∧
      u.keep.running = true ∧ u.keep.commitWait = none ∧ u.keep.dirty = some t0 ∧
        t0 + u.pv 0x0013 0 * secU ≤ u.time ∧ u.keep.deferAt = some d)
    ∧ (∃ (dt : Nat) (s : State) (u : State) (t0 : Nat) (w : Option Waiting), s.pass dt = u ∧ u.mainOn = true ∧
      u.keep.running = true ∧ u.keep.commitWait = some (t0, w) ∧ t0 + 60 * secU ≤ u.time)
    ∧ (∃ (dt : Nat) (s : State) (u : State), s.pass dt = u ∧ u.mainOn = true ∧ gbReader u = true ∧
      u.gb.handedAt + u.pv 0x0015 0 * msU ≤ u.time) :=
  ⟨⟨0, State.reset, _, 1, _, rfl, by decide +kernel, by decide +kernel, by decide +kernel, rfl⟩,
    ⟨0, { State.reset with keep := { State.reset.keep with running := false, cause := some (3, 0xFF, 0) } }, _, 3,
      0xFF, 0, _, rfl, by decide +kernel, by decide +kernel, by decide +kernel, rfl⟩,
    ⟨0, State.reset, _, 90, _, rfl, by decide +kernel, by decide +kernel, by decide +kernel, rfl, by decide +kernel⟩,
    ⟨0, State.reset, _, 91, _, rfl, by decide +kernel, by decide +kernel, by decide +kernel, rfl, by decide +kernel⟩,
    ⟨0, deferring State.reset, _, 75, _, 0, rfl, by decide +kernel, by decide +kernel, by decide +kernel, rfl,
      by decide +kernel⟩,
    ⟨0, deferring State.reset, _, 74, _, 0, rfl, by decide +kernel, by decide +kernel, by decide +kernel, rfl,
      by decide +kernel, by decide +kernel⟩,
    ⟨0, { deferring State.reset with keep := { (deferring State.reset).keep with commitWait := some (0, none) } },
      _, 74, _, 0, (0, none), rfl, by decide +kernel, by decide +kernel, by decide +kernel, rfl, by decide +kernel,
        by decide +kernel⟩,
    ⟨0, queued0, _, 6, 3, oldEntry, rfl, by decide +kernel, by decide +kernel⟩,
    ⟨0, { held State.reset with time := 2 ^ 60 }, _, 0, { id := 7, lastRx := 0, kek := some [1] }, rfl,
      by decide +kernel, by decide +kernel, by decide +kernel⟩,
    ⟨0, { State.reset with time := 2 ^ 60, keep := { State.reset.keep with claims := some (0, []) } }, _, 0, [],
      rfl, by decide +kernel, by decide +kernel, by decide +kernel, by decide +kernel, by decide +kernel⟩,
    ⟨0, { State.reset with time := 2 ^ 60, keep := { State.reset.keep with dirty := some 0 } }, _, 0, rfl,
      by decide +kernel, by decide +kernel, by decide +kernel, by decide +kernel, by decide +kernel,
        by decide +kernel⟩,
    ⟨0, { deferring State.reset with time := 2 ^ 60, keep := { (deferring State.reset).keep with dirty := some 0 } },
      _, 0, 0, rfl, by decide +kernel, by decide +kernel, by decide +kernel, by decide +kernel, by decide +kernel,
        by decide +kernel⟩,
    ⟨0, { State.reset with time := 60 * secU, keep := { State.reset.keep with commitWait := some (0, none) } }, _,
      0, none, rfl, by decide +kernel, by decide +kernel, by decide +kernel, by decide +kernel⟩,
    ⟨0, { State.reset.onDma 31 fun c => { c with st := .running, desc := { c.desc with srcSpace := 2, src := 4 } } with time := 2 ^ 60 },
      _, rfl, by decide +kernel, by decide +kernel, by decide +kernel⟩⟩

theorem witness_WindowEventsComplete :
    (∃ (dt : Nat) (s : State) (u : State), s.pass dt = u ∧ windowOn u = true ∧ mailboxDead u 4 = false)
    ∧ (∃ (dt : Nat) (s : State) (u : State), s.pass dt = u ∧ windowOn u = true)
    ∧ (∃ (dt : Nat) (s : State) (u : State), s.pass dt = u ∧ windowOn u = true)
    ∧ (∃ (dt : Nat) (s : State) (u : State), s.pass dt = u ∧ windowOn u = true)
    ∧ (∃ (dt : Nat) (s : State) (u : State), s.pass dt = u ∧ windowOn u = true) :=
  ⟨⟨0, State.reset, _, rfl, by decide +kernel, by decide +kernel⟩,
    ⟨0, State.reset, _, rfl, by decide +kernel⟩,
    ⟨0, State.reset, _, rfl, by decide +kernel⟩,
    ⟨0, State.reset, _, rfl, by decide +kernel⟩,
    ⟨0, State.reset, _, rfl, by decide +kernel⟩⟩

theorem witness_SelfTestCommandsComplete :
    (∃ (q : Req) (s : State) (w : Waiting) (t : State), Runs 0x1001 0 q s w t ∧ t.bist.result ≠ 0)
    ∧ (∃ (q : Req) (s : State) (w : Waiting) (t : State), Runs 0x1002 0 q s w t)
    ∧ (∃ (q : Req) (s : State) (w : Waiting) (t : State), Runs 0x1003 0 q s w t)
    ∧ (∃ (dt : Nat) (s : State) (u : State), s.pass dt = u ∧ shutReleased u = true)
    ∧ (∃ (dt : Nat) (s : State) (u : State), s.pass dt = u ∧ u.mainOn = true ∧ u.bist.running = true)
    ∧ (∃ (dt : Nat) (s : State) (u : State), s.pass dt = u ∧ waking u = true ∧ boardReady u = true) :=
  ⟨⟨req 0, { State.reset with bist := { State.reset.bist with result := 1 } }, _, _, runs_of (by decide +kernel),
    by decide +kernel⟩,
    ⟨req 0, State.reset, _, _, runs_of (by decide +kernel)⟩,
    ⟨req 0, State.reset, _, _, runs_of (by decide +kernel)⟩,
    ⟨0, { State.reset with pwr := { State.reset.pwr with target := some 3 }, bist := { State.reset.bist with shut := (0, 0) } },
      _, rfl, by decide +kernel⟩,
    ⟨0, { State.reset with bist := { State.reset.bist with running := true } }, _, rfl, by decide +kernel,
      by decide +kernel⟩,
    ⟨0, { asleep with pwr := { asleep.pwr with target := some 1 } }, _, rfl, by decide +kernel, by decide +kernel⟩⟩

/-! ### Hypotheses of the statements about all commands -/

/-- The state a command leaves, where it completes. -/
def after (r : Host.Outcome State Fault Refusal) : State :=
  match r with
  | .next t => t
  | _ => State.reset

/-- One command waits; one SRAM byte is not 0. -/
def waitingOne : State := { State.reset with pending := [.scrubPass 0], mem := [(0x17FFFFF, 1)] }

theorem witness_StepRunsFrontCommand :
    (∃ (s : State) (c : Instr) (rest : List Instr), s.pending = c :: rest) ∧ ∃ s : State, s.pending = [] :=
  ⟨⟨waitingOne, _, _, rfl⟩, State.reset, rfl⟩

theorem witness_CommandsLeaveQueueAlone : ∃ s t : State, step s = .next t ∧ s.pending ≠ [] :=
  ⟨waitingOne, _, rfl, by decide +kernel⟩

theorem witness_EveryStepKeepsMemoryCanonical :
    ∃ s t : State, memWf s.mem = true ∧ step s = .next t ∧ s.mem ≠ [] :=
  ⟨waitingOne, _, by decide +kernel, rfl, by decide +kernel⟩

theorem witness_LockoutOutlivesEveryCommand :
    ∃ (c : Instr) (s t : State) (x : Nat × Nat), exec c s = .next t ∧ s.flt.c4 = some x ∧ t.flt.c4 ≠ some x :=
  ⟨.vstbyLost 0, { supplied true false with flt := { State.reset.flt with c4 := some (0x134, 0) } }, _, (0x134, 0), rfl,
    by decide +kernel, by decide +kernel⟩

theorem witness_RollbackNeverFalls : ∃ s t : State, step s = .next t ∧ s.bist.rollback < t.bist.rollback :=
  ⟨{ State.reset with
      pending := [.fwConfirm (req 0)]
      keep := { State.reset.keep with fwTrial := true, fwActive := 1, fwSlots := [{}, { length := 512, data := [(0xC, [7])] }] } },
    _, rfl, by decide +kernel⟩

/-- Where OnlyMissingAddressStops's two cases meet: the last byte of the SRAM, and the offset after it. -/
theorem test_sram_end :
    (∃ t, exec (.sramError 0 0x17FFFFF true {}) State.reset = .next t)
    ∧ exec (.sramError 0 0x1800000 true {}) State.reset = .fault (.noSuchAddress 0x1800000) :=
  ⟨⟨_, rfl⟩, rfl⟩

theorem witness_ReportsChangeNothing :
    ∃ (c : Instr) (q : Req) (s t : State), reportReq c = some q ∧ exec c s = .next t ∧ t.sent ≠ s.sent :=
  ⟨.keepIdent (req 0), req 0, State.reset, _, rfl, rfl, by decide +kernel⟩

theorem witness_WrittenParameterReadsBack :
    ∃ (e : ParamEntry) (r : PRow), findParam e.index.toNat e.sub.toNat = some r ∧ (e.index.toNat < 0x0913 ∨ 0x0916 < e.index.toNat)
      ∧ ∃ idx sub : Nat, sub < 256 ∧ (idx, sub) ≠ (e.index.toNat, e.sub.toNat) :=
  ⟨entry0 1, _, rfl, by decide +kernel, 0x0311, 255, by decide +kernel, by decide +kernel⟩

/-- 08 R190, 00 R9: bits 11 to 8 of a selector are reserved and read 0. -/
theorem test_selector_reserved :
    (applyParams rdy [{ index := 0x0914, sub := 3, value := [0x05, 0x3F] }]).pv 0x0914 3 = 0x3005 := by decide +kernel

/-- A value for parameter 0x0313, range 10 to 90. -/
def entry3 (v : Byte) : ParamEntry := { index := 0x0313, sub := 0, value := [v] }

theorem witness_LayerParametersOnlyInIdle :
    (∃ q s w t, Runs 0x0004 5 q s w t ∧ t.layer.st ≠ .idle)
    ∧ (∃ q s w t, Runs 0x0004 5 q s w t ∧ t.layer.st = .idle ∧ ofLe (entry3 9).value < 10)
    ∧ (∃ q s w t, Runs 0x0004 5 q s w t ∧ t.layer.st = .idle ∧ 90 < ofLe (entry3 91).value)
    ∧ ∃ q s w t, Runs 0x0004 5 q s w t ∧ t.layer.st = .idle ∧ 10 ≤ ofLe (entry3 90).value ∧ ofLe (entry3 90).value ≤ 90 :=
  ⟨⟨req 5, lay rdy .armed, _, _, runs_of (by decide +kernel), by decide +kernel⟩,
    ⟨req 5, rdy, _, _, runs_of (by decide +kernel), by decide +kernel, by decide +kernel⟩,
    ⟨req 5, rdy, _, _, runs_of (by decide +kernel), by decide +kernel, by decide +kernel⟩,
    ⟨req 5, rdy, _, _, runs_of (by decide +kernel), by decide +kernel, by decide +kernel, by decide +kernel⟩⟩

theorem witness_SerialNumberOrder :
    serialLater 0 0xFFFFFFFF = true
    ∧ ((0x80000000 : U32) - 0 = 0x80000000 ∧ serialLater 0x80000000 0 = false)
    ∧ serialLater 0 0x7FFFFFFF = false :=
  by decide +kernel

theorem witness_TimeStampsNameNanoseconds : ∃ t : Nat, t < 17179869184 * secU ∧ expFrac t = 255 :=
  ⟨17179869184 * secU - 1, by decide +kernel, by decide +kernel⟩

theorem witness_ServoProductRoundsHalfUp :
    (∃ c sh k : Nat, sh ≤ 31 ∧ c < 4294967296 ∧ k = c + 4294967296 * sh)
    ∧ ∃ (x : Int) (c sh k : Nat) (n : Int), sh ≤ 31 ∧ c < 4294967296 ∧ k = c + 4294967296 * sh ∧ sh ≠ 0
      ∧ x * ofField 32 c = n * 2 ^ sh + 2 ^ (sh - 1) :=
  ⟨⟨4294967295, 31, _, by decide +kernel, by decide +kernel, rfl⟩,
    -3, 1, 1, _, -2, by decide +kernel, by decide +kernel, rfl, by decide +kernel, by decide +kernel⟩

theorem witness_CarryReadsBack :
    ∃ (m : List Host.Cell) (e a e' : Nat), memWf m = true ∧ (a < carryAt e ∨ carryAt e + 3 ≤ a) ∧ e' ≠ e :=
  ⟨waitingOne.mem, 294911, carryAt 294911 - 1, 294910, by decide +kernel, by decide +kernel, by decide +kernel⟩

theorem witness_GuestbookRecordLiesInItsSlot :
    ∃ (s : State) (a : Nat), memWf s.mem = true ∧ (a < gbSlot s.gb.next.toNat ∨ gbSlot s.gb.next.toNat + 32 ≤ a) :=
  ⟨waitingOne, gbSlot 0 + 32, by decide +kernel, by decide +kernel⟩

theorem witness_RaiseRecordsItsSource :
    ∃ dt s u, ∃ (id : Fin 320) (d : BitVec 63) (c : Bool), ∃ t : State, s.pass dt = u ∧ (faultSource id.val).isSome = true
      ∧ (u.mainOn = true ∨ u.flt.initLow = true) ∧ exec (.faultRaise dt id d c) s = .next t ∧ id.val ∉ [0x087, 0x0A7, 0x0FD]
      ∧ id.val ∉ [0x048, 0x111, 0x112, 0x119] ∧ ∃ j < 320, j ≠ id.val ∧ j ∉ [0x087, 0x0A7, 0x0FD] :=
  ⟨0, rdy, _, 0x13F, 0, true, _, rfl, by decide +kernel, by decide +kernel, rfl, by decide +kernel, by decide +kernel, 0,
    by decide +kernel⟩

/-- FIRST_FAULT holds a C2 source of a time. -/
def latched (id t : Nat) : State := { rdy with flt := { rdy.flt with first := { id := id, cls := 2, valid := true, time := t } } }

/-- What every clause of FirstFaultKeepsTheFirst asks, of a class. -/
def Raised (s : State) (id : Fin 320) (k : Nat) : Prop :=
  (faultSource id.val).isSome = true ∧ s.mainOn = true ∧ s.faultClass id = k ∧ 1 ≤ k ∧ s.servo.test = none
    ∧ s.emon.cap.st = .off ∧ (s.layer.st ≠ .expose ∨ s.link.firsts.getD 0 false = true) ∧ ∃ t : State, exec (.faultRaise 0 id 0 false) s = .next t

theorem witness_FirstFaultKeepsTheFirst :
    (∃ s, Raised s 0x040 2 ∧ s.flt.first.valid = false)
    ∧ (∃ s, Raised s 0x040 2 ∧ s.flt.first.valid = true ∧ s.flt.first.time ≠ s.time)
    ∧ (∃ s, Raised s 0x0F0 3 ∧ s.flt.first.valid = true ∧ s.flt.first.time = s.time ∧ s.flt.first.cls < 3)
    ∧ (∃ s, Raised s 0x040 2 ∧ s.flt.first.valid = true ∧ s.flt.first.time = s.time ∧ s.flt.first.cls = 2 ∧ 0x040 < s.flt.first.id)
    ∧ (∃ s, Raised s 0x002 1 ∧ s.flt.first.valid = true ∧ s.flt.first.time = s.time ∧ 1 < s.flt.first.cls)
    ∧ ∃ s, Raised s 0x040 2 ∧ s.flt.first.valid = true ∧ s.flt.first.time = s.time ∧ s.flt.first.cls = 2 ∧ s.flt.first.id ≤ 0x040 := by
  refine ⟨⟨rdy, ?_⟩, ⟨{ latched 0x041 0 with time := 1 }, ?_⟩, ⟨latched 0x041 0, ?_⟩, ⟨latched 0x041 0, ?_⟩,
    ⟨latched 0x041 0, ?_⟩, ⟨latched 0x040 0, ?_⟩⟩ <;>
    exact ⟨⟨by decide +kernel, by decide +kernel, by decide +kernel, by decide +kernel, by decide +kernel, by decide +kernel, by decide +kernel,
      _, rfl⟩, by decide +kernel⟩

theorem witness_SevereRaiseStopsEmission :
    ∃ dt s u, ∃ (id : Fin 320) (d : BitVec 63) (c : Bool), ∃ t : State, s.pass dt = u ∧ (faultSource id.val).isSome = true
      ∧ u.mainOn = true ∧ 4 ≤ u.faultClass id ∧ exec (.faultRaise dt id d c) s = .next t :=
  ⟨0, lay rdy .expose, _, 0x134, 0, true, _, rfl, by decide +kernel, by decide +kernel, by decide +kernel, rfl⟩

theorem witness_InhibitStopsEmissionAndArming :
    (∃ dt s u, ∃ t : State, s.pass dt = u ∧ u.flt.inhibit = false ∧ exec (.emitInhibitRise dt) s = .next t)
    ∧ (∃ t : State, t.flt.inForce = true)
    ∧ ∃ dt, ∃ s u : State, s.pass dt = u ∧ u.flt.inhibit = true :=
  ⟨⟨0, lay rdy .expose, _, _, rfl, by decide +kernel, rfl⟩,
    ⟨{ rdy with flt := { rdy.flt with inForce := true } }, rfl⟩,
    0, { rdy with flt := { rdy.flt with inhibit := true } }, _, rfl, by decide +kernel⟩

/-- A layer of one line that passes its last row at marker 1; the line came, or did not. -/
def passing (came : Bool) (action : Nat) (run : Nat) : State :=
  { rdy.pput 0x0316 0 action with
    layer := { rdy.layer with missRun := run, desc := { lineCount := 1, pitch := 25000 } }
    dose := { rdy.dose with ring := if came then [(0, { line := 0, complete := true })] else [] } }

/-- The premises of the statement for a state at marker 1. -/
def Passes (s : State) : Prop := qLast s + 1 ≤ 1 ∧ 1 - 1 - qLast s < s.layer.desc.lineCount.toNat

theorem witness_UnderrunRaisesAtItsLength :
    (∃ s, Passes s ∧ lineComplete s.dose (1 - 1 - qLast s) = true)
    ∧ (∃ s, Passes s ∧ lineComplete s.dose (1 - 1 - qLast s) = false ∧ s.pv 0x0316 0 = 0)
    ∧ (∃ s, Passes s ∧ lineComplete s.dose (1 - 1 - qLast s) = false ∧ s.pv 0x0316 0 = 1
      ∧ s.layer.missRun + 1 = s.pv 0x0317 0)
    ∧ ∃ s, Passes s ∧ lineComplete s.dose (1 - 1 - qLast s) = false ∧ s.pv 0x0316 0 = 1
      ∧ s.layer.missRun + 1 ≠ s.pv 0x0317 0 :=
  ⟨⟨passing true 0 0, ⟨by decide +kernel, by decide +kernel⟩, by decide +kernel⟩,
    ⟨passing false 0 0, ⟨by decide +kernel, by decide +kernel⟩, by decide +kernel⟩,
    ⟨passing false 1 (rdy.pv 0x0317 0 - 1), ⟨by decide +kernel, by decide +kernel⟩, by decide +kernel⟩,
    ⟨passing false 1 (rdy.pv 0x0317 0 - 2), ⟨by decide +kernel, by decide +kernel⟩, by decide +kernel⟩⟩

/-- A bank with the SEQ before the first, as in the worked example of 17 R367. -/
def lastSeq : Bank := { header := bankHeader 15 0xFFFFFFFF 8 0 0 0, image := {} }

/-- A bank holds the newest store; its pair has had some commits. -/
def banked (n commits : Nat) : State := { State.reset with keep := { State.reset.keep with
  newest := some n, banks := [(n, lastSeq)], pairCommits := commits } }

theorem witness_NewestBankIsNeverErased :
    (∃ (c : Instr) (s t : State), commits c = true ∧ exec c s = .next t ∧ s.keep.newest = some 15
      ∧ AMap.find s.keep.banks 15 = some lastSeq)
    ∧ (∃ q s w t, Runs 0x000D 0 q s w t ∧ t.keep.deferAt = none ∧ t.keep.flashOk = true ∧ t.keep.newest = some 15
      ∧ AMap.find t.keep.banks 15 = some lastSeq ∧ t.keep.pairCommits < t.pv 0x0014 0 ∧ 14 ∉ t.keep.badBanks ∧ 0 ∉ t.keep.badBanks)
    ∧ ∃ q s w t, Runs 0x000D 0 q s w t ∧ t.keep.deferAt = none ∧ t.keep.flashOk = true ∧ t.keep.newest = some 15
      ∧ AMap.find t.keep.banks 15 = some lastSeq ∧ ¬ t.keep.pairCommits < t.pv 0x0014 0 ∧ 0 ∉ t.keep.badBanks ∧ 2 ∉ t.keep.badBanks :=
  ⟨⟨.storeDeferralLimit 0 [true],
      { banked 15 0 with time := 60 * secU, keep := { (banked 15 0).keep with commitWait := some (0, none) } }, _, rfl, rfl, rfl,
      by decide +kernel⟩,
    ⟨req 0, banked 15 0, _, _, runs_of (by decide +kernel), by decide +kernel⟩,
    req 0, banked 15 64, _, _, runs_of (by decide +kernel), by decide +kernel⟩

/-- 17, worked example of R367: the SEQ of a bank lies at offset 0x08 of its header, whose CRC covers the bytes before it. -/
theorem test_bank_header : lastSeq.seq = 0xFFFFFFFF ∧ lastSeq.header.length = 64
    ∧ fieldAt lastSeq.header 0x3C 4 = crc32c (lastSeq.header.take 0x3C) := by decide +kernel

/-! ### Values from the spec's worked examples -/

/-- 00, worked example of R14: SEC 1 900 000 000, NSEC 500 000 000 and 0.25 ns. -/
theorem test_time64 : time64 (1900000000 * secU + 500000000 * 256 + 64) = 0x1C4FECC01DCD6500
    ∧ expFrac (1900000000 * secU + 500000000 * 256 + 64) = 0x40 := by decide +kernel

/-- The check value of CRC-32C (Castagnoli) for the digits 1 to 9. -/
theorem test_crc32c : crc32c [0x31, 0x32, 0x33, 0x34, 0x35, 0x36, 0x37, 0x38, 0x39] = 0xE3069283 := by decide +kernel

/-- 02, worked example of R37: 1.5 m/s at 25 um is 60 000 lines/s, 1.2 m/s is 48 000; HOT admits the second (12 R262). -/
theorem test_rate_limit :
    ({ rdy with therm := { rdy.therm with band := .hot, skip := 4 } } : State).admissibleRate = 48000 := by decide +kernel

/-- 03, worked example of R71: column 8 of an overlap of 32, and its counterpart. -/
theorem test_stitch : stitch (State.reset.pput 0x0415 0 32) 8 = 17408 ∧ stitch (State.reset.pput 0x0416 0 32) 1000 = 48128 := by
  decide +kernel

/-- 03, worked example of R79: the lead row's share and pulse. -/
theorem test_lead_pulse :
    rowShare 507904000 70 0x4000 128 (21888, 10880) true = 2079139
    ∧ (convert 2079139 [204, 409, 614, 819] 14988 12 50 false).word = 0x27DB
    ∧ (convert 2079139 [204, 409, 614, 819] 14988 12 50 false).carry = 1 := by decide +kernel

/-- The same example's capped last row, and its width limit at a line period of 16 667 ns. -/
theorem test_capped_pulse :
    widthMax 16667 90 12 = 14988 ∧ rowShare 507904000 70 0x4800 128 (21888, 10880) false = 2016678
    ∧ (convert 12512678 [204, 409, 614, 819] 14988 12 50 true).word = 0xFA98
    ∧ (convert 12512678 [204, 409, 614, 819] 14988 12 50 true).cut = 237506 := by decide +kernel

/-- 03, worked example of R81 to R83: rows at 20 um pitch and 1.2 m/s; at 0.9 m/s a 15 um phase is skipped. -/
theorem test_row_delay : rowDelay 25000 20000 1200000000 = some 16667 ∧ rowDelay 7175000 20000 1200000000 = some 50000
    ∧ rowDelay 7175000 20000 900000000 = none := by decide +kernel

/-- 04, worked example of R94: the response, and the trim factor at full gain. -/
theorem test_factor : etaOf 17575000 18500000 0x4000 = 15565 ∧ factorOf 15565 70 256 = 19258 := by decide +kernel

/-- 08, worked example of R193: a heater loop scaled by the line's RMS. -/
theorem test_heater_loop :
    (loopLaw { kp := 0x0C00006000, ki := 0x1000000CCD, ffMode := 2, vnom := 2300, outMin := 0, outMax := 65535 }
      20000 17420 17500 17420 2200 0 0 0).y = 22389 := by decide +kernel

/-- 09, worked example of R211 to R214: the second phase component, and sector 2 with torque up chooses V4, legs V and W. -/
theorem test_vector :
    clarkeB 2000 3330 = 5000 ∧ chooseVector { sector := 2, dPsi := false, dT := 1 } = 4 ∧ legsOf 4 = (0, 1, 1) := by
  decide +kernel

/-- 11, worked example of R248: the median of the eleven neighbours and the tile's value. -/
theorem test_tile_median :
    median [3904, 3920, 3936, 3920, 3968, 3952, 3984, 3968, 3920, 3936, 3952] = 3936
    ∧ divr (median [3920, 3936, 3936, 3952] * 100) 64 = 6150 := by decide +kernel

/-- 12, worked example of R263: 107.05 °C after 106.25 °C stops in order; 993 ms exceed THERM.ORDERLY_MS. -/
theorem test_orderly_stop :
    stopsNow { rdy with therm := { rdy.therm with tj := 10705, hist := [10705, 10697, 10689, 10681, 10673, 10665, 10657, 10649,
      10641, 10633, 10625] } } = false
    ∧ stopsNow { rdy with therm := { rdy.therm with tj := 11450, hist := [11450, 10625] } } = true := by decide +kernel

/-- 13, the example of R278: 25 200 mV with N = -9. -/
theorem test_margin_code : marginCode 25200000 23 = 0x3266 := by decide +kernel

/-- 14, worked example of R304: 2100-02-28 is followed by 2100-03-01, a Monday; 2100-02-29 does not exist. -/
theorem test_calendar :
    dateDays 2100 2 28 = 47540 ∧ dateOf 47541 = (2100, 3, 1, 0) ∧ dateOk 2100 2 29 0 0 0 = false
    ∧ dateOk 2000 2 29 0 0 0 = true := by decide +kernel

/-- 15, worked example of R315: 0x0F8 is latched, then 0x0F0 in the same instant; a later raise sets OVF. -/
theorem test_first_fault :
    (raise (raise rdy 0x0F8 0 true) 0x0F0 0 true).flt.first.id = 0x0F0
    ∧ (firstFaultBytes (raise (raise rdy 0x0F8 0 true) 0x0F0 0 true).flt.first).getD 3 0 = 5 := by decide +kernel

/-- 16, worked example of R333: net counts 766, 769, 3 081 and 3 075 with SCALE 2 against RATE 812 and TON 48. -/
theorem test_measure :
    measure State.reset 766 769 3081 3075 3121 2 812 48 = { valid := true, gain := 15920, ton := 31, tonOfs := -17 }
    ∧ packWord 15920 (toField 8 (-17)) 0 0 0 0 = 0x00EF3E30 := by decide +kernel

/-- The same example's factory values at 61.50 °C between 55.00 °C and 70.00 °C. -/
theorem test_interp : interp 830 788 6150 5500 7000 = 812 ∧ interp 46 50 6150 5500 7000 = 48 := by decide +kernel

/-- 17, worked example of R357: the earlier claim wins, and of one T_RX the lower session. -/
theorem test_claim :
    earlier { w := { owed with tRx := 95 }, session := 0x0A41, force := false }
      { w := { owed with tRx := 120 }, session := 0x1203, force := false } = true
    ∧ earlier { w := owed, session := 0x1203, force := false } { w := owed, session := 0x0A41, force := false } = false := by
  decide +kernel

/-- 17, worked example of R367: SEQ 0 is later than 0xFFFFFFFF and than 0xFFFFFE3F. -/
theorem test_seq : serialLater 0 0xFFFFFFFF = true ∧ serialLater 0 0xFFFFFE3F = true := by decide +kernel

/-- 17 Table KEEP-10: the parts of the flash follow one another, and the 72 calibration copies end inside 64 MiB. -/
theorem test_flash_layout : dirAt 2 = slotAt 0 ∧ slotAt 2 = bankAt 0 ∧ bankAt 16 = calCopyAt 0 ∧ calCopyAt 72 ≤ 0x4000000 := by
  decide +kernel

/-- 18, worked example of R374: engine 7 fails and one row is repaired: RESULT 3, bit 10, one row. -/
theorem test_self_test :
    (testRecord rdy { zeroReadBack := true, partFail := 0x400, failingRows := [(40, 5)], durationUs := 371250 }).result = 3 := by
  decide +kernel

/-- FIPS 180-4's example: SHA-384 of "abc" (07 R175). -/
theorem test_sha384 : ofBe (sha384 [0x61, 0x62, 0x63]) =
    0xcb00753f45a35e8bb5a03d699ac65007272c32ab0eded1631a8b605a43ff5bed8086072ba1e7cc2358baeca134c825a7 := by decide +kernel

set_option exponentiation.threshold 400 in
/-- P-384: the base point lies on the curve, and its double is the published one. -/
theorem test_p384 : (keyPoint (keyBytes pBase)).isSome = true ∧ ecAdd pBase pBase = some
    (0x08d999057ba3d2d969260045c55b97f089025959a6f434d651d207d19fb96e9e4fe0e86ebe0e64f85b96a9c75295df61,
      0x8e80f1fa5b1b3cedb7bfe8dffd6dba74b275d875bc6cc43e904e505f256ab4255ffd43e94d39e22d61501e700a940e80) := by decide +kernel

/-- sin 30° is 1/2, exactly, and the angle of a diagonal is 45° (09 R212). -/
theorem test_trig : sineQ60 1 12 = 2 ^ 59 ∧ sineTimes 2 1 12 = 1 ∧ vectorAngle 5 5 = 2 ^ 29 := by decide +kernel

/-! ### Commands that the outside cannot form -/

/-- Request headers carry a 16-bit length (17 Table KEEP-3). -/
theorem test_wf_request : (Instr.layStart (req 65536)).wellFormed = false ∧ (Instr.layStart (req 65535)).wellFormed = true := by
  decide +kernel

theorem test_wf_layer :
    (Instr.layArm (req 40) {} (List.replicate 73 0)).wellFormed = false
    ∧ (Instr.runupTimeout 0 (List.replicate 73 0)).wellFormed = false
    ∧ (Instr.runOutDone 0 (List.replicate 73 0)).wellFormed = false
    ∧ (Instr.doseBilletWrite (req 0) 0 (List.replicate 289 0)).wellFormed = false := by decide +kernel

theorem test_wf_data :
    (Instr.dataKekAgree (req 97) (List.replicate 98 0)).wellFormed = false
    ∧ (Instr.dataKeyLoad (req 45) 0 0 (List.replicate 41 0)).wellFormed = false := by decide +kernel

theorem test_wf_link :
    (Instr.photodiodeReturn 0 0 0 0 0 { body := List.replicate 1023 0 }).wellFormed = false
    ∧ (Instr.telemetryFrame 0 0 0 { body := { temps := List.replicate 17 0 } }).wellFormed = false
    ∧ (Instr.segmentTrained 0 0 (List.replicate 321 0)).wellFormed = false
    ∧ (Instr.chainDiscovered 0 0 (List.replicate 19 0) []).wellFormed = false
    ∧ (Instr.chainDiscovered 0 0 [] (List.replicate 19 [])).wellFormed = false
    ∧ (Instr.pretrainDone 0 false { latencies := List.replicate 19 0 }).wellFormed = false := by decide +kernel

theorem test_wf_host :
    (Instr.servoTableWrite (req 0) 0 0 0 (List.replicate 257 0)).wellFormed = false
    ∧ (Instr.drvCurveWrite (req 0) 0 (List.replicate 9 (0, 0))).wellFormed = false
    ∧ (Instr.stepMove (req 0) 0 0 0 0 0 (List.replicate 5 0)).wellFormed = false := by decide +kernel

theorem test_wf_power :
    (Instr.stagelineFrameRx 0 0 { (sreq 1 1).frame with payload := List.replicate 257 0 }).wellFormed = false
    ∧ (Instr.segmentDelayMeasure 0 0 (List.replicate 63 (0, 0))).wellFormed = false := by decide +kernel

theorem test_wf_round :
    ({ chamber := List.replicate 33 0 } : RoundInputs).wf = false
    ∧ ({ die := List.replicate 9 none } : RoundInputs).wf = false
    ∧ ({ drvBus := List.replicate 9 0 } : RoundInputs).wf = false
    ∧ ({ refcalChamber := List.replicate 5 0 } : RoundInputs).wf = false
    ∧ ({ mains := List.replicate 3 0 } : RoundInputs).wf = false := by decide +kernel

theorem test_wf_keeper :
    (Instr.storeCommitDelay 0 (List.replicate 4 true)).wellFormed = false
    ∧ (Instr.storeDeferralLimit 0 (List.replicate 4 true)).wellFormed = false
    ∧ (Instr.storeCommit (req 0) (List.replicate 4 true)).wellFormed = false
    ∧ (Instr.paramWriteSet (req 0) 0 (List.replicate 256 (entry0 0))).wellFormed = false := by decide +kernel

theorem test_wf_large :
    (Instr.transportPacketRx 0 0 { len := 64, body := .direct 0 { packet0 0 with payload := List.replicate 65536 0 } } true).wellFormed = false
    ∧ (Instr.paramWrite (req 0) { entry0 0 with value := List.replicate 4097 0 }).wellFormed = false
    ∧ (Instr.linkDescWrite (req 0) 0 0 0 0 (List.replicate 4097 0)).wellFormed = false
    ∧ (Instr.fwWrite (req 0) 0 (List.replicate 4093 0)).wellFormed = false
    ∧ (Instr.calibrationPeriod 0 (List.replicate 73729 (0, 0, 0, 0))).wellFormed = false := by
  simp only [Instr.wellFormed, EthFrame.wf, Packet.wf, List.length_replicate]
  decide

end Sys2Proof.Tests
end

section
/-!
PROOFS. The scope family (00_scope): the layout of a TIME64 stamp (R14, Table SCOPE-7) and serial-number order (R402).
-/

namespace Sys2Proof.Proofs.Scope

open Sys2Proof.Machine

/-! ### TIME64 -/

/-- Field [29:0] of a stamp, for every counter value: the cut to 64 bits does not reach it. -/
theorem time64_nanoseconds (t : Nat) : time64 t % 1073741824 = t / 256 % 1000000000 := by
  have hlt : t / 256 % 1000000000 < 1073741824 := by omega
  have hdvd : 1073741824 ∣ 2 ^ 64 := by decide
  rw [time64, Nat.mod_mod_of_dvd _ hdvd, Nat.mul_add_mod', Nat.mod_eq_of_lt hlt]

/-- Field [63:30] of a stamp, while the seconds fit its 34 bits. -/
theorem time64_seconds {t : Nat} (ht : t < 17179869184 * secU) : time64 t / 1073741824 = t / secU := by
  have hsec : t / secU < 17179869184 := Nat.div_lt_of_lt_mul (Nat.mul_comm _ _ ▸ ht)
  rw [time64]
  omega

/-- A counter value cut to whole nanoseconds is its seconds and the nanoseconds in the last one. -/
theorem seconds_add_nanoseconds (t : Nat) : t / secU * secU + t / 256 % 1000000000 * 256 = t / 256 * 256 := by
  rw [secU]
  omega

/-- `ofTime64` undoes `time64` down to the nanosecond. -/
theorem ofTime64_time64 {t : Nat} (ht : t < 17179869184 * secU) : ofTime64 (time64 t) = t / 256 * 256 := by
  rw [ofTime64, time64_seconds ht, time64_nanoseconds, seconds_add_nanoseconds]

/-- EXPFRAC is what the cut to whole nanoseconds leaves out. -/
theorem nanoseconds_add_expFrac (t : Nat) : t / 256 * 256 + expFrac t = t :=
  Nat.div_add_mod' t 256

/-- Settles O51. Field by field: [29:0] is a remainder by 10⁹, and below 2³⁴ s [63:30] holds all the seconds. -/
theorem timeStampsNameNanoseconds : Obligations.TimeStampsNameNanoseconds := by
  intro t
  refine ⟨?_, fun ht => ⟨ofTime64_time64 ht, ?_⟩⟩
  · rw [time64_nanoseconds]
    omega
  · rw [ofTime64_time64 ht, nanoseconds_add_expFrac]

/-! ### Serial-number order -/

/-- R402 in unsigned arithmetic: `a` lies 1 to 2³¹ - 1 steps ahead of `b`. -/
theorem serialLater_iff_toNat_sub (a b : U32) :
    serialLater a b = true ↔ 0 < (a - b).toNat ∧ (a - b).toNat < 2147483648 := by
  rw [serialLater, decide_eq_true_iff, BitVec.toInt_eq_toNat_cond]
  omega

/-- The same distance read the other way: `b` is later than `a` when `a` lies more than half the range ahead of it. -/
theorem serialLater_swap_iff_toNat_sub (a b : U32) :
    serialLater b a = true ↔ 2147483648 < (a - b).toNat := by
  rw [serialLater_iff_toNat_sub, BitVec.toNat_sub, BitVec.toNat_sub]
  omega

/-- Settles O50. Equal, later, half the range apart and earlier are the four parts of the range of `(a - b).toNat`. -/
theorem serialNumberOrder : Obligations.SerialNumberOrder := by
  intro a b
  have hlater := serialLater_iff_toNat_sub a b
  have hearlier := serialLater_swap_iff_toNat_sub a b
  have hhalf : a - b = 0x80000000 ↔ (a - b).toNat = 2147483648 := BitVec.toNat_inj.symm
  have hequal : a = b ↔ (a - b).toNat = 0 := by bv_omega
  refine ⟨decide_eq_true_iff, ?_⟩
  simp only [← Bool.not_eq_true, hlater, hearlier, hhalf, hequal]
  omega

end Sys2Proof.Proofs.Scope
end

section
/-!
PROOFS. The architecture family (01_architecture), in four parts: the relation that a command keeps, the operations that
commands share, the subsystems with their commands, and the statements.

Part 1. What a command keeps (`Steady`), and the rules by which an operation that is built of others keeps it too.
-/

namespace Sys2Proof.Proofs.Architecture

open Sys2Proof.Machine Sys2Proof.Safety

/-- What every command keeps but the four of Porter's supplies: what a safe run keeps, and both supplies. -/
structure Steady (s t : State) : Prop extends Kept s t where
  vstby : t.pwr.vstby = s.pwr.vstby
  phantom : t.pwr.phantom = s.pwr.phantom

section
variable {s t u : State}

/-! ### Rules for the shapes of an operation

Each model function `f` gets one lemma `Steady.f`: from `Steady s t` to `Steady s (f t)`. So the proof of a
function names the functions it calls, in their order, and `update` where it writes fields. -/

theorem Steady.refl (s : State) : Steady s s := ⟨⟨rfl, id, fun _ h => h, le_rfl⟩, rfl, rfl⟩

/-- Gives a name to what holds of a state that the rest of the operation uses more than once. -/
theorem Steady.andThen (h : Steady s t) (k : Steady s t → Steady s u) : Steady s u := k h

/-- A record update writes any fields: only the SRAM, the latch, SEC.ROLLBACK and the supplies need a reason, which is
found by itself where they are not written. -/
theorem Steady.update (h : Steady s u) {time sent free power params mem layer dose emon link host dma data servo drv
    axes units stepAt house therm pwr stage clk flt gb cal keep bist}
    (hm : memWf u.mem = true → memWf mem = true := by with_reducible exact fun h => h)
    (hc : ∀ x, u.flt.c4 = some x → Flt.c4 flt = some x := by with_reducible exact fun _ h => h)
    (hr : u.bist.rollback ≤ Bist.rollback bist := by with_reducible exact Nat.le_refl _)
    (hv : Power.vstby pwr = u.pwr.vstby := by with_reducible rfl)
    (hp : Power.phantom pwr = u.pwr.phantom := by with_reducible rfl) :
    Steady s (.mk u.pending time sent free power params mem layer dose emon link host dma data servo drv axes
      units stepAt house therm pwr stage clk flt gb cal keep bist) where
  pending := h.pending
  mem hs := hm (h.mem hs)
  lockout x hx := hc x (h.lockout x hx)
  rollback := h.rollback.trans hr
  vstby := hv.trans h.vstby
  phantom := hp.trans h.phantom

theorem Steady.ite {c : Prop} {_ : Decidable c} (ht : Steady s t) (hu : Steady s u) :
    Steady s (if c then t else u) := by
  split
  · exact ht
  · exact hu

theorem Steady.iteFst {α : Type} {c : Prop} {_ : Decidable c} {p q : State × α} (hp : Steady s p.1)
    (hq : Steady s q.1) : Steady s (if c then p else q).1 := by
  split
  · exact hp
  · exact hq

theorem Steady.fstEq {α : Type} {p : State × α} {x : α} (h : Steady s p.1) (e : p = (t, x)) : Steady s t := by
  subst e
  exact h

/-- A fold over any accumulator that carries a state. -/
theorem Steady.foldlAt {α β : Type} (g : β → State) {f : β → α → β} {l : List α} {p : β} (h : Steady s (g p))
    (hf : ∀ u x, Steady s (g u) → Steady s (g (f u x))) : Steady s (g (l.foldl f p)) :=
  List.foldlRecOn l f (motive := fun u => Steady s (g u)) h fun u hu x _ => hf u x hu

theorem Steady.foldl {α : Type} {f : State → α → State} {l : List α} (h : Steady s t)
    (hf : ∀ u x, Steady s u → Steady s (f u x)) : Steady s (l.foldl f t) :=
  h.foldlAt id hf

theorem Steady.foldlFst {α β : Type} {f : State × β → α → State × β} {l : List α} {p : State × β} (h : Steady s p.1)
    (hf : ∀ u x, Steady s u.1 → Steady s (f u x).1) : Steady s (l.foldl f p).1 :=
  h.foldlAt Prod.fst hf

/-- A fold whose result is named: over a list as long as a tile, checking must not run the fold. -/
theorem Steady.foldlIs {α β : Type} {f : State × β → α → State × β} {l : List α} {p : State × β} {u : State} {x : β}
    (e : l.foldl f p = (u, x)) (h : Steady s p.1) (hf : ∀ u x, Steady s u.1 → Steady s (f u x).1) : Steady s u :=
  (h.foldlFst hf).fstEq e

/-- A fold of writes keeps the SRAM's canonical form. -/
theorem memWf_foldl {α : Type} {f : List Host.Cell → α → List Host.Cell}
    (hf : ∀ m x, memWf m = true → memWf (f m x) = true) (l : List α) {m : List Host.Cell} (hm : memWf m = true) :
    memWf (l.foldl f m) = true :=
  List.foldlRecOn l f (motive := fun m => memWf m = true) hm fun m h x _ => hf m x h

/-! ### Answers and results -/

/-- An answer of a request's body leaves a steady state. -/
def Answers (s : State) : Answer → Prop
  | .now t _ _ => Steady s t
  | .later t => Steady s t

theorem Answers.now {st d} (h : Steady s t) : Answers s (.now t st d) := h

theorem Answers.later (h : Steady s t) : Answers s (.later t) := h

theorem Answers.refuse {st} (h : Steady s t) : Answers s (Machine.refuse t st) := h

theorem Answers.done (h : Steady s t) : Answers s (Machine.done t) := h

theorem Answers.ite {a b : Answer} {c : Prop} {_ : Decidable c} (ha : Answers s a) (hb : Answers s b) :
    Answers s (if c then a else b) := by
  split
  · exact ha
  · exact hb

theorem Answers.sized {w d} (h : Steady s t) : Answers s (Machine.sized t w d) := .ite h h

/-- A command completes, and leaves a steady state. -/
def Goes (s : State) (r : Result) : Prop := ∃ t, r = .next t ∧ Steady s t

theorem Goes.next (h : Steady s t) : Goes s (.next t) := ⟨t, rfl, h⟩

theorem Goes.ite {a b : Result} {c : Prop} {_ : Decidable c} (ha : Goes s a) (hb : Goes s b) :
    Goes s (if c then a else b) := by
  split
  · exact ha
  · exact hb

end

end Sys2Proof.Proofs.Architecture
end

section
/-!
PROOFS. Part 2 of the architecture family. The operations that the subsystems share keep a steady state.
-/

namespace Sys2Proof.Proofs.Architecture

open Sys2Proof.Machine Sys2Proof.Safety

-- Off, because every lemma's own thread reserves a stack: some hundred of them would pass the memory limit.
set_option Elab.async false

section
variable {s t u : State}

/-! ### Shared operations -/

theorem Steady.poke {a bs} (h : Steady s t) : Steady s (Machine.State.poke t a bs) := by
  unfold Machine.State.poke
  exact h.update fun hm => memPuts_wf hm _ _

theorem Steady.countOn {dt} (h : Steady s t) : Steady s (Machine.State.countOn t dt) := by
  unfold Machine.State.countOn
  exact h.update

theorem Steady.porterRuns {dt} (h : Steady s t) : Steady s (Machine.State.porterRuns t dt) := by
  unfold Machine.State.porterRuns
  exact h.update

theorem Steady.advance {dt} (h : Steady s t) : Steady s (Machine.State.advance t dt) := by
  unfold Machine.State.advance
  split
  · exact h
  · exact .porterRuns (.ite h.countOn h)
  · exact h.countOn.porterRuns

theorem Steady.send {o} (h : Steady s t) : Steady s (Machine.State.send t o) := by
  unfold Machine.State.send
  exact h.update

theorem Steady.sendAll {os} (h : Steady s t) : Steady s (Machine.State.sendAll t os) := by
  unfold Machine.State.sendAll
  exact h.update

theorem Steady.freeTaken (h : Steady s t) : Steady s (Machine.State.freeTaken t) := by
  unfold Machine.State.freeTaken
  exact h.update

theorem Steady.markDirty (h : Steady s t) : Steady s (Machine.markDirty t) := by
  unfold Machine.markDirty
  split
  · exact h
  · exact h.update

theorem Steady.gbWriteAt {t' id subsys kind cls frac data} (h : Steady s t) :
    Steady s (Machine.gbWriteAt t t' id subsys kind cls frac data) := by
  unfold Machine.gbWriteAt
  exact h.update fun hm => memPuts_wf hm _ _

theorem Steady.gbRecord {subsys id data} (h : Steady s t) : Steady s (Machine.gbRecord t subsys id data) := by
  unfold Machine.gbRecord
  exact h.gbWriteAt

theorem Steady.gbOpen {subsys kind} (h : Steady s t) : Steady s (Machine.gbOpen t subsys kind) := by
  unfold Machine.gbOpen
  exact h.gbWriteAt.freeTaken.freeTaken

theorem toPower_flt (s : State) (p : PowerState) : (s.toPower p).flt = s.flt := by
  unfold State.toPower
  split <;> rfl

theorem Steady.toPower {p} (h : Steady s t) : Steady s (Machine.State.toPower t p) := by
  unfold Machine.State.toPower
  exact .ite h h.gbOpen.update

/-! ### Parameters -/

theorem Steady.pput {idx sub v} (h : Steady s t) : Steady s (Machine.State.pput t idx sub v) := by
  unfold Machine.State.pput
  exact h.update

theorem Steady.count {idx sub n} (h : Steady s t) : Steady s (Machine.State.count t idx sub n) := by
  unfold Machine.State.count
  exact h.pput

theorem Steady.wear {sub n} (h : Steady s t) : Steady s (Machine.State.wear t sub n) := by
  unfold Machine.State.wear
  exact h.pput

/-! ### Registers that the block shows -/

theorem Steady.clearCond {id} (h : Steady s t) : Steady s (Machine.clearCond t id) := by
  unfold Machine.clearCond
  exact h.update

theorem Steady.settleParts (h : Steady s t) : Steady s (Machine.settleParts t) := by
  unfold Machine.settleParts
  exact .ite h h.update

/-! ### Dose of one pixel, and emission stops -/

theorem Steady.onGroup {key f} (h : Steady s t) : Steady s (Machine.State.onGroup t key f) := by
  unfold Machine.State.onGroup
  exact h.update

theorem Steady.flagGroup {key bits} (h : Steady s t) : Steady s (Machine.State.flagGroup t key bits) := by
  unfold Machine.State.flagGroup
  exact h.onGroup

theorem Steady.addDeficit {k c u'} (h : Steady s t) : Steady s (Machine.State.addDeficit t k c u') := by
  unfold Machine.State.addDeficit
  exact h.onGroup

theorem Steady.flagLine {k bits} (h : Steady s t) : Steady s (Machine.State.flagLine t k bits) := by
  unfold Machine.State.flagLine
  exact h.foldl fun _ _ h => h.flagGroup

theorem Steady.giveBack {nb k c u'} (h : Steady s t) : Steady s (Machine.giveBack t nb k c u') := by
  unfold Machine.giveBack
  exact .ite (h.update fun hm => memPuts_wf hm _ _) h.addDeficit

theorem Steady.joinRow {nb k c r} (h : Steady s t) : Steady s (Machine.joinRow t nb k c r) := by
  unfold Machine.joinRow
  exact h.giveBack

theorem Steady.joinColumn {nb k c} (h : Steady s t) : Steady s (Machine.joinColumn t nb k c) := by
  unfold Machine.joinColumn
  exact .ite h (h.foldl (fun _ _ h => h.joinRow))

theorem Steady.joinLine {nb k} (h : Steady s t) : Steady s (Machine.joinLine t nb k) := by
  unfold Machine.joinLine
  exact .ite (h.foldl (fun _ _ h => h.joinColumn)) h

theorem Steady.lineDone {k} (h : Steady s t) : Steady s (Machine.lineDone t k) := by
  unfold Machine.lineDone
  exact .update (.foldl (.update (.ite h.joinLine h)) (fun _ _ h => .ite h.addDeficit h))

theorem Steady.lineAbsent {k} (h : Steady s t) : Steady s (Machine.lineAbsent t k) := by
  unfold Machine.lineAbsent
  exact h.flagLine.update.update

theorem Steady.passAtStop {mStop} (h : Steady s t) : Steady s (Machine.passAtStop t mStop) := by
  unfold Machine.passAtStop
  exact h.foldl fun _ _ h => .ite h.lineDone h.lineAbsent

theorem Steady.completeLine {k} (h : Steady s t) : Steady s (Machine.completeLine t k) := by
  unfold Machine.completeLine
  exact .ite h.update (.ite h.update.flagLine.update h.update)

theorem Steady.onBuild {m f} (h : Steady s t) : Steady s (Machine.onBuild t m f) := by
  unfold Machine.onBuild
  exact h.update

theorem Steady.returnEnergy {k c u'} (h : Steady s t) : Steady s (Machine.returnEnergy t k c u') := by
  unfold Machine.returnEnergy
  exact .ite h.addDeficit h.update

theorem Steady.returnWords {ws} (h : Steady s t) : Steady s (Machine.returnWords t ws) := by
  unfold Machine.returnWords
  exact h.foldl fun _ _ h => h.returnEnergy.flagGroup

theorem Steady.undoBuilds {mStop} (h : Steady s t) : Steady s (Machine.undoBuilds t mStop) := by
  unfold Machine.undoBuilds
  exact h.update (memWf_foldl (fun _ _ hm => memWf_foldl (fun _ _ hm => memPuts_wf hm _ _) _ hm) _)

theorem Steady.stopLine {mStop k} (h : Steady s t) : Steady s (Machine.stopLine t mStop k) := by
  unfold Machine.stopLine
  exact .ite (h.foldl (fun _ _ h => h.addDeficit)) (.ite h.flagLine h.flagLine.update)

theorem Steady.addReturned {nb} (h : Steady s t) : Steady s (Machine.addReturned t nb) := by
  unfold Machine.addReturned
  exact (h.foldl (fun _ _ h => h.giveBack)).update

theorem Steady.addJoins {nb} (h : Steady s t) : Steady s (Machine.addJoins t nb) := by
  unfold Machine.addJoins
  exact (h.foldl (fun _ _ h => h.joinLine)).update

theorem Steady.stopCarry {mStop k c} (h : Steady s t) : Steady s (Machine.stopCarry t mStop k c) := by
  unfold Machine.stopCarry
  exact .ite h (h.onGroup.update fun hm => memPuts_wf hm _ _)

theorem Steady.stopCarries {mStop lines} (h : Steady s t) : Steady s (Machine.stopCarries t mStop lines) := by
  unfold Machine.stopCarries
  exact h.foldl fun _ _ h => h.foldl fun _ _ h => h.stopCarry

theorem Steady.unreachedLine {k} (h : Steady s t) : Steady s (Machine.unreachedLine t k) := by
  unfold Machine.unreachedLine
  exact .ite (h.flagLine.foldl (fun _ _ h => h.addDeficit)) h.flagLine.flagLine

theorem Steady.stopEmission {mStop} (h : Steady s t) : Steady s (Machine.stopEmission t mStop) := by
  unfold Machine.stopEmission
  refine .ite h ?_
  exact h.passAtStop.undoBuilds.addReturned.addJoins
    |>.foldl (fun _ _ h => h.stopLine)
    |>.stopCarries
    |>.foldl (fun _ _ h => h.unreachedLine)
    |>.update

/-! ### What the emission monitor writes -/

theorem Steady.make {kind first bytes} (h : Steady s t) : Steady s (Machine.make t kind first bytes) := by
  unfold Machine.make
  exact h.update

theorem Steady.sendHeader {tFirst} (h : Steady s t) : Steady s (Machine.sendHeader t tFirst) := by
  unfold Machine.sendHeader
  exact .ite h h.make.update

theorem Steady.closeRow {h'} (h : Steady s t) : Steady s (Machine.closeRow t h').1 := by
  unfold Machine.closeRow
  exact h.make.update

theorem Steady.endMap {outcome} (h : Steady s t) : Steady s (Machine.endMap t outcome) := by
  unfold Machine.endMap
  exact h.sendHeader.make

theorem Steady.capDone {endCode} (h : Steady s t) : Steady s (Machine.capDone t endCode) := by
  unfold Machine.capDone
  exact h.update.poke.update

theorem Steady.capLeaveExpose (h : Steady s t) : Steady s (Machine.capLeaveExpose t) := by
  unfold Machine.capLeaveExpose
  exact .ite h.capDone h

theorem Steady.capStart {src m t'} (h : Steady s t) : Steady s (Machine.capStart t src m t') := by
  unfold Machine.capStart
  exact h.update

theorem Steady.capMissed {src t'} (h : Steady s t) : Steady s (Machine.capMissed t src t').1 := by
  unfold Machine.capMissed
  exact h.count.update.gbWriteAt

theorem Steady.capTrigger {src m t'} (h : Steady s t) : Steady s (Machine.capTrigger t src m t').1 := by
  unfold Machine.capTrigger
  refine .iteFst h ?_
  split
  · exact h
  · exact h.capStart
  · exact h.update
  · exact h.capMissed
  · exact h.capMissed

/-! ### Sending on the host ports -/

theorem Steady.onPort {p f} (h : Steady s t) : Steady s (Machine.State.onPort t p f) := by
  unfold Machine.State.onPort
  exact h.update

theorem Steady.onChan {ch f} (h : Steady s t) : Steady s (Machine.State.onChan t ch f) := by
  unfold Machine.State.onChan
  exact h.update

theorem Steady.emitPort {p ch type flags seq payload} (h : Steady s t) :
    Steady s (Machine.emitPort t p ch type flags seq payload) := by
  unfold Machine.emitPort
  exact h.onPort.send

theorem Steady.emitPacket {ch type flags seq payload} (h : Steady s t) :
    Steady s (Machine.emitPacket t ch type flags seq payload) := by
  unfold Machine.emitPacket
  exact .ite h.emitPort h

theorem Steady.transmit {ch type flags payload} (h : Steady s t) :
    Steady s (Machine.transmit t ch type flags payload) := by
  unfold Machine.transmit
  exact h.emitPacket.onChan

theorem Steady.chanSend {ch type flags payload} (h : Steady s t) :
    Steady s (Machine.chanSend t ch type flags payload) := by
  unfold Machine.chanSend
  exact .ite h.transmit h.onChan

theorem Steady.drainWait {ch} (h : Steady s t) : Steady s (Machine.drainWait t ch) := by
  unfold Machine.drainWait
  exact h.foldl fun _ _ h => .ite h.onChan.transmit h

theorem Steady.sendMessage {ch bytes} (h : Steady s t) : Steady s (Machine.sendMessage t ch bytes) := by
  unfold Machine.sendMessage
  exact h.foldl fun _ _ h => h.chanSend

theorem Steady.mb4Fill (h : Steady s t) : Steady s (Machine.mb4Fill t) := by
  unfold Machine.mb4Fill
  refine .ite h ?_
  split
  · exact h
  · exact h.update

/-! ### Frames on a lane -/

theorem Steady.laneSend {k fs} (h : Steady s t) : Steady s (Machine.laneSend t k fs) := by
  unfold Machine.laneSend
  exact .ite h h.sendAll.update

theorem Steady.linkSend {n fs} (h : Steady s t) : Steady s (Machine.linkSend t n fs) := by
  unfold Machine.linkSend
  exact .ite h.laneSend h

theorem Steady.laneReset {k} (h : Steady s t) : Steady s (Machine.laneReset t k) := by
  unfold Machine.laneReset
  exact h.update

/-! ### Layer transitions that faults share -/

theorem Steady.profDecel {kind a} (h : Steady s t) : Steady s (Machine.profDecel t kind a) := by
  unfold Machine.profDecel
  exact h.update

theorem Steady.emitOff (h : Steady s t) : Steady s (Machine.emitOff t) := by
  unfold Machine.emitOff
  exact h.update

theorem Steady.emitOn (h : Steady s t) : Steady s (Machine.emitOn t) := by
  unfold Machine.emitOn
  exact h.update

theorem Steady.sendEnd (h : Steady s t) : Steady s (Machine.sendEnd t) := by
  unfold Machine.sendEnd
  exact h.foldl fun _ _ h => h.linkSend

theorem Steady.answer {w status data} (h : Steady s t) : Steady s (Machine.answer t w status data) := by
  unfold Machine.answer
  exact .ite h.update.sendMessage (.ite h.update.mb4Fill h.update)

theorem Steady.answerFit {w data} (h : Steady s t) : Steady s (Machine.answerFit t w data) := by
  unfold Machine.answerFit
  exact .ite h.answer h.answer

theorem Steady.endAbort {result status} (h : Steady s t) : Steady s (Machine.endAbort t result status) := by
  unfold Machine.endAbort
  split
  · exact h
  · exact h.update.answer

theorem Steady.takeAbort {stop} (h : Steady s t) : Steady s (Machine.takeAbort t stop) := by
  unfold Machine.takeAbort
  exact .ite h.endAbort h.endAbort

theorem Steady.answerAbort (h : Steady s t) : Steady s (Machine.answerAbort t) := by
  unfold Machine.answerAbort
  exact .ite h.endAbort h.endAbort

theorem Steady.sampleCapStop (h : Steady s t) : Steady s (Machine.sampleCapStop t) := by
  unfold Machine.sampleCapStop
  dsimp only
  split
  · exact h
  · split
    · exact h.update.answer
    · exact h.update.update.answer
    · exact h.update.update.answer
    · exact h.update.capDone.answer
    · exact h.update.answer

theorem Steady.swapLive (h : Steady s t) : Steady s (Machine.swapLive t) := by
  unfold Machine.swapLive
  exact h.update.clearCond

theorem Steady.takeSwap (h : Steady s t) : Steady s (Machine.takeSwap t) := by
  unfold Machine.takeSwap
  exact .ite h.swapLive h

theorem Steady.settlePitch (h : Steady s t) : Steady s (Machine.settlePitch t) := by
  unfold Machine.settlePitch
  exact .ite h h.update

theorem Steady.forgetOff (h : Steady s t) : Steady s (Machine.forgetOff t) := by
  unfold Machine.forgetOff
  exact h.update.settlePitch

theorem Steady.markAborted {cause stop} (h : Steady s t) : Steady s (Machine.markAborted t cause stop) := by
  unfold Machine.markAborted
  exact .ite h h.update

theorem Steady.runOutProfile {how} (h : Steady s t) : Steady s (Machine.runOutProfile t how) := by
  unfold Machine.runOutProfile
  exact .ite h (by split <;> exact h.profDecel)

theorem Steady.enterRunOut {how} (h : Steady s t) : Steady s (Machine.enterRunOut t how) := by
  unfold Machine.enterRunOut
  exact .andThen (.ite h.emitOff.sendEnd h.emitOff.update) fun h =>
    .takeSwap (.answerAbort (.update (.runOutProfile (.sampleCapStop (.ite h.capLeaveExpose h)))))

theorem Steady.dozeChains (h : Steady s t) : Steady s (Machine.dozeChains t) := by
  unfold Machine.dozeChains
  exact h.update

theorem Steady.wakeChains (h : Steady s t) : Steady s (Machine.wakeChains t) := by
  unfold Machine.wakeChains
  exact h.update

theorem Steady.idlePower (h : Steady s t) : Steady s (Machine.idlePower t) := by
  unfold Machine.idlePower
  exact .ite h.dozeChains.toPower h.wakeChains.toPower

theorem Steady.toIdle (h : Steady s t) : Steady s (Machine.toIdle t) := by
  unfold Machine.toIdle
  exact h.update.idlePower

theorem Steady.commitRecord {skipped} (h : Steady s t) : Steady s (Machine.commitRecord t skipped) := by
  unfold Machine.commitRecord
  exact .forgetOff (.update (.ite h.answerAbort.endMap.wear h.answerAbort.endMap))

theorem Steady.commitToIdle (h : Steady s t) : Steady s (Machine.commitToIdle t) := by
  unfold Machine.commitToIdle
  exact h.commitRecord.toIdle

theorem Steady.commitAborted {cause} (h : Steady s t) : Steady s (Machine.commitAborted t cause) := by
  unfold Machine.commitAborted
  exact h.markAborted.emitOff.commitToIdle

theorem Steady.noteFault {id cls} (h : Steady s t) : Steady s (Machine.noteFault t id cls) := by
  unfold Machine.noteFault
  exact .ite h h.update

theorem Steady.loseRow {m n r} (h : Steady s t) : Steady s (Machine.loseRow t m n r) := by
  unfold Machine.loseRow
  split
  · exact h
  · exact h.count.update.returnWords.onBuild.capTrigger

theorem Steady.cutRows {m} (h : Steady s t) : Steady s (Machine.cutRows t m) := by
  unfold Machine.cutRows
  split
  · exact h
  · exact h.foldl fun _ _ h => h.loseRow

theorem Steady.cutEmission {cause} (h : Steady s t) : Steady s (Machine.cutEmission t cause) := by
  unfold Machine.cutEmission
  exact .andThen (.ite h.emitOff.markAborted h.emitOff) fun h => .ite h h.stopEmission.cutRows.update

theorem Steady.layerC2 {id} (h : Steady s t) : Steady s (Machine.layerC2 t id) := by
  unfold Machine.layerC2
  split
  · exact h.commitAborted
  · exact h.markAborted.enterRunOut
  · split
    · exact h
    · exact h.update
  · exact h

theorem Steady.layerC3 (h : Steady s t) : Steady s (Machine.layerC3 t) := by
  unfold Machine.layerC3
  split
  · exact h.commitAborted
  · exact h.markAborted.enterRunOut
  · exact h.cutEmission.enterRunOut
  · exact h.runOutProfile.emitOff
  · exact h.emitOff

theorem Steady.sampleEarly (h : Steady s t) : Steady s (Machine.sampleEarly t) := by
  unfold Machine.sampleEarly
  split
  · exact h
  · split
    · exact h.takeAbort.commitAborted
    · exact h.takeAbort.markAborted.enterRunOut
    · exact h

theorem Steady.pass {dt} (h : Steady s t) : Steady s (Machine.State.pass t dt) := by
  unfold Machine.State.pass
  split
  · exact .ite h.advance.sampleEarly.advance h.advance
  · exact h.advance

/-! ### Rail slots -/

theorem Steady.onRail {k f} (h : Steady s t) : Steady s (Machine.State.onRail t k f) := by
  unfold Machine.State.onRail
  exact h.update

theorem Steady.onChain {n f} (h : Steady s t) : Steady s (Machine.State.onChain t n f) := by
  unfold Machine.State.onChain
  exact h.update

theorem Steady.endMargin {k} (h : Steady s t) : Steady s (Machine.endMargin t k) := by
  unfold Machine.endMargin
  dsimp only
  split
  · exact h.onRail.answer
  · exact h.onRail

theorem Steady.updateDisch {k} (h : Steady s t) : Steady s (Machine.updateDisch t k) := by
  unfold Machine.updateDisch
  exact .ite h.onChain h

theorem Steady.releaseSlot {k} (h : Steady s t) : Steady s (Machine.releaseSlot t k) := by
  unfold Machine.releaseSlot
  exact h.onRail.endMargin.updateDisch

theorem Steady.settleReleases (h : Steady s t) : Steady s (Machine.settleReleases t) := by
  unfold Machine.settleReleases
  exact h.foldl fun _ _ h => .ite h.releaseSlot h

theorem Steady.settleFailed (h : Steady s t) : Steady s (Machine.settleFailed t) := by
  unfold Machine.settleFailed
  exact .ite h h.update

theorem Steady.releaseSlots {ks} (h : Steady s t) : Steady s (Machine.releaseSlots t ks) := by
  unfold Machine.releaseSlots
  exact (h.foldl (fun _ _ h => h.onRail)).settleReleases.settleFailed

theorem Steady.dropSlots {ks} (h : Steady s t) : Steady s (Machine.dropSlots t ks) := by
  unfold Machine.dropSlots
  exact h.foldl fun _ _ h => h.releaseSlot

theorem Steady.blockDependants {k} (h : Steady s t) : Steady s (Machine.blockDependants t k) := by
  unfold Machine.blockDependants
  exact h.foldl fun _ _ h => .ite h.onRail h

theorem Steady.blockWaiting (h : Steady s t) : Steady s (Machine.blockWaiting t) := by
  unfold Machine.blockWaiting
  exact .ite h (h.foldl (fun _ _ h => .ite h.onRail h))

theorem Steady.startSlots {ks} (h : Steady s t) : Steady s (Machine.startSlots t ks) := by
  unfold Machine.startSlots
  exact (h.foldl (fun _ _ h => h.onRail)).blockWaiting

theorem Steady.enableSlot {k} (h : Steady s t) : Steady s (Machine.enableSlot t k) := by
  unfold Machine.enableSlot
  exact h.onRail.updateDisch

/-! ### How motion stops -/

theorem Steady.onSlot {n f} (h : Steady s t) : Steady s (Machine.State.onSlot t n f) := by
  unfold Machine.State.onSlot
  exact h.update

theorem Steady.endTest {endCode} (h : Steady s t) : Steady s (Machine.endTest t endCode) := by
  unfold Machine.endTest
  dsimp only
  split
  · exact h
  · split
    · exact h.poke.update.answer
    · exact h.poke.update

theorem Steady.carriageStop (h : Steady s t) : Steady s (Machine.carriageStop t) := by
  unfold Machine.carriageStop
  exact .ite h.update (.ite h.update.profDecel (.ite h.update.update h.update))

theorem Steady.onAxis {k f} (h : Steady s t) : Steady s (Machine.State.onAxis t k f) := by
  unfold Machine.State.onAxis
  exact h.update

theorem Steady.onUnit {u' f} (h : Steady s t) : Steady s (Machine.State.onUnit t u' f) := by
  unfold Machine.State.onUnit
  exact h.update

theorem Steady.homingOff {u'} (h : Steady s t) : Steady s (Machine.homingOff t u') := by
  unfold Machine.homingOff
  exact h.foldl fun _ _ h => h.onAxis

theorem Steady.unitStop {u'} (h : Steady s t) : Steady s (Machine.unitStop t u') := by
  unfold Machine.unitStop
  split
  · exact h.onUnit
  · exact h.onUnit.homingOff
  · exact h

theorem Steady.unitDisable {u'} (h : Steady s t) : Steady s (Machine.unitDisable t u') := by
  unfold Machine.unitDisable
  exact h.onUnit.foldl fun _ _ h => h.onAxis

theorem Steady.onDrive {k f} (h : Steady s t) : Steady s (Machine.State.onDrive t k f) := by
  unfold Machine.State.onDrive
  exact h.update

theorem Steady.latchDrive {k} (h : Steady s t) : Steady s (Machine.latchDrive t k) := by
  unfold Machine.latchDrive
  exact h.onDrive

theorem Steady.driveConds (h : Steady s t) : Steady s (Machine.driveConds t) := by
  unfold Machine.driveConds
  exact .ite (.ite (.ite h h.clearCond) (.clearCond (.ite h h.clearCond)))
    (.clearCond (.ite (.ite h h.clearCond) (.clearCond (.ite h h.clearCond))))

theorem Steady.driveFault {k} (h : Steady s t) : Steady s (Machine.driveFault t k) := by
  unfold Machine.driveFault
  exact h.onDrive.driveConds

theorem Steady.driveDisable {k status} (h : Steady s t) : Steady s (Machine.driveDisable t k status) := by
  unfold Machine.driveDisable
  dsimp only
  exact h.onDrive.driveConds.andThen fun h => by
    split
    · exact h.answer
    · exact h

theorem Steady.driveC3 {k} (h : Steady s t) : Steady s (Machine.driveC3 t k) := by
  unfold Machine.driveC3
  refine .ite h ?_
  split
  · exact h.driveFault
  · exact h.onDrive
  · exact h

theorem Steady.onHeater {k f} (h : Steady s t) : Steady s (Machine.State.onHeater t k f) := by
  unfold Machine.State.onHeater
  exact h.update

theorem Steady.heatersC4 (h : Steady s t) : Steady s (Machine.heatersC4 t) := by
  unfold Machine.heatersC4
  exact h.update

/-! ### Raising and clearing a fault source -/

theorem Steady.recordRaise {r c} (h : Steady s t) : Steady s (Machine.recordRaise t r c) := by
  unfold Machine.recordRaise
  exact .ite h.update.count.gbWriteAt h.update.count

theorem Steady.reactC3 {id} (h : Steady s t) : Steady s (Machine.reactC3 t id) := by
  unfold Machine.reactC3
  exact ((h.layerC3.carriageStop.foldl (fun _ _ h => h.unitStop)).foldl (fun _ _ h => h.driveC3)).dropSlots.update

theorem Steady.reactC4 {id} (h : Steady s t) : Steady s (Machine.reactC4 t id) := by
  unfold Machine.reactC4
  refine Steady.update (.heatersC4 (.foldl (.foldl h.reactC3 fun _ _ h => h.unitDisable) fun _ _ h => h.driveDisable))
    (hc := fun x hx => ?_)
  rw [hx]

theorem Steady.react {id c} (h : Steady s t) : Steady s (Machine.react t id c) := by
  unfold Machine.react
  split
  · exact h.noteFault
  · exact h.noteFault
  · exact h.noteFault.layerC2
  · exact h.noteFault.reactC3
  · exact h.noteFault.reactC4

theorem Steady.faultTrigger {c} (h : Steady s t) : Steady s (Machine.faultTrigger t c).1 := by
  unfold Machine.faultTrigger
  exact .iteFst h.capTrigger h

theorem Steady.raiseOne {r} (h : Steady s t) : Steady s (Machine.raiseOne t r).1 := by
  unfold Machine.raiseOne
  exact .iteFst h (.iteFst h (h.recordRaise.faultTrigger.react.andThen (fun h => .ite h.endTest h)))

theorem Steady.raiseList {rs} (h : Steady s t) : Steady s (Machine.raiseList t rs) := by
  unfold Machine.raiseList
  exact h.foldl fun _ _ h => h.raiseOne

theorem Steady.raiseR {r} (h : Steady s t) : Steady s (Machine.raiseR t r) := by
  unfold Machine.raiseR
  exact h.raiseOne.foldl fun _ _ h => h.raiseOne.raiseList

theorem Steady.raise {id data cond} (h : Steady s t) : Steady s (Machine.raise t id data cond) := by
  unfold Machine.raise
  exact h.raiseR

theorem Steady.clearSource {id} (h : Steady s t) : Steady s (Machine.clearSource t id) := by
  unfold Machine.clearSource
  exact .gbWriteAt (.count (.ite h.update.update h.update))

theorem Steady.rearmFirst (h : Steady s t) : Steady s (Machine.rearmFirst t) := by
  unfold Machine.rearmFirst
  exact .ite h h.update

theorem Steady.raiseLosses {s'} (h : Steady s t) : Steady s (Machine.raiseLosses s' t) := by
  unfold Machine.raiseLosses
  exact h.foldl fun _ _ h => h.raiseR

theorem Steady.triggerAt {src m t'} (h : Steady s t) : Steady s (Machine.triggerAt t src m t') := by
  unfold Machine.triggerAt
  exact .ite h.capTrigger.raise h.capTrigger

theorem Steady.trigger {src} (h : Steady s t) : Steady s (Machine.trigger t src) := by
  unfold Machine.trigger
  exact h.triggerAt

/-! ### Encoders and the carriage loop -/

theorem Steady.onEnc {k f} (h : Steady s t) : Steady s (Machine.State.onEnc t k f) := by
  unfold Machine.State.onEnc
  exact h.update

theorem Steady.noteRest {k t'} (h : Steady s t) : Steady s (Machine.noteRest t k t') := by
  unfold Machine.noteRest
  exact h.onEnc

theorem Steady.encMove {k t' pos} (h : Steady s t) : Steady s (Machine.encMove t k t' pos) := by
  unfold Machine.encMove
  exact .ite h h.onEnc.noteRest

theorem Steady.atInstant {t' f} (h : Steady s t) (hf : ∀ u, Steady s u → Steady s (f u)) :
    Steady s (Machine.atInstant t t' f) := by
  unfold Machine.atInstant
  exact (hf _ h.update).update

/-! ### Tile management and undelivered frames -/

theorem Steady.onTile {n p f} (h : Steady s t) : Steady s (Machine.State.onTile t n p f) := by
  unfold Machine.State.onTile
  exact h.onChain

theorem Steady.mgmtSend {n p op addr data} (h : Steady s t) : Steady s (Machine.mgmtSend t n p op addr data) := by
  unfold Machine.mgmtSend
  exact h.linkSend.update

theorem Steady.mgmtRead {n p addr len} (h : Steady s t) : Steady s (Machine.mgmtRead t n p addr len) := by
  unfold Machine.mgmtRead
  exact h.mgmtSend

theorem Steady.mgmtAsk {w n p op addr data} (h : Steady s t) : Steady s (Machine.mgmtAsk t w n p op addr data) := by
  unfold Machine.mgmtAsk
  exact h.mgmtSend.update

theorem Steady.sendTelem {n} (h : Steady s t) : Steady s (Machine.sendTelem t n) := by
  unfold Machine.sendTelem
  exact h.mgmtSend

theorem Steady.applyLatency {n p d} (h : Steady s t) : Steady s (Machine.applyLatency t n p d) := by
  unfold Machine.applyLatency
  exact h.onTile.mgmtSend.andThen fun h => .ite h.raise h

theorem Steady.measureTile {n p rtt} (h : Steady s t) : Steady s (Machine.measureTile t n p rtt) := by
  unfold Machine.measureTile
  exact h.mgmtSend.applyLatency

theorem Steady.measureChain {n rtt} (h : Steady s t) : Steady s (Machine.measureChain t n rtt).1 := by
  unfold Machine.measureChain
  refine h.foldlFst fun _ _ h => ?_
  split
  · exact h
  · exact h.measureTile

theorem Steady.measureAll {rtt} (h : Steady s t) : Steady s (Machine.measureAll t rtt) := by
  unfold Machine.measureAll
  exact h.foldlFst fun _ _ h => .iteFst h.measureChain h

theorem Steady.linkFirst {k id data} (h : Steady s t) : Steady s (Machine.linkFirst t k id data) := by
  unfold Machine.linkFirst
  exact .ite h h.update.raise

theorem Steady.loseFrame {m n r} (h : Steady s t) : Steady s (Machine.loseFrame t m n r) := by
  unfold Machine.loseFrame
  exact h.loseRow.raiseLosses

theorem Steady.loseTile {m n p} (h : Steady s t) : Steady s (Machine.loseTile t m n p) := by
  unfold Machine.loseTile
  exact h.foldl fun _ _ h => h.loseFrame

theorem Steady.loseCells {m n p cells} (h : Steady s t) : Steady s (Machine.loseCells t m n p cells) := by
  unfold Machine.loseCells
  split
  · exact h
  · exact h.returnWords.onBuild

theorem Steady.beginLosses {m} (h : Steady s t) : Steady s (Machine.beginLosses t m) := by
  unfold Machine.beginLosses
  exact h.foldl fun _ _ h => h.foldl fun _ _ h => .ite h.loseTile h.loseCells

/-! ### The build of a line period -/

theorem Steady.doseCount {sub n} (h : Steady s t) : Steady s (Machine.doseCount t sub n) := by
  unfold Machine.doseCount
  exact h.pput

theorem Steady.fixGroup {key} (h : Steady s t) : Steady s (Machine.fixGroup t key) := by
  unfold Machine.fixGroup
  exact .ite h.onGroup.doseCount h.onGroup

theorem Steady.fixFactors {m} (h : Steady s t) : Steady s (Machine.fixFactors t m) := by
  unfold Machine.fixFactors
  exact h.foldl fun _ _ h => .ite (h.foldl (fun _ _ h => h.fixGroup)) h

theorem Steady.clearCarries {m} (h : Steady s t) : Steady s (Machine.clearCarries t m) := by
  unfold Machine.clearCarries
  exact .ite (h.update fun hm => memClear_wf hm _ _) h

theorem Steady.sendFrames {b} (h : Steady s t) : Steady s (Machine.sendFrames t b) := by
  unfold Machine.sendFrames
  exact h.foldl fun _ _ h => h.linkSend

theorem Steady.first {a : BuildAcc} {k id} (h : Steady s a.s) : Steady s (a.first k id).s := by
  unfold BuildAcc.first
  split
  · exact h
  · exact h.update

theorem Steady.tally {a : BuildAcc} {sub} (h : Steady s a.s) : Steady s (a.tally sub).s := h.doseCount

theorem Steady.buildCell {a n r c k e v delay last tPrev} (h : Steady s a.s) :
    Steady s (Machine.buildCell a n r c k e v delay last tPrev).1.s := by
  have hcarry {m e v} (hm : memWf m = true) : memWf (carrySet m e v) = true := memPuts_wf hm _ _
  unfold Machine.buildCell
  dsimp only
  split
  · split
    · exact (h.update hcarry).tally.first
    · exact h.update hcarry
  · split <;> split
    · exact (h.update hcarry).tally.first.tally.first
    · exact (h.update hcarry).tally.first
    · exact (h.update hcarry).tally.first
    · exact h.update hcarry

theorem Steady.buildPixel {a m n r c q delay tPrev} (h : Steady s a.s) :
    Steady s (Machine.buildPixel a m n r c q delay tPrev).1.s := by
  unfold Machine.buildPixel
  dsimp only
  split
  · exact h
  · split
    · exact h
    · exact h.buildCell

theorem Steady.buildRow {a m n r v tPrev} (h : Steady s a.s) : Steady s (Machine.buildRow a m n r v tPrev).1.s := by
  unfold Machine.buildRow
  generalize List.range 256 = cols
  refine Steady.foldlAt (fun p : BuildAcc × List WordRec => p.1.s) ?_ fun _ _ h => h.buildPixel
  split
  · exact h.tally.first
  · exact h

theorem Steady.buildPeriod {m} (h : Steady s t) : Steady s (Machine.buildPeriod t m) := by
  unfold Machine.buildPeriod
  generalize List.range 288 = rows
  extract_lets +onlyGivenNames v tPrev s1 s2 s3 lanes out
  have h3 : Steady s s3 := h.clearCarries.addReturned.addJoins.fixFactors
  clear_value s3
  have hout : Steady s out.1.s := by
    refine Steady.foldlAt (fun p : BuildAcc × List RowBuild => p.1.s) h3 fun _ _ h => ?_
    refine Steady.foldlAt (fun p : BuildAcc × List RowBuild => p.1.s) h fun _ _ h => ?_
    dsimp only at h ⊢
    exact h.buildRow
  clear_value out
  exact .foldl (.sendFrames hout.update) fun _ _ h => h.raise

theorem Steady.beginDeficits {m} (h : Steady s t) : Steady s (Machine.beginDeficits t m) := by
  unfold Machine.beginDeficits
  split
  · exact h
  · exact (h.foldl (fun _ _ h => .ite h.addDeficit.flagGroup h.addDeficit)).onBuild

/-! ### The emission monitor at a marker -/

theorem Steady.emonFirst {k id} (h : Steady s t) : Steady s (Machine.emonFirst t k id) := by
  unfold Machine.emonFirst
  exact .ite h h.update.raise

theorem Steady.creditCell {k c r e p pt} (h : Steady s t) : Steady s (Machine.creditCell t k c r e p pt) := by
  unfold Machine.creditCell
  exact h.onGroup

theorem Steady.sampleMissing {p n i t'} (h : Steady s t) : Steady s (Machine.sampleMissing t p n i t') := by
  unfold Machine.sampleMissing
  refine (h.foldl (fun _ _ h => ?_)).emonFirst
  split
  · exact h.flagGroup
  · exact h

theorem Steady.attributePd {b n i t'} (h : Steady s t) : Steady s (Machine.attributePd t b n i t') := by
  unfold Machine.attributePd
  dsimp only
  split
  · exact h.sampleMissing
  · exact .andThen (.ite h.emonFirst.trigger h) fun h => .ite h (h.foldl (fun _ _ h => by
      split
      · exact .ite h h.creditCell
      · exact h))

theorem Steady.attributePeriod {p} (h : Steady s t) : Steady s (Machine.attributePeriod t p) := by
  unfold Machine.attributePeriod
  split
  · exact h
  · exact h.foldl fun _ _ h => h.foldl fun _ _ h => .ite (h.foldl (fun _ _ h => h.attributePd)) h

theorem Steady.forgetPeriod {p} (h : Steady s t) : Steady s (Machine.forgetPeriod t p) := by
  unfold Machine.forgetPeriod
  exact h.update

theorem Steady.publishGroup {key} (h : Steady s t) : Steady s (Machine.publishGroup t key) := by
  unfold Machine.publishGroup
  exact .ite h (.andThen (.ite h.onGroup.trigger h.onGroup) (fun h => .ite h.emonFirst.trigger h))

theorem Steady.publishFactors {m} (h : Steady s t) : Steady s (Machine.publishFactors t m) := by
  unfold Machine.publishFactors
  exact h.foldl fun _ _ h => .ite (h.foldl (fun _ _ h => h.foldl (fun _ _ h => h.publishGroup))) h

theorem Steady.postDeficits {gs} (h : Steady s t) : Steady s (Machine.postDeficits t gs) := by
  unfold Machine.postDeficits
  exact .ite h (.ite h.update.raise (.ite h (.ite h.update.update.raise h.update)))

theorem Steady.closeNext (h : Steady s t) : Steady s (Machine.closeNext t) := by
  unfold Machine.closeNext
  exact h.closeRow.postDeficits

theorem Steady.closeDue {m fuel} (h : Steady s t) : Steady s (Machine.closeDue t m fuel) := by
  induction fuel generalizing t with
  | zero => exact h
  | succ fuel ih => exact .ite (ih h.closeNext) h

theorem Steady.monitorMarker {m} (h : Steady s t) : Steady s (Machine.monitorMarker t m) := by
  unfold Machine.monitorMarker
  exact .ite h h.attributePeriod.publishFactors.closeDue

theorem Steady.drainPass (h : Steady s t) : Steady s (Machine.drainPass t) := by
  unfold Machine.drainPass
  exact ((h.foldl (fun _ _ h => .ite h h.attributePeriod.publishFactors)).foldl (fun _ _ h => h.closeNext)).update

theorem Steady.learnUpdate (h : Steady s t) : Steady s (Machine.learnUpdate t) := by
  unfold Machine.learnUpdate
  exact .ite h ((h.update.foldlFst (fun _ _ h => h.poke)).andThen (fun h => .ite h.raise h))

theorem Steady.learnReset (h : Steady s t) : Steady s (Machine.learnReset t) := by
  unfold Machine.learnReset
  exact h.foldl fun _ _ h => h.poke

theorem Steady.streamRecord {b noBuffer} (h : Steady s t) : Steady s (Machine.streamRecord t b noBuffer) := by
  unfold Machine.streamRecord
  exact .ite h (.ite h.count.emonFirst h.make)

theorem Steady.capWrite {b} (h : Steady s t) : Steady s (Machine.capWrite t b) := by
  unfold Machine.capWrite
  exact h.poke.update

theorem Steady.capRecord {b} (h : Steady s t) : Steady s (Machine.capRecord t b) := by
  unfold Machine.capRecord
  refine .ite h ?_
  split
  · exact h.capWrite.update
  · exact .ite h.capWrite.update (.ite h.capWrite.update.capDone h.capWrite.update)
  · exact h

theorem Steady.lineRecords {p noBuffer} (h : Steady s t) : Steady s (Machine.lineRecords t p noBuffer) := by
  unfold Machine.lineRecords
  split
  · exact h
  · exact h.streamRecord.capRecord

/-! ### Arming, starting and closing a pass -/

theorem Steady.writeBillet {c ws} (h : Steady s t) : Steady s (Machine.writeBillet t c ws) := by
  unfold Machine.writeBillet
  exact h.poke

theorem Steady.applyBillet (h : Steady s t) : Steady s (Machine.applyBillet t) := by
  unfold Machine.applyBillet
  exact ((h.foldl (fun _ _ h => h.writeBillet)).foldl (fun _ _ h => h.writeBillet)).update

theorem Steady.armSequencer {d repair} (h : Steady s t) : Steady s (Machine.armSequencer t d repair) := by
  unfold Machine.armSequencer
  exact h.toPower.update

theorem Steady.armDose (h : Steady s t) : Steady s (Machine.armDose t) := by
  unfold Machine.armDose
  exact h.update.foldl fun _ _ h => h.pput

theorem Steady.armMonitor {repair} (h : Steady s t) : Steady s (Machine.armMonitor t repair) := by
  unfold Machine.armMonitor
  exact h.update.update

theorem Steady.armLink (h : Steady s t) : Steady s (Machine.armLink t) := by
  unfold Machine.armLink
  exact h.update

theorem Steady.armData (h : Steady s t) : Steady s (Machine.armData t) := by
  unfold Machine.armData
  exact h.update

theorem Steady.armCarriage (h : Steady s t) : Steady s (Machine.armCarriage t) := by
  unfold Machine.armCarriage
  exact .ite h.update.profDecel h.update.update

theorem Steady.armLayer {d repair rtt} (h : Steady s t) : Steady s (Machine.armLayer t d repair rtt) := by
  unfold Machine.armLayer
  exact .andThen (.armData (.armLink (.armMonitor (.armDose (.armSequencer (.armCarriage (.wakeChains
    (.ite h h.learnUpdate.applyBillet)))))))) fun h =>
    .andThen (.ite h.measureAll.raise h.measureAll) fun h => .andThen (.ite h.raise h) fun h => .ite h.raise h

theorem Steady.startLayer {short} (h : Steady s t) : Steady s (Machine.startLayer t short) := by
  unfold Machine.startLayer
  exact .ite h.update.update h.update

theorem Steady.restReached (h : Steady s t) : Steady s (Machine.restReached t) := by
  unfold Machine.restReached
  exact h.update.drainPass

theorem Steady.finishPass {rtt} (h : Steady s t) : Steady s (Machine.finishPass t rtt) := by
  unfold Machine.finishPass
  exact .andThen (.ite h h.drainPass) fun h => .ite h.commitRecord.armLayer h.commitRecord.toIdle

/-! ### Line markers -/

theorem Steady.lineMissing {k} (h : Steady s t) : Steady s (Machine.lineMissing t k) := by
  unfold Machine.lineMissing
  exact .ite h.lineAbsent.update.raise h.lineAbsent.update

theorem Steady.passLine {m} (h : Steady s t) : Steady s (Machine.passLine t m) := by
  unfold Machine.passLine
  exact .ite (.ite h.lineDone h.lineMissing) h

theorem Steady.inExpose {f} (h : Steady s t) (hf : ∀ u, Steady s u → Steady s (f u)) :
    Steady s (Machine.inExpose t f) := by
  unfold Machine.inExpose
  exact .ite (hf _ h) h

theorem Steady.stopAt {m} (h : Steady s t) : Steady s (Machine.stopAt t m) := by
  unfold Machine.stopAt
  dsimp only
  split
  · exact h.stopEmission
  · exact .ite h.stopEmission.cutRows.update h.stopEmission.cutRows

theorem Steady.sampleAt {m} (h : Steady s t) : Steady s (Machine.sampleAt t m) := by
  unfold Machine.sampleAt
  split
  · exact .enterRunOut (.ite h.takeAbort h)
  · refine .ite h (.ite ?_ (.update (.ite h.takeAbort h)))
    exact .inExpose (.passLine (.ite h.markAborted.update.takeAbort h.markAborted.update)) fun _ h =>
      h.stopAt.enterRunOut

theorem Steady.capRestart (h : Steady s t) : Steady s (Machine.capRestart t) := by
  unfold Machine.capRestart
  exact .ite h.update h

theorem Steady.passMarker {m} (h : Steady s t) : Steady s (Machine.passMarker t m) := by
  unfold Machine.passMarker
  exact .andThen (.ite h.update.onBuild.capRestart h.update.onBuild) fun h => .ite h.trigger h

theorem Steady.noteRate (h : Steady s t) : Steady s (Machine.noteRate t) := by
  unfold Machine.noteRate
  exact h.update

theorem Steady.checkSpeed (h : Steady s t) : Steady s (Machine.checkSpeed t) := by
  unfold Machine.checkSpeed
  exact .ite (.ite h.update.raise h.update) h.update

theorem Steady.shadowSample {m} (h : Steady s t) : Steady s (Machine.shadowSample t m) := by
  unfold Machine.shadowSample
  refine .ite h (.ite h.count ?_)
  split
  · exact h
  · split
    · exact h
    · exact h.count.poke.update

theorem Steady.markerBehind {m noBuffer} (h : Steady s t) : Steady s (Machine.markerBehind t m noBuffer) := by
  unfold Machine.markerBehind
  exact .ite h.monitorMarker h.monitorMarker.lineRecords.forgetPeriod

theorem Steady.beginPeriod {m} (h : Steady s t) : Steady s (Machine.beginPeriod t m) := by
  unfold Machine.beginPeriod
  exact (h.beginDeficits.shadowSample.inExpose (fun _ h => .ite h.buildPeriod h)).beginLosses

theorem Steady.exposeMarker {m noBuffer} (h : Steady s t) : Steady s (Machine.exposeMarker t m noBuffer) := by
  unfold Machine.exposeMarker
  exact h.takeSwap.noteRate.markerBehind.sampleCapStop
    |>.inExpose (fun _ h => h.sampleAt)
    |>.inExpose (fun _ h => h.passLine)
    |>.inExpose (fun _ h => .ite h.update h)
    |>.inExpose (fun _ h => .ite h.enterRunOut (h.checkSpeed.inExpose (fun _ h => h.beginPeriod)))

theorem Steady.firstMarker (h : Steady s t) : Steady s (Machine.firstMarker t) := by
  unfold Machine.firstMarker
  exact h.update.sendHeader

theorem Steady.runUpMarker {noBuffer} (h : Steady s t) : Steady s (Machine.runUpMarker t noBuffer) := by
  unfold Machine.runUpMarker
  dsimp only
  exact h.takeSwap.firstMarker.andThen fun h => by
    split
    · exact h.markAborted.enterRunOut
    · exact .ite (.exposeMarker (.emitOn (.update (.ite h.clearCarries h)))) h.markAborted.enterRunOut.raise

theorem Steady.strokeMissed (h : Steady s t) : Steady s (Machine.strokeMissed t) := by
  unfold Machine.strokeMissed
  exact h.firstMarker.markAborted.enterRunOut.raise

theorem Steady.preMarker (h : Steady s t) : Steady s (Machine.preMarker t) := by
  unfold Machine.preMarker
  exact h.update.takeSwap.buildPeriod

theorem Steady.runOutPass {m} (h : Steady s t) : Steady s (Machine.runOutPass t m) := by
  unfold Machine.runOutPass
  exact .ite h.update h

theorem Steady.markerPassed {m noBuffer} (h : Steady s t) : Steady s (Machine.markerPassed t m noBuffer) := by
  unfold Machine.markerPassed
  split
  · exact h.strokeMissed
  · exact h.runUpMarker
  · exact h.exposeMarker
  · exact h.runOutPass.markerBehind
  · exact h

theorem Steady.lineMarker {m noBuffer} (h : Steady s t) : Steady s (Machine.lineMarker t m noBuffer) := by
  unfold Machine.lineMarker
  refine .ite h ?_
  split
  · exact .ite h.passMarker.markerPassed h
  · exact .ite h.preMarker h.passMarker.markerPassed
  · exact .ite h h.passMarker.markerPassed
  · exact .ite h h.passMarker.markerPassed
  · exact h

/-! ### Changes of the billet map -/

theorem Steady.setWeights {c ws} (h : Steady s t) : Steady s (Machine.setWeights t c ws) := by
  unfold Machine.setWeights
  exact .ite h.writeBillet.update h.update

theorem Steady.billetChanged (h : Steady s t) : Steady s (Machine.billetChanged t) := by
  unfold Machine.billetChanged
  exact h.update

theorem Steady.reassign {r c} (h : Steady s t) : Steady s (Machine.reassign t r c) := by
  unfold Machine.reassign
  exact .ite h h.setWeights.billetChanged

theorem Steady.buildLane {n} (h : Steady s t) : Steady s (Machine.buildLane t n) := by
  unfold Machine.buildLane
  exact h.foldl fun _ _ h => h.setWeights

/-! ### User words and retirement -/

theorem Steady.setUserWord {cell w} (h : Steady s t) : Steady s (Machine.setUserWord t cell w) := by
  unfold Machine.setUserWord
  exact h.update

theorem Steady.makeDue {tile} (h : Steady s t) : Steady s (Machine.makeDue t tile) := by
  unfold Machine.makeDue
  exact .ite h.update h.update.update

theorem Steady.recordRetired {r c reason repl} (h : Steady s t) :
    Steady s (Machine.recordRetired t r c reason repl) := by
  unfold Machine.recordRetired
  exact h.gbRecord

theorem Steady.retireCell {r c reason} (h : Steady s t) : Steady s (Machine.retireCell t r c reason) := by
  unfold Machine.retireCell
  exact .ite h h.setUserWord.wear.reassign.recordRetired.markDirty

theorem Steady.retireInvalid {r c} (h : Steady s t) : Steady s (Machine.retireInvalid t r c) := by
  unfold Machine.retireInvalid
  exact .ite h.setUserWord h.retireCell

theorem Steady.placeWords {tile ws} (h : Steady s t) : Steady s (Machine.placeWords t tile ws) := by
  unfold Machine.placeWords
  exact h.foldl fun _ _ h => h.setUserWord

theorem Steady.unplace {tile serial} (h : Steady s t) : Steady s (Machine.unplace t tile serial) := by
  unfold Machine.unplace
  split
  · exact h
  · exact h.update

theorem Steady.swapSerial {tile serial} (h : Steady s t) : Steady s (Machine.swapSerial t tile serial) := by
  unfold Machine.swapSerial
  dsimp only
  refine .ite h ?_
  split
  · exact h.unplace.update.placeWords.pput
  · exact h.unplace.update.pput.pput.makeDue.markDirty

theorem Steady.calRead {n p} (h : Steady s t) : Steady s (Machine.calRead t n p) := by
  unfold Machine.calRead
  exact h.foldl fun _ _ h => h.mgmtRead

theorem Steady.calDiscovered {n p block} (h : Steady s t) : Steady s (Machine.calDiscovered t n p block) := by
  unfold Machine.calDiscovered
  exact .andThen (.ite h.swapSerial h.swapSerial.update.calRead.markDirty) fun h =>
    .ite h.update ((h.update.foldl (fun _ _ h => h.retireInvalid)).gbRecord)

theorem Steady.settleCal (h : Steady s t) : Steady s (Machine.settleCal t) := by
  unfold Machine.settleCal
  exact .ite h h.update

theorem Steady.abandonRun {cause} (h : Steady s t) : Steady s (Machine.abandonRun t cause) := by
  unfold Machine.abandonRun
  exact h.emitOff.update.gbRecord.settleCal

/-! ### How a command reaches its subsystem -/

theorem Steady.dequeue {op q} (h : Steady s t) : Steady s (Machine.dequeue t op q) := by
  unfold Machine.dequeue
  exact h.update

theorem Steady.enqueue {mb e} (h : Steady s t) : Steady s (Machine.enqueue t mb e) := by
  unfold Machine.enqueue
  exact h.update

theorem Steady.touchSession {mb} (h : Steady s t) : Steady s (Machine.touchSession t mb) := by
  unfold Machine.touchSession
  exact .ite h.update h

theorem Steady.arrive {op q} (h : Steady s t) : Steady s (Machine.arrive op q t) := by
  unfold Machine.arrive
  exact .ite h h.touchSession

theorem Answers.finish {w} {a : Answer} (h : Answers s a) : Steady s (Machine.finish w a) := by
  cases a with
  | now t st d => exact Steady.answer h
  | later t => exact h

theorem Goes.request {op q ok} {body : State → Waiting → Answer} (hb : ∀ u w, Steady s u → Answers s (body u w)) :
    Goes s (Machine.request op q s ok body) := by
  have h := (Steady.refl s).pass (dt := q.dt)
  unfold Machine.request
  dsimp only
  split
  · exact .next h
  · split
    · exact .next (.answer (.arrive (.ite h.count h)))
    · exact .next h
    · exact .next h.arrive.enqueue
    · exact .next (hb _ _ h.arrive.dequeue).finish

theorem Goes.event {dt cond f} (hf : ∀ u, Steady s u → Steady s (f u)) : Goes s (Machine.event dt s cond f) :=
  .next (.ite (hf _ (Steady.refl s).pass) (Steady.refl s).pass)

theorem Goes.clocked {dt cond f} (hf : ∀ u, Steady s u → Steady s (f u)) : Goes s (Machine.clocked dt s cond f) :=
  .event hf

theorem Steady.discardFrames {lane k} (h : Steady s t) : Steady s (Machine.discardFrames t lane k) := by
  unfold Machine.discardFrames
  exact h.update

theorem Goes.received {dt chain rx cond f} (hf : ∀ u, Steady s u → Steady s (f u)) :
    Goes s (Machine.received dt chain rx s cond f) :=
  .ite (.clocked hf) (.clocked fun _ h => h.discardFrames)

end

end Sys2Proof.Proofs.Architecture
end

section
/-!
PROOFS. Part 3 of the architecture family. The subsystems keep a steady state, and each command completes with one:
`Goes.f` for the command whose meaning is `f`.
-/

namespace Sys2Proof.Proofs.Architecture

open Sys2Proof.Machine Sys2Proof.Safety

-- Off, because every lemma's own thread reserves a stack: some hundred of them would pass the memory limit.
set_option Elab.async false

section
variable {s t u : State}

/-! ### Commands of the layer cycle -/

theorem Goes.execLayArm {q d rtt} : Goes s (Machine.execLayArm q d rtt s) := by
  unfold Machine.execLayArm
  exact .request fun _ _ h => .ite (.refuse h) (.done (.armLayer (.ite h.abandonRun h)))

theorem Goes.execLayStart {q} : Goes s (Machine.execLayStart q s) := by
  unfold Machine.execLayStart
  exact .request fun _ _ h => .ite (.refuse h) (.ite (.refuse h) (.done h.startLayer))

theorem Steady.repeatStart (h : Steady s t) : Steady s (Machine.repeatStart t) := by
  unfold Machine.repeatStart
  exact h.send.freeTaken

theorem Steady.emitStart (h : Steady s t) : Steady s (Machine.emitStart t) := by
  unfold Machine.emitStart
  split
  · exact .ite h.send.update h.repeatStart
  · exact h.repeatStart

theorem Goes.execStagelineStartMarker {dt} : Goes s (Machine.execStagelineStartMarker dt s) := by
  unfold Machine.execStagelineStartMarker
  exact .event fun _ h => .ite h.emitStart.startLayer h.emitStart

theorem Goes.execDoseRingPrimed {dt} : Goes s (Machine.execDoseRingPrimed dt s) := by
  unfold Machine.execDoseRingPrimed
  exact .clocked fun _ h => h.startLayer

theorem Steady.armAbort {w atTime} (h : Steady s t) : Steady s (Machine.armAbort t w atTime) := by
  unfold Machine.armAbort
  exact h.update

theorem Steady.lateAbort {w} (h : Steady s t) : Steady s (Machine.lateAbort t w) := by
  unfold Machine.lateAbort
  exact .ite h h.update

theorem Goes.execLayAbort {q atTime} : Goes s (Machine.execLayAbort q atTime s) := by
  unfold Machine.execLayAbort
  refine .request fun _ _ h => ?_
  split
  · exact .refuse h
  · exact .now h.lateAbort
  · exact .now h.lateAbort
  · exact .ite (.refuse h) (.later h.armAbort.sampleEarly)

theorem Goes.execLayStatus {q} : Goes s (Machine.execLayStatus q s) := by
  unfold Machine.execLayStatus
  exact .request fun _ _ h => .now (.ite h h.freeTaken)

theorem Goes.execLayRecordGet {q layerNo repair} : Goes s (Machine.execLayRecordGet q layerNo repair s) := by
  unfold Machine.execLayRecordGet
  refine .request fun _ _ h => .ite (.refuse h) ?_
  split
  · exact .now h
  · exact .refuse h

theorem Goes.execLineMarker {dt m noBuffer} : Goes s (Machine.execLineMarker dt m noBuffer s) := by
  unfold Machine.execLineMarker
  exact .clocked fun _ h => h.atInstant fun _ h => h.lineMarker

theorem Goes.execCarriageStall {dt} : Goes s (Machine.execCarriageStall dt s) := by
  unfold Machine.execCarriageStall
  exact .event fun _ h => h.raise.inExpose fun _ h => .ite h.sampleAt h

theorem Goes.execRunupTimeout {dt rtt} : Goes s (Machine.execRunupTimeout dt rtt s) := by
  unfold Machine.execRunupTimeout
  exact .event fun _ h => .ite h.markAborted.enterRunOut.raise h.raise.finishPass

theorem Goes.execFollowerAtRest {dt} : Goes s (Machine.execFollowerAtRest dt s) := by
  unfold Machine.execFollowerAtRest
  exact .event fun _ h => h.restReached

theorem Goes.execRunOutDone {dt rtt} : Goes s (Machine.execRunOutDone dt rtt s) := by
  unfold Machine.execRunOutDone
  exact .event fun _ h => h.finishPass

theorem Goes.execRepairLineBuilt {dt line} : Goes s (Machine.execRepairLineBuilt dt line s) := by
  unfold Machine.execRepairLineBuilt
  exact .event fun _ h => .completeLine (.ite h h.poke)

/-! ### The servo engine at a base tick -/

theorem Steady.latchSetPoints (h : Steady s t) : Steady s (Machine.latchSetPoints t) := by
  unfold Machine.latchSetPoints
  exact h.update

theorem Steady.destPut {d y} (h : Steady s t) : Steady s (Machine.destPut t d y) := by
  unfold Machine.destPut
  split
  · exact h.onDrive
  · exact h.onDrive
  · exact h.onHeater
  · exact h

theorem Steady.applyOut {n} (h : Steady s t) : Steady s (Machine.applyOut t n) := by
  unfold Machine.applyOut
  split
  · exact h.destPut.destPut
  · exact h.destPut

theorem Steady.slotStart {n want} (h : Steady s t) : Steady s (Machine.slotStart t n want) := by
  unfold Machine.slotStart
  exact h.onSlot

theorem Steady.settleServoConds (h : Steady s t) : Steady s (Machine.settleServoConds t) := by
  unfold Machine.settleServoConds
  exact .ite (.clearCond (.ite (.clearCond (.ite h.clearCond h)) (.ite h.clearCond h)))
    (.ite (.clearCond (.ite h.clearCond h)) (.ite h.clearCond h))

theorem Steady.slotOff {n} (h : Steady s t) : Steady s (Machine.slotOff t n) := by
  unfold Machine.slotOff
  exact .andThen (.ite h.onSlot.update h.onSlot) fun h => .settleServoConds (.ite h.onHeater h)

theorem Steady.ssiTick {k} (h : Steady s t) : Steady s (Machine.ssiTick t k) := by
  unfold Machine.ssiTick
  refine .andThen ?_ fun h => .ite h.onEnc h
  split
  · exact .ite (.onEnc (.ite h.encMove.clearCond h.encMove)) h
  · exact h

theorem Steady.latchEnc {k} (h : Steady s t) : Steady s (Machine.latchEnc t k) := by
  unfold Machine.latchEnc
  split
  · exact h.onEnc
  · exact h.ssiTick
  · exact h.onEnc

theorem Steady.encLost {k cause} (h : Steady s t) : Steady s (Machine.encLost t k cause) := by
  unfold Machine.encLost
  dsimp only
  exact (h.onEnc.foldl (fun _ _ h => h.onSlot)).andThen fun h => by
    split
    · exact h.raise.endTest.raise
    · exact h.raise

theorem Steady.freezeSlot {n} (h : Steady s t) : Steady s (Machine.freezeSlot t n) := by
  unfold Machine.freezeSlot
  exact h.onSlot.foldl fun _ _ h => h.encLost

theorem Steady.freezeFollower (h : Steady s t) : Steady s (Machine.freezeFollower t) := by
  unfold Machine.freezeFollower
  exact .ite h.onEnc (.ite h.onEnc.encLost h.onEnc)

theorem Steady.observerEnd {n} (h : Steady s t) : Steady s (Machine.observerEnd t n) := by
  unfold Machine.observerEnd
  exact (h.foldl (fun _ _ h => h.driveDisable)).andThen fun h => .ite h.restReached h

theorem Steady.testTick {n e ffv} (h : Steady s t) : Steady s (Machine.testTick t n e ffv) := by
  unfold Machine.testTick
  split
  · exact .ite h.update h
  · exact .ite h (.ite h.endTest (.andThen (.ite h.poke h) (fun h => .ite h.update.endTest h.update)))

theorem Steady.checkFollow {n} (h : Steady s t) : Steady s (Machine.checkFollow t n) := by
  unfold Machine.checkFollow
  exact .ite h.raise h

theorem Steady.checkSkew {n} (h : Steady s t) : Steady s (Machine.checkSkew t n) := by
  unfold Machine.checkSkew
  exact .ite h.raise h

theorem Steady.observerTick {n o} (h : Steady s t) : Steady s (Machine.observerTick t n o) := by
  unfold Machine.observerTick
  exact h.onSlot.applyOut.testTick.andThen fun h => .settleServoConds (.ite h.observerEnd h)

theorem Steady.runLaw {n} (h : Steady s t) : Steady s (Machine.runLaw t n) := by
  unfold Machine.runLaw
  exact h.onSlot.applyOut.testTick

theorem Steady.heaterInvalid {n} (h : Steady s t) : Steady s (Machine.heaterInvalid t n) := by
  unfold Machine.heaterInvalid
  exact h.onSlot.applyOut.andThen fun h => .ite h.testTick.raise h.testTick

theorem Steady.noteInPos {n} (h : Steady s t) : Steady s (Machine.noteInPos t n) := by
  unfold Machine.noteInPos
  exact .ite h h.update

theorem Steady.slotTick {n} (h : Steady s t) : Steady s (Machine.slotTick t n) := by
  unfold Machine.slotTick
  dsimp only
  split
  · exact h.freezeSlot.observerTick
  · refine .ite h.freezeSlot.heaterInvalid (.settleServoConds (.checkSkew (.checkFollow (.noteInPos (.runLaw ?_)))))
    exact .ite h.freezeSlot.onSlot.slotStart h.freezeSlot

theorem Steady.takeMove (h : Steady s t) : Steady s (Machine.takeMove t) := by
  unfold Machine.takeMove
  split
  · exact h
  · exact h.update

theorem Steady.takeStop (h : Steady s t) : Steady s (Machine.takeStop t) := by
  unfold Machine.takeStop
  split
  · exact h
  · exact .ite h.update.profDecel.answer h.update.answer

theorem Steady.takeTables (h : Steady s t) : Steady s (Machine.takeTables t) := by
  unfold Machine.takeTables
  exact h.update (memWf_foldl (fun _ _ hm => memPuts_wf hm _ _) _)

theorem Steady.takeCommits (h : Steady s t) : Steady s (Machine.takeCommits t) := by
  unfold Machine.takeCommits
  exact h.update

theorem Steady.baseTick (h : Steady s t) : Steady s (Machine.baseTick t) := by
  unfold Machine.baseTick
  exact h.takeTables.foldl (fun _ _ h => h.latchEnc)
    |>.takeMove.takeStop.latchSetPoints.takeCommits.freezeFollower
    |>.foldl (fun _ _ h => .ite h.slotTick h)

/-! ### The drive channels -/

theorem Steady.driveRaise {k id cond} (h : Steady s t) : Steady s (Machine.driveRaise t k id cond) := by
  unfold Machine.driveRaise
  exact h.update.raise

theorem Steady.speedDemand {k} (h : Steady s t) : Steady s (Machine.speedDemand t k) := by
  unfold Machine.speedDemand
  exact .ite h.onDrive h.onDrive.onDrive.onDrive

theorem Steady.fluxStep {k ia ib} (h : Steady s t) : Steady s (Machine.fluxStep t k ia ib) := by
  unfold Machine.fluxStep
  exact h.onDrive

theorem Steady.forceStep {k ia ib} (h : Steady s t) : Steady s (Machine.forceStep t k ia ib) := by
  unfold Machine.forceStep
  exact h.onDrive

theorem Steady.keepAngle {k} (h : Steady s t) : Steady s (Machine.keepAngle t k) := by
  unfold Machine.keepAngle
  exact h.onDrive

theorem Steady.speedStep {k} (h : Steady s t) : Steady s (Machine.speedStep t k) := by
  unfold Machine.speedStep
  exact h.onDrive

theorem Steady.compare {k tref} (h : Steady s t) : Steady s (Machine.compare t k tref) := by
  unfold Machine.compare
  exact h.onDrive

theorem Steady.applyVector {k} (h : Steady s t) : Steady s (Machine.applyVector t k) := by
  unfold Machine.applyVector
  exact h.onDrive

theorem Steady.setOffset {k leg v src} (h : Steady s t) : Steady s (Machine.setOffset t k leg v src) := by
  unfold Machine.setOffset
  exact h.onDrive

theorem Steady.closeLeg {k leg sum n} (h : Steady s t) : Steady s (Machine.closeLeg t k leg sum n) := by
  unfold Machine.closeLeg
  exact .ite h.count.driveRaise h.setOffset

theorem Steady.trackStep {k came xs} (h : Steady s t) : Steady s (Machine.trackStep t k came xs) := by
  unfold Machine.trackStep
  dsimp only
  split
  · exact h.onDrive
  · exact .ite h.onDrive (.ite ((h.foldl (fun _ _ h => h.closeLeg)).onDrive) h.onDrive)

theorem Steady.driveOn {k st vec} (h : Steady s t) : Steady s (Machine.driveOn t k st vec) := by
  unfold Machine.driveOn
  exact h.onDrive.driveConds

theorem Steady.driveFree {k st} (h : Steady s t) : Steady s (Machine.driveFree t k st) := by
  unfold Machine.driveFree
  exact h.onDrive.driveConds

theorem Steady.enterCatch {k} (h : Steady s t) : Steady s (Machine.enterCatch t k) := by
  unfold Machine.enterCatch
  exact h.driveFree.count

theorem Steady.enterRun {k phase rising f} (h : Steady s t) : Steady s (Machine.enterRun t k phase rising f) := by
  unfold Machine.enterRun
  exact h.driveOn.onDrive

theorem Steady.loseMotor {k} (h : Steady s t) : Steady s (Machine.loseMotor t k) := by
  unfold Machine.loseMotor
  exact h.count.driveFree.andThen fun h =>
    .ite h.onDrive.driveRaise.driveFault.onDrive.driveRaise h.onDrive.driveRaise

theorem Steady.checkBus {k vbus} (h : Steady s t) : Steady s (Machine.checkBus t k vbus) := by
  unfold Machine.checkBus
  exact h.onDrive.driveConds.andThen fun h => .andThen (.ite h.driveRaise h) fun h => .ite h.driveRaise h

theorem Steady.drivenDecision {k avgs ia ib} (h : Steady s t) : Steady s (Machine.drivenDecision t k avgs ia ib) := by
  unfold Machine.drivenDecision
  exact .andThen (.applyVector (.onDrive (.compare (.onDrive (.speedStep (.ite h.forceStep h.fluxStep))))))
    fun h => .ite h.trackStep h

theorem Steady.drivenExit {k kept} (h : Steady s t) : Steady s (Machine.drivenExit t k kept) := by
  unfold Machine.drivenExit
  exact .ite (.ite h.driveOn h) (.ite h (.ite h.driveFree (.ite h (.ite h.onDrive.loseMotor h.onDrive))))

theorem Steady.sampledDecision {k avgs} (h : Steady s t) : Steady s (Machine.sampledDecision t k avgs) := by
  unfold Machine.sampledDecision
  exact .ite (h.onDrive.count.andThen (fun h => .drivenExit (.keepAngle (.ite h.driveRaise h))))
    h.onDrive.drivenDecision.drivenExit

theorem Steady.chopStep {k avgs} (h : Steady s t) : Steady s (Machine.chopStep t k avgs) := by
  unfold Machine.chopStep
  exact h.onDrive

theorem Steady.idleDecision {k} (h : Steady s t) : Steady s (Machine.idleDecision t k) := by
  unfold Machine.idleDecision
  exact .ite (.ite h.driveOn h) (.ite h.enterCatch h)

theorem Steady.decision {k avgs vbus} (h : Steady s t) : Steady s (Machine.decision t k avgs vbus) := by
  unfold Machine.decision
  exact h.latchDrive.checkBus.andThen fun h => .ite (.ite h.chopStep h) (.ite h.speedDemand.driveFault (by
    split
    · exact h.speedDemand.idleDecision
    · exact .ite h.speedDemand h.speedDemand.driveFree
    · exact .ite h.speedDemand h.speedDemand.driveFree
    · exact .ite h.speedDemand.chopStep h.speedDemand.driveFree
    · exact .ite h.speedDemand.sampledDecision h.speedDemand.driveFree
    · exact h.speedDemand.sampledDecision
    · exact h.speedDemand
    · exact h.speedDemand
    · exact h.speedDemand))

theorem Steady.catchCross {k phase rising} (h : Steady s t) : Steady s (Machine.catchCross t k phase rising) := by
  unfold Machine.catchCross
  dsimp only
  split
  · exact h.onDrive
  · exact .ite h.onDrive.driveOn (.ite h.onDrive.enterRun.onDrive h.onDrive.driveOn.onDrive)

theorem Steady.startFail {k} (h : Steady s t) : Steady s (Machine.startFail t k) := by
  unfold Machine.startFail
  exact .ite h.driveFault.onDrive.driveRaise h.driveFree.onDrive

theorem Steady.startCross {k phase rising} (h : Steady s t) : Steady s (Machine.startCross t k phase rising) := by
  unfold Machine.startCross
  exact .ite h (.ite h.onDrive.enterRun.onDrive h.onDrive)

theorem Steady.sixStep {k} (h : Steady s t) : Steady s (Machine.sixStep t k) := by
  unfold Machine.sixStep
  exact .ite h.onDrive.startFail h.onDrive.onDrive

/-! ### The stepper axes -/

theorem Steady.putPos {u' ps} (h : Steady s t) : Steady s (Machine.putPos t u' ps) := by
  unfold Machine.putPos
  exact h.foldl fun _ _ h => h.onAxis

theorem Steady.beginMove {u'} (h : Steady s t) : Steady s (Machine.beginMove t u') := by
  unfold Machine.beginMove
  split
  · exact h
  · exact h.onUnit

theorem Steady.homeMove {k target v} (h : Steady s t) : Steady s (Machine.homeMove t k target v) := by
  unfold Machine.homeMove
  exact h.onUnit

theorem Steady.homeBegin {k} (h : Steady s t) : Steady s (Machine.homeBegin t k) := by
  unfold Machine.homeBegin
  dsimp only
  split
  · exact h.onAxis.homeMove
  · exact h.onAxis.onAxis.homeMove
  · exact h.onAxis.homeMove
  · exact h.onAxis.homeMove
  · exact h.onAxis.homeMove

theorem Steady.homeNext {k step} (h : Steady s t) : Steady s (Machine.homeNext t k step) := by
  unfold Machine.homeNext
  exact h.onAxis

theorem Steady.homeFail {k} (h : Steady s t) : Steady s (Machine.homeFail t k) := by
  unfold Machine.homeFail
  exact h.homeNext

theorem Steady.homeLost {k} (h : Steady s t) : Steady s (Machine.homeLost t k) := by
  unfold Machine.homeLost
  exact h.homeFail.raise

theorem Steady.unitRest {u'} (h : Steady s t) : Steady s (Machine.unitRest t u') := by
  unfold Machine.unitRest
  dsimp only
  split
  · exact .onUnit (.ite h.onUnit.beginMove h.onUnit)
  · exact h.onUnit.onUnit

theorem Steady.commitMove {u' past} (h : Steady s t) : Steady s (Machine.commitMove t u' past) := by
  unfold Machine.commitMove
  dsimp only
  split
  · exact h.putPos.onUnit
  · split
    · exact h.putPos.beginMove.onUnit.putPos
    · exact h.putPos.beginMove.onUnit

theorem Steady.runProfile {u' acc} (h : Steady s t) : Steady s (Machine.runProfile t u' acc).1 := by
  unfold Machine.runProfile
  refine .iteFst h.onUnit ?_
  split
  · exact h.onUnit.putPos
  · exact h.onUnit

theorem Steady.moveEval {u'} (h : Steady s t) : Steady s (Machine.moveEval t u') := by
  unfold Machine.moveEval
  dsimp only
  split
  · exact h
  · split
    · next e =>
      exact (Steady.runProfile (.ite h.onUnit h)).fstEq e |>.andThen fun h =>
        .ite h.onUnit.commitMove h.commitMove
    · next e => exact (Steady.runProfile (.ite h.onUnit h)).fstEq e |>.andThen fun h => .ite h.onUnit.commitMove h

theorem Steady.stopEval {u' a} (h : Steady s t) : Steady s (Machine.stopEval t u' a).1 := by
  unfold Machine.stopEval
  dsimp only
  split
  · exact h
  · split
    · next e =>
      have h := h.runProfile.fstEq e
      split
      · exact h.onUnit.commitMove
      · split
        · dsimp only
          split
          · exact h.putPos
          · exact h
        · exact h.commitMove
    · next e => exact h.runProfile.fstEq e

theorem Steady.homeAtRest {k} (h : Steady s t) : Steady s (Machine.homeAtRest t k) := by
  unfold Machine.homeAtRest
  refine .ite h.onUnit.homingOff (.ite h.homeBegin ?_)
  split
  · exact .ite h.homeLost (.ite h h.onAxis.homeBegin)
  · exact h.onUnit.onAxis
  · exact h

theorem Steady.homeEval {k} (h : Steady s t) : Steady s (Machine.homeEval t k) := by
  unfold Machine.homeEval
  dsimp only
  split
  · exact h.homeAtRest
  · split
    · split
      · next e => exact (h.stopEval.fstEq e).onUnit.homeAtRest
      · next e => exact h.stopEval.fstEq e
    · exact h.moveEval.andThen fun h => .ite h.homeLost (.ite h.homeAtRest h)

theorem Steady.runEval {u'} (h : Steady s t) : Steady s (Machine.runEval t u') := by
  unfold Machine.runEval
  exact .andThen (.ite h.beginMove h) fun h => .ite h.moveEval.onUnit h.moveEval

theorem Steady.sampleStop {u'} (h : Steady s t) : Steady s (Machine.sampleStop t u') := by
  unfold Machine.sampleStop
  dsimp only
  split
  · exact h
  · split
    · exact h.onUnit.unitStop.answer
    · exact h.onUnit.unitStop.answer
    · exact h.onUnit.answer
    · exact h.onUnit.answer

theorem Steady.unitEval {u'} (h : Steady s t) : Steady s (Machine.unitEval t u') := by
  have h := (h.sampleStop (u' := u')).onUnit (u' := u') (f := fun x => { x with doneNow := false })
  unfold Machine.unitEval
  dsimp only
  split
  · exact h.runEval
  · split
    · next e => exact (h.stopEval.fstEq e).unitRest
    · next e => exact h.stopEval.fstEq e
  · exact h.homeEval
  · exact h

theorem Steady.limitTrip {k} (h : Steady s t) : Steady s (Machine.limitTrip t k) := by
  unfold Machine.limitTrip
  exact .raise (.ite h.onUnit.homingOff h.onUnit)

theorem Steady.limitSample {k i} (h : Steady s t) : Steady s (Machine.limitSample t k i) := by
  unfold Machine.limitSample
  exact .ite h (.ite h (.ite (.ite h.homeLost h.onAxis.homeNext) (.ite h (.ite h (.ite h.limitTrip h)))))

theorem Steady.homeSample {k} (h : Steady s t) : Steady s (Machine.homeSample t k) := by
  unfold Machine.homeSample
  exact .ite h.homeNext h

theorem Steady.swEdge {k i level} (h : Steady s t) : Steady s (Machine.swEdge t k i level) := by
  unfold Machine.swEdge
  exact .ite (h.onAxis.onAxis.count.andThen (fun h => .raise (.ite h.homeFail h))) h.onAxis

theorem Steady.swSample {k levels} (h : Steady s t) : Steady s (Machine.swSample t k levels) := by
  unfold Machine.swSample
  exact (h.foldl (fun _ _ h => .ite h h.swEdge)).limitSample.limitSample.homeSample

theorem Steady.swQualify {k i} (h : Steady s t) : Steady s (Machine.swQualify t k i) := by
  unfold Machine.swQualify
  exact .ite h.onAxis (.ite h.onAxis.homeNext (.ite h.onAxis.onAxis.onUnit.homeNext h.onAxis))

theorem Steady.pwmStep {k vbus} (h : Steady s t) : Steady s (Machine.pwmStep t k vbus) := by
  unfold Machine.pwmStep
  exact h.onAxis

/-! ### The housekeeping round -/

theorem Steady.hkSet {i e} (h : Steady s t) : Steady s (Machine.hkSet t i e) := by
  unfold Machine.hkSet
  exact h.update

theorem Steady.onEdge {id data now} (h : Steady s t) : Steady s (Machine.onEdge t id data now) := by
  unfold Machine.onEdge
  exact .ite h.raise (.ite h.clearCond h)

theorem Steady.keepGood {c v} (h : Steady s t) : Steady s (Machine.keepGood t c v) := by
  unfold Machine.keepGood
  exact h.update

theorem Steady.pubChamber {ds c} (h : Steady s t) : Steady s (Machine.pubChamber ds t c) := by
  unfold Machine.pubChamber
  exact .ite h.hkSet (.ite h.hkSet.keepGood (.ite h.hkSet h.hkSet.raise))

theorem Steady.chamberConds (h : Steady s t) : Steady s (Machine.chamberConds t) := by
  unfold Machine.chamberConds
  exact .andThen (.ite h h.clearCond) fun h => .ite h h.clearCond

theorem Steady.pubTile {k es came} (h : Steady s t) : Steady s (Machine.pubTile t k es came) := by
  unfold Machine.pubTile
  exact .ite (.ite h.hkSet.raise h.hkSet) (h.hkSet.foldl (fun _ _ h => .ite h.update.raise h))

theorem Steady.pubTiles (h : Steady s t) : Steady s (Machine.pubTiles t) := by
  unfold Machine.pubTiles
  exact (h.foldl (fun _ _ h => h.pubTile)).andThen fun h => .ite h h.clearCond

theorem Steady.pubInternal {i v} (h : Steady s t) : Steady s (Machine.pubInternal t i v) := by
  unfold Machine.pubInternal
  exact h.hkSet

theorem Steady.onLine {l f} (h : Steady s t) : Steady s (Machine.State.onLine t l f) := by
  unfold Machine.State.onLine
  exact h.update

theorem Steady.loseLine {l} (h : Steady s t) : Steady s (Machine.loseLine t l) := by
  unfold Machine.loseLine
  exact h.onLine.update.raise

theorem Steady.pubLine {xs l} (h : Steady s t) : Steady s (Machine.pubLine xs t l) := by
  unfold Machine.pubLine
  exact .hkSet (.hkSet
    (.ite h.onLine (.andThen (.ite h.onLine.onLine.raise h.onLine.onLine) (fun h => .ite h.loseLine h))))

theorem Steady.pubDie {xs k} (h : Steady s t) : Steady s (Machine.pubDie xs t k) := by
  unfold Machine.pubDie
  split
  · exact h.pubInternal
  · exact .ite h.pubInternal.hkSet h.pubInternal.hkSet.update.raise

theorem Steady.criticalStop {entered} (h : Steady s t) : Steady s (Machine.criticalStop t entered) := by
  unfold Machine.criticalStop
  exact .ite h.update.raise (.ite h.update.raise h.update)

theorem Steady.bandConds {b} (h : Steady s t) : Steady s (Machine.bandConds t b) := by
  unfold Machine.bandConds
  exact .andThen (.ite h.clearCond h) fun h => .andThen (.ite h.clearCond h) fun h =>
    .andThen (.ite h.clearCond.clearCond h) fun h => .ite h.clearCond h

theorem Steady.thermUpdate (h : Steady s t) : Steady s (Machine.thermUpdate t) := by
  unfold Machine.thermUpdate
  exact .andThen (.ite h.update.update.bandConds.raise h.update.update.bandConds) fun h =>
    .andThen (.ite h.raise h) fun h => .andThen (.ite h.raise h) fun h => .onEdge (.ite h.criticalStop h)

theorem Steady.cutHeater {k} (h : Steady s t) : Steady s (Machine.cutHeater t k) := by
  unfold Machine.cutHeater
  exact .ite h.onHeater.raise h

theorem Steady.traceRound {inp} (h : Steady s t) : Steady s (Machine.traceRound t inp) := by
  unfold Machine.traceRound
  split
  · exact h
  · exact h.update

theorem Steady.publishRound {inp} (h : Steady s t) : Steady s (Machine.publishRound t inp) := by
  unfold Machine.publishRound
  exact h.foldl (fun _ _ h => h.pubChamber)
    |>.chamberConds.pubTiles
    |>.foldl (fun _ _ h => h.pubDie)
    |>.foldl (fun _ _ h => h.pubInternal)
    |>.pubInternal.pubInternal.pubInternal.pubInternal
    |>.foldl (fun _ _ h => h.pubLine)
    |>.andThen fun h => .andThen (.ite h h.clearCond) fun h =>
    .thermUpdate (.foldl (.update (.traceRound (.ite h.clearCond h))) (fun _ _ h => h.cutHeater))

theorem Steady.heaterSync {k} (h : Steady s t) : Steady s (Machine.heaterSync t k) := by
  unfold Machine.heaterSync
  exact h.onHeater

theorem Steady.burstFire {k positive} (h : Steady s t) : Steady s (Machine.burstFire t k positive) := by
  unfold Machine.burstFire
  exact h.onHeater

theorem Steady.crossHeater {l positive k} (h : Steady s t) : Steady s (Machine.crossHeater l positive t k) := by
  unfold Machine.crossHeater
  exact .ite h (.ite h.heaterSync.burstFire h.heaterSync)

theorem Steady.pwmPeriod {k} (h : Steady s t) : Steady s (Machine.pwmPeriod t k) := by
  unfold Machine.pwmPeriod
  exact h.heaterSync.onHeater

/-! ### The live table and measurement runs -/

theorem Steady.writeSet {b tile k a} (h : Steady s t) : Steady s (Machine.writeSet b tile k t a) := by
  unfold Machine.writeSet
  exact h.poke.poke

theorem Steady.writeSets {tile k} (h : Steady s t) : Steady s (Machine.writeSets t tile k) := by
  unfold Machine.writeSets
  exact h.foldl fun _ _ h => h.writeSet

theorem Steady.restoreSets (h : Steady s t) : Steady s (Machine.restoreSets t) := by
  unfold Machine.restoreSets
  dsimp only
  refine h.update.foldl fun _ _ h => ?_
  split
  · exact h.writeSet
  · exact h

theorem Steady.refreshSets {tile} (h : Steady s t) : Steady s (Machine.refreshSets t tile) := by
  unfold Machine.refreshSets
  split
  · exact h.writeSets
  · exact h

theorem Goes.execBracketLoad {dt chain pos} : Goes s (Machine.execBracketLoad dt chain pos s) := by
  unfold Machine.execBracketLoad
  exact .event fun _ h => h.update.writeSets

theorem Steady.rebuildTile {base tile} (h : Steady s t) : Steady s (Machine.rebuildTile base t tile) := by
  unfold Machine.rebuildTile
  exact h.foldl fun _ _ h => h.poke

theorem Steady.rebuildPds {tile} (h : Steady s t) : Steady s (Machine.rebuildPds t tile) := by
  unfold Machine.rebuildPds
  exact h.foldl fun _ _ h => h.poke

theorem Steady.rebuildTable (h : Steady s t) : Steady s (Machine.rebuildTable t) := by
  unfold Machine.rebuildTable
  exact ((h.update fun hm => memClear_wf hm _ _).foldl fun _ _ h => h.rebuildTile).andThen fun h =>
    .ite (h.foldl fun _ _ h => h.rebuildPds) h

theorem Steady.requestSwap (h : Steady s t) : Steady s (Machine.requestSwap t) := by
  unfold Machine.requestSwap
  split
  · exact h.update
  · exact h.update
  · exact h.swapLive

theorem Steady.judgeDrift {tile} (h : Steady s t) : Steady s (Machine.judgeDrift t tile) := by
  unfold Machine.judgeDrift
  exact .ite (.ite h h.update.gbRecord) (.ite (.ite h.update h.update.makeDue.update) (.ite h.update.update h.update))

theorem Steady.retireReported (h : Steady s t) : Steady s (Machine.retireReported t) := by
  unfold Machine.retireReported
  exact h.update.foldl fun _ _ h => h.retireCell

theorem Goes.execLiveTableRebuild {dt} : Goes s (Machine.execLiveTableRebuild dt s) := by
  unfold Machine.execLiveTableRebuild
  exact .event fun _ h =>
    (h.retireReported.restoreSets.rebuildTable.requestSwap.foldl (fun _ _ h => h.judgeDrift)).settleCal

theorem Steady.wakeLanes (h : Steady s t) : Steady s (Machine.wakeLanes t) := by
  unfold Machine.wakeLanes
  exact .emitOn (.ite h.wakeChains.toPower h)

theorem Steady.sleepLanes (h : Steady s t) : Steady s (Machine.sleepLanes t) := by
  unfold Machine.sleepLanes
  exact .ite h.emitOff.idlePower h.emitOff

theorem Goes.execCalibrationBurstStart {dt} : Goes s (Machine.execCalibrationBurstStart dt s) := by
  unfold Machine.execCalibrationBurstStart
  exact .event fun _ h => h.wakeLanes.update

theorem Steady.sendTiles {tiles fs} (h : Steady s t) : Steady s (Machine.sendTiles t tiles fs) := by
  unfold Machine.sendTiles
  exact h.foldl fun _ _ h => h.linkSend

theorem Steady.sendMarks {tiles period} (h : Steady s t) : Steady s (Machine.sendMarks t tiles period) := by
  unfold Machine.sendMarks
  exact h.foldl fun _ _ h => h.linkSend

theorem Steady.sendPeriod {r} (h : Steady s t) : Steady s (Machine.sendPeriod t r) := by
  unfold Machine.sendPeriod
  exact h.sendTiles.sendMarks

theorem Steady.burstReport {n p period fired} (h : Steady s t) :
    Steady s (Machine.burstReport t n p period fired) := by
  unfold Machine.burstReport
  exact h.count.update

theorem Goes.execCalibrationPeriod {dt samples} : Goes s (Machine.execCalibrationPeriod dt samples s) := by
  unfold Machine.execCalibrationPeriod
  refine .clocked fun _ h => ?_
  split
  · exact h
  · exact h.sendPeriod.update.andThen fun h => .ite h h.update.sleepLanes

theorem Goes.execCalibrationRunEnd {dt cause} : Goes s (Machine.execCalibrationRunEnd dt cause s) := by
  unfold Machine.execCalibrationRunEnd
  exact .event fun _ h => h.abandonRun.sleepLanes

theorem Steady.applyMeasured {a : State × RunSum} {cell x} (h : Steady s a.1) :
    Steady s (Machine.applyMeasured a cell x).1 := by
  unfold Machine.applyMeasured
  exact .iteFst (.iteFst h.setUserWord.retireCell h.setUserWord) (.iteFst h.setUserWord h.retireCell)

theorem Steady.applyCell {r tile} {a : State × RunSum} {x} (h : Steady s a.1) :
    Steady s (Machine.applyCell r tile a x).1 := by
  unfold Machine.applyCell
  refine .iteFst h ?_
  split
  · exact Steady.applyMeasured h
  · exact h

theorem Steady.applyTile {r} {a : State × RunSum} {tile} (h : Steady s a.1) :
    Steady s (Machine.applyTile r a tile).1 := by
  rw [Machine.applyTile]
  generalize e : (List.range 4096).foldl _ _ = p
  obtain ⟨u, sum⟩ := p
  have h : Steady s u := Steady.foldlIs e h fun _ _ h => h.applyCell
  exact h.pput.update.refreshSets

theorem Goes.execCalibrationRunApply {dt} : Goes s (Machine.execCalibrationRunApply dt s) := by
  unfold Machine.execCalibrationRunApply
  refine .event fun u h => ?_
  split
  · exact h
  · next r _ =>
    extract_lets +onlyGivenNames tiles
    generalize e : tiles.foldl _ _ = p
    obtain ⟨u, sum⟩ := p
    have h : Steady s u := Steady.foldlIs e h fun _ _ h => h.applyTile
    clear_value tiles
    exact h.update.count.gbRecord.markDirty.settleCal

/-! ### Calibration commands -/

theorem Steady.dropTrace (h : Steady s t) : Steady s (Machine.dropTrace t) := by
  unfold Machine.dropTrace
  exact h.update.settleCal

theorem Goes.execTraceEnterTimeout {dt} : Goes s (Machine.execTraceEnterTimeout dt s) := by
  unfold Machine.execTraceEnterTimeout
  exact .event fun _ h => h.dropTrace

theorem Steady.applyGains {gs} (h : Steady s t) : Steady s (Machine.applyGains t gs) := by
  unfold Machine.applyGains
  exact (h.foldl (fun _ _ h => h.pput)).gbRecord.markDirty

theorem Goes.execHkTraceDone {dt} : Goes s (Machine.execHkTraceDone dt s) := by
  unfold Machine.execHkTraceDone
  refine .event fun _ h => ?_
  split
  · exact h
  · exact .ite h.update.applyGains.answer h.update.answer

theorem Goes.execTileOverdue {dt chain pos} : Goes s (Machine.execTileOverdue dt chain pos s) := by
  unfold Machine.execTileOverdue
  exact .event fun _ h => h.update.gbRecord

theorem Goes.execCalRun {q mask} : Goes s (Machine.execCalRun q mask s) := by
  unfold Machine.execCalRun
  exact .request fun _ _ h => .ite (.refuse h) (.done ((h.foldl (fun _ _ h => h.makeDue)).update.settleCal))

theorem Goes.execCalCancel {q} : Goes s (Machine.execCalCancel q s) := by
  unfold Machine.execCalCancel
  refine .request fun _ _ h => ?_
  split
  · exact .refuse h
  · exact .done h.update.settleCal
  · exact .done h.abandonRun.sleepLanes
  · exact .refuse h
  · exact .done h.dropTrace

theorem Goes.execCalStatus {q} : Goes s (Machine.execCalStatus q s) := by
  unfold Machine.execCalStatus
  exact .request fun _ _ h => .now h

theorem Goes.execCalCellRead {q chain pos row col} : Goes s (Machine.execCalCellRead q chain pos row col s) := by
  unfold Machine.execCalCellRead
  exact .request fun _ _ h => .ite (.refuse h) (.now h)

theorem Steady.unretire {tile cell} (h : Steady s t) : Steady s (Machine.unretire t tile cell) := by
  unfold Machine.unretire
  exact .ite h.setUserWord.makeDue h

theorem Goes.execCalCellSet {q chain pos row col action} :
    Goes s (Machine.execCalCellSet q chain pos row col action s) := by
  unfold Machine.execCalCellSet
  refine .request fun _ _ h => .ite (.refuse h) (.ite (.refuse h) (.ite (.refuse h) (.done ?_)))
  split
  · exact h.setUserWord.markDirty
  · exact h.retireCell
  · exact h.unretire.markDirty.settleCal

theorem Goes.execCalPdTrace {q chain pos samples} : Goes s (Machine.execCalPdTrace q chain pos samples s) := by
  unfold Machine.execCalPdTrace
  exact .request fun _ _ h =>
    .ite (.refuse h)
    (.ite (.refuse h)
    (.ite (.refuse h) (.now ((h.wakeLanes.foldl (fun _ _ h => h.sendTiles.sendMarks)).sleepLanes.update))))

theorem Goes.execCalPdEnter {q energyNj} : Goes s (Machine.execCalPdEnter q energyNj s) := by
  unfold Machine.execCalPdEnter
  refine .request fun _ _ h => ?_
  split
  · exact .refuse h
  · exact .ite (.refuse h) (.now h.pput.gbRecord.makeDue.markDirty.dropTrace)

theorem Goes.execCalHkTrace {q} : Goes s (Machine.execCalHkTrace q s) := by
  unfold Machine.execCalHkTrace
  exact .request fun _ _ h => .ite (.refuse h) (.later h.update)

theorem Steady.resetTile {tile} (h : Steady s t) : Steady s (Machine.resetTile t tile) := by
  unfold Machine.resetTile
  exact h.update.pput.makeDue.refreshSets

theorem Goes.execCalUserReset {q chain pos} : Goes s (Machine.execCalUserReset q chain pos s) := by
  unfold Machine.execCalUserReset
  exact .request fun _ _ h =>
    .ite (.done ((h.foldl (fun _ _ h => h.resetTile)).markDirty.settleCal))
    (.ite (.refuse h) (.done h.resetTile.markDirty.settleCal))

/-! ### The time law -/

theorem Steady.latchClock (h : Steady s t) : Steady s (Machine.latchClock t) := by
  unfold Machine.latchClock
  exact h.update

theorem Steady.alignWith {e} (h : Steady s t) : Steady s (Machine.alignWith t e) := by
  unfold Machine.alignWith
  exact .ite h.update.raise h.update

theorem Steady.correct {e} (h : Steady s t) : Steady s (Machine.correct t e) := by
  unfold Machine.correct
  exact h.update

theorem Steady.timeLaw {e} (h : Steady s t) : Steady s (Machine.timeLaw t e) := by
  unfold Machine.timeLaw
  exact .ite h.update.alignWith.update h.update.alignWith.correct

theorem Steady.applyStep (h : Steady s t) : Steady s (Machine.applyStep t) := by
  unfold Machine.applyStep
  split
  · exact h
  · exact .ite h h.gbWriteAt.freeTaken.count.update.raise

theorem Steady.enterHoldover (h : Steady s t) : Steady s (Machine.enterHoldover t) := by
  unfold Machine.enterHoldover
  exact h.update.raise

theorem Steady.endSourceLoss (h : Steady s t) : Steady s (Machine.endSourceLoss t) := by
  unfold Machine.endSourceLoss
  exact .ite h.update.clearCond h

theorem Steady.ptpLaw (h : Steady s t) : Steady s (Machine.ptpLaw t) := by
  unfold Machine.ptpLaw
  split
  · exact h
  · exact .ite h.freeTaken.update.timeLaw h

theorem Steady.onPll {k f} (h : Steady s t) : Steady s (Machine.State.onPll t k f) := by
  unfold Machine.State.onPll
  exact h.update

theorem Steady.pllUnlock {k} (h : Steady s t) : Steady s (Machine.pllUnlock t k) := by
  unfold Machine.pllUnlock
  exact .ite (.raise (.ite h.onPll.update h.onPll)) h

/-! ### Clock commands -/

theorem Goes.execReferenceNotReady {dt} : Goes s (Machine.execReferenceNotReady dt s) := by
  unfold Machine.execReferenceNotReady
  exact .event fun _ h => h.update.raise

theorem Goes.execReferenceLost {dt} : Goes s (Machine.execReferenceLost dt s) := by
  unfold Machine.execReferenceLost
  exact .event fun _ h => h.update.raise.pllUnlock.pllUnlock.pllUnlock.pllUnlock

theorem Goes.execPorterCrystalFail {dt} : Goes s (Machine.execPorterCrystalFail dt s) := by
  unfold Machine.execPorterCrystalFail
  exact .event fun _ h => h.update.raise

theorem Goes.execPorterRcTrim {dt} : Goes s (Machine.execPorterRcTrim dt s) := by
  unfold Machine.execPorterRcTrim
  exact .event fun _ h => h.update

theorem Goes.execPllLock {dt pll band inRange} : Goes s (Machine.execPllLock dt pll band inRange s) := by
  unfold Machine.execPllLock
  exact .event fun _ h => .ite (.raise (.ite h.onPll.onPll.update h.onPll.onPll)) h.onPll.update.onPll.clearCond

theorem Goes.execPllUnlock {dt pll} : Goes s (Machine.execPllUnlock dt pll s) := by
  unfold Machine.execPllUnlock
  exact .event fun _ h => h.pllUnlock

theorem Goes.execExppllPhaseAligned {dt} : Goes s (Machine.execExppllPhaseAligned dt s) := by
  unfold Machine.execExppllPhaseAligned
  exact .event fun _ h => h.update

theorem Goes.execSecondBoundary {dt} : Goes s (Machine.execSecondBoundary dt s) := by
  unfold Machine.execSecondBoundary
  exact .event fun _ h => .update (.applyStep (.latchClock (.ite h.send h)))

theorem Steady.takeMarker {p} (h : Steady s t) : Steady s (Machine.takeMarker t p) := by
  unfold Machine.takeMarker
  exact h.update.clearCond.timeLaw

theorem Goes.execTimeMarkerRx {dt port} : Goes s (Machine.execTimeMarkerRx dt port s) := by
  unfold Machine.execTimeMarkerRx
  exact .event fun _ h => .ite h.send.takeMarker h.send

theorem Goes.execSegmentDelayMeasure {dt port exchanges} :
    Goes s (Machine.execSegmentDelayMeasure dt port exchanges s) := by
  unfold Machine.execSegmentDelayMeasure
  exact .event fun _ h => h.update

theorem Goes.execHoldoverEntry {dt} : Goes s (Machine.execHoldoverEntry dt s) := by
  unfold Machine.execHoldoverEntry
  exact .event fun _ h => h.enterHoldover

theorem Steady.applyLeap {off} (h : Steady s t) : Steady s (Machine.applyLeap t off) := by
  unfold Machine.applyLeap
  exact h.update.gbOpen.markDirty.raise

theorem Goes.execLeapApply {dt} : Goes s (Machine.execLeapApply dt s) := by
  unfold Machine.execLeapApply
  exact .event fun _ h => h.applyLeap

theorem Goes.execPtpDisagreement {dt} : Goes s (Machine.execPtpDisagreement dt s) := by
  unfold Machine.execPtpDisagreement
  exact .event fun _ h => h.raise

theorem Goes.execClkTimeGet {q} : Goes s (Machine.execClkTimeGet q s) := by
  unfold Machine.execClkTimeGet
  exact .request fun _ _ h => .now h

theorem Goes.execClkTimeSet {q year month day hour minute second reserved nsec} :
    Goes s (Machine.execClkTimeSet q year month day hour minute second reserved nsec s) := by
  unfold Machine.execClkTimeSet
  exact .request fun _ _ h =>
    .ite (.refuse h) (.ite (.refuse h) (.ite (.refuse h) (.ite (.refuse h) (.done h.update))))

theorem Goes.execClkLeapSet {q offset atTime} : Goes s (Machine.execClkLeapSet q offset atTime s) := by
  unfold Machine.execClkLeapSet
  exact .request fun _ _ h => .ite (.refuse h) (.ite (.refuse h) (.done h.update))

theorem Goes.execClkStatus {q} : Goes s (Machine.execClkStatus q s) := by
  unfold Machine.execClkStatus
  exact .request fun _ _ h => .now h

/-! ### Mailboxes and the register window -/

theorem Steady.receiveMessage {mb came bytes} (h : Steady s t) :
    Steady s (Machine.receiveMessage t mb came bytes) := by
  unfold Machine.receiveMessage
  exact .ite h (.ite h.answer (.ite h.count.answer (.ite h.update h.enqueue)))

theorem Steady.mb4Copy (h : Steady s t) : Steady s (Machine.mb4Copy t) := by
  unfold Machine.mb4Copy
  split
  · exact h
  · exact h.update.receiveMessage

theorem Steady.mb4Request (h : Steady s t) : Steady s (Machine.mb4Request t) := by
  unfold Machine.mb4Request
  exact .ite h.count (.ite h.update.mb4Copy h.update)

theorem Steady.mb4Ack (h : Steady s t) : Steady s (Machine.mb4Ack t) := by
  unfold Machine.mb4Ack
  exact h.update.mb4Fill

theorem Steady.latchTime (h : Steady s t) : Steady s (Machine.latchTime t) := by
  unfold Machine.latchTime
  exact h.update

theorem Steady.windowRead {off n} (h : Steady s t) : Steady s (Machine.windowRead t off n).1 := by
  induction n generalizing t off with
  | zero => exact h
  | succ n ih => exact ih (.ite h.latchTime h)

theorem Steady.windowAccess {req} (h : Steady s t) : Steady s (Machine.windowAccess t req) := by
  unfold Machine.windowAccess
  exact .ite h (.ite h.sendMessage (.ite h.sendMessage (.ite h.windowRead.sendMessage h.sendMessage)))

theorem Steady.spiWrite {off v} (h : Steady s t) : Steady s (Machine.spiWrite t off v) := by
  unfold Machine.spiWrite
  exact .ite (.andThen (.ite h.mb4Request h) (fun h => .ite h.mb4Ack h)) (.ite h.update h)

/-! ### Layer data commands -/

theorem Steady.onQueue {q f} (h : Steady s t) : Steady s (Machine.State.onQueue t q f) := by
  unfold Machine.State.onQueue
  exact h.update

theorem Steady.engineSwap {k} (h : Steady s t) : Steady s (Machine.engineSwap t k) := by
  unfold Machine.engineSwap
  exact .ite h.update.raise.settleParts h.update

theorem Steady.engineParity {k} (h : Steady s t) : Steady s (Machine.engineParity t k) := by
  unfold Machine.engineParity
  exact h.update

theorem Steady.engineCheck {k parity} (h : Steady s t) : Steady s (Machine.engineCheck t k parity) := by
  unfold Machine.engineCheck
  exact .andThen (.ite h.engineParity h) fun h => .ite h.engineSwap h

theorem Steady.settleQueue {q} (h : Steady s t) : Steady s (Machine.settleQueue t q) := by
  unfold Machine.settleQueue
  exact h.onQueue

theorem Steady.blockFail {q seq status id} (h : Steady s t) : Steady s (Machine.blockFail t q seq status id) := by
  unfold Machine.blockFail
  exact h.onQueue.count.raise

theorem Steady.refuseStale {q layerNo} (h : Steady s t) : Steady s (Machine.refuseStale t q layerNo) := by
  unfold Machine.refuseStale
  exact .ite h.count.update.gbRecord h.count.update

theorem Steady.writeLines {q} (h : Steady s t) : Steady s (Machine.writeLines t q) := by
  unfold Machine.writeLines
  split
  · exact h
  · refine h.foldl fun _ _ h => ?_
    split
    · exact .ite (.onQueue (.ite h h.poke.update)) h
    · exact h

theorem Steady.inflateBlock {q h' b} (h : Steady s t) : Steady s (Machine.inflateBlock t q h' b) := by
  unfold Machine.inflateBlock
  dsimp only
  split
  · exact h.blockFail
  · exact .ite h.blockFail (.ite h.blockFail (.ite h.blockFail (.writeLines (.onQueue (.ite h.update h)))))

theorem Steady.takeBlock {q h' b} (h : Steady s t) : Steady s (Machine.takeBlock t q h' b) := by
  unfold Machine.takeBlock
  exact .ite h.count
    (.ite h.blockFail (.ite h.count (.ite h.count.onQueue (.ite h.blockFail (.ite h.blockFail h.inflateBlock)))))

theorem Steady.refuseState (h : Steady s t) : Steady s (Machine.refuseState t) := by
  unfold Machine.refuseState
  exact h.count

theorem Steady.checkBlock {q bytes} (h : Steady s t) : Steady s (Machine.checkBlock t q bytes) := by
  unfold Machine.checkBlock
  refine .ite h.blockFail ?_
  split
  · exact h.refuseStale
  · exact h.refuseState
  · exact h.takeBlock

theorem Goes.execAqripolBlock {dt queue parity} : Goes s (Machine.execAqripolBlock dt queue parity s) := by
  unfold Machine.execAqripolBlock
  dsimp only
  refine .clocked fun _ h => ?_
  split
  · exact h.engineCheck
  · exact h.engineCheck.onQueue.checkBlock.settleQueue

theorem Goes.execInflaterSlotFree {dt queue} : Goes s (Machine.execInflaterSlotFree dt queue s) := by
  unfold Machine.execInflaterSlotFree
  exact .clocked fun _ h => h.writeLines

theorem Steady.dropInflation {q} (h : Steady s t) : Steady s (Machine.dropInflation t q) := by
  unfold Machine.dropInflation
  refine .onQueue ?_
  split
  · exact h.update
  · exact h

theorem Steady.acceptBlock {q c} (h : Steady s t) : Steady s (Machine.acceptBlock t q c) := by
  unfold Machine.acceptBlock
  exact h.onQueue.count.update.foldl fun _ _ h => h.completeLine

theorem Goes.execBlockAccepted {dt queue} : Goes s (Machine.execBlockAccepted dt queue s) := by
  unfold Machine.execBlockAccepted
  dsimp only
  refine .clocked fun _ h => ?_
  split
  · exact h
  · refine .ite h.dropInflation.blockFail.engineCheck ?_
    split
    · exact h.dropInflation.refuseStale
    · exact h.dropInflation.refuseState
    · exact h.acceptBlock

theorem Steady.putBlock {j coded} (h : Steady s t) : Steady s (Machine.putBlock t j coded) := by
  unfold Machine.putBlock
  exact .andThen (.ite h.update.poke.update h.update.update) fun h => by
    split
    · exact h.answer
    · exact h

theorem Steady.startJobAt {j place parity} (h : Steady s t) : Steady s (Machine.startJobAt t j place parity) := by
  unfold Machine.startJobAt
  dsimp only
  split <;> split
  · exact h.engineCheck.update
  · exact h.update
  · exact h.engineCheck.update
  · exact h.update

theorem Steady.startJob {j} (h : Steady s t) : Steady s (Machine.startJob t j) := by
  unfold Machine.startJob
  exact h.startJobAt

theorem Steady.handEntries {n place parity} (h : Steady s t) : Steady s (Machine.handEntries t n place parity) := by
  unfold Machine.handEntries
  exact .ite h.update.putBlock h.update.startJobAt

theorem Steady.handOver {kind place n parity} (h : Steady s t) :
    Steady s ((Machine.handOver t kind place n parity).getD t) := by
  unfold Machine.handOver
  split
  · split
    · exact h.handEntries
    · exact h
  · split
    · cases takeMade kind n t.time (t.data.made.getD (kind.toNat - 2) []) with
      | none => exact h
      | some r => exact h.update.startJobAt
    · exact h

theorem Goes.execCompressHandover {dt kind place items parity} :
    Goes s (Machine.execCompressHandover dt kind place items parity s) :=
  .clocked fun _ h => h.handOver

theorem Steady.nextJob (h : Steady s t) : Steady s (Machine.nextJob t) := by
  unfold Machine.nextJob
  split
  · exact h
  · exact h.update.startJob

theorem Goes.execCompressDone {dt place faulty} : Goes s (Machine.execCompressDone dt place faulty s) := by
  unfold Machine.execCompressDone
  refine .clocked fun _ h => ?_
  split
  · exact h
  · exact .nextJob (.engineCheck (.putBlock (.ite h.update.count h.update)))

theorem Goes.execCompressBypass {dt} : Goes s (Machine.execCompressBypass dt s) := by
  unfold Machine.execCompressBypass
  refine .clocked fun _ h => ?_
  split
  · exact h
  · exact h.update.putBlock.andThen fun h => .ite h.count.update.raise h.count

theorem Goes.execShadowCompare {dt wrong} : Goes s (Machine.execShadowCompare dt wrong s) := by
  unfold Machine.execShadowCompare
  refine .event fun _ h => ?_
  split
  · exact h
  · split
    · exact h.update
    · exact h.update.count.update.raise.freeTaken.freeTaken.gbRecord

theorem Steady.setKek {mb kek ecdh} (h : Steady s t) : Steady s (Machine.setKek t mb kek ecdh) := by
  unfold Machine.setKek
  exact h.update

theorem Steady.agreeDraws (h : Steady s t) : Steady s (Machine.agreeDraws t) := by
  unfold Machine.agreeDraws
  exact h.freeTaken.update

theorem Goes.execDataKekAgree {q hostKey} : Goes s (Machine.execDataKekAgree q hostKey s) := by
  unfold Machine.execDataKekAgree
  refine .request fun _ _ h => ?_
  split
  · exact .refuse h
  · split
    · exact .refuse h.agreeDraws.setKek
    · exact .now h.agreeDraws.setKek

theorem Goes.execDataKeyLoad {q slot ivFixed wrapped} :
    Goes s (Machine.execDataKeyLoad q slot ivFixed wrapped s) := by
  unfold Machine.execDataKeyLoad
  refine .request fun _ _ h => .ite (.refuse h) ?_
  split
  · exact .refuse h
  · split
    · exact .refuse h.update
    · exact .done h.update.update

theorem Goes.execDataKeyClear {q slot} : Goes s (Machine.execDataKeyClear q slot s) := by
  unfold Machine.execDataKeyClear
  exact .request fun _ _ h => .ite (.refuse h) (.done h.update)

theorem Goes.execDataKeyStatus {q} : Goes s (Machine.execDataKeyStatus q s) := by
  unfold Machine.execDataKeyStatus
  exact .request fun _ _ h => .now h

theorem Goes.execDataStreamStatus {q queue} : Goes s (Machine.execDataStreamStatus q queue s) := by
  unfold Machine.execDataStreamStatus
  exact .request fun _ _ h => .ite (.refuse h) (.now h)

theorem Goes.execDataShadowReport {q} : Goes s (Machine.execDataShadowReport q s) := by
  unfold Machine.execDataShadowReport
  refine .request fun _ _ h => ?_
  split
  · exact .refuse h
  · exact .now h

theorem Goes.execDataCompress {q src len} : Goes s (Machine.execDataCompress q src len s) := by
  unfold Machine.execDataCompress
  exact .request fun _ _ h => .ite (.refuse h) (.ite (.refuse h) (.later h.startJob))

/-! ### Host port commands -/

theorem Steady.sendAck {ch} (h : Steady s t) : Steady s (Machine.sendAck t ch) := by
  unfold Machine.sendAck
  exact h.emitPacket.onChan

theorem Steady.sendNak {ch h'} (h : Steady s t) : Steady s (Machine.sendNak t ch h') := by
  unfold Machine.sendNak
  exact h.emitPacket.onChan

theorem Steady.takeAck {ch ack sack} (h : Steady s t) : Steady s (Machine.takeAck t ch ack sack) := by
  unfold Machine.takeAck
  exact h.onChan.drainWait

theorem Steady.retransmit {ch sel} (h : Steady s t) : Steady s (Machine.retransmit t ch sel) := by
  unfold Machine.retransmit
  exact (h.foldl (fun _ _ h => h.emitPacket)).andThen fun h => .ite h.onChan h.onChan.count

theorem Steady.deliver {ch p} (h : Steady s t) : Steady s (Machine.deliver t ch p) := by
  unfold Machine.deliver
  exact .ite h.windowAccess (.ite (.ite h.onChan.receiveMessage h.onChan) h.onChan)

theorem Steady.drainOoo {ch} (h : Steady s t) : Steady s (Machine.drainOoo t ch) := by
  unfold Machine.drainOoo
  exact (h.foldl (fun _ _ h => .ite h.onChan.deliver h)).onChan

theorem Steady.countAck {ch} (h : Steady s t) : Steady s (Machine.countAck t ch) := by
  unfold Machine.countAck
  exact .ite h.onChan.sendAck h.onChan

theorem Steady.rxReliable {ch p} (h : Steady s t) : Steady s (Machine.rxReliable t ch p) := by
  unfold Machine.rxReliable
  refine .ite h.count.sendAck (.ite h (.ite h.onChan.deliver.drainOoo.countAck (.countAck ?_)))
  split
  · exact h.onChan.sendNak
  · exact h.onChan

theorem Steady.rxPacket {ch p} (h : Steady s t) : Steady s (Machine.rxPacket t ch p) := by
  unfold Machine.rxPacket
  dsimp only
  exact .andThen (.ite h.takeAck h) fun h => by
    split
    · exact .ite h (.ite h.rxReliable h.deliver)
    · exact h.retransmit
    · exact h.onChan
    · exact h

theorem Steady.takePacket {pkt buffersFull} (h : Steady s t) : Steady s (Machine.takePacket t pkt buffersFull) := by
  unfold Machine.takePacket
  exact .ite h.count
    (.ite h (.ite h (.ite h.count (.andThen (.ite h.touchSession h) (fun h => .ite h.raise h.rxPacket)))))

theorem Steady.portReply {p r} (h : Steady s t) : Steady s (Machine.portReply t p r) := by
  unfold Machine.portReply
  exact h.onPort.send

theorem Steady.takeFrame {p f buffersFull} (h : Steady s t) : Steady s (Machine.takeFrame t p f buffersFull) := by
  unfold Machine.takeFrame
  dsimp only
  refine .ite h.onPort (.ite h.onPort.count (.ite h.onPort ?_))
  split
  · exact h.onPort.onPort.takePacket
  · exact h.onPort.onPort.portReply
  · exact h.onPort.onPort

theorem Goes.execTransportPacketRx {dt port frame buffersFull} :
    Goes s (Machine.execTransportPacketRx dt port frame buffersFull s) := by
  unfold Machine.execTransportPacketRx
  exact .event fun _ h => h.takeFrame

theorem Goes.execAckTimer {dt channel} : Goes s (Machine.execAckTimer dt channel s) := by
  unfold Machine.execAckTimer
  exact .event fun _ h => h.sendAck

theorem Goes.execRetransmitTimeout {dt channel} : Goes s (Machine.execRetransmitTimeout dt channel s) := by
  unfold Machine.execRetransmitTimeout
  exact .event fun _ h => h.retransmit.foldl fun _ _ h => h.sendNak

theorem Goes.execInboundGapTimeout {dt channel} : Goes s (Machine.execInboundGapTimeout dt channel s) := by
  unfold Machine.execInboundGapTimeout
  exact .event fun _ h => h.onChan.drainOoo.count.raise

theorem Goes.execOutboundPeerLost {dt channel} : Goes s (Machine.execOutboundPeerLost dt channel s) := by
  unfold Machine.execOutboundPeerLost
  exact .event fun _ h => h.onChan.update.raise

theorem Goes.execKeepaliveSend {dt port} : Goes s (Machine.execKeepaliveSend dt port s) := by
  unfold Machine.execKeepaliveSend
  exact .event fun _ h => h.emitPort

theorem Steady.failOver {p} (h : Steady s t) : Steady s (Machine.failOver t p) := by
  unfold Machine.failOver
  exact .ite h ((h.foldl (fun _ _ h => h.onPort)).emitPort.count.raise)

theorem Goes.execPortDown {dt port} : Goes s (Machine.execPortDown dt port s) := by
  unfold Machine.execPortDown
  exact .event fun _ h => .ite h.onPort.failOver h.onPort.raise

theorem Goes.execPortLinkUp {dt port} : Goes s (Machine.execPortLinkUp dt port s) := by
  unfold Machine.execPortLinkUp
  exact .event fun _ h => h.onPort.clearCond.andThen fun h => .ite h.failOver h

theorem Steady.ptpForward {arrival origin} (h : Steady s t) : Steady s (Machine.ptpForward t arrival origin) := by
  unfold Machine.ptpForward
  exact h.update.send.clearCond.ptpLaw

theorem Goes.execPtpMessageRx {dt port frame} : Goes s (Machine.execPtpMessageRx dt port frame s) := by
  unfold Machine.execPtpMessageRx
  refine .event fun _ h => ?_
  split
  · exact h
  · exact .ite h (.ite h.update h.ptpForward)
  · split
    · exact .ite h.ptpForward h
    · exact h
  · split
    · exact .ite h.update.ptpLaw h
    · exact h

theorem Goes.execPtpSyncLost {dt} : Goes s (Machine.execPtpSyncLost dt s) := by
  unfold Machine.execPtpSyncLost
  exact .event fun _ h => h.update.raise

theorem Goes.execHostPortStatus {q port} : Goes s (Machine.execHostPortStatus q port s) := by
  unfold Machine.execHostPortStatus
  exact .request fun _ _ h => .ite (.refuse h) (.now h)

theorem Steady.applyPortParams {p} (h : Steady s t) : Steady s (Machine.applyPortParams t p) := by
  unfold Machine.applyPortParams
  exact h.update

theorem Goes.execHostPortRestart {q port} : Goes s (Machine.execHostPortRestart q port s) := by
  unfold Machine.execHostPortRestart
  exact .request fun _ _ h => .ite (.refuse h) (.ite (.refuse h) (.done h.applyPortParams.onPort))

theorem Goes.execHostChanOpen {q channel reliable dir} :
    Goes s (Machine.execHostChanOpen q channel reliable dir s) := by
  unfold Machine.execHostChanOpen
  exact .request fun _ _ h => .ite (.refuse h) (.ite (.refuse h) (.done h.onChan))

theorem Goes.execHostChanClose {q channel} : Goes s (Machine.execHostChanClose q channel s) := by
  unfold Machine.execHostChanClose
  exact .request fun _ _ h => .ite (.refuse h) (.ite (.refuse h) (.ite (.refuse h) (.done h.onChan)))

/-! ### Monitor commands -/

theorem Steady.onCap {f} (h : Steady s t) : Steady s (Machine.State.onCap t f) := by
  unfold Machine.State.onCap
  exact h.update

theorem Steady.capArming (h : Steady s t) : Steady s (Machine.capArming t) := by
  unfold Machine.capArming
  exact (h.update fun hm => memClear_wf hm _ _).onCap

theorem Goes.execLearnUpdate {dt} : Goes s (Machine.execLearnUpdate dt s) := by
  unfold Machine.execLearnUpdate
  exact .event fun _ h => h.learnUpdate

theorem Goes.execMapRowDrop {dt row} : Goes s (Machine.execMapRowDrop dt row s) := by
  unfold Machine.execMapRowDrop
  exact .clocked fun _ h => h.update.raise

theorem Goes.execEmonCapArm {q} : Goes s (Machine.execEmonCapArm q s) := by
  unfold Machine.execEmonCapArm
  exact .request fun _ _ h => .ite (.refuse h) (.ite (.refuse h) (.done h.capArming))

theorem Goes.execEmonCapTrigger {q} : Goes s (Machine.execEmonCapTrigger q s) := by
  unfold Machine.execEmonCapTrigger
  refine .request fun _ _ h => ?_
  split
  · exact .refuse h
  · exact .done h.triggerAt
  · exact .done h.triggerAt
  · exact .now h.triggerAt
  · exact .now h.triggerAt

theorem Goes.execEmonCapStop {q} : Goes s (Machine.execEmonCapStop q s) := by
  unfold Machine.execEmonCapStop
  exact .request fun _ _ h => .ite (.refuse h) (.later (.ite h.onCap h.onCap.sampleCapStop))

theorem Goes.execEmonCapHeader {q} : Goes s (Machine.execEmonCapHeader q s) := by
  unfold Machine.execEmonCapHeader
  exact .request fun _ _ h => .ite (.refuse h) (.now h)

theorem Goes.execEmonCapRelease {q mode} : Goes s (Machine.execEmonCapRelease q mode s) := by
  unfold Machine.execEmonCapRelease
  exact .request fun _ _ h => .ite (.refuse h) (.ite (.refuse h) (.ite (.done h.onCap) (.done h.capArming)))

theorem Goes.execEmonLearnReset {q} : Goes s (Machine.execEmonLearnReset q s) := by
  unfold Machine.execEmonLearnReset
  exact .request fun _ _ h => .ite (.refuse h) (.done h.learnReset)

theorem Goes.execCaptureClearDone {dt} : Goes s (Machine.execCaptureClearDone dt s) := by
  unfold Machine.execCaptureClearDone
  exact .clocked fun _ h => h.onCap

theorem Goes.execPhotodiodeReturn {dt chain pos period flags samples} :
    Goes s (Machine.execPhotodiodeReturn dt chain pos period flags samples s) := by
  unfold Machine.execPhotodiodeReturn
  exact .received fun _ h => h.update

/-! ### The DMA engine -/

theorem Steady.onDma {k f} (h : Steady s t) : Steady s (Machine.State.onDma t k f) := by
  unfold Machine.State.onDma
  exact h.update

theorem Steady.beginDesc {k a} (h : Steady s t) : Steady s (Machine.beginDesc t k a) := by
  unfold Machine.beginDesc
  exact h.onDma

theorem Steady.dmaEvent {k kind status} (h : Steady s t) : Steady s (Machine.dmaEvent t k kind status) := by
  unfold Machine.dmaEvent
  exact h.chanSend

theorem Steady.capRearm {k} (h : Steady s t) : Steady s (Machine.capRearm t k) := by
  unfold Machine.capRearm
  exact .ite h.capArming h

theorem Steady.dmaEnd {k code status} (h : Steady s t) : Steady s (Machine.dmaEnd t k code status) := by
  unfold Machine.dmaEnd
  extract_lets c s1 s2 s3 s4
  have h2 : Steady s s2 := by
    dsimp only [s2]
    split
    · exact h.onDma.answer
    · exact h.onDma
  have h3 : Steady s s3 := by
    dsimp only [s3]
    split
    · exact h2.answer
    · exact h2
  exact .ite h3.dmaEvent.capRearm h3.dmaEvent

theorem Steady.dmaPeerEnd {k} (h : Steady s t) : Steady s (Machine.dmaPeerEnd t k) := by
  unfold Machine.dmaPeerEnd
  exact h.freeTaken.dmaEnd

theorem Steady.fetchNext {k} (h : Steady s t) : Steady s (Machine.fetchNext t k) := by
  unfold Machine.fetchNext
  dsimp only
  split
  · exact h.beginDesc
  · exact h.dmaEnd.raise

theorem Steady.descDone {k} (h : Steady s t) : Steady s (Machine.descDone t k) := by
  unfold Machine.descDone
  exact .ite h.dmaPeerEnd (.ite h.dmaEnd (.ite h.dmaEnd (.ite h.dmaEnd h.fetchNext)))

theorem Steady.dmaSampleStop {k} (h : Steady s t) : Steady s (Machine.dmaSampleStop t k) := by
  unfold Machine.dmaSampleStop
  split
  · exact h.onDma.answer
  · exact h

theorem Steady.readSource {k n} (h : Steady s t) : Steady s (Machine.readSource t k n).1 := by
  unfold Machine.readSource
  dsimp only
  split
  · exact h
  · dsimp only
    exact h.onChan
  · refine .iteFst h.update ?_
    split
    · exact h
    · exact .ite h.update.onDma h.update

theorem Steady.moveBytes {k n} (h : Steady s t) : Steady s (Machine.moveBytes t k n) := by
  unfold Machine.moveBytes
  exact .onDma (.ite h.readSource.poke h.readSource.onDma)

theorem Steady.commitElement {k} (h : Steady s t) : Steady s (Machine.commitElement t k) := by
  unfold Machine.commitElement
  exact .andThen (.ite (h.foldl (fun _ _ h => h.chanSend)) (.ite h.onQueue.settleQueue h)) fun h => .onDma (by
    split
    · exact .ite h.update h
    · exact h)

theorem Steady.postEvents {k} (h : Steady s t) : Steady s (Machine.postEvents t k) := by
  unfold Machine.postEvents
  exact .andThen (.ite h.dmaEvent h) fun h => .ite h.dmaEvent h

theorem Steady.elementDone {k} (h : Steady s t) : Steady s (Machine.elementDone t k) := by
  unfold Machine.elementDone
  exact .ite h.commitElement.dmaEnd
    (.ite h.commitElement.postEvents.descDone h.commitElement.postEvents.dmaSampleStop)

theorem Steady.burst {k} (h : Steady s t) : Steady s (Machine.burst t k) := by
  unfold Machine.burst
  exact h.onDma.moveBytes.andThen fun h => .ite h.elementDone h

theorem Steady.refill (h : Steady s t) : Steady s (Machine.refill t) := by
  unfold Machine.refill
  exact .ite h h.update

theorem Goes.execDmaBurst {dt ch} : Goes s (Machine.execDmaBurst dt ch s) := by
  unfold Machine.execDmaBurst
  exact .event fun _ h => .burst (.onDma (.refill (.ite h.update h)))

theorem Goes.execDmaStarveBoost {dt ch} : Goes s (Machine.execDmaStarveBoost dt ch s) := by
  unfold Machine.execDmaStarveBoost
  exact .event fun _ h => h.count.burst

theorem Goes.execDmaStart {q ch desc} : Goes s (Machine.execDmaStart q ch desc s) := by
  unfold Machine.execDmaStart
  refine .request fun _ _ h => .ite (.refuse h) (.ite (.refuse h) (.ite (.refuse h) ?_))
  split
  · exact .refuse h
  · exact .done (.ite h.onDma.beginDesc.raise.settleParts h.onDma.beginDesc)

theorem Goes.execDmaStop {q ch} : Goes s (Machine.execDmaStop q ch s) := by
  unfold Machine.execDmaStop
  exact .request fun _ _ h =>
    .ite (.refuse h) (.ite (.refuse h) (.ite (.refuse h) (.ite (.done h.onDma) (.later h.onDma))))

theorem Goes.execDmaDisable {q ch} : Goes s (Machine.execDmaDisable q ch s) := by
  unfold Machine.execDmaDisable
  exact .request fun _ _ h =>
    .ite (.refuse h) (.ite (.refuse h) (.ite (.refuse h) (.ite (.refuse h) (.later (.ite h.onDma.dmaEnd h.onDma)))))

theorem Goes.execDmaStatus {q ch} : Goes s (Machine.execDmaStatus q ch s) := by
  unfold Machine.execDmaStatus
  exact .request fun _ _ h => .ite (.refuse h) (.now h)

/-! ### Dose commands -/

theorem Goes.execDoseBilletRead {q column} : Goes s (Machine.execDoseBilletRead q column s) := by
  unfold Machine.execDoseBilletRead
  exact .request fun _ _ h => .ite (.refuse h) (.ite (.refuse h) (.now h))

theorem Answers.versionReply (h : Steady s t) : Answers s (Machine.versionReply t) := by
  unfold Machine.versionReply
  exact .now h

theorem Goes.execDoseBilletWrite {q column weights} : Goes s (Machine.execDoseBilletWrite q column weights s) := by
  unfold Machine.execDoseBilletWrite
  exact .request fun _ _ h =>
    .ite (.refuse h)
    (.ite (.refuse h) (.ite (.refuse h) (.ite (.refuse h) (.versionReply h.setWeights.billetChanged))))

theorem Goes.execDoseBilletDefault {q lane} : Goes s (Machine.execDoseBilletDefault q lane s) := by
  unfold Machine.execDoseBilletDefault
  exact .request fun _ _ h =>
    .ite (.refuse h) (.ite (.refuse h) (.versionReply ((h.foldl (fun _ _ h => h.buildLane)).billetChanged)))

theorem Goes.execCalibrationStale {dt} : Goes s (Machine.execCalibrationStale dt s) := by
  unfold Machine.execCalibrationStale
  exact .event fun _ h => h.update.raise

/-! ### Drive commands -/

theorem Goes.execDecisionPeriod {dt ch iu iv iw vbusMv} :
    Goes s (Machine.execDecisionPeriod dt ch iu iv iw vbusMv s) := by
  unfold Machine.execDecisionPeriod
  exact .event fun _ h => h.decision

theorem Goes.execDriveOvercurrent {dt ch trip} : Goes s (Machine.execDriveOvercurrent dt ch trip s) := by
  unfold Machine.execDriveOvercurrent
  exact .event fun _ h => .ite h.onDrive.driveConds (h.onDrive.driveFault.andThen (fun h => .driveRaise (by
    split
    · exact h.onDrive.answer
    · exact h)))

theorem Goes.execBemfZeroCrossing {dt ch phase rising} :
    Goes s (Machine.execBemfZeroCrossing dt ch phase rising s) := by
  unfold Machine.execBemfZeroCrossing
  exact .event fun _ h => .ite h.catchCross h.startCross

theorem Goes.execCatchTimeout {dt ch} : Goes s (Machine.execCatchTimeout dt ch s) := by
  unfold Machine.execCatchTimeout
  exact .event fun _ h => h.driveOn

theorem Goes.execBrakeElapsed {dt ch} : Goes s (Machine.execBrakeElapsed dt ch s) := by
  unfold Machine.execBrakeElapsed
  exact .event fun _ h => h.driveOn.onDrive

theorem Goes.execAlignElapsed {dt ch} : Goes s (Machine.execAlignElapsed dt ch s) := by
  unfold Machine.execAlignElapsed
  exact .event fun _ h => h.onDrive

theorem Goes.execCoastElapsed {dt ch} : Goes s (Machine.execCoastElapsed dt ch s) := by
  unfold Machine.execCoastElapsed
  exact .event fun _ h => .ite h.driveOn.onDrive h.enterCatch

theorem Goes.execStandstillOffset {dt ch u' v w} : Goes s (Machine.execStandstillOffset dt ch u' v w s) := by
  unfold Machine.execStandstillOffset
  exact .event fun _ h => h.setOffset.setOffset.setOffset

theorem Goes.execDriveStall {dt ch} : Goes s (Machine.execDriveStall dt ch s) := by
  unfold Machine.execDriveStall
  exact .event fun _ h => h.driveRaise

theorem Goes.execSixStepCommutation {dt ch} : Goes s (Machine.execSixStepCommutation dt ch s) := by
  unfold Machine.execSixStepCommutation
  exact .event fun _ h => h.sixStep

theorem Goes.execDrvAlignDone {dt ch} : Goes s (Machine.execDrvAlignDone dt ch s) := by
  unfold Machine.execDrvAlignDone
  refine .event fun _ h => ?_
  split
  · exact h
  · exact h.pput.onDrive.answer

theorem Goes.execDrvEnable {q ch on} : Goes s (Machine.execDrvEnable q ch on s) := by
  unfold Machine.execDrvEnable
  exact .request fun _ _ h =>
    .ite (.refuse h)
    (.ite (.done h.driveDisable)
    (.ite (.refuse h)
    (.ite (.refuse h)
    (.ite (.refuse h)
    (.ite (.done h) (.ite (.refuse h) (.ite (.refuse h) (.ite (.refuse h) (.done h.latchDrive.onDrive)))))))))

theorem Goes.execDrvCurveWrite {q ch points} : Goes s (Machine.execDrvCurveWrite q ch points s) := by
  unfold Machine.execDrvCurveWrite
  exact .request fun _ _ h => .ite (.refuse h) (.ite (.refuse h) (.ite (.refuse h) (.done h.onDrive)))

theorem Goes.execDrvAlign {q ch} : Goes s (Machine.execDrvAlign q ch s) := by
  unfold Machine.execDrvAlign
  exact .request fun _ _ h =>
    .ite (.refuse h)
    (.ite (.refuse h) (.ite (.refuse h) (.ite (.refuse h) (.ite (.refuse h) (.later h.latchDrive.onDrive)))))

theorem Goes.execDrvStatus {q ch} : Goes s (Machine.execDrvStatus q ch s) := by
  unfold Machine.execDrvStatus
  exact .request fun _ _ h => .ite (.refuse h) (.now h)

/-! ### Chain power and failover -/

theorem Steady.judgeTile {n p} (h : Steady s t) : Steady s (Machine.judgeTile t n p) := by
  unfold Machine.judgeTile
  exact .andThen (.ite h.update h) fun h => .ite h.onTile.raise h.onTile

theorem Steady.recheckTile {n p} (h : Steady s t) : Steady s (Machine.recheckTile t n p) := by
  unfold Machine.recheckTile
  exact .ite h.onTile.onTile (.ite h.onTile.onTile.mgmtSend.raise h.onTile.onTile.raise)

theorem Steady.dropMgmt {n} (h : Steady s t) : Steady s (Machine.dropMgmt t n) := by
  unfold Machine.dropMgmt
  refine h.update.foldl fun _ _ h => ?_
  split
  · exact h.answer
  · exact h

theorem Steady.freeTl4 {n} (h : Steady s t) : Steady s (Machine.freeTl4 t n) := by
  unfold Machine.freeTl4
  exact .ite h.update.laneReset h

theorem Steady.chainForget {n} (h : Steady s t) : Steady s (Machine.chainForget t n) := by
  unfold Machine.chainForget
  exact h.dropMgmt.freeTl4.laneReset.onChain.update.settlePitch

theorem Steady.chainOff {n} (h : Steady s t) : Steady s (Machine.chainOff t n) := by
  unfold Machine.chainOff
  exact h.chainForget.releaseSlots

theorem Steady.chainOn {n} (h : Steady s t) : Steady s (Machine.chainOn t n) := by
  unfold Machine.chainOn
  exact h.onChain.startSlots

theorem Steady.chainFail {n} (h : Steady s t) : Steady s (Machine.chainFail t n) := by
  unfold Machine.chainFail
  exact h.dropMgmt.freeTl4.laneReset.onChain.releaseSlots

theorem Steady.clearTriggers {n} (h : Steady s t) : Steady s (Machine.clearTriggers t n) := by
  unfold Machine.clearTriggers
  exact h.update.onTile

theorem Steady.startMove {n} (h : Steady s t) : Steady s (Machine.startMove t n) := by
  unfold Machine.startMove
  exact h.onChain.wear.laneReset.update.raise

theorem Steady.laneLost {n} (h : Steady s t) : Steady s (Machine.laneLost t n) := by
  unfold Machine.laneLost
  exact .ite h.clearTriggers.startMove h.clearTriggers.chainFail.raise

theorem Steady.moveDone {n} (h : Steady s t) : Steady s (Machine.moveDone t n) := by
  unfold Machine.moveDone
  exact h.onChain.foldl fun _ _ h => h.applyLatency

theorem Steady.presenceLost {n} (h : Steady s t) : Steady s (Machine.presenceLost t n) := by
  unfold Machine.presenceLost
  exact h.chainForget.dropSlots.raise

theorem Steady.chainUp {n} (h : Steady s t) : Steady s (Machine.chainUp t n) := by
  unfold Machine.chainUp
  exact h.onChain.buildLane.billetChanged.andThen fun h => .ite h.onChain h.chainFail

theorem Steady.judgeChains (h : Steady s t) : Steady s (Machine.judgeChains t) := by
  unfold Machine.judgeChains
  exact .ite ((h.foldl (fun _ _ h => h.foldl (fun _ _ h => h.judgeTile))).foldl (fun _ _ h => h.chainUp)) h

/-! ### The persistent store -/

theorem Steady.eraseBank {b} (h : Steady s t) : Steady s (Machine.eraseBank t b) := by
  unfold Machine.eraseBank
  exact h.update.pput

theorem Steady.writeBank {b} (h : Steady s t) : Steady s (Machine.writeBank t b) := by
  unfold Machine.writeBank
  exact h.count.update

theorem Steady.commitFailed {b} (h : Steady s t) : Steady s (Machine.commitFailed t b) := by
  unfold Machine.commitFailed
  exact h.gbRecord.update

theorem Steady.commitTries {fuel b fl} (h : Steady s t) : Steady s (Machine.commitTries fuel t b fl).1 := by
  induction fuel generalizing t b fl with
  | zero => exact h.commitFailed
  | succ fuel ih =>
    unfold Machine.commitTries
    split
    · exact h.commitFailed
    · exact .iteFst h.eraseBank.writeBank (ih h.eraseBank.update)

theorem Steady.commitStore {fl} (h : Steady s t) : Steady s (Machine.commitStore t fl).1 := by
  unfold Machine.commitStore
  exact .iteFst h.update h.commitTries

theorem Steady.commitNow {fl} (h : Steady s t) : Steady s (Machine.commitNow t fl) := by
  unfold Machine.commitNow
  dsimp only
  split
  · exact h.update.commitStore.answer
  · exact h.update.commitStore

theorem Steady.saveWear (h : Steady s t) : Steady s (Machine.saveWear t) := by
  unfold Machine.saveWear
  exact h.update

/-! ### Power states -/

theorem Steady.endMotion (h : Steady s t) : Steady s (Machine.endMotion t) := by
  unfold Machine.endMotion
  refine .foldl (.foldl ?_ (fun _ _ h => h.driveDisable)) fun _ _ h => ?_
  · split
    · exact h.endTest.answer
    · exact h.endTest
  · split
    · exact h.onUnit.answer
    · exact h

theorem Steady.exposureOff (h : Steady s t) : Steady s (Machine.exposureOff t) := by
  unfold Machine.exposureOff
  exact h.sampleCapStop.update

theorem Steady.motionOff (h : Steady s t) : Steady s (Machine.motionOff t) := by
  unfold Machine.motionOff
  exact h.endMotion.update

theorem Steady.readyPllsOff (h : Steady s t) : Steady s (Machine.readyPllsOff t) := by
  unfold Machine.readyPllsOff
  exact h.update

theorem Steady.leaveReady (h : Steady s t) : Steady s (Machine.leaveReady t) := by
  unfold Machine.leaveReady
  extract_lets +onlyGivenNames s1 s2 s3
  have h2 : Steady s s2 := h.exposureOff.motionOff.readyPllsOff.update
  clear_value s2
  have hc (x) (hx : s3.flt.c4 = some x) : s2.flt.c4 = some x :=
    (congrArg Flt.c4 (toPower_flt s2 .standby)).symm.trans hx
  have h3 : Steady s s3 := h2.toPower
  clear_value s3
  refine .settleParts (.update ?_)
  exact h3.update (hc := hc)

theorem Steady.finishPower {ks} (h : Steady s t) : Steady s (Machine.finishPower t ks) := by
  unfold Machine.finishPower
  dsimp only
  split
  · exact h.update.answer
  · exact h.update.answer
  · exact h.update

theorem Steady.shutDone (h : Steady s t) : Steady s (Machine.shutDone t) := by
  unfold Machine.shutDone
  refine .andThen ?_ fun h => .ite h h.update
  split
  · exact h.update.answer
  · exact h.update

theorem Steady.shutStep (h : Steady s t) : Steady s (Machine.shutStep t) := by
  unfold Machine.shutStep
  exact .ite (.ite (.ite h.releaseSlots.releaseSlots.shutDone h.releaseSlots.releaseSlots) h.releaseSlots) h

theorem Steady.settlePower (h : Steady s t) : Steady s (Machine.settlePower t) := by
  unfold Machine.settlePower
  dsimp only
  split
  · exact .ite h.judgeChains (.finishPower (.ite h.judgeChains.idlePower h.judgeChains))
  · exact .ite h.judgeChains.finishPower h.judgeChains
  · exact h.judgeChains.shutStep
  · exact h.judgeChains

theorem Steady.startChain {n} (h : Steady s t) : Steady s (Machine.startChain t n) := by
  unfold Machine.startChain
  split
  · exact .ite h.chainOn h
  · exact h
  · exact h.startSlots

theorem Steady.relockAllowed (h : Steady s t) : Steady s (Machine.relockAllowed t) := by
  unfold Machine.relockAllowed
  exact h.update

theorem Steady.lowerPower {ks} (h : Steady s t) : Steady s (Machine.lowerPower t ks) := by
  unfold Machine.lowerPower
  refine .foldl (.releaseSlots ?_) fun _ _ h => h.chainOff
  split
  · exact h
  · exact h.leaveReady

theorem Steady.freeFlash (h : Steady s t) : Steady s (Machine.freeFlash t).2 := h.freeTaken

theorem Steady.applyTarget {t' w} (h : Steady s t) : Steady s (Machine.applyTarget t t' w) := by
  unfold Machine.applyTarget
  extract_lets +onlyGivenNames s1 p s2
  have h1 : Steady s s1 := by
    dsimp only [s1]
    split
    · exact h.answer
    · exact h
  have h2 : Steady s s2 := h1.update
  clear_value s2
  split
  · exact .settlePower (.startSlots (.foldl (.startSlots (.ite h2.relockAllowed h2)) fun _ _ h => h.startChain))
  · exact h2.lowerPower.startSlots.settlePower
  · exact h2.update.saveWear.freeFlash.commitNow.lowerPower.settlePower

theorem Steady.mainLost (h : Steady s t) : Steady s (Machine.mainLost t) :=
  ⟨⟨h.pending, fun _ => rfl, h.lockout, h.rollback⟩, h.vstby, h.phantom⟩

/-! ### The Stageline -/

theorem Steady.onStage {f} (h : Steady s t) : Steady s (Machine.State.onStage t f) := by
  unfold Machine.State.onStage
  exact h.update

theorem Steady.sendBoth {dst type flags payload} (h : Steady s t) :
    Steady s (Machine.sendBoth t dst type flags payload) := by
  unfold Machine.sendBoth
  exact h.sendAll

theorem Steady.reply {port f payload} (h : Steady s t) : Steady s (Machine.reply t port f payload) := by
  unfold Machine.reply
  exact h.send

theorem Steady.ask {dst type payload} (h : Steady s t) : Steady s (Machine.ask t dst type payload) := by
  unfold Machine.ask
  exact h.sendBoth.onStage

theorem Steady.sendNeighbour {p response} (h : Steady s t) : Steady s (Machine.sendNeighbour t p response) := by
  unfold Machine.sendNeighbour
  exact .ite h.send.freeTaken h.send

theorem Steady.startClaim {force w} (h : Steady s t) : Steady s (Machine.startClaim t force w) := by
  unfold Machine.startClaim
  exact h.sendBoth.onStage

theorem Steady.endClaim {status} (h : Steady s t) : Steady s (Machine.endClaim t status) := by
  unfold Machine.endClaim
  split
  · exact h
  · split
    · exact h.onStage.answer
    · exact h.onStage

theorem Steady.endDiscover {status} (h : Steady s t) : Steady s (Machine.endDiscover t status) := by
  unfold Machine.endDiscover
  dsimp only
  split
  · exact h.onStage.answer
  · exact h.onStage

theorem Steady.yieldToken (h : Steady s t) : Steady s (Machine.yieldToken t) := by
  unfold Machine.yieldToken
  exact h.onStage.endDiscover

theorem Steady.settleYield (h : Steady s t) : Steady s (Machine.settleYield t) := by
  unfold Machine.settleYield
  exact .ite h.yieldToken h

theorem Steady.hearClaim {payload} (h : Steady s t) : Steady s (Machine.hearClaim t payload) := by
  unfold Machine.hearClaim
  exact .ite (.ite h.onStage.onStage.settleYield h.onStage.sendBoth) (.ite h.onStage.endClaim h.onStage)

theorem Steady.hearHold (h : Steady s t) : Steady s (Machine.hearHold t) := by
  unfold Machine.hearHold
  split
  · exact h.endClaim
  · exact h

theorem Steady.identStep (h : Steady s t) : Steady s (Machine.identStep t) := by
  unfold Machine.identStep
  split
  · exact h
  · exact .ite h h.onStage.answerFit

theorem Steady.turnedStep (h : Steady s t) : Steady s (Machine.turnedStep t) := by
  unfold Machine.turnedStep
  split
  · exact (h.onStage.foldl (fun _ _ h => h.ask)).identStep
  · exact h

theorem Steady.takeIdent {node payload} (h : Steady s t) : Steady s (Machine.takeIdent t node payload) := by
  unfold Machine.takeIdent
  exact .andThen (.ite h.onStage.raise h.onStage) fun h => .ite h.identStep h

theorem Steady.applySeq {t'} (h : Steady s t) : Steady s (Machine.applySeq t t') := by
  unfold Machine.applySeq
  exact .ite h.onStage.applyTarget (.ite h.onStage h.onStage.answer)

theorem Steady.hearSeq {payload} (h : Steady s t) : Steady s (Machine.hearSeq t payload) := by
  unfold Machine.hearSeq
  split
  · exact h
  · exact .ite h (.ite h.applySeq h.onStage)

theorem Steady.hearStart {payload} (h : Steady s t) : Steady s (Machine.hearStart t payload) := by
  unfold Machine.hearStart
  exact h.onStage

theorem Steady.takeNumber {n} (h : Steady s t) : Steady s (Machine.takeNumber t n) := by
  unfold Machine.takeNumber
  exact .ite h (.ite h (.ite (.ite h.onStage h.onStage.raise) h.onStage))

theorem Steady.hearNeighbour {p response payload} (h : Steady s t) :
    Steady s (Machine.hearNeighbour t p response payload) := by
  unfold Machine.hearNeighbour
  exact .andThen (.ite h.onStage.takeNumber h.onStage) fun h => .ite h h.sendNeighbour

theorem Steady.pollFound {payload} (h : Steady s t) : Steady s (Machine.pollFound t payload) := by
  unfold Machine.pollFound
  exact h.onStage.foldl fun _ _ h => h.ask

theorem Steady.takeReply (h : Steady s t) : Steady s (Machine.takeReply t).1 := by
  unfold Machine.takeReply
  split <;> dsimp only
  · exact h.onStage
  · exact h.onStage

theorem Steady.repeatFrame {p f} (h : Steady s t) : Steady s (Machine.repeatFrame t p f) := by
  unfold Machine.repeatFrame
  exact .ite h (.ite h.send (.ite h.send h.send))

theorem Steady.hearResponse {f} (h : Steady s t) : Steady s (Machine.hearResponse t f) := by
  unfold Machine.hearResponse
  exact .ite h (.ite h.takeIdent.settleYield h.onStage.settleYield)

theorem Steady.hearRequest {p f} (h : Steady s t) : Steady s (Machine.hearRequest t p f) := by
  unfold Machine.hearRequest
  exact .ite h.reply (.ite (.reply (.takeReply (.ite h h.receiveMessage))) h)

theorem Steady.hearTurning {p f} (h : Steady s t) : Steady s (Machine.hearTurning t p f) := by
  unfold Machine.hearTurning
  exact .ite (.ite h.onStage.clearCond h) (.ite h (.ite h.pollFound (.ite h.onStage.turnedStep.settleYield h)))

theorem Steady.actOn {p f} (h : Steady s t) : Steady s (Machine.actOn t p f) := by
  unfold Machine.actOn
  split
  · exact h.hearTurning
  · exact h.hearTurning
  · exact .ite h (.ite h.hearResponse h.hearRequest)
  · exact .ite h (.ite h.hearResponse h.hearRequest)
  · exact .ite h h.hearClaim
  · exact .ite h h.hearHold
  · exact h.hearSeq
  · exact h.hearNeighbour
  · exact h.hearStart
  · exact h

theorem Steady.porterRx {p f} (h : Steady s t) : Steady s (Machine.porterRx t p f) := by
  unfold Machine.porterRx
  exact .ite h.reply h

theorem Steady.stageRx {p f} (h : Steady s t) : Steady s (Machine.stageRx t p f) := by
  unfold Machine.stageRx
  exact .ite h.repeatFrame h.repeatFrame.onStage.clearCond.actOn

/-! ### Keeper reset, sessions and the Waybill -/

theorem Steady.keeperReset {cause core} (h : Steady s t) : Steady s (Machine.keeperReset t cause core) := by
  unfold Machine.keeperReset
  exact h.update

theorem Steady.answerBusy (h : Steady s t) : Steady s (Machine.answerBusy t) := by
  unfold Machine.answerBusy
  exact h.update.foldl fun _ _ h => h.answer

theorem Steady.deliverHeld (h : Steady s t) : Steady s (Machine.deliverHeld t) := by
  unfold Machine.deliverHeld
  exact h.update

theorem Steady.replaceCore {core} (h : Steady s t) : Steady s (Machine.replaceCore t core) := by
  unfold Machine.replaceCore
  exact .ite h h.update.raise.settleParts

theorem Steady.writeDir {active prev trial} (h : Steady s t) : Steady s (Machine.writeDir t active prev trial) := by
  unfold Machine.writeDir
  exact h.update

theorem Steady.loadDir (h : Steady s t) : Steady s (Machine.loadDir t) := by
  unfold Machine.loadDir
  split
  · exact h.update
  · exact h

theorem Steady.abandonTrial {why} (h : Steady s t) : Steady s (Machine.abandonTrial t why) := by
  unfold Machine.abandonTrial
  exact h.writeDir.update.gbRecord

theorem Steady.endSession {mb} (h : Steady s t) : Steady s (Machine.endSession t mb) := by
  unfold Machine.endSession
  split
  · exact h
  · exact h.count.update

theorem Steady.answerClaim {win c} (h : Steady s t) : Steady s (Machine.answerClaim t win c) := by
  unfold Machine.answerClaim
  exact .ite h.answer (.ite h.update.answer h.answer)

theorem Steady.decideClaims {cs} (h : Steady s t) : Steady s (Machine.decideClaims t cs) := by
  unfold Machine.decideClaims
  split
  · exact h
  · exact h.foldl fun _ _ h => h.answerClaim

theorem Steady.closeWindow (h : Steady s t) : Steady s (Machine.closeWindow t) := by
  unfold Machine.closeWindow
  split
  · exact h
  · exact h.update.decideClaims

theorem Steady.takeClaim {c} (h : Steady s t) : Steady s (Machine.takeClaim t c) := by
  unfold Machine.takeClaim
  exact h.update

theorem Steady.bootImage (h : Steady s t) : Steady s (Machine.bootImage t) := by
  unfold Machine.bootImage
  exact .ite h.update h.update.raise

theorem Steady.handOut {fuel} (h : Steady s t) : Steady s (Machine.handOut fuel t) := by
  induction fuel generalizing t with
  | zero => exact h
  | succ fuel ih => exact .ite h (ih h.handEntries)

/-! ### Fault collection commands -/

theorem Steady.noteSource {id} (h : Steady s t) : Steady s (Machine.noteSource t id) := by
  unfold Machine.noteSource
  exact .ite h.update h

theorem Goes.execFaultRaise {dt source data condition} :
    Goes s (Machine.execFaultRaise dt source data condition s) := by
  unfold Machine.execFaultRaise
  exact .event fun _ h => h.noteSource.raise

theorem Goes.execReactionCheck {dt nEmitHigh driveRailsLow} :
    Goes s (Machine.execReactionCheck dt nEmitHigh driveRailsLow s) := by
  unfold Machine.execReactionCheck
  exact .event fun _ h => .ite h.update h.update.raise

theorem Steady.inhibitLayer (h : Steady s t) : Steady s (Machine.inhibitLayer t) := by
  unfold Machine.inhibitLayer
  split
  · exact h.update.emitOff
  · exact h.update.emitOff
  · exact h.cutEmission.update
  · exact h.emitOff

theorem Goes.execEmitInhibitRise {dt} : Goes s (Machine.execEmitInhibitRise dt s) := by
  unfold Machine.execEmitInhibitRise
  exact .event fun _ h => h.update.raise.inhibitLayer.raiseLosses

theorem Goes.execEmitInhibitFall {dt} : Goes s (Machine.execEmitInhibitFall dt s) := by
  unfold Machine.execEmitInhibitFall
  exact .event fun _ h => h.update.clearCond

theorem Goes.execInhibitHoldExpiry {dt} : Goes s (Machine.execInhibitHoldExpiry dt s) := by
  unfold Machine.execInhibitHoldExpiry
  exact .event fun _ h => h.update

theorem Steady.clearWord {off} (h : Steady s t) : Steady s (Machine.clearWord t off) := by
  unfold Machine.clearWord
  exact h.poke

theorem Steady.ringPixel {k c} (h : Steady s t) : Steady s (Machine.ringPixel t k c) := by
  unfold Machine.ringPixel
  exact h.addDeficit.andThen fun h => .ite (h.onGroup.update fun hm => memPuts_wf hm _ _) h

theorem Steady.ringError {off} (h : Steady s t) : Steady s (Machine.ringError t off) := by
  unfold Machine.ringError
  refine .clearWord ?_
  split
  · exact .ite (h.foldl (fun _ _ h => h.ringPixel)) h
  · exact h

theorem Steady.passError {off} (h : Steady s t) : Steady s (Machine.passError t off) := by
  unfold Machine.passError
  refine .ite (h.update (memWf_foldl (fun m i hm => ?_) _)) h.update
  split
  · exact memPuts_wf hm _ _
  · exact hm

theorem Steady.setError {off} (h : Steady s t) : Steady s (Machine.setError t off) := by
  unfold Machine.setError
  exact h.poke.clearWord.update

theorem Steady.learnedError {off} (h : Steady s t) : Steady s (Machine.learnedError t off) := by
  unfold Machine.learnedError
  exact h.poke.freeTaken

theorem Steady.billetError {off} (h : Steady s t) : Steady s (Machine.billetError t off) := by
  unfold Machine.billetError
  exact h.poke

theorem Steady.readerEnds {reader} (h : Steady s t) : Steady s (Machine.readerEnds t reader) := by
  unfold Machine.readerEnds
  split
  · exact .ite h h.dmaEnd
  · exact h

theorem Steady.servoError {off} (h : Steady s t) : Steady s (Machine.servoError t off) := by
  unfold Machine.servoError
  dsimp only
  split
  · exact h.clearWord.endTest.raise
  · exact h.clearWord

theorem Steady.packetError {a} (h : Steady s t) : Steady s (Machine.packetError t a) := by
  unfold Machine.packetError
  split
  · exact h
  · exact h.onChan

theorem Steady.regionEffect {off reader} (h : Steady s t) : Steady s (Machine.regionEffect t off reader) := by
  unfold Machine.regionEffect
  split
  · exact h.ringError
  · exact h.passError
  · exact .ite h.clearWord h.setError
  · exact .ite h.clearWord h.learnedError
  · exact h.billetError
  · exact h.readerEnds
  · exact h.readerEnds
  · exact h.readerEnds
  · exact h.servoError
  · exact h.keeperReset
  · exact h.keeperReset
  · exact h.packetError
  · exact h

theorem Steady.correctedError {off} (h : Steady s t) : Steady s (Machine.correctedError t off) := by
  unfold Machine.correctedError
  exact .ite h.count.update.raise h.count.update

theorem Goes.execSramError {dt} {offset : U32} {corrected reader} (hoff : offset.toNat < sramSize) :
    Goes s (Machine.execSramError dt offset corrected reader s) := by
  unfold Machine.execSramError
  rw [if_neg (Nat.not_le.mpr hoff)]
  exact .event fun _ h => .ite h.correctedError h.regionEffect.raiseR

theorem Goes.execRegionWriteBlocked {dt} {offset : U32} {master} (hoff : offset.toNat < sramSize) :
    Goes s (Machine.execRegionWriteBlocked dt offset master s) := by
  unfold Machine.execRegionWriteBlocked
  rw [if_neg (Nat.not_le.mpr hoff)]
  exact .event fun _ h => h.raise

theorem Goes.execScrubPass {dt} : Goes s (Machine.execScrubPass dt s) := by
  unfold Machine.execScrubPass
  exact .event fun _ h => h

theorem Steady.clearAll (h : Steady s t) : Steady s (Machine.clearAll t) := by
  unfold Machine.clearAll
  exact h.foldl fun _ _ h => h.clearSource

theorem Answers.clearAnswer {status} (h : Steady s t) : Answers s (Machine.clearAnswer t status) := by
  unfold Machine.clearAnswer
  exact .now h

theorem Goes.execFaultClear {q source} : Goes s (Machine.execFaultClear q source s) := by
  unfold Machine.execFaultClear
  exact .request fun _ _ h =>
    .ite (.clearAnswer h.clearAll.rearmFirst)
    (.ite (.clearAnswer h)
    (.ite (.clearAnswer h) (.ite (.clearAnswer h) (.ite (.clearAnswer h) (.clearAnswer h.clearSource.rearmFirst)))))

theorem Goes.execFaultStatus {q first count} : Goes s (Machine.execFaultStatus q first count s) := by
  unfold Machine.execFaultStatus
  exact .request fun _ _ h => .ite (.refuse h) (.sized h)

theorem Goes.execFaultFirst {q} : Goes s (Machine.execFaultFirst q s) := by
  unfold Machine.execFaultFirst
  exact .request fun _ _ h => .now h

theorem Goes.execFaultInject {q source} : Goes s (Machine.execFaultInject q source s) := by
  unfold Machine.execFaultInject
  exact .request fun _ _ h => .ite (.refuse h) (.ite (.refuse h) (.done h.raiseR))

/-! ### Rail and wake commands -/

theorem Goes.execRailDelayElapsed {dt slot} : Goes s (Machine.execRailDelayElapsed dt slot s) := by
  unfold Machine.execRailDelayElapsed
  exact .event fun _ h => h.enableSlot

theorem Steady.pmbusRead {k codes} (h : Steady s t) : Steady s (Machine.pmbusRead t k codes) := by
  unfold Machine.pmbusRead
  exact .ite h h.sendAll

theorem Goes.execRailGood {dt slot mv voutMode} : Goes s (Machine.execRailGood dt slot mv voutMode s) := by
  unfold Machine.execRailGood
  exact .event fun _ h => h.onRail.pmbusRead.settlePower

theorem Steady.wakeFails {k} (h : Steady s t) : Steady s (Machine.wakeFails t k) := by
  unfold Machine.wakeFails
  exact h.raise.releaseSlots.mainLost.update

theorem Steady.noteFailed {k} (h : Steady s t) :
    Steady s { t with pwr := { t.pwr with firstFailed := some (t.pwr.firstFailed.getD k) } } :=
  h.update

theorem Steady.railFailed {k} (h : Steady s t) : Steady s (Machine.railFailed t k) := by
  unfold Machine.railFailed
  refine .ite h.onRail.endMargin.updateDisch.wakeFails (.settlePower (.raise ?_))
  exact h.onRail.endMargin.updateDisch.blockDependants.noteFailed.andThen fun h => .ite h.chainFail h

theorem Goes.execRailPgTimeout {dt slot} : Goes s (Machine.execRailPgTimeout dt slot s) := by
  unfold Machine.execRailPgTimeout
  exact .event fun _ h => .ite h.onRail h.railFailed

theorem Steady.railOff {k} (h : Steady s t) : Steady s (Machine.railOff t k) := by
  unfold Machine.railOff
  exact .settlePower (.ite h.onRail.settleReleases.startSlots h.onRail.settleReleases)

theorem Goes.execRailDecayed {dt slot mv} : Goes s (Machine.execRailDecayed dt slot mv s) := by
  unfold Machine.execRailDecayed
  exact .event fun _ h => .ite h.onRail.enableSlot h.onRail.railOff

theorem Goes.execRailDecayTimeout {dt slot} : Goes s (Machine.execRailDecayTimeout dt slot s) := by
  unfold Machine.execRailDecayTimeout
  exact .event fun _ h => .ite h.enableSlot h.railOff.raise

theorem Steady.dropLost {k mv} (h : Steady s t) : Steady s (Machine.dropLost t k mv) := by
  unfold Machine.dropLost
  exact h.onRail.dropSlots

theorem Goes.execRailOvervoltage {dt slot mv} : Goes s (Machine.execRailOvervoltage dt slot mv s) := by
  unfold Machine.execRailOvervoltage
  exact .event fun _ h => h.dropLost.raise.raise

theorem Steady.pmbusNoAck {k} (h : Steady s t) : Steady s (Machine.pmbusNoAck t k) := by
  unfold Machine.pmbusNoAck
  exact .ite h.onRail.raise h.onRail

theorem Steady.pmbusMiss {k} (h : Steady s t) : Steady s (Machine.pmbusMiss t k) := by
  unfold Machine.pmbusMiss
  exact h.pmbusNoAck.pmbusNoAck.pmbusNoAck

theorem Goes.execPmbusAlert {dt slot status} : Goes s (Machine.execPmbusAlert dt slot status s) := by
  unfold Machine.execPmbusAlert
  refine .event fun _ h => ?_
  split
  · exact h.pmbusRead.pmbusMiss
  · exact .ite h.pmbusRead.onRail.pmbusRead.raise h.pmbusRead.onRail

theorem Goes.execPmbusPoll {dt slot readings} : Goes s (Machine.execPmbusPoll dt slot readings s) := by
  unfold Machine.execPmbusPoll
  refine .event fun _ h => ?_
  split
  · exact h.pmbusRead.pmbusMiss
  · exact h.pmbusRead.onRail

theorem Goes.execPwrState {q target} : Goes s (Machine.execPwrState q target s) := by
  unfold Machine.execPwrState
  exact .request fun _ _ h => .ite (.refuse h) (.later h.applyTarget)

theorem Goes.execPwrRail {q slot on} : Goes s (Machine.execPwrRail q slot on s) := by
  unfold Machine.execPwrRail
  exact .request fun _ _ h =>
    .ite (.refuse h) (.ite (.refuse h) (.ite (.refuse h) (.done (.settlePower (.ite h.startSlots h.releaseSlots)))))

theorem Steady.marginNominal {k} (h : Steady s t) : Steady s (Machine.marginNominal t k) := by
  unfold Machine.marginNominal
  exact .ite h.endMargin.onRail.sendAll h.endMargin

theorem Steady.marginPmbus {k dir code} (h : Steady s t) : Steady s (Machine.marginPmbus t k dir code) := by
  unfold Machine.marginPmbus
  dsimp only
  split
  · exact h.onRail.sendAll
  · exact h.freeTaken.onRail.sendAll

theorem Goes.execPwrMargin {q slot dir permille} : Goes s (Machine.execPwrMargin q slot dir permille s) := by
  unfold Machine.execPwrMargin
  exact .request fun _ _ h =>
    .ite (.refuse h)
    (.ite (.refuse h)
    (.ite (.refuse h)
    (.ite (.refuse h)
    (.ite (.done h.marginNominal) (.ite (.ite (.refuse h) (.done h.onRail.marginPmbus)) (.later h.onRail))))))

theorem Goes.execMarginTrimDone {dt slot reached trim} :
    Goes s (Machine.execMarginTrimDone dt slot reached trim s) := by
  unfold Machine.execMarginTrimDone
  refine .event fun _ h => ?_
  split
  · exact h
  · exact .ite h.onRail.answer h.endMargin

theorem Goes.execPwrRailStatus {q slot} : Goes s (Machine.execPwrRailStatus q slot s) := by
  unfold Machine.execPwrRailStatus
  exact .request fun _ _ h => .ite (.refuse h) (.now h)

theorem Steady.porterOn (h : Steady s t) : Steady s (Machine.porterOn t) := by
  unfold Machine.porterOn
  exact .ite h.update h

theorem Goes.execPhantomOvercurrent {dt} : Goes s (Machine.execPhantomOvercurrent dt s) := by
  unfold Machine.execPhantomOvercurrent
  exact .event fun _ h => h.update.raise

theorem Goes.execPhantomFoldbackEnd {dt} : Goes s (Machine.execPhantomFoldbackEnd dt s) := by
  unfold Machine.execPhantomFoldbackEnd
  exact .event fun _ h => h.update

theorem Steady.repeatPattern {c} (h : Steady s t) : Steady s (Machine.repeatPattern t c) := by
  unfold Machine.repeatPattern
  split
  · exact h.send
  · exact h

theorem Steady.startWake (h : Steady s t) : Steady s (Machine.startWake t) := by
  unfold Machine.startWake
  exact .andThen (.ite h.update.startSlots.raise h.update.startSlots) fun h => .ite h.raise h

theorem Goes.execWakeEvent {dt cause} : Goes s (Machine.execWakeEvent dt cause s) := by
  unfold Machine.execWakeEvent
  exact .event fun _ h => .ite h.update (.ite h.repeatPattern.startWake h.repeatPattern)

/-! ### Self-test and start -/

theorem Steady.toPorter {b} (h : Steady s t) (hb : t.bist.rollback ≤ b.rollback) :
    Steady s (Machine.toPorter t b) := by
  unfold Machine.toPorter
  exact (h.update (hr := hb)).mainLost.releaseSlots.andThen fun h => .ite h.startWake h

theorem repairSramRow_rollback (b : Bist) (r : Nat) : (repairSramRow b r).rollback = b.rollback := by
  unfold repairSramRow
  dsimp only
  split
  · rfl
  · split
    · rfl
    · split <;> rfl

theorem repairAll_rollback (rows : List Nat) (b : Bist) : (rows.foldl repairSramRow b).rollback = b.rollback :=
  List.foldlRecOn rows _ (motive := fun c : Bist => c.rollback = b.rollback) rfl fun _ h r _ =>
    (repairSramRow_rollback _ r).trans h

theorem shutRecord_rollback (s : State) (i : SelfTestInputs) : (shutRecord s i).rollback = s.bist.rollback := by
  unfold shutRecord
  split
  · rfl
  · split
    · rfl
    · exact repairAll_rollback _ _

theorem Goes.execShutdownSelfTest {dt inputs} : Goes s (Machine.execShutdownSelfTest dt inputs s) :=
  .event fun u h => h.toPorter (shutRecord_rollback u inputs).ge

theorem Steady.interruptTest (h : Steady s t) : Steady s (Machine.interruptTest t) := by
  unfold Machine.interruptTest
  exact h.freeTaken.update.toPorter le_rfl

theorem Goes.execSelfTestInterrupt {dt} : Goes s (Machine.execSelfTestInterrupt dt s) := by
  unfold Machine.execSelfTestInterrupt
  exact .event fun _ h => h.interruptTest

theorem Goes.execRailLost {dt slot mv} : Goes s (Machine.execRailLost dt slot mv s) := by
  unfold Machine.execRailLost
  exact .event fun _ h => h.dropLost.raise.andThen fun h => .ite h.interruptTest h

theorem Steady.applyFailed {f} (h : Steady s t) : Steady s (Machine.applyFailed t f) := by
  unfold Machine.applyFailed
  exact .ite h.update.replaceCore h.update.replaceCore.raise

theorem Steady.loadUser {im} (h : Steady s t) : Steady s (Machine.loadUser t im) := by
  unfold Machine.loadUser
  exact (h.foldl (fun _ _ h => h.placeWords.pput)).update

theorem Steady.loadImage {im} (h : Steady s t) : Steady s (Machine.loadImage t im) := by
  unfold Machine.loadImage
  exact h.update.update.loadUser

theorem Steady.readStore (h : Steady s t) : Steady s (Machine.readStore t).1 := by
  unfold Machine.readStore
  dsimp only
  split
  · exact h.update.loadImage
  · exact h.update.update.gbRecord

theorem Steady.bootTrial (h : Steady s t) : Steady s (Machine.bootTrial t) := by
  unfold Machine.bootTrial
  exact .ite h (.ite h.abandonTrial h.update)

theorem Steady.boot (h : Steady s t) : Steady s (Machine.boot t) := by
  unfold Machine.boot
  extract_lets +onlyGivenNames s1 house therm stage flt keep s2
  have hc (x) (hx : s1.flt.c4 = some x) : t.flt.c4 = some x := (congrArg Flt.c4 (toPower_flt t .standby)).symm.trans hx
  have h2 : Steady s s2 := Steady.update (u := s1) h.toPower (hc := hc)
  have h3 := h2.readStore
  generalize Machine.readStore s2 = p at h3 ⊢
  obtain ⟨s3, stored⟩ := p
  clear_value s2
  dsimp -zeta only at h3 ⊢
  extract_lets +onlyGivenNames host s4
  have h4 : Steady s s4 := h3.update.latchClock
  clear_value s4
  refine .applyTarget (.applyFailed (.bootImage (.bootTrial (.learnReset (.loadDir ?_)))))
  exact .ite h4.update.wear h4.gbRecord

theorem Goes.execBoot {dt} : Goes s (Machine.execBoot dt s) := by
  unfold Machine.execBoot
  exact .event fun _ h => h.boot

theorem Goes.execBistResultRead {q} : Goes s (Machine.execBistResultRead q s) := by
  unfold Machine.execBistResultRead
  exact .request fun _ _ h => .ite (.refuse h) (.now h)

theorem Goes.execSecIdentGet {q} : Goes s (Machine.execSecIdentGet q s) := by
  unfold Machine.execSecIdentGet
  exact .request fun _ _ h => .now h

theorem Goes.execWearRead {q} : Goes s (Machine.execWearRead q s) := by
  unfold Machine.execWearRead
  exact .request fun _ _ h => .now h

/-! ### Housekeeping commands -/

theorem Goes.execRoundStart {dt} : Goes s (Machine.execRoundStart dt s) := by
  unfold Machine.execRoundStart
  exact .event fun _ h => h.update

theorem Goes.execRoundPublish {dt inputs} : Goes s (Machine.execRoundPublish dt inputs s) := by
  unfold Machine.execRoundPublish
  exact .event fun _ h => h.publishRound

theorem Goes.execMainsZeroCross {dt line positive} : Goes s (Machine.execMainsZeroCross dt line positive s) := by
  unfold Machine.execMainsZeroCross
  exact .event fun _ h => .foldl (.ite h.onLine.clearCond h.onLine) fun _ _ h => h.crossHeater

theorem Goes.execMainsLost {dt line} : Goes s (Machine.execMainsLost dt line s) := by
  unfold Machine.execMainsLost
  exact .event fun _ h => h.loseLine

theorem Goes.execHeaterPwmPeriod {dt heater} : Goes s (Machine.execHeaterPwmPeriod dt heater s) := by
  unfold Machine.execHeaterPwmPeriod
  exact .event fun _ h => h.pwmPeriod

theorem Goes.execAnalogueTrip {dt} : Goes s (Machine.execAnalogueTrip dt s) := by
  unfold Machine.execAnalogueTrip
  exact .event fun _ h => h.update.raise.andThen fun h => .ite h.interruptTest h

theorem Goes.execWearSave {dt} : Goes s (Machine.execWearSave dt s) := by
  unfold Machine.execWearSave
  exact .event fun _ h => h.update.markDirty

theorem Goes.execHkRead {q first count} : Goes s (Machine.execHkRead q first count s) := by
  unfold Machine.execHkRead
  exact .request fun _ _ h => .ite (.refuse h) (.sized h)

theorem Goes.execHtrOtReset {q heater} : Goes s (Machine.execHtrOtReset q heater s) := by
  unfold Machine.execHtrOtReset
  exact .request fun _ _ h =>
    .ite (.refuse h) (.ite (.refuse h) (.ite (.refuse h) (.done (.ite h.onHeater h.onHeater.clearCond))))

/-! ### Keeper commands -/

theorem Steady.askReserve {core} (h : Steady s t) : Steady s (Machine.askReserve t core) := by
  unfold Machine.askReserve
  exact .ite h.update h

theorem Goes.execKeeperWatchdogTrip {dt core} : Goes s (Machine.execKeeperWatchdogTrip dt core s) := by
  unfold Machine.execKeeperWatchdogTrip
  exact .event fun _ h => h.update.askReserve.keeperReset.raise

theorem Steady.restartImage {cause} (h : Steady s t) : Steady s (Machine.restartImage t cause) := by
  unfold Machine.restartImage
  exact .andThen (.ite h.abandonTrial (.ite h.update h)) fun h => .ite h.bootImage h

theorem Goes.execKeeperRestartDone {dt} : Goes s (Machine.execKeeperRestartDone dt s) := by
  unfold Machine.execKeeperRestartDone
  refine .event fun _ h => ?_
  split
  · exact h
  · exact h.update.gbWriteAt.restartImage.replaceCore.answerBusy.deliverHeld.mb4Copy

theorem Goes.execLoadWindow {dt load} : Goes s (Machine.execLoadWindow dt load s) := by
  unfold Machine.execLoadWindow
  refine .event fun _ h => ?_
  dsimp only
  split
  · exact .ite h.update h.update.update.count.gbRecord
  · exact .ite h.update (.ite h.update.update h.update.update.freeFlash.commitNow)

theorem Goes.execRequestAging {dt mb tag} : Goes s (Machine.execRequestAging dt mb tag s) := by
  unfold Machine.execRequestAging
  exact .event fun _ h => h.count.update

theorem Goes.execSessionTimeout {dt mb} : Goes s (Machine.execSessionTimeout dt mb s) := by
  unfold Machine.execSessionTimeout
  exact .event fun _ h => h.endSession

theorem Goes.execClaimWindowClose {dt} : Goes s (Machine.execClaimWindowClose dt s) := by
  unfold Machine.execClaimWindowClose
  exact .event fun _ h => h.closeWindow

theorem Goes.execSessionOpen {q force} : Goes s (Machine.execSessionOpen q force s) := by
  unfold Machine.execSessionOpen
  exact .request fun _ _ h =>
    .ite (.refuse h) (.ite (.refuse h) (.now (.update (.ite h.endSession.freeTaken h.endSession))))

theorem Goes.execSessionClose {q} : Goes s (Machine.execSessionClose q s) := by
  unfold Machine.execSessionClose
  exact .request fun _ _ h => .ite (.refuse h) (.later h.answer.endSession)

theorem Goes.execSessionClaim {q force} : Goes s (Machine.execSessionClaim q force s) := by
  unfold Machine.execSessionClaim
  refine .request fun _ _ h => ?_
  split
  · exact .refuse h
  · exact .later h.takeClaim

theorem Goes.execMb4ReqDoorbell {dt} : Goes s (Machine.execMb4ReqDoorbell dt s) := by
  unfold Machine.execMb4ReqDoorbell
  exact .event fun _ h => h.mb4Request

theorem Goes.execMb4AckDoorbell {dt} : Goes s (Machine.execMb4AckDoorbell dt s) := by
  unfold Machine.execMb4AckDoorbell
  exact .event fun _ h => h.mb4Ack

theorem Goes.execTimeNowRead {dt} : Goes s (Machine.execTimeNowRead dt s) := by
  unfold Machine.execTimeNowRead
  exact .event fun _ h => h.latchTime

theorem Goes.execRegisterWrite {dt path offset value} :
    Goes s (Machine.execRegisterWrite dt path offset value s) := by
  unfold Machine.execRegisterWrite
  refine .event fun _ h => ?_
  split
  · exact h.spiWrite
  · exact h.windowAccess

theorem Goes.execKeepIdent {q} : Goes s (Machine.execKeepIdent q s) := by
  unfold Machine.execKeepIdent
  exact .request fun _ _ h => .now h

theorem Goes.execKeepStatus {q} : Goes s (Machine.execKeepStatus q s) := by
  unfold Machine.execKeepStatus
  exact .request fun _ _ h => .now h

theorem Goes.execParamRead {q index sub count} : Goes s (Machine.execParamRead q index sub count s) := by
  unfold Machine.execParamRead
  refine .request fun _ _ h => .ite (.refuse h) ?_
  split
  · exact .refuse h
  · exact .ite (.refuse h) (.now h)

theorem Steady.paramEffects {es} (h : Steady s t) : Steady s (Machine.paramEffects t es) := by
  unfold Machine.paramEffects
  exact .ite (h.foldl (fun _ _ h => h.sendTelem)) h

theorem Steady.applyParams {es} (h : Steady s t) : Steady s (Machine.applyParams t es) := by
  unfold Machine.applyParams
  exact h.update.paramEffects.andThen fun h => .ite h.markDirty h

theorem Goes.execParamWrite {q entry} : Goes s (Machine.execParamWrite q entry s) := by
  unfold Machine.execParamWrite
  exact .request fun _ _ h => .ite (.refuse h) (.done h.applyParams)

theorem Goes.execParamWriteSet {q n entries} : Goes s (Machine.execParamWriteSet q n entries s) := by
  unfold Machine.execParamWriteSet
  refine .request fun _ _ h => .ite (.refuse h) ?_
  split
  · exact .now h
  · exact .now h.applyParams

theorem Goes.execKeepResync {q} : Goes s (Machine.execKeepResync q s) := by
  unfold Machine.execKeepResync
  exact .request fun _ _ h => .now h.poke.update

theorem Goes.execWaybillRead {q generation offset len} :
    Goes s (Machine.execWaybillRead q generation offset len s) := by
  unfold Machine.execWaybillRead
  exact .request fun _ _ h => .ite (.refuse h) (.ite (.refuse h) (.now h))

theorem Goes.execGbFlush {dt} : Goes s (Machine.execGbFlush dt s) := by
  unfold Machine.execGbFlush
  exact .event fun _ h => h.handOut

theorem Goes.execGbRead {q fromSeq count} : Goes s (Machine.execGbRead q fromSeq count s) := by
  unfold Machine.execGbRead
  exact .request fun _ _ h => .ite (.refuse h) (.now h)

theorem Goes.execGbAck {q rdSeq} : Goes s (Machine.execGbAck q rdSeq s) := by
  unfold Machine.execGbAck
  exact .request fun _ _ h => .ite (.refuse h) (.done h.update)

theorem Goes.execStoreCommit {q flash} : Goes s (Machine.execStoreCommit q flash s) := by
  unfold Machine.execStoreCommit
  refine .request fun _ _ h => ?_
  split
  · exact .refuse h
  · exact .later h.update
  · exact .later h.update
  · exact .now h.commitStore

theorem Goes.execStoreCommitDelay {dt flash} : Goes s (Machine.execStoreCommitDelay dt flash s) := by
  unfold Machine.execStoreCommitDelay
  exact .event fun _ h => .ite h.update h.commitStore

theorem Goes.execStoreDeferralLimit {dt flash} : Goes s (Machine.execStoreDeferralLimit dt flash s) := by
  unfold Machine.execStoreDeferralLimit
  exact .event fun _ h => h.commitNow

theorem Goes.execStoreStatus {q} : Goes s (Machine.execStoreStatus q s) := by
  unfold Machine.execStoreStatus
  exact .request fun _ _ h => .now h

theorem Steady.onFw {i f} (h : Steady s t) : Steady s (Machine.State.onFw t i f) := by
  unfold Machine.State.onFw
  exact h.update

theorem Goes.execFwBegin {q length} : Goes s (Machine.execFwBegin q length s) := by
  unfold Machine.execFwBegin
  exact .request fun _ _ h => .ite (.refuse h) (.ite (.refuse h) (.now h.onFw.update))

theorem Goes.execFwWrite {q offset data} : Goes s (Machine.execFwWrite q offset data s) := by
  unfold Machine.execFwWrite
  exact .request fun _ _ h => .ite (.refuse h) (.ite (.refuse h) (.ite (.refuse h) (.done h.onFw)))

theorem Goes.execFwVerify {q} : Goes s (Machine.execFwVerify q s) := by
  unfold Machine.execFwVerify
  refine .request fun u _ h => .ite (.refuse h) ?_
  generalize imageStatus u _ = st
  exact .ite (.refuse h.onFw) (.done h.onFw)

theorem Goes.execFwActivate {q mode} : Goes s (Machine.execFwActivate q mode s) := by
  unfold Machine.execFwActivate
  exact .request fun _ _ h =>
    .ite (.refuse h)
    (.ite (.refuse h)
    (.ite (.refuse h) (.ite (.done h.writeDir.update) (.later h.writeDir.update.answer.keeperReset))))

theorem Goes.execFwConfirm {q} : Goes s (Machine.execFwConfirm q s) := by
  unfold Machine.execFwConfirm
  exact .request fun _ _ h => .ite (.refuse h) (.done (h.writeDir.update (hr := le_max_left _ _)))

/-! ### Tile link commands -/

theorem Goes.execMarkerAdvance {dt waitNs} : Goes s (Machine.execMarkerAdvance dt waitNs s) := by
  unfold Machine.execMarkerAdvance
  exact .clocked fun _ h => (h.foldl (fun _ _ h => h.linkSend)).andThen fun h =>
    .ite h.update.onBuild.count.onBuild.linkFirst h.update.onBuild

theorem Goes.execDeliveryReport {dt chain pos period fired status} :
    Goes s (Machine.execDeliveryReport dt chain pos period fired status s) := by
  unfold Machine.execDeliveryReport
  exact .received fun _ h => .ite (h.onTile.foldl (fun _ _ h => .ite h h.loseFrame)) h.onTile.burstReport

theorem Goes.execAckUnknown {dt chain pos period} : Goes s (Machine.execAckUnknown dt chain pos period s) := by
  unfold Machine.execAckUnknown
  exact .clocked fun _ h => h.onTile.count.raise.andThen fun h => .ite h.onTile.raise h

theorem Steady.cellFault {n p f} (h : Steady s t) : Steady s (Machine.cellFault t n p f) := by
  unfold Machine.cellFault
  exact .ite h (.ite h (.foldl (.ite h.onTile.update h.onTile.update.linkFirst) (fun _ _ h => h.loseCells)))

theorem Steady.tripTile {n p} (h : Steady s t) : Steady s (Machine.tripTile t n p) := by
  unfold Machine.tripTile
  exact h.update.onTile.raise

theorem Goes.execTelemetryFrame {dt chain pos rx} : Goes s (Machine.execTelemetryFrame dt chain pos rx s) := by
  unfold Machine.execTelemetryFrame
  exact .received fun _ h => (h.onTile.foldl (fun _ _ h => h.cellFault)).andThen fun h =>
    .andThen (.ite h.tripTile h) fun h => .andThen (.ite h.onTile.raise h) fun h =>
    .andThen (.ite h.raise h) fun h => .ite h h.clearCond

theorem Steady.mgmtApplied {m} (h : Steady s t) : Steady s (Machine.mgmtApplied t m) := by
  unfold Machine.mgmtApplied
  exact .ite h.onTile (.ite h.onTile.recheckTile h)

theorem Goes.execManagementResponse {dt chain pos tag status data} :
    Goes s (Machine.execManagementResponse dt chain pos tag status data s) := by
  unfold Machine.execManagementResponse
  dsimp only
  refine .received fun _ h => ?_
  split
  · exact h
  · exact .andThen (.ite h.update.mgmtApplied h.update) fun h => by
      split
      · exact .ite h.answer h.answer
      · exact h

theorem Goes.execCodewordUncorrectable {dt lane error} :
    Goes s (Machine.execCodewordUncorrectable dt lane error s) := by
  unfold Machine.execCodewordUncorrectable
  exact .clocked fun _ h => h.discardFrames.count.update

theorem Goes.execLaneFailover {dt chain} : Goes s (Machine.execLaneFailover dt chain s) := by
  unfold Machine.execLaneFailover
  exact .clocked fun _ h => h.laneLost

theorem Goes.execFailoverComplete {dt chain} : Goes s (Machine.execFailoverComplete dt chain s) := by
  unfold Machine.execFailoverComplete
  exact .clocked fun _ h => h.moveDone

theorem Goes.execReservePretrain {dt} : Goes s (Machine.execReservePretrain dt s) := by
  unfold Machine.execReservePretrain
  exact .clocked fun _ h => h.update.laneReset.foldl fun _ _ h => h.laneSend

theorem Goes.execPretrainDone {dt ok got} : Goes s (Machine.execPretrainDone dt ok got s) := by
  unfold Machine.execPretrainDone
  exact .clocked fun _ h => h.update.laneReset.andThen fun h => .ite h h.raise

theorem Goes.execChainRailsGood {dt chain} : Goes s (Machine.execChainRailsGood dt chain s) := by
  unfold Machine.execChainRailsGood
  exact .event fun _ h => h.onChain

theorem Goes.execSegmentTrained {dt chain space} : Goes s (Machine.execSegmentTrained dt chain space s) := by
  unfold Machine.execSegmentTrained
  exact .clocked fun _ h => h.mgmtSend.mgmtRead.mgmtRead.andThen fun h => .andThen (.ite h.send h) fun h =>
    .ite h.onChain h.onChain.raise

theorem Steady.expectTiles {n k} (h : Steady s t) : Steady s (Machine.expectTiles t n k) := by
  unfold Machine.expectTiles
  exact .ite h.raise h

theorem Goes.execSegmentTrainFail {dt chain} : Goes s (Machine.execSegmentTrainFail dt chain s) := by
  unfold Machine.execSegmentTrainFail
  exact .clocked fun _ h => h.onChain.raise.andThen fun h => .ite h.expectTiles.chainFail.settlePower h

theorem Goes.execChainDiscovered {dt chain rtt blocks} :
    Goes s (Machine.execChainDiscovered dt chain rtt blocks s) := by
  unfold Machine.execChainDiscovered
  exact .clocked fun _ h =>
    (h.onChain.mgmtSend.sendTelem.measureChain.foldl (fun _ _ h => h.calDiscovered)).expectTiles.settlePower

theorem Goes.execLoadSwitchClose {dt chain} : Goes s (Machine.execLoadSwitchClose dt chain s) := by
  unfold Machine.execLoadSwitchClose
  exact .clocked fun _ h => h.mgmtSend.onTile.onChain

theorem Goes.execPresenceLoss {dt chain} : Goes s (Machine.execPresenceLoss dt chain s) := by
  unfold Machine.execPresenceLoss
  exact .event fun _ h => .settlePower (.ite h.onChain h.onChain.presenceLost)

theorem Goes.execRailDischargeCheck {dt chain maxMv} : Goes s (Machine.execRailDischargeCheck dt chain maxMv s) := by
  unfold Machine.execRailDischargeCheck
  exact .event fun _ h => h.raise

theorem Goes.execPresenceReturn {dt chain} : Goes s (Machine.execPresenceReturn dt chain s) := by
  unfold Machine.execPresenceReturn
  exact .event fun _ h => .ite h.onChain.gbRecord h.onChain

theorem Goes.execLinkChainPower {q chain on} : Goes s (Machine.execLinkChainPower q chain on s) := by
  unfold Machine.execLinkChainPower
  exact .request fun _ _ h =>
    .ite (.refuse h)
    (.ite (.refuse h)
    (.ite (.ite (.done h) (.done h.chainOff))
    (.ite (.refuse h) (.ite (.refuse h) (.ite (.refuse h) (.done h.chainOn))))))

theorem Goes.execLinkDescRead {q chain pos addr len} : Goes s (Machine.execLinkDescRead q chain pos addr len s) := by
  unfold Machine.execLinkDescRead
  exact .request fun _ _ h => .ite (.refuse h) (.ite (.refuse h) (.later h.mgmtAsk))

theorem Goes.execLinkDescWrite {q chain pos addr len data} :
    Goes s (Machine.execLinkDescWrite q chain pos addr len data s) := by
  unfold Machine.execLinkDescWrite
  exact .request fun _ _ h =>
    .ite (.refuse h) (.ite (.refuse h) (.ite (.refuse h) (.ite (.refuse h) (.later h.mgmtAsk))))

theorem Goes.execLinkTileSwitch {q chain pos close} : Goes s (Machine.execLinkTileSwitch q chain pos close s) := by
  unfold Machine.execLinkTileSwitch
  exact .request fun _ _ h => .ite (.refuse h) (.ite (.refuse h) (.ite (.refuse h) (.later h.mgmtAsk)))

theorem Goes.execLinkFailover {q chain} : Goes s (Machine.execLinkFailover q chain s) := by
  unfold Machine.execLinkFailover
  exact .request fun _ _ h =>
    .ite (.refuse h) (.ite (.refuse h) (.ite (.refuse h) (.ite (.refuse h) (.done h.startMove))))

theorem Goes.execLinkRestore {q chain} : Goes s (Machine.execLinkRestore q chain s) := by
  unfold Machine.execLinkRestore
  exact .request fun _ _ h =>
    .ite (.refuse h) (.ite (.refuse h) (.done h.dropMgmt.freeTl4.laneReset.onChain.settlePitch))

theorem Goes.execLinkStatus {q chain} : Goes s (Machine.execLinkStatus q chain s) := by
  unfold Machine.execLinkStatus
  exact .request fun _ _ h => .ite (.refuse h) (.now h)

/-! ### Servo commands -/

theorem Goes.execBaseTick {dt} : Goes s (Machine.execBaseTick dt s) := by
  unfold Machine.execBaseTick
  exact .event fun _ h => h.baseTick

theorem Steady.encFound {k} (h : Steady s t) : Steady s (Machine.encFound t k) := by
  unfold Machine.encFound
  exact .ite h.clearCond.onEnc h

theorem Goes.execEncoderPositionChange {dt enc pos} : Goes s (Machine.execEncoderPositionChange dt enc pos s) := by
  unfold Machine.execEncoderPositionChange
  exact .event fun _ h => .ite h.onEnc h.encFound.encMove

theorem Steady.zReference {k} (h : Steady s t) : Steady s (Machine.zReference t k) := by
  unfold Machine.zReference
  exact h.clearCond.onEnc

theorem Goes.execEncoderZEdge {dt enc} : Goes s (Machine.execEncoderZEdge dt enc s) := by
  unfold Machine.execEncoderZEdge
  exact .event fun _ h => .ite h.zReference (.ite h.raise h)

theorem Goes.execEncoderLost {dt enc cause} : Goes s (Machine.execEncoderLost dt enc cause s) := by
  unfold Machine.execEncoderLost
  exact .event fun _ h => h.encLost

theorem Goes.execCarriageInPosition {dt} : Goes s (Machine.execCarriageInPosition dt s) := by
  unfold Machine.execCarriageInPosition
  exact .event fun _ h => .ite h.update.restReached h.update

theorem Goes.execOutputSaturated {dt slot} : Goes s (Machine.execOutputSaturated dt slot s) := by
  unfold Machine.execOutputSaturated
  exact .event fun _ h => h.onSlot.raise

theorem Steady.slotOn {n} (h : Steady s t) : Steady s (Machine.slotOn t n) := by
  unfold Machine.slotOn
  exact h.latchSetPoints.onSlot.slotStart.settleServoConds

theorem Goes.execServoLoopEnable {q slot on} : Goes s (Machine.execServoLoopEnable q slot on s) := by
  unfold Machine.execServoLoopEnable
  dsimp only
  refine .request fun _ _ h =>
    .ite (.refuse h)
    (.ite (.ite ?_ (.done h))
    (.ite (.refuse h)
    (.ite (.refuse h)
    (.ite (.refuse h) (.ite (.done h) (.ite (.refuse h) (.ite (.refuse h) (.ite (.refuse h) (.done h.slotOn)))))))))
  split
  · exact .ite (.done h.slotOff.endTest.raise) (.done h.slotOff)
  · exact .done h.slotOff

theorem Goes.execServoLoopCommit {q slot} : Goes s (Machine.execServoLoopCommit q slot s) := by
  unfold Machine.execServoLoopCommit
  exact .request fun _ _ h => .ite (.refuse h) (.ite (.refuse h) (.ite (.done h.update) (.done h.onSlot)))

theorem Goes.execServoTableWrite {q table first count values} :
    Goes s (Machine.execServoTableWrite q table first count values s) := by
  unfold Machine.execServoTableWrite
  exact .request fun _ _ h => .ite (.refuse h) (.ite (.refuse h) (.done h.update))

theorem Goes.execServoEncReference {q enc} : Goes s (Machine.execServoEncReference q enc s) := by
  unfold Machine.execServoEncReference
  exact .request fun _ _ h => .ite (.refuse h) (.ite (.refuse h) (.done h.onEnc))

theorem Goes.execServoCarriageMove {q target} : Goes s (Machine.execServoCarriageMove q target s) := by
  unfold Machine.execServoCarriageMove
  exact .request fun _ _ h => .ite (.refuse h) (.ite (.refuse h) (.done h.update))

theorem Goes.execServoCarriageStop {q} : Goes s (Machine.execServoCarriageStop q s) := by
  unfold Machine.execServoCarriageStop
  exact .request fun _ _ h => .ite (.refuse h) (.ite (.refuse h) (.later h.update))

theorem Goes.execServoTestStart {q t'} : Goes s (Machine.execServoTestStart q t' s) := by
  unfold Machine.execServoTestStart
  exact .request fun _ _ h =>
    .ite (.refuse h) (.ite (.refuse h) (.ite (.refuse h) (.ite (.refuse h) (.done h.freeTaken.update))))

theorem Goes.execServoTestStop {q} : Goes s (Machine.execServoTestStop q s) := by
  unfold Machine.execServoTestStop
  refine .request fun _ _ h => ?_
  split
  · exact .refuse h
  · exact .ite (.refuse h) (.later h.update)

theorem Goes.execServoStatus {q slot} : Goes s (Machine.execServoStatus q slot s) := by
  unfold Machine.execServoStatus
  exact .request fun _ _ h => .ite (.refuse h) (.now h)

/-! ### Stageline commands -/

theorem Goes.execStagelineFrameRx {dt port frame} : Goes s (Machine.execStagelineFrameRx dt port frame s) := by
  unfold Machine.execStagelineFrameRx
  exact .event fun _ h => .ite h.porterRx h.stageRx

theorem Goes.execNeighbourSend {dt port} : Goes s (Machine.execNeighbourSend dt port s) := by
  unfold Machine.execNeighbourSend
  exact .event fun _ h => h.sendNeighbour

theorem Goes.execNodeZeroTimeout {dt} : Goes s (Machine.execNodeZeroTimeout dt s) := by
  unfold Machine.execNodeZeroTimeout
  exact .event fun _ h => h.onStage

theorem Goes.execSweepSend {dt} : Goes s (Machine.execSweepSend dt s) := by
  unfold Machine.execSweepSend
  exact .event fun _ h => h.sendBoth

theorem Goes.execStageRequestTimeout {dt} : Goes s (Machine.execStageRequestTimeout dt s) := by
  unfold Machine.execStageRequestTimeout
  refine .event fun _ h => ?_
  split
  · exact h
  · exact .ite (.ite h.sendBoth.onStage.onStage.raise h.sendBoth.onStage)
      (h.onStage.raise.andThen (fun h => .settleYield (.ite h.identStep (.ite h.endDiscover h))))

theorem Goes.execClaimWindowEnd {dt} : Goes s (Machine.execClaimWindowEnd dt s) := by
  unfold Machine.execClaimWindowEnd
  exact .event fun _ h => h.onStage.endSourceLoss.endClaim

theorem Goes.execClaimCollisionResend {dt} : Goes s (Machine.execClaimCollisionResend dt s) := by
  unfold Machine.execClaimCollisionResend
  refine .event fun _ h => ?_
  split
  · exact h.sendBoth.onStage
  · exact h

theorem Goes.execMasterLost {dt} : Goes s (Machine.execMasterLost dt s) := by
  unfold Machine.execMasterLost
  exact .event fun _ h => .onStage (.ite h.raise h.raise.enterHoldover)

theorem Goes.execAutoClaim {dt} : Goes s (Machine.execAutoClaim dt s) := by
  unfold Machine.execAutoClaim
  exact .event fun _ h => h.startClaim

theorem Goes.execSeqApply {dt} : Goes s (Machine.execSeqApply dt s) := by
  unfold Machine.execSeqApply
  exact .event fun _ h => h.applySeq

theorem Goes.execStageLinkDown {dt port} : Goes s (Machine.execStageLinkDown dt port s) := by
  unfold Machine.execStageLinkDown
  exact .event fun _ h => h.onStage.raise

theorem Goes.execPwrStageClaim {q force} : Goes s (Machine.execPwrStageClaim q force s) := by
  unfold Machine.execPwrStageClaim
  exact .request fun _ _ h => .ite (.refuse h) (.ite (.done h) (.ite (.refuse h) (.later h.startClaim)))

theorem Goes.execPwrStageRelease {q} : Goes s (Machine.execPwrStageRelease q s) := by
  unfold Machine.execPwrStageRelease
  exact .request fun _ _ h => .ite (.refuse h) (.done h.yieldToken)

theorem Goes.execPwrStageDiscover {q} : Goes s (Machine.execPwrStageDiscover q s) := by
  unfold Machine.execPwrStageDiscover
  exact .request fun _ _ h =>
    .ite (.refuse h) (.ite (.refuse h) (.later (.turnedStep (.onStage (.ite h.ask h.sendBoth)))))

theorem Goes.execPwrStageSeq {q action first last atTime staggerUs} :
    Goes s (Machine.execPwrStageSeq q action first last atTime staggerUs s) := by
  unfold Machine.execPwrStageSeq
  exact .request fun _ _ h => .ite (.refuse h) (.ite (.refuse h) (.done (.hearSeq (.sendBoth (.ite h.send h)))))

theorem Goes.execPwrStageStart {q atTime} : Goes s (Machine.execPwrStageStart q atTime s) := by
  unfold Machine.execPwrStageStart
  exact .request fun _ _ h => .ite (.refuse h) (.ite (.refuse h) (.done h.sendBoth.hearStart))

/-! ### Stepper commands -/

theorem Goes.execStepperPwmPeriod {dt axis vbusUv} : Goes s (Machine.execStepperPwmPeriod dt axis vbusUv s) := by
  unfold Machine.execStepperPwmPeriod
  exact .event fun _ h => h.pwmStep

theorem Goes.execVoltageSaturation {dt axis} : Goes s (Machine.execVoltageSaturation dt axis s) := by
  unfold Machine.execVoltageSaturation
  exact .event fun _ h => h.onAxis.raise

theorem Goes.execProfileEvaluation {dt} : Goes s (Machine.execProfileEvaluation dt s) := by
  unfold Machine.execProfileEvaluation
  exact .event fun _ h => h.update.foldl fun _ _ h => h.unitEval

theorem Goes.execStepDriverFault {dt pin} : Goes s (Machine.execStepDriverFault dt pin s) := by
  unfold Machine.execStepDriverFault
  exact .event fun _ h => .ite (.ite h.onAxis h.onAxis.clearCond) h.onAxis.unitDisable.raise

theorem Goes.execSwitchSample {dt axis levels} : Goes s (Machine.execSwitchSample dt axis levels s) := by
  unfold Machine.execSwitchSample
  exact .event fun _ h => h.swSample

theorem Goes.execSwitchQualified {dt axis input} : Goes s (Machine.execSwitchQualified dt axis input s) := by
  unfold Machine.execSwitchQualified
  exact .event fun _ h => h.swQualify

theorem Answers.withUnit {unit f} (h : Steady s t) (hf : ∀ u, Answers s (f u)) :
    Answers s (Machine.withUnit t unit f) := by
  unfold Machine.withUnit
  split
  · exact .refuse h
  · exact .ite (.refuse h) (hf _)

theorem Answers.withMover {unit f} (h : Steady s t) (hf : ∀ u, Answers s (f u)) :
    Answers s (Machine.withMover t unit f) :=
  .withUnit h fun u => .ite (.refuse h) (hf u)

theorem Goes.execStepEnable {q axis on} : Goes s (Machine.execStepEnable q axis on s) := by
  unfold Machine.execStepEnable
  exact .request fun _ _ h =>
    .ite (.refuse h)
    (.ite (.done h.unitDisable)
    (.ite (.refuse h) (.ite (.refuse h) (.ite (.refuse h) (.ite (.done h.onUnit) (.done h))))))

theorem Goes.execStepMove {q unit abs vmax amax jmax targets} :
    Goes s (Machine.execStepMove q unit abs vmax amax jmax targets s) := by
  unfold Machine.execStepMove
  exact .request fun _ _ h => .withMover h fun _ =>
    .ite (.refuse h)
    (.ite (.refuse h) (.ite (.refuse h) (.ite (.refuse h) (.ite (.refuse h) (.ite (.refuse h) (.now h.onUnit))))))

theorem Goes.execStepStop {q unit} : Goes s (Machine.execStepStop q unit s) := by
  unfold Machine.execStepStop
  exact .request fun _ _ h => .withUnit h fun _ => .ite (.refuse h) (.ite (.refuse h) (.later h.onUnit))

theorem Goes.execStepResume {q unit} : Goes s (Machine.execStepResume q unit s) := by
  unfold Machine.execStepResume
  exact .request fun _ _ h => .withMover h fun _ =>
    .ite (.refuse h) (.ite (.refuse h) (.ite (.refuse h) (.done h.onUnit)))

theorem Goes.execStepFlush {q unit} : Goes s (Machine.execStepFlush q unit s) := by
  unfold Machine.execStepFlush
  refine .request fun _ _ h => .withMover h fun _ => ?_
  split
  · exact .done h.onUnit
  · exact .done h.onUnit
  · exact .refuse h

theorem Goes.execStepHome {q axis} : Goes s (Machine.execStepHome q axis s) := by
  unfold Machine.execStepHome
  exact .request fun _ _ h =>
    .ite (.refuse h) (.ite (.refuse h) (.ite (.refuse h) (.ite (.refuse h) (.done h.onUnit.onAxis))))

theorem Steady.setGroup {g ks} (h : Steady s t) : Steady s (Machine.setGroup t g ks) := by
  unfold Machine.setGroup
  exact ((h.foldl (fun _ _ h => h.onAxis)).foldl (fun _ _ h => h.onAxis)).onUnit

theorem Answers.formGroup {g ks} (h : Steady s t) : Answers s (Machine.formGroup t g ks) := by
  unfold Machine.formGroup
  exact .ite (.refuse h) (.ite (.refuse h) (.ite (.refuse h) (.done h.setGroup)))

theorem Goes.execStepGroup {q group mask} : Goes s (Machine.execStepGroup q group mask s) := by
  unfold Machine.execStepGroup
  exact .request fun _ _ h =>
    .ite (.refuse h) (.ite (.ite (.refuse h) (.ite (.refuse h) (.done h.setGroup))) (.ite (.refuse h) (.formGroup h)))

theorem Goes.execStepSwReset {q axis} : Goes s (Machine.execStepSwReset q axis s) := by
  unfold Machine.execStepSwReset
  exact .request fun _ _ h => .ite (.refuse h) (.ite (.refuse h) (.done (.ite h.onAxis h.onAxis.clearCond)))

theorem Goes.execStepStatus {q unit} : Goes s (Machine.execStepStatus q unit s) := by
  unfold Machine.execStepStatus
  exact .request fun _ _ h => .withUnit h fun _ => .now h

end

end Sys2Proof.Proofs.Architecture
end

section
/-!
PROOFS. Part 4 of the architecture family. All that a command can do (`ends`), and from it the form of the SRAM (R29),
the C4 latch (R26, R318) and the one way to stop (Table ARCH-6); then Porter's supply events (R26, R276, R277, R376).
-/

namespace Sys2Proof.Proofs.Architecture

open Sys2Proof.Machine Sys2Proof.Safety

-- Off, because every lemma's own thread reserves a stack: some hundred of them would pass the memory limit.
set_option Elab.async false

section
variable {s t u : State}

/-! ### All commands -/

/-- The command takes Porter's last supply away. -/
def LastSupplyLost (c : Instr) (s : State) : Prop :=
  (∃ dt, c = .vstbyLost dt ∧ s.pwr.phantom = false) ∨ (∃ dt, c = .phantomLost dt ∧ s.pwr.vstby = false)

/-- The command names an SRAM offset that Table ARCH-6 does not have, and stops there. -/
def MissingAddress (c : Instr) (s : State) : Prop :=
  ∃ off : U32, sramSize ≤ off.toNat ∧ exec c s = .fault (.noSuchAddress off.toNat)
    ∧ ((∃ dt corrected reader, c = .sramError dt off corrected reader)
      ∨ ∃ dt master, c = .regionWriteBlocked dt off master)

/-- All that a command can do: keep what a safe run keeps, stop at a missing address, or leave the block unpowered. -/
def Ends (c : Instr) (s : State) : Prop :=
  (∃ t, exec c s = .next t ∧ Kept s t) ∨ MissingAddress c s
    ∨ ∃ v, exec c s = .next (unpowered v) ∧ Kept s v ∧ LastSupplyLost c s

theorem kept_trans (h : Kept s t) (h' : Kept t u) : Kept s u where
  pending := h'.pending.trans h.pending
  mem hm := h'.mem (h.mem hm)
  lockout x hx := h'.lockout x (h.lockout x hx)
  rollback := h.rollback.trans h'.rollback

/-- Which supplies are there is no part of what a safe run keeps. -/
theorem kept_resupply {p : Power} (h : Kept s t) (k : Steady { t with pwr := p } u) : Kept s u :=
  have hp : Kept s { t with pwr := p } := ⟨h.pending, h.mem, h.lockout, h.rollback⟩
  kept_trans hp k.toKept

theorem Goes.toEnds {c : Instr} (h : Goes s (exec c s)) : Ends c s := by
  obtain ⟨t, ht, hk⟩ := h
  exact .inl ⟨t, ht, hk.toKept⟩

/-- What the model leaves of a block without a supply is what the statements write out. -/
theorem porterLost_eq_unpowered (s : State) : Machine.porterLost s = unpowered s := rfl

/-! ### The supply commands -/

theorem exec_vstbyLost (dt : Nat) (s : State) : exec (.vstbyLost dt) s = execVstbyLost dt s := rfl
theorem exec_phantomLost (dt : Nat) (s : State) : exec (.phantomLost dt) s = execPhantomLost dt s := rfl
theorem exec_vstbyReturn (dt : Nat) (s : State) : exec (.vstbyReturn dt) s = execVstbyReturn dt s := rfl
theorem exec_phantomReturn (dt : Nat) (s : State) : exec (.phantomReturn dt) s = execPhantomReturn dt s := rfl
theorem exec_phantomOvercurrent (dt : Nat) (s : State) :
    exec (.phantomOvercurrent dt) s = execPhantomOvercurrent dt s := rfl
theorem exec_phantomFoldbackEnd (dt : Nat) (s : State) :
    exec (.phantomFoldbackEnd dt) s = execPhantomFoldbackEnd dt s := rfl
theorem exec_wakeEvent (dt : Nat) (c : WakeCause) (s : State) : exec (.wakeEvent dt c) s = execWakeEvent dt c s := rfl

/-- What VSTBY_LOST leaves, by what the other supply does. -/
theorem vstbyLost_next {dt : Nat} {s u : State} (hu : s.pass dt = u) (hv : u.pwr.vstby = true) :
    (u.pwr.phantom = true → exec (.vstbyLost dt) s =
      .next (raise { u with pwr := { u.pwr with vstby := false, foldback := false } } 0x008 0 true))
    ∧ (u.pwr.phantom = false → exec (.vstbyLost dt) s =
      .next (unpowered (raise { u with pwr := { u.pwr with vstby := false, foldback := false } } 0x008 0 true))) := by
  rw [exec_vstbyLost, execVstbyLost, event_fires hu hv]
  have hp := (Steady.refl { u with pwr := { u.pwr with vstby := false, foldback := false } }).raise
    (id := 0x008) (data := 0) (cond := true) |>.phantom
  exact ⟨fun h => congrArg _ (if_pos (hp.trans h)),
    fun h => congrArg _ ((if_neg (ne_true_of_eq_false (hp.trans h))).trans (porterLost_eq_unpowered _))⟩

/-- What PHANTOM_LOST leaves, by what the other supply does. -/
theorem phantomLost_next {dt : Nat} {s u : State} (hu : s.pass dt = u) (hp : u.pwr.phantom = true) :
    (u.pwr.vstby = true → exec (.phantomLost dt) s =
      .next (raise { u with pwr := { u.pwr with phantom := false } } 0x009 0 true))
    ∧ (u.pwr.vstby = false → exec (.phantomLost dt) s =
      .next (unpowered (raise { u with pwr := { u.pwr with phantom := false } } 0x009 0 true))) := by
  rw [exec_phantomLost, execPhantomLost, event_fires hu hp]
  have hv := (Steady.refl { u with pwr := { u.pwr with phantom := false } }).raise
    (id := 0x009) (data := 0) (cond := true) |>.vstby
  exact ⟨fun h => congrArg _ (if_pos (hv.trans h)),
    fun h => congrArg _ ((if_neg (ne_true_of_eq_false (hv.trans h))).trans (porterLost_eq_unpowered _))⟩

/-- Losing a supply raises its source; without the other supply nothing of the block stays powered. -/
theorem ends_vstbyLost (dt : Nat) (s : State) : Ends (.vstbyLost dt) s := by
  have hu : Steady s (s.pass dt) := (Steady.refl s).pass
  cases hv : (s.pass dt).pwr.vstby with
  | false => exact .inl ⟨_, exec_vstbyLost dt s ▸ event_idle hv, hu.toKept⟩
  | true =>
    have he := vstbyLost_next rfl hv
    cases hp : (s.pass dt).pwr.phantom with
    | true => exact .inl ⟨_, he.1 hp, kept_resupply hu.toKept (.raise (.refl _))⟩
    | false =>
      have hlast : s.pwr.phantom = false := hu.phantom.symm.trans hp
      exact .inr (.inr ⟨_, he.2 hp, kept_resupply hu.toKept (.raise (.refl _)), .inl ⟨dt, rfl, hlast⟩⟩)

theorem ends_phantomLost (dt : Nat) (s : State) : Ends (.phantomLost dt) s := by
  have hu : Steady s (s.pass dt) := (Steady.refl s).pass
  cases hp : (s.pass dt).pwr.phantom with
  | false => exact .inl ⟨_, exec_phantomLost dt s ▸ event_idle hp, hu.toKept⟩
  | true =>
    have he := phantomLost_next rfl hp
    cases hv : (s.pass dt).pwr.vstby with
    | true => exact .inl ⟨_, he.1 hv, kept_resupply hu.toKept (.raise (.refl _))⟩
    | false =>
      have hlast : s.pwr.vstby = false := hu.vstby.symm.trans hv
      exact .inr (.inr ⟨_, he.2 hv, kept_resupply hu.toKept (.raise (.refl _)), .inr ⟨dt, rfl, hlast⟩⟩)

/-- A supply that returns is noted in the power record, and may power Porter, which takes nothing away. -/
theorem ends_vstbyReturn (dt : Nat) (s : State) : Ends (.vstbyReturn dt) s := by
  have hu : Steady s (s.pass dt) := (Steady.refl s).pass
  refine .inl ⟨_, rfl, ?_⟩
  split
  · exact kept_resupply hu.toKept (Steady.refl _).porterOn.clearCond
  · exact hu.toKept

theorem ends_phantomReturn (dt : Nat) (s : State) : Ends (.phantomReturn dt) s := by
  have hu : Steady s (s.pass dt) := (Steady.refl s).pass
  refine .inl ⟨_, rfl, ?_⟩
  split
  · exact kept_resupply hu.toKept (Steady.refl _).porterOn.clearCond
  · exact hu.toKept

theorem ends_sramError (dt : Nat) (off : U32) (corrected : Bool) (reader : SramReader) (s : State) :
    Ends (.sramError dt off corrected reader) s := by
  by_cases hoff : sramSize ≤ off.toNat
  · exact .inr (.inl ⟨off, hoff, if_pos hoff, .inl ⟨_, _, _, rfl⟩⟩)
  · exact Goes.toEnds (.execSramError (Nat.lt_of_not_le hoff))

theorem ends_regionWriteBlocked (dt : Nat) (off : U32) (master : Byte) (s : State) :
    Ends (.regionWriteBlocked dt off master) s := by
  by_cases hoff : sramSize ≤ off.toNat
  · exact .inr (.inl ⟨off, hoff, if_pos hoff, .inr ⟨_, _, rfl⟩⟩)
  · exact Goes.toEnds (.execRegionWriteBlocked (master := master) (Nat.lt_of_not_le hoff))

/-- Each command ends in one of the three ways; but for the supplies and the two that name an SRAM offset, with a steady
state. -/
theorem ends (c : Instr) (s : State) : Ends c s := by
  cases c with
  | layArm => exact Goes.toEnds .execLayArm
  | layStart => exact Goes.toEnds .execLayStart
  | stagelineStartMarker => exact Goes.toEnds .execStagelineStartMarker
  | doseRingPrimed => exact Goes.toEnds .execDoseRingPrimed
  | layAbort => exact Goes.toEnds .execLayAbort
  | layStatus => exact Goes.toEnds .execLayStatus
  | layRecordGet => exact Goes.toEnds .execLayRecordGet
  | lineMarker => exact Goes.toEnds .execLineMarker
  | carriageStall => exact Goes.toEnds .execCarriageStall
  | calibrationStale => exact Goes.toEnds .execCalibrationStale
  | mapRowDrop => exact Goes.toEnds .execMapRowDrop
  | runupTimeout => exact Goes.toEnds .execRunupTimeout
  | followerAtRest => exact Goes.toEnds .execFollowerAtRest
  | runOutDone => exact Goes.toEnds .execRunOutDone
  | learnUpdate => exact Goes.toEnds .execLearnUpdate
  | aqripolBlock => exact Goes.toEnds .execAqripolBlock
  | blockAccepted => exact Goes.toEnds .execBlockAccepted
  | inflaterSlotFree => exact Goes.toEnds .execInflaterSlotFree
  | compressHandover => exact Goes.toEnds .execCompressHandover
  | compressDone => exact Goes.toEnds .execCompressDone
  | compressBypass => exact Goes.toEnds .execCompressBypass
  | shadowCompare => exact Goes.toEnds .execShadowCompare
  | dataKekAgree => exact Goes.toEnds .execDataKekAgree
  | dataKeyLoad => exact Goes.toEnds .execDataKeyLoad
  | dataKeyClear => exact Goes.toEnds .execDataKeyClear
  | dataKeyStatus => exact Goes.toEnds .execDataKeyStatus
  | dataStreamStatus => exact Goes.toEnds .execDataStreamStatus
  | dataShadowReport => exact Goes.toEnds .execDataShadowReport
  | dataCompress => exact Goes.toEnds .execDataCompress
  | doseBilletRead => exact Goes.toEnds .execDoseBilletRead
  | doseBilletWrite => exact Goes.toEnds .execDoseBilletWrite
  | doseBilletDefault => exact Goes.toEnds .execDoseBilletDefault
  | emonCapArm => exact Goes.toEnds .execEmonCapArm
  | emonCapTrigger => exact Goes.toEnds .execEmonCapTrigger
  | emonCapStop => exact Goes.toEnds .execEmonCapStop
  | emonCapHeader => exact Goes.toEnds .execEmonCapHeader
  | emonCapRelease => exact Goes.toEnds .execEmonCapRelease
  | emonLearnReset => exact Goes.toEnds .execEmonLearnReset
  | captureClearDone => exact Goes.toEnds .execCaptureClearDone
  | markerAdvance => exact Goes.toEnds .execMarkerAdvance
  | deliveryReport => exact Goes.toEnds .execDeliveryReport
  | ackUnknown => exact Goes.toEnds .execAckUnknown
  | photodiodeReturn _ _ _ _ flags => exact Goes.toEnds (.execPhotodiodeReturn (flags := flags))
  | telemetryFrame => exact Goes.toEnds .execTelemetryFrame
  | managementResponse => exact Goes.toEnds .execManagementResponse
  | codewordUncorrectable => exact Goes.toEnds .execCodewordUncorrectable
  | laneFailover => exact Goes.toEnds .execLaneFailover
  | failoverComplete => exact Goes.toEnds .execFailoverComplete
  | chainRailsGood => exact Goes.toEnds .execChainRailsGood
  | segmentTrained => exact Goes.toEnds .execSegmentTrained
  | segmentTrainFail => exact Goes.toEnds .execSegmentTrainFail
  | chainDiscovered => exact Goes.toEnds .execChainDiscovered
  | loadSwitchClose => exact Goes.toEnds .execLoadSwitchClose
  | reservePretrain => exact Goes.toEnds .execReservePretrain
  | pretrainDone => exact Goes.toEnds .execPretrainDone
  | presenceLoss => exact Goes.toEnds .execPresenceLoss
  | railDischargeCheck => exact Goes.toEnds .execRailDischargeCheck
  | presenceReturn => exact Goes.toEnds .execPresenceReturn
  | linkChainPower => exact Goes.toEnds .execLinkChainPower
  | linkDescRead => exact Goes.toEnds .execLinkDescRead
  | linkDescWrite => exact Goes.toEnds .execLinkDescWrite
  | linkTileSwitch => exact Goes.toEnds .execLinkTileSwitch
  | linkFailover => exact Goes.toEnds .execLinkFailover
  | linkRestore => exact Goes.toEnds .execLinkRestore
  | linkStatus => exact Goes.toEnds .execLinkStatus
  | transportPacketRx => exact Goes.toEnds .execTransportPacketRx
  | ackTimer => exact Goes.toEnds .execAckTimer
  | retransmitTimeout => exact Goes.toEnds .execRetransmitTimeout
  | inboundGapTimeout => exact Goes.toEnds .execInboundGapTimeout
  | outboundPeerLost => exact Goes.toEnds .execOutboundPeerLost
  | keepaliveSend => exact Goes.toEnds .execKeepaliveSend
  | portDown => exact Goes.toEnds .execPortDown
  | ptpMessageRx => exact Goes.toEnds .execPtpMessageRx
  | ptpSyncLost => exact Goes.toEnds .execPtpSyncLost
  | hostPortStatus => exact Goes.toEnds .execHostPortStatus
  | hostPortRestart => exact Goes.toEnds .execHostPortRestart
  | hostChanOpen => exact Goes.toEnds .execHostChanOpen
  | hostChanClose => exact Goes.toEnds .execHostChanClose
  | dmaStart => exact Goes.toEnds .execDmaStart
  | dmaStop => exact Goes.toEnds .execDmaStop
  | dmaDisable => exact Goes.toEnds .execDmaDisable
  | dmaStatus => exact Goes.toEnds .execDmaStatus
  | dmaBurst => exact Goes.toEnds .execDmaBurst
  | dmaStarveBoost => exact Goes.toEnds .execDmaStarveBoost
  | baseTick => exact Goes.toEnds .execBaseTick
  | encoderPositionChange => exact Goes.toEnds .execEncoderPositionChange
  | encoderZEdge => exact Goes.toEnds .execEncoderZEdge
  | encoderLost => exact Goes.toEnds .execEncoderLost
  | carriageInPosition => exact Goes.toEnds .execCarriageInPosition
  | outputSaturated => exact Goes.toEnds .execOutputSaturated
  | servoLoopEnable => exact Goes.toEnds .execServoLoopEnable
  | servoLoopCommit => exact Goes.toEnds .execServoLoopCommit
  | servoTableWrite => exact Goes.toEnds .execServoTableWrite
  | servoEncReference => exact Goes.toEnds .execServoEncReference
  | servoCarriageMove => exact Goes.toEnds .execServoCarriageMove
  | servoCarriageStop => exact Goes.toEnds .execServoCarriageStop
  | servoTestStart => exact Goes.toEnds .execServoTestStart
  | servoTestStop => exact Goes.toEnds .execServoTestStop
  | servoStatus => exact Goes.toEnds .execServoStatus
  | decisionPeriod => exact Goes.toEnds .execDecisionPeriod
  | driveOvercurrent => exact Goes.toEnds .execDriveOvercurrent
  | bemfZeroCrossing => exact Goes.toEnds .execBemfZeroCrossing
  | catchTimeout => exact Goes.toEnds .execCatchTimeout
  | brakeElapsed => exact Goes.toEnds .execBrakeElapsed
  | alignElapsed => exact Goes.toEnds .execAlignElapsed
  | coastElapsed => exact Goes.toEnds .execCoastElapsed
  | standstillOffset => exact Goes.toEnds .execStandstillOffset
  | driveStall => exact Goes.toEnds .execDriveStall
  | drvEnable => exact Goes.toEnds .execDrvEnable
  | drvCurveWrite => exact Goes.toEnds .execDrvCurveWrite
  | drvAlign => exact Goes.toEnds .execDrvAlign
  | drvAlignDone => exact Goes.toEnds .execDrvAlignDone
  | drvStatus => exact Goes.toEnds .execDrvStatus
  | stepperPwmPeriod => exact Goes.toEnds .execStepperPwmPeriod
  | voltageSaturation => exact Goes.toEnds .execVoltageSaturation
  | profileEvaluation => exact Goes.toEnds .execProfileEvaluation
  | stepDriverFault => exact Goes.toEnds .execStepDriverFault
  | switchSample => exact Goes.toEnds .execSwitchSample
  | switchQualified => exact Goes.toEnds .execSwitchQualified
  | stepEnable => exact Goes.toEnds .execStepEnable
  | stepMove => exact Goes.toEnds .execStepMove
  | stepStop => exact Goes.toEnds .execStepStop
  | stepResume => exact Goes.toEnds .execStepResume
  | stepFlush => exact Goes.toEnds .execStepFlush
  | stepHome => exact Goes.toEnds .execStepHome
  | stepGroup => exact Goes.toEnds .execStepGroup
  | stepSwReset => exact Goes.toEnds .execStepSwReset
  | stepStatus => exact Goes.toEnds .execStepStatus
  | roundStart => exact Goes.toEnds .execRoundStart
  | roundPublish => exact Goes.toEnds .execRoundPublish
  | mainsZeroCross => exact Goes.toEnds .execMainsZeroCross
  | mainsLost => exact Goes.toEnds .execMainsLost
  | heaterPwmPeriod => exact Goes.toEnds .execHeaterPwmPeriod
  | hkRead => exact Goes.toEnds .execHkRead
  | htrOtReset => exact Goes.toEnds .execHtrOtReset
  | analogueTrip => exact Goes.toEnds .execAnalogueTrip
  | wearSave => exact Goes.toEnds .execWearSave
  | pwrState => exact Goes.toEnds .execPwrState
  | pwrRail => exact Goes.toEnds .execPwrRail
  | pwrMargin => exact Goes.toEnds .execPwrMargin
  | marginTrimDone => exact Goes.toEnds .execMarginTrimDone
  | pwrRailStatus => exact Goes.toEnds .execPwrRailStatus
  | pwrStageClaim => exact Goes.toEnds .execPwrStageClaim
  | pwrStageRelease => exact Goes.toEnds .execPwrStageRelease
  | pwrStageDiscover => exact Goes.toEnds .execPwrStageDiscover
  | pwrStageSeq => exact Goes.toEnds .execPwrStageSeq
  | pwrStageStart => exact Goes.toEnds .execPwrStageStart
  | railDelayElapsed => exact Goes.toEnds .execRailDelayElapsed
  | railGood => exact Goes.toEnds .execRailGood
  | railPgTimeout => exact Goes.toEnds .execRailPgTimeout
  | railDecayed => exact Goes.toEnds .execRailDecayed
  | railDecayTimeout => exact Goes.toEnds .execRailDecayTimeout
  | railLost => exact Goes.toEnds .execRailLost
  | railOvervoltage => exact Goes.toEnds .execRailOvervoltage
  | pmbusAlert => exact Goes.toEnds .execPmbusAlert
  | pmbusPoll => exact Goes.toEnds .execPmbusPoll
  | wakeEvent => exact Goes.toEnds .execWakeEvent
  | vstbyLost dt => exact ends_vstbyLost ..
  | phantomLost dt => exact ends_phantomLost ..
  | phantomOvercurrent => exact Goes.toEnds .execPhantomOvercurrent
  | stagelineFrameRx => exact Goes.toEnds .execStagelineFrameRx
  | neighbourSend => exact Goes.toEnds .execNeighbourSend
  | nodeZeroTimeout => exact Goes.toEnds .execNodeZeroTimeout
  | sweepSend => exact Goes.toEnds .execSweepSend
  | stageRequestTimeout => exact Goes.toEnds .execStageRequestTimeout
  | claimWindowEnd => exact Goes.toEnds .execClaimWindowEnd
  | masterLost => exact Goes.toEnds .execMasterLost
  | autoClaim => exact Goes.toEnds .execAutoClaim
  | seqApply => exact Goes.toEnds .execSeqApply
  | stageLinkDown => exact Goes.toEnds .execStageLinkDown
  | referenceNotReady => exact Goes.toEnds .execReferenceNotReady
  | referenceLost => exact Goes.toEnds .execReferenceLost
  | porterCrystalFail => exact Goes.toEnds .execPorterCrystalFail
  | porterRcTrim => exact Goes.toEnds .execPorterRcTrim
  | pllLock => exact Goes.toEnds .execPllLock
  | pllUnlock => exact Goes.toEnds .execPllUnlock
  | exppllPhaseAligned => exact Goes.toEnds .execExppllPhaseAligned
  | secondBoundary => exact Goes.toEnds .execSecondBoundary
  | timeMarkerRx => exact Goes.toEnds .execTimeMarkerRx
  | segmentDelayMeasure => exact Goes.toEnds .execSegmentDelayMeasure
  | holdoverEntry => exact Goes.toEnds .execHoldoverEntry
  | leapApply => exact Goes.toEnds .execLeapApply
  | ptpDisagreement => exact Goes.toEnds .execPtpDisagreement
  | clkTimeGet => exact Goes.toEnds .execClkTimeGet
  | clkTimeSet _ _ _ _ _ _ _ reserved => exact Goes.toEnds (.execClkTimeSet (reserved := reserved))
  | clkLeapSet => exact Goes.toEnds .execClkLeapSet
  | clkStatus => exact Goes.toEnds .execClkStatus
  | faultRaise => exact Goes.toEnds .execFaultRaise
  | reactionCheck => exact Goes.toEnds .execReactionCheck
  | emitInhibitRise => exact Goes.toEnds .execEmitInhibitRise
  | inhibitHoldExpiry => exact Goes.toEnds .execInhibitHoldExpiry
  | sramError dt offset corrected reader => exact ends_sramError ..
  | regionWriteBlocked dt offset master => exact ends_regionWriteBlocked ..
  | scrubPass => exact Goes.toEnds .execScrubPass
  | faultClear => exact Goes.toEnds .execFaultClear
  | faultStatus => exact Goes.toEnds .execFaultStatus
  | faultFirst => exact Goes.toEnds .execFaultFirst
  | faultInject => exact Goes.toEnds .execFaultInject
  | liveTableRebuild => exact Goes.toEnds .execLiveTableRebuild
  | bracketLoad => exact Goes.toEnds .execBracketLoad
  | calibrationBurstStart => exact Goes.toEnds .execCalibrationBurstStart
  | calibrationPeriod => exact Goes.toEnds .execCalibrationPeriod
  | calibrationRunApply => exact Goes.toEnds .execCalibrationRunApply
  | calibrationRunEnd => exact Goes.toEnds .execCalibrationRunEnd
  | traceEnterTimeout => exact Goes.toEnds .execTraceEnterTimeout
  | hkTraceDone => exact Goes.toEnds .execHkTraceDone
  | tileOverdue => exact Goes.toEnds .execTileOverdue
  | calRun => exact Goes.toEnds .execCalRun
  | calCancel => exact Goes.toEnds .execCalCancel
  | calStatus => exact Goes.toEnds .execCalStatus
  | calCellRead => exact Goes.toEnds .execCalCellRead
  | calCellSet => exact Goes.toEnds .execCalCellSet
  | calPdTrace => exact Goes.toEnds .execCalPdTrace
  | calPdEnter => exact Goes.toEnds .execCalPdEnter
  | calHkTrace => exact Goes.toEnds .execCalHkTrace
  | calUserReset => exact Goes.toEnds .execCalUserReset
  | keeperWatchdogTrip => exact Goes.toEnds .execKeeperWatchdogTrip
  | keeperRestartDone => exact Goes.toEnds .execKeeperRestartDone
  | loadWindow => exact Goes.toEnds .execLoadWindow
  | requestAging => exact Goes.toEnds .execRequestAging
  | sessionTimeout => exact Goes.toEnds .execSessionTimeout
  | claimWindowClose => exact Goes.toEnds .execClaimWindowClose
  | storeCommitDelay => exact Goes.toEnds .execStoreCommitDelay
  | gbFlush => exact Goes.toEnds .execGbFlush
  | mb4ReqDoorbell => exact Goes.toEnds .execMb4ReqDoorbell
  | mb4AckDoorbell => exact Goes.toEnds .execMb4AckDoorbell
  | timeNowRead => exact Goes.toEnds .execTimeNowRead
  | registerWrite => exact Goes.toEnds .execRegisterWrite
  | keepIdent => exact Goes.toEnds .execKeepIdent
  | keepStatus => exact Goes.toEnds .execKeepStatus
  | paramRead => exact Goes.toEnds .execParamRead
  | paramWrite => exact Goes.toEnds .execParamWrite
  | paramWriteSet => exact Goes.toEnds .execParamWriteSet
  | sessionOpen => exact Goes.toEnds .execSessionOpen
  | sessionClose => exact Goes.toEnds .execSessionClose
  | sessionClaim => exact Goes.toEnds .execSessionClaim
  | keepResync => exact Goes.toEnds .execKeepResync
  | waybillRead => exact Goes.toEnds .execWaybillRead
  | gbRead => exact Goes.toEnds .execGbRead
  | gbAck => exact Goes.toEnds .execGbAck
  | storeCommit => exact Goes.toEnds .execStoreCommit
  | storeStatus => exact Goes.toEnds .execStoreStatus
  | fwBegin => exact Goes.toEnds .execFwBegin
  | fwWrite => exact Goes.toEnds .execFwWrite
  | fwVerify => exact Goes.toEnds .execFwVerify
  | fwActivate => exact Goes.toEnds .execFwActivate
  | fwConfirm => exact Goes.toEnds .execFwConfirm
  | bistResultRead => exact Goes.toEnds .execBistResultRead
  | secIdentGet => exact Goes.toEnds .execSecIdentGet
  | wearRead => exact Goes.toEnds .execWearRead
  | shutdownSelfTest => exact Goes.toEnds .execShutdownSelfTest
  | selfTestInterrupt => exact Goes.toEnds .execSelfTestInterrupt
  | boot => exact Goes.toEnds .execBoot
  | emitInhibitFall => exact Goes.toEnds .execEmitInhibitFall
  | portLinkUp => exact Goes.toEnds .execPortLinkUp
  | vstbyReturn dt => exact ends_vstbyReturn ..
  | phantomReturn dt => exact ends_phantomReturn ..
  | phantomFoldbackEnd => exact Goes.toEnds .execPhantomFoldbackEnd
  | sixStepCommutation => exact Goes.toEnds .execSixStepCommutation
  | claimCollisionResend => exact Goes.toEnds .execClaimCollisionResend
  | storeDeferralLimit => exact Goes.toEnds .execStoreDeferralLimit
  | repairLineBuilt => exact Goes.toEnds .execRepairLineBuilt

/-- A command that completes keeps what a safe run keeps, or leaves the block unpowered. -/
theorem kept_or_unpowered {c : Instr} (h : exec c s = .next t) :
    Kept s t ∨ ∃ v, t = unpowered v ∧ Kept s v ∧ LastSupplyLost c s := by
  obtain ⟨u, hu, hk⟩ | ⟨_, _, hf, _⟩ | ⟨v, hv, hk⟩ := ends c s
  · cases hu.symm.trans h
    exact .inl hk
  · cases hf.symm.trans h
  · cases hv.symm.trans h
    exact .inr ⟨v, rfl, hk⟩

end

/-! ### The statements -/

/-- Settles O7: of the three ways a command ends, two complete, and the third is the named fault. -/
theorem onlyMissingAddressStops : Obligations.OnlyMissingAddressStops := by
  intro c s
  obtain ⟨t, ht, -⟩ | h | ⟨v, hv, -⟩ := ends c s
  · exact .inl ⟨t, ht⟩
  · exact .inr h
  · exact .inl ⟨_, hv⟩

/-- Settles O5: a kept latch contradicts the loss, so what is left is the last supply. -/
theorem lockoutOutlivesEveryCommand : Obligations.LockoutOutlivesEveryCommand := by
  intro c s t x h hs ht
  obtain hk | ⟨_, _, _, hl⟩ := kept_or_unpowered h
  · exact absurd (hk.lockout x hs) ht
  · exact hl

/-- Settles O3: an unpowered block lists no byte; every other step is one command that keeps the form, or none. -/
theorem everyStepKeepsMemoryCanonical : Obligations.EveryStepKeepsMemoryCanonical := by
  intro s t hs h
  unfold step at h
  split at h
  · cases h
    exact hs
  · obtain hk | ⟨v, rfl, _⟩ := kept_or_unpowered h
    · exact hk.mem hs
    · rfl

/-! ### Supply events -/

/-- A wake event that is not held: the pattern goes on, and in PORTER the device wakes if it is not waking. -/
theorem wakeEvent_next {dt : Nat} {s u : State} {c : WakeCause} (hu : s.pass dt = u) (hw : wakeHolds u c = true)
    (ho : u.power ≠ .off) (hb : u.bist.running = false) :
    exec (.wakeEvent dt c) s =
      .next (if u.power = .porter ∧ waking u = false then startWake (repeatPattern u c) else repeatPattern u c) := by
  have hpower : (repeatPattern u c).power = u.power := by cases c <;> rfl
  have hwaking : waking (repeatPattern u c) = waking u := by cases c <;> rfl
  rw [exec_wakeEvent, execWakeEvent, event_fires hu (by simp [hw, ho]), if_neg (ne_true_of_eq_false hb)]
  dsimp only
  rw [hpower, hwaking]

/-- Settles O33: each clause's premise is the event's condition, and picks the branch of its effect. -/
theorem supplyEventsComplete : Obligations.SupplyEventsComplete := by
  refine ⟨?_, ?_, ?_, ?_, ?_, ?_, ?_, ?_, ?_, ?_, ?_⟩
  · exact fun _ _ _ hu hv hp => (vstbyLost_next hu hv).1 hp
  · exact fun _ _ _ hu hp hv => (phantomLost_next hu hp).1 hv
  · rintro dt s u _ hu hv hp rfl
    exact (vstbyLost_next hu hv).2 hp
  · rintro dt s u _ hu hp hv rfl
    exact (phantomLost_next hu hp).2 hv
  · intro dt s u hu hv
    rw [exec_vstbyReturn, execVstbyReturn, event_fires hu (by simp [hv])]
  · intro dt s u hu hp
    rw [exec_phantomReturn, execPhantomReturn, event_fires hu (by simp [hp])]
  · intro dt s u hu hv hf
    rw [exec_phantomOvercurrent, execPhantomOvercurrent, event_fires hu (by simp [hv, hf])]
  · intro dt s u hu hf
    rw [exec_phantomFoldbackEnd, execPhantomFoldbackEnd, event_fires hu hf]
  · intro dt s u c hu hw hb hp hk
    rw [wakeEvent_next hu hw (by simp [hp]) hb, if_pos ⟨hp, hk⟩]
  · intro dt s u c hu hw hb hm
    have hp : u.power ≠ .porter := fun h => by simp [State.mainOn, h] at hm
    have ho : u.power ≠ .off := fun h => by simp [State.mainOn, h] at hm
    rw [wakeEvent_next hu hw ho hb, if_neg fun h => hp h.1]
  · intro dt s u c hu hw ho hb
    rw [exec_wakeEvent, execWakeEvent, event_fires hu (by simp [hw, ho]), if_pos hb]

end Sys2Proof.Proofs.Architecture
end

section
/-!
PROOFS. The layer cycle family (02_layer_cycle): its requests (R36 to R55), the marker that EXPOSE does not take (R31), the
parameters of Table LAY-9 (R57), and lines that never came (R46, R48).
-/

namespace Sys2Proof.Proofs.LayerCycle

open Sys2Proof.Machine Sys2Proof.Safety

-- Off, because every lemma's own thread reserves a stack.
set_option Elab.async false

section
variable {q : Req} {s t : State} {w : Waiting}

/-! ### Answers of a request's body -/

theorem finish_done : finish w (done t) = answer t w sOK [] := rfl

theorem finish_refuse {st : U16} : finish w (refuse t st) = answer t w st [] := rfl

theorem finish_now {st : U16} {d : List Byte} : finish w (.now t st d) = answer t w st d := rfl

theorem finish_later : finish w (.later t) = t := rfl

/-! ### Requests of the layer cycle -/

/-- LAY_ARM outside a measurement run, with every check of Table LAY-2 passed (R36). -/
theorem exec_layArm_accepted {d : LayerDesc} {rtt : List Nat} (h : Runs 0x0301 40 q s w t) (hd : armChecks t d = 0)
    (hc : t.cal.st ≠ 2) : exec (.layArm q d rtt) s = .next (answer (armLayer t d false rtt) w sOK []) := by
  change execLayArm q d rtt s = _
  rw [execLayArm, request_ok h, if_neg (not_not.mpr hd), if_neg hc, finish_done]

/-- LAY_START of an armed, primed layer whose source is the command (R38). -/
theorem exec_layStart_accepted (h : Runs 0x0302 0 q s w t) (hs : t.layer.st = .armed) (hsrc : t.layer.desc.startSrc = 0)
    (hp : primed t = true) : exec (.layStart q) s = .next (answer (startLayer t false) w sOK []) := by
  change execLayStart q s = _
  rw [execLayStart, request_ok h, if_neg (by simp [hs, hsrc]), if_neg (by simp [hp]), finish_done]

/-- A first LAY_ABORT in ARMED, RUN_UP or EXPOSE waits to be sampled (R49). -/
theorem exec_layAbort_waits {at_ : U64} (h : Runs 0x0303 8 q s w t)
    (hs : t.layer.st = .armed ∨ t.layer.st = .runUp ∨ t.layer.st = .expose) (ha : t.layer.abort = none) :
    exec (.layAbort q at_) s = .next (sampleEarly (armAbort t w at_)) := by
  change execLayAbort q at_ s = _
  rw [execLayAbort, request_ok h, ha]
  obtain hs | hs | hs := hs <;> simp only [hs, Option.isSome_none, Bool.false_eq_true, if_false, finish_later]

/-- LAY_ABORT in RUN_OUT or COMMIT is late: OK only for a pass that ends ABORTED already (R50). -/
theorem exec_layAbort_late {at_ : U64} (h : Runs 0x0303 8 q s w t) (hs : t.layer.st = .runOut ∨ t.layer.st = .commit) :
    exec (.layAbort q at_) s =
      .next (answer (lateAbort t w) w (if t.layer.record.outcome = 1 then sOK else sTooLate) []) := by
  change execLayAbort q at_ s = _
  rw [execLayAbort, request_ok h]
  obtain hs | hs := hs <;> rw [hs, finish_now]

/-- LAY_STATUS reads the last marker passed, or an open value (Table LAY-8, log entry 30). -/
theorem exec_layStatus (h : Runs 0x0304 0 q s w t) :
    exec (.layStatus q) s = .next (answer (if t.layer.marker.isSome then t else t.freeTaken) w sOK
      (le 1 (layerByte t.layer) ++ le 4 t.layer.desc.layerNo.toNat ++ le 4 (t.layer.marker.getD (t.freeBits 32))
        ++ le 4 t.layer.mFinal)) := by
  change execLayStatus q s = _
  rw [execLayStatus, request_ok h, finish_now]

/-- LAY_RECORD_GET of a record that is kept (R55). -/
theorem exec_layRecordGet_found {no : U32} {rep : Byte} {r : LayRec} (h : Runs 0x0305 5 q s w t) (hrep : rep.toNat ≤ 1)
    (hr : (t.layer.records.find? fun r => r.layerNo == no && r.repair == (rep == 1)) = some r) :
    exec (.layRecordGet q no rep) s = .next (answer t w sOK (recordBytes r)) := by
  change execLayRecordGet q no rep s = _
  rw [execLayRecordGet, request_ok h, if_neg (Nat.not_lt.mpr hrep), hr, finish_now]

end

/-- Settles O8: in the state that the checks of a request leave, each clause's premises pick one branch of its body. -/
theorem layerRequestsComplete : Obligations.LayerRequestsComplete := by
  refine ⟨?_, ?_, ?_, ?_, ?_, ?_, ?_, ?_⟩
  · exact fun _ _ _ _ _ _ h hd hc => exec_layArm_accepted h hd hc
  · exact fun _ _ _ _ h hs hsrc hp => exec_layStart_accepted h hs hsrc hp
  · exact fun _ _ _ _ _ h hs ha => exec_layAbort_waits h hs ha
  · intro q s w t at_ h hs ho
    rw [exec_layAbort_late h hs, if_pos ho]
  · intro q s w t at_ h hs ho
    rw [exec_layAbort_late h hs, if_neg ho]
  · intro q s w t m h hm
    rw [exec_layStatus h, hm, Option.getD_some, if_pos Option.isSome_some]
  · intro q s w t h hm
    rw [exec_layStatus h, hm, Option.getD_none, if_neg (by decide)]
  · exact fun _ _ _ _ _ _ _ h hrep hr => exec_layRecordGet_found h hrep hr

/-! ### A marker before marker 0 in EXPOSE -/

/-- In EXPOSE no marker comes before marker 0: nothing but time passes (R31). -/
theorem lineMarker_expose_negative {s : State} {m : Int} {nb : Bool} (hs : s.layer.st = .expose) (hm : m < 0) :
    lineMarker s m nb = s := by
  simp only [lineMarker, hs, if_pos hm, ite_self]

/-- EXPOSE with no marker passed, a state that the statement about the layer's events does not shut out. -/
def exposeUnmarked : State := { State.reset with layer := { State.reset.layer with st := .expose } }

/-- Passing marker 0 in that state, which the statement claims of marker −1, leaves a marker passed. -/
theorem exposeUnmarked_passes_marker_zero :
    (atInstant exposeUnmarked (markerInstant exposeUnmarked (-1)) fun v =>
      markerPassed (passMarker v 0) 0 false).layer.marker ≠ none := by
  decide +kernel

/-- Refutes O9: its clause on LINE_MARKER in EXPOSE does not ask 0 ≤ m. With no marker passed it claims that marker −1 has the
effect of marker 0, while in the model it has none. -/
theorem not_layerEventsComplete : ¬ Obligations.LayerEventsComplete := by
  rintro ⟨-, -, hmarker, -⟩
  have hclaim := hmarker 0 exposeUnmarked exposeUnmarked (-1) false rfl rfl rfl rfl
  have hmodel : exec (.lineMarker 0 (-1) false) exposeUnmarked =
      .next (atInstant exposeUnmarked (markerInstant exposeUnmarked (-1)) id) := by
    change execLineMarker 0 (-1) false exposeUnmarked = _
    rw [execLineMarker, clocked_fires (u := exposeUnmarked) rfl rfl rfl, atInstant, lineMarker_expose_negative rfl (by decide)]
    rfl
  have hstate := Host.Outcome.next.inj (hmodel.symm.trans hclaim)
  exact exposeUnmarked_passes_marker_zero (hstate ▸ rfl)

/-! ### The parameters of Table LAY-9 -/

theorem find_put_same {α : Type} (m : AMap α) (k : Nat) (v : α) : AMap.find (AMap.put m k v) k = some v := by
  induction m with
  | nil => simp [AMap.put, AMap.find_cons]
  | cons e m ih =>
    obtain ⟨j, x⟩ := e
    by_cases hlt : k < j
    · simp [AMap.put, hlt, AMap.find_cons]
    · by_cases heq : k = j
      · simp [AMap.put, heq, AMap.find_cons]
      · simp [AMap.put, hlt, heq, AMap.find_cons, Ne.symm heq, ih]

theorem find_del_same {α : Type} (m : AMap α) (k : Nat) : AMap.find (AMap.del m k) k = none := by
  simp [AMap.find, AMap.del]

/-- A parameter reads back what was set, listed or not. -/
theorem pv_pput_same (s : State) (idx sub v : Nat) : (s.pput idx sub v).pv idx sub = v := by
  rw [State.pv, State.pput_params, pset]
  cases hr : findParam idx sub with
  | none => simp [pread, find_put_same]
  | some r =>
    dsimp only
    split
    · rename_i hv
      simp [pread, find_del_same, hr, hv]
    · simp [pread, find_put_same]

/-- The parameters of Table LAY-9: index, bytes of the value, least, largest. -/
def layTable : List (Nat × Nat × Nat × Nat) :=
  [(0x0310, 1, 0, 1), (0x0311, 1, 1, 20), (0x0312, 1, 2, 30), (0x0313, 1, 10, 90), (0x0314, 2, 10, 60000),
    (0x0315, 2, 1, 2048), (0x0316, 1, 0, 1), (0x0317, 2, 1, 65535), (0x0318, 1, 0, 2), (0x0319, 2, 1, 65535),
    (0x031A, 1, 0, 1), (0x031B, 4, 100, 100000)]

/-- What all rows of Table LAY-9 have in common: one unsigned value with a range, written in IDLE, not kept in the store. -/
def layRow (idx bits : Nat) (reset : PReset) (lo hi : Nat) : PRow :=
  { idx := idx, sub := 0, n := 1, bits := bits, sgn := false, ro := false, reset := reset, range := some (lo, hi), tag := .none,
    gate := .idle, kept := false }

/-- The model's rows for Table LAY-9 have that form, with a field as wide as the range asks. -/
theorem findParam_layTable : ∀ p ∈ layTable, ∃ r ∈ findParam p.1 0,
    r = layRow p.1 r.bits r.reset p.2.2.1 p.2.2.2 ∧ valueBytes r.bits = p.2.1 ∧ p.2.2.2 < 2 ^ r.bits
      ∧ 0x0310 ≤ p.1 ∧ p.1 ≤ 0x031B := by
  decide +kernel

section
variable {e : ParamEntry} {s : State} {idx bits lo hi : Nat} {reset : PReset}

/-- No rule of another chapter denies a write of such a row. -/
theorem deniedStatus_layRow {raw : Nat} (hlo : 0x0310 ≤ idx) (hhi : idx ≤ 0x031B) :
    deniedStatus s (layRow idx bits reset lo hi) 0 raw = 0 := by
  have hrail : ¬ idx ≤ 0x011C := by omega
  have hmains : idx ≠ 0x0C30 := by omega
  have hheater : idx ≠ 0x0C35 := by omega
  simp [deniedStatus, layRow, hrail, hmains, hheater]

/-- A value of such a row is good exactly in its range, which lies in its field. -/
theorem valueStatus_layRow {m : AMap Nat} {raw : Nat} (hfield : hi < 2 ^ bits) :
    valueStatus m (layRow idx bits reset lo hi) 0 raw = if lo ≤ raw ∧ raw ≤ hi then 0 else 7 := by
  by_cases hrange : lo ≤ raw ∧ raw ≤ hi
  · have hin : raw < 2 ^ bits := by omega
    simp [valueStatus, layRow, tagOk, hin, hrange]
  · simp [valueStatus, layRow, hrange]

/-- R57: the status of a write of the right length to such a row. -/
theorem paramCheck_layRow {after : AMap Nat} (hrow : findParam idx 0 = some (layRow idx bits reset lo hi))
    (hidx : e.index.toNat = idx) (hsub : e.sub.toNat = 0) (hlen : e.value.length = valueBytes bits) (hlo : 0x0310 ≤ idx)
    (hhi : idx ≤ 0x031B) (hfield : hi < 2 ^ bits) :
    paramCheck s after e =
      if s.layer.st = .idle then (if lo ≤ ofLe e.value ∧ ofLe e.value ≤ hi then sOK else sRange) else sBadState := by
  rw [paramCheck, hidx, hsub, hrow]
  dsimp only
  rw [deniedStatus_layRow hlo hhi, valueStatus_layRow hfield]
  simp [layRow, hlen, gateOpen, sOK, sRange, sBadState]

/-- A write to such a row of a value that fits its field sets the parameter and does nothing else. -/
theorem applyParams_layRow (hrow : findParam idx 0 = some (layRow idx bits reset lo hi)) (hidx : e.index.toNat = idx)
    (hsub : e.sub.toNat = 0) (hhi : idx ≤ 0x031B) (hv : ofLe e.value < 2 ^ bits) :
    applyParams s [e] = s.pput idx 0 (ofLe e.value) := by
  have htelem : e.index ≠ 0x0612#16 := fun h => by
    rw [← hidx, h] at hhi
    exact absurd hhi (by decide)
  have hsel : ¬ (0x0913 ≤ idx ∧ idx ≤ 0x0916) := by omega
  have hfield : toField bits (ofLe e.value) = ofLe e.value := by
    rw [toField, Int.emod_eq_of_lt (by omega) (by exact_mod_cast hv), Int.toNat_natCast]
  simp [applyParams, paramEffects, paramsAfter, writtenBits, State.pput, hidx, hsub, hrow, layRow, htelem, hsel, hfield]

end

section
variable {q : Req} {s t : State} {w : Waiting} {e : ParamEntry}

/-- PARAM_WRITE of an entry that fails a check changes nothing (17 R358). -/
theorem exec_paramWrite_refused {status : U16} (h : Runs 0x0004 (4 + e.value.length) q s w t)
    (hcheck : paramCheck t (paramsAfter t.params [e]) e = status) (hstatus : status ≠ 0) :
    exec (.paramWrite q e) s = .next (answer t w status []) := by
  change execParamWrite q e s = _
  rw [execParamWrite, request_ok h, hcheck, if_pos hstatus, finish_refuse]

/-- PARAM_WRITE of an entry that passes the checks applies it (17 R358). -/
theorem exec_paramWrite_applied (h : Runs 0x0004 (4 + e.value.length) q s w t)
    (hcheck : paramCheck t (paramsAfter t.params [e]) e = 0) :
    exec (.paramWrite q e) s = .next (answer (applyParams t [e]) w sOK []) := by
  change execParamWrite q e s = _
  rw [execParamWrite, request_ok h, if_neg (not_not.mpr hcheck), finish_done]

end

/-- Settles O49: every row of Table LAY-9 has the one form, for which the status of a write and its effect are known. -/
theorem layerParametersOnlyInIdle : Obligations.LayerParametersOnlyInIdle := by
  intro idx n lo hi hmem q s w t e hruns hidx hsub hlen
  obtain ⟨r, hfind, hform, hbytes, hfield, hlo, hhi⟩ := findParam_layTable (idx, n, lo, hi) hmem
  have hrow : findParam idx 0 = some (layRow idx r.bits r.reset lo hi) := hform ▸ hfind
  have hsub : e.sub.toNat = 0 := congrArg BitVec.toNat hsub
  subst hlen
  have hcheck := paramCheck_layRow (s := t) (after := paramsAfter t.params [e]) hrow hidx hsub hbytes.symm hlo hhi hfield
  refine ⟨fun hst => ?_, fun hst hout => ?_, fun hst hge hle => ?_⟩
  · rw [if_neg hst] at hcheck
    exact exec_paramWrite_refused hruns hcheck (by decide)
  · rw [if_pos hst, if_neg (by omega)] at hcheck
    exact exec_paramWrite_refused hruns hcheck (by decide)
  · rw [if_pos hst, if_pos ⟨hge, hle⟩] at hcheck
    refine ⟨t.pput idx 0 (ofLe e.value), ?_, pv_pput_same .., fun _ => rfl⟩
    rw [exec_paramWrite_applied hruns hcheck, applyParams_layRow hrow hidx hsub hhi (hle.trans_lt hfield)]

/-! ### Lines that never came -/

section
variable {s : State} {k m : Nat}

theorem flagLine_layer (bits : Byte) : (s.flagLine k bits).layer = s.layer :=
  foldl_same State.layer _ (fun _ _ => State.flagGroup_layer ..) _ s

theorem flagLine_flt (bits : Byte) : (s.flagLine k bits).flt = s.flt :=
  foldl_same State.flt _ (fun _ _ => State.flagGroup_flt ..) _ s

theorem flagLine_params (bits : Byte) : (s.flagLine k bits).params = s.params :=
  foldl_same State.params _ (fun _ _ => State.flagGroup_params ..) _ s

/-- Line k is recorded as missing and lengthens the run (R46, R48). -/
def missed (s : State) (k : Nat) : State :=
  { lineAbsent s k with layer := { (lineAbsent s k).layer with missRun := s.layer.missRun + 1 } }

theorem missed_missRun : (missed s k).layer.missRun = s.layer.missRun + 1 := rfl

theorem missed_st : (missed s k).layer.st = s.layer.st := by
  rw [missed, lineAbsent, flagLine_layer]

theorem missed_flt : (missed s k).flt = s.flt := by
  rw [missed, lineAbsent, flagLine_flt]

theorem missed_params : (missed s k).params = s.params := by
  rw [missed, lineAbsent, flagLine_params]

/-- R48: the run raises 0x040 only with UNDERRUN_ACTION 1, where it reaches UNDERRUN_LINES. -/
theorem lineMissing_eq_missed : lineMissing s k =
    if s.pv 0x0316 0 = 1 ∧ s.layer.missRun + 1 = s.pv 0x0317 0 then raise (missed s k) 0x040 0 false else missed s k := by
  have hpv : ∀ idx sub, (missed s k).pv idx sub = s.pv idx sub := fun _ _ => by rw [State.pv, missed_params, State.pv]
  change (if (missed s k).pv 0x0316 0 = 1 ∧ s.layer.missRun + 1 = (missed s k).pv 0x0317 0
    then raise (missed s k) 0x040 0 false else missed s k) = _
  rw [hpv, hpv]

theorem lineDone_missRun : (lineDone s k).layer.missRun = 0 := rfl

/-- A marker at which a line of the pass has its last row. -/
theorem passLine_at_last_row (hq : qLast s + 1 ≤ m) (hk : m - 1 - qLast s < s.layer.desc.lineCount.toNat) :
    passLine s m = if lineComplete s.dose (m - 1 - qLast s) then lineDone s (m - 1 - qLast s)
      else lineMissing s (m - 1 - qLast s) :=
  if_pos ⟨hq, hk⟩

end

/-- Settles O59: the missing line is recorded first, which touches neither the two parameters nor the fault flags. -/
theorem underrunRaisesAtItsLength : Obligations.UnderrunRaisesAtItsLength := by
  refine ⟨by decide +kernel, fun s m hq hk => ?_⟩
  rw [passLine_at_last_row hq hk]
  refine ⟨fun hcame => ?_, fun hmissing => ⟨missed s (m - 1 - qLast s), missed_missRun, missed_st, missed_flt, ?_⟩⟩
  · rw [if_pos hcame, lineDone_missRun]
  · rw [if_neg (ne_true_of_eq_false hmissing), lineMissing_eq_missed]
    refine ⟨fun hoff => ?_, fun hon hlen => ?_, fun hon hlen => ?_⟩
    · rw [if_neg (by omega)]
    · rw [if_pos ⟨hon, hlen⟩]
    · rw [if_neg fun h => hlen h.2]

end Sys2Proof.Proofs.LayerCycle
end

section
/-!
PROOFS. The dose synthesis family (03_dose_synthesis): the carries (R66, R76), the requests and events of the dose synthesiser and
the emission monitor (R70, R77, R86; 04 R87 to R109), and the events of the layer data engines (07 R172 to R182).
-/

namespace Sys2Proof.Proofs.DoseSynthesis

open Sys2Proof.Machine Sys2Proof.Safety Sys2Proof.Proofs.LayerCycle

-- Off, because every lemma's own thread reserves a stack.
set_option Elab.async false

/-! ### Carries -/

section
variable {m : List Host.Cell} {e e' v a : Nat}

theorem carryGet_carrySet_same (h : memWf m = true) : carryGet (carrySet m e v) e = min v 0xFFFFFF := by
  rw [carryGet, carrySet, memLe_memPuts_le h, Nat.mod_eq_of_lt (by omega)]

theorem carrySet_wf (h : memWf m = true) : memWf (carrySet m e v) = true := memPuts_wf h _ _

theorem memGet_carrySet_outside (ha : a < carryAt e ∨ carryAt e + 3 ≤ a) : memGet (carrySet m e v) a = memGet m a :=
  memGet_memPuts_outside _ _ (by rwa [le_length])

/-- The three bytes of two entries do not meet. -/
theorem carryAt_apart (h : e' ≠ e) : carryAt e' + 3 ≤ carryAt e ∨ carryAt e + 3 ≤ carryAt e' := by
  rw [carryAt, carryAt]
  omega

theorem carryGet_carrySet_other (h : e' ≠ e) : carryGet (carrySet m e v) e' = carryGet m e' := by
  rw [carryGet, carryGet, memLe, memLe, carrySet, memBytes_memPuts_outside _ _ (by rw [le_length]; exact carryAt_apart h)]

end

/-- Settles O53: the saturated value fits three bytes, which read back, and the entries' bytes do not meet. -/
theorem carryReadsBack : Obligations.CarryReadsBack :=
  fun _ _ _ h => ⟨carryGet_carrySet_same h, carrySet_wf h, fun _ ha => memGet_carrySet_outside ha,
    fun _ he => carryGet_carrySet_other he⟩

/-! ### Requests of the dose synthesiser -/

section
variable {q : Req} {s t : State} {w : Waiting}

/-- No row fails a check that every row with a weight passes. -/
theorem weightedRow_any_false {ws : List Byte} {fails : Nat → Bool} (h : ∀ r < 288, ws.getD r 0 ≠ 0 → fails r = false) :
    ((List.range 288).any fun r => ws.getD r 0 != 0 && fails r) = false := by
  simpa [List.any_eq_false] using h

/-- DOSE_BILLET_READ of a column of a chain in service (R70). -/
theorem exec_doseBilletRead_served {c : U16} (h : Runs 0x0401 2 q s w t) (hc : c.toNat ≤ 1023)
    (hserves : serves (t.chain (laneOf c.toNat)) = true) :
    exec (.doseBilletRead q c) s = .next (answer t w sOK (billetRecord (nextWeights t c.toNat) (t.pv 0x0411 0))) := by
  change execDoseBilletRead q c s = _
  rw [execDoseBilletRead, request_ok h]
  dsimp only
  rw [if_neg (Nat.not_lt.mpr hc), if_neg (by simp [hserves]), finish_now]

theorem finish_versionReply : finish w (versionReply t) = answer t w sOK (le 2 t.dose.billetVersion.toNat) := rfl

/-- DOSE_BILLET_WRITE of at most 256 weights, on rows that are present and not retired (R70). -/
theorem exec_doseBilletWrite_accepted {c : U16} {ws : List Byte} (h : Runs 0x0402 290 q s w t) (hc : c.toNat ≤ 1023)
    (hserves : serves (t.chain (laneOf c.toNat)) = true) (hcount : (List.range 288).countP (fun r => ws.getD r 0 != 0) ≤ 256)
    (hrows : ∀ r < 288, ws.getD r 0 ≠ 0 → rowPresent t (laneOf c.toNat) r = true ∧ liveRetired t r c.toNat = false) :
    exec (.doseBilletWrite q c ws) s = .next (finish w (versionReply (billetChanged (setWeights t c.toNat ws)))) := by
  have habsent := weightedRow_any_false (ws := ws) (fails := fun r => !rowPresent t (laneOf c.toNat) r)
    fun r hr hw => by simp [(hrows r hr hw).1]
  have hretired := weightedRow_any_false (ws := ws) (fails := fun r => liveRetired t r c.toNat) fun r hr hw => (hrows r hr hw).2
  change execDoseBilletWrite q c ws s = _
  rw [execDoseBilletWrite, request_ok h]
  dsimp only
  rw [if_neg (Nat.not_lt.mpr hc), if_neg (by simp [hserves]), habsent, decide_eq_false (Nat.not_lt.mpr hcount), hretired]
  rfl

/-- DOSE_BILLET_DEFAULT of one lane or all, with the lanes it rebuilds (R69, R86). -/
theorem exec_doseBilletDefault_lanes {l : Byte} {lanes : List Nat} (h : Runs 0x0403 1 q s w t)
    (hl : l.toNat ≤ 3 ∨ l.toNat = 255)
    (hlanes : ((List.range 4).filter fun n => (l.toNat == 255 || l.toNat == n) && serves (t.chain n)) = lanes)
    (hsome : lanes ≠ []) :
    exec (.doseBilletDefault q l) s = .next (finish w (versionReply (billetChanged (lanes.foldl buildLane t)))) := by
  change execDoseBilletDefault q l s = _
  rw [execDoseBilletDefault, request_ok h]
  dsimp only
  rw [hlanes, if_neg (by omega), if_neg (by simpa using hsome)]

theorem range4_filter_eq : ∀ l ≤ 3, (List.range 4).filter (fun n => l == n) = [l] := by decide

/-- The lanes of a request for one lane whose chain is in service. -/
theorem lanes_of_one {l : Nat} (hl : l ≤ 3) (hserves : serves (t.chain l) = true) :
    ((List.range 4).filter fun n => (l == 255 || l == n) && serves (t.chain n)) = [l] := by
  rw [← range4_filter_eq l hl]
  refine List.filter_congr fun n _ => ?_
  obtain rfl | hne := eq_or_ne l n
  · simp [hserves]
  · have hall : l ≠ 255 := by omega
    rw [beq_false_of_ne hne, beq_false_of_ne hall]
    rfl

/-- The lanes of a request for all. -/
theorem lanes_of_all {l : Nat} (hl : l = 255) :
    ((List.range 4).filter fun n => (l == 255 || l == n) && serves (t.chain n)) =
      (List.range 4).filter fun n => serves (t.chain n) := by
  simp [hl]

/-! ### Requests of the emission monitor -/

/-- EMON_CAP_ARM with the capture off and windows that fit the ring (04 R105). -/
theorem exec_emonCapArm_accepted (h : Runs 0x0501 0 q s w t) (hst : t.emon.cap.st = .off) (hready : t.readyOn = true)
    (hwindow : windowEmpty t 0 = false) (hring : t.pv 0x0530 0 + t.pv 0x0531 0 ≤ capRing t) :
    exec (.emonCapArm q) s = .next (answer (capArming t) w sOK []) := by
  change execEmonCapArm q s = _
  rw [execEmonCapArm, request_ok h, if_neg (by simp [hst, hready]), if_neg (by simp [hwindow, hring]), finish_done]

/-- EMON_CAP_TRIGGER of a capture that is filling or triggered (04 R106). -/
theorem exec_emonCapTrigger_accepted (h : Runs 0x0502 0 q s w t) (hst : t.emon.cap.st = .filling ∨ t.emon.cap.st = .triggered) :
    exec (.emonCapTrigger q) s = .next (answer (triggerAt t 0 (w.line.getD 0) w.tRx) w sOK []) := by
  change execEmonCapTrigger q s = _
  rw [execEmonCapTrigger, request_ok h]
  obtain hst | hst := hst <;> rw [hst, finish_done]

/-- EMON_CAP_STOP with none waiting waits in EXPOSE and is sampled at once elsewhere (04 R108). -/
theorem exec_emonCapStop_taken (h : Runs 0x0503 0 q s w t) (hnone : t.emon.cap.stop = none) :
    exec (.emonCapStop q) s = .next (if t.layer.st = .expose then t.onCap fun c => { c with stop := some w }
      else sampleCapStop (t.onCap fun c => { c with stop := some w })) := by
  change execEmonCapStop q s = _
  rw [execEmonCapStop, request_ok h, if_neg (by simp [hnone]), finish_later]
  rfl

/-- A stop sampled while the capture fills ends it without a capture (04 Table EMON-5). -/
theorem sampleCapStop_filling (hst : t.emon.cap.st = .filling) : sampleCapStop (t.onCap fun c => { c with stop := some w }) =
    answer (t.onCap fun c => { c with st := .off, stop := none }) w sOK [] := by
  simp only [sampleCapStop, State.onCap, hst]
  rfl

/-- EMON_CAP_HEADER of a capture that is done (04 Table EMON-6). -/
theorem exec_emonCapHeader_done (h : Runs 0x0504 0 q s w t) (hst : t.emon.cap.st = .done) :
    exec (.emonCapHeader q) s = .next (answer t w sOK (memBytes t.mem capBase 64)) := by
  change execEmonCapHeader q s = _
  rw [execEmonCapHeader, request_ok h, if_neg (not_not.mpr hst), finish_now]

/-- EMON_CAP_RELEASE of a capture that is done: off with mode 0, armed again with mode 1 (04 Table EMON-9). -/
theorem exec_emonCapRelease_done {mode : Byte} (h : Runs 0x0505 1 q s w t) (hst : t.emon.cap.st = .done)
    (hmode : mode.toNat ≤ 1) :
    exec (.emonCapRelease q mode) s =
      .next (answer (if mode = 0 then t.onCap fun c => { c with st := .off } else capArming t) w sOK []) := by
  change execEmonCapRelease q mode s = _
  rw [execEmonCapRelease, request_ok h, if_neg (not_not.mpr hst), if_neg (Nat.not_lt.mpr hmode)]
  split <;> rw [finish_done]

/-- EMON_LEARN_RESET in IDLE (04 R96). -/
theorem exec_emonLearnReset_idle (h : Runs 0x0506 0 q s w t) (hst : t.layer.st = .idle) :
    exec (.emonLearnReset q) s = .next (answer (learnReset t) w sOK []) := by
  change execEmonLearnReset q s = _
  rw [execEmonLearnReset, request_ok h, if_neg (not_not.mpr hst), finish_done]

end

/-- Settles O10: in the state that the checks of a request leave, each clause's premises pick one branch of its body. -/
theorem doseAndMonitorRequestsComplete : Obligations.DoseAndMonitorRequestsComplete := by
  refine ⟨?_, ?_, ?_, ?_, ?_, ?_, ?_, ?_, ?_, ?_, ?_, ?_⟩
  · exact fun _ _ _ _ _ => exec_doseBilletRead_served
  · exact fun _ _ _ _ _ _ => exec_doseBilletWrite_accepted
  · intro q s w t l h hl hserves
    rw [exec_doseBilletDefault_lanes h (.inl hl) (lanes_of_one hl hserves) (List.cons_ne_nil _ _), List.foldl_cons, List.foldl_nil,
      finish_versionReply]
  · exact fun _ _ _ _ _ h hlanes hsome => exec_doseBilletDefault_lanes h (.inr rfl) ((lanes_of_all rfl).trans hlanes) hsome
  · exact fun _ _ _ _ => exec_emonCapArm_accepted
  · exact fun _ _ _ _ => exec_emonCapTrigger_accepted
  · intro q s w t h hnone hst
    rw [exec_emonCapStop_taken h hnone, if_pos hst]
    rfl
  · intro q s w t h hnone hst hfill
    rw [exec_emonCapStop_taken h hnone, if_neg hst, sampleCapStop_filling hfill]
    rfl
  · exact fun _ _ _ _ => exec_emonCapHeader_done
  · exact fun _ _ _ _ h hst => exec_emonCapRelease_done h hst (by decide)
  · exact fun _ _ _ _ h hst => exec_emonCapRelease_done h hst (by decide)
  · exact fun _ _ _ _ => exec_emonLearnReset_idle

/-! ### Events of the dose synthesiser and the emission monitor -/

/-- With no trailer made behind the first block, dropping that block changes no other and counts in no trailer. -/
theorem dropRow_front {isRow : Made → Bool} {x : Made} {rest : List Made} (hx : isRow x = true)
    (hrest : (rest.any fun z => z.first != 0 && z.bytes.length == 32) = false) : dropRow isRow (x :: rest) = (rest, false) := by
  have hnone : rest.findIdx (fun z => z.first != 0 && z.bytes.length == 32) = rest.length :=
    List.findIdx_eq_length.mpr fun z hz => Bool.eq_false_iff.mpr (List.any_eq_false.mp hrest z hz)
  rw [dropRow, if_pos hx, hrest, hnone]
  refine congrArg (·, false) (List.ext_getElem (by simp) fun i _ hi => ?_)
  rw [List.getElem_mapIdx, if_neg (by simpa using hi.ne')]

/-- The clearing ends with no stop sampled meanwhile: the capture fills from the next marker (04 Table EMON-5). -/
theorem execCaptureClearDone_fills {dt m : Nat} {s u : State} (hu : s.pass dt = u) (htrip : u.therm.tripped = false)
    (hready : u.readyOn = true) (hst : u.emon.cap.st = .arming) (hstop : u.emon.cap.stopAfterClear = false)
    (hm : u.layer.marker = some m) :
    execCaptureClearDone dt s = .next (u.onCap fun c => { c with st := .filling, pre := 0, since := m + 1 }) := by
  rw [execCaptureClearDone, clocked_fires hu htrip (by simp [hready, hst])]
  simp only [State.onCap, hm, hstop, Bool.false_eq_true, if_false]

/-- Settles O11: each clause's premise is the event's condition, and picks the branch of its effect. -/
theorem doseAndMonitorEventsComplete : Obligations.DoseAndMonitorEventsComplete := by
  refine ⟨?_, ?_, ?_, ?_, ?_, ?_⟩
  · intro dt s u hu hmain hrounds hraised
    change execCalibrationStale dt s = _
    rw [execCalibrationStale, event_fires hu (by simp [hmain, hrounds, hraised])]
  · intro dt s u hu hrun hdue
    change execLearnUpdate dt s = _
    rw [execLearnUpdate, event_fires hu (by simp [hrun, hdue])]
  · intro dt s u row x rest hu htrip hmade hfirst hlen hsince hrest
    have hrow : (x.first == BitVec.ofNat 32 (row + 1) && x.bytes.length == 6152 && decide (x.since + msU ≤ u.time)) = true := by
      simp [hfirst, hlen, hsince]
    change execMapRowDrop dt row s = _
    rw [execMapRowDrop, clocked_fires hu htrip (by simp only [hmade, List.any_cons, hrow, Bool.true_or])]
    dsimp only
    rw [hmade, dropRow_front hrow hrest]
    rfl
  · exact fun _ _ _ _ => execCaptureClearDone_fills
  · intro dt s u n p m fl smp rx hu htrip hserdes hgood hlive hpos hbuild
    change execPhotodiodeReturn dt n p m fl ⟨smp, rx⟩ s = _
    rw [execPhotodiodeReturn, received_fires hgood hu htrip hserdes (by simp [hlive, hpos, hbuild])]
  · intro dt s u n p m fl smp rx hu htrip hserdes hlink hbad
    change execPhotodiodeReturn dt n p m fl ⟨smp, rx⟩ s = _
    rw [execPhotodiodeReturn, received_discards hbad hu htrip hserdes hlink]

/-! ### Inbound blocks -/

section
variable {s : State} {n : Nat} {bs : List Byte}

theorem checkBlock_badHeader (hhdr : hdrOk n bs = false) :
    checkBlock s n bs = blockFail s n (blkHdr (padTo 48 bs)).seq 0x0805 0x0E0 := by
  simp [checkBlock, hhdr]

theorem checkBlock_ofArmedLayer (hhdr : hdrOk n bs = true) (hlayer : layerVerdict s (blkHdr (padTo 48 bs)).layerNo = 0) :
    checkBlock s n bs = takeBlock s n (blkHdr (padTo 48 bs)) bs := by
  simp [checkBlock, hhdr, hlayer]

end

section
variable {dt : Nat} {s u e v : State} {k : Fin 2} {parity : Bool} {bs : List Byte} {rest : List Piece} {c : Inflating}
variable (hu : s.pass dt = u) (htrip : u.therm.tripped = false) (hmain : u.mainOn = true)
include hu htrip hmain

/-- AQRIPOL_BLOCK at a queue whose engine check leaves it without a block to take (07 R179). -/
theorem execAqripolBlock_nothing (hwaits : (blockWaits u k.val).isSome = true) (he : engineCheck u k.val parity = e)
    (hnone : blockWaits e k.val = none) : execAqripolBlock dt k parity s = .next e := by
  rw [execAqripolBlock, clocked_fires hu htrip (by simp [hmain, hwaits])]
  dsimp only
  rw [he, hnone]

/-- AQRIPOL_BLOCK at a queue that still takes the block at its front after its engine check (07 R172, R179). -/
theorem execAqripolBlock_takes (hwaits : (blockWaits u k.val).isSome = true) (he : engineCheck u k.val parity = e)
    (hblock : blockWaits e k.val = some (bs, rest)) (hv : e.onQueue k.val (fun x => { x with arrived := rest }) = v) :
    execAqripolBlock dt k parity s = .next (settleQueue (checkBlock v k.val bs) k.val) := by
  rw [execAqripolBlock, clocked_fires hu htrip (by simp [hmain, hwaits])]
  dsimp only
  rw [he, hblock, ← hv]

/-- BLOCK_ACCEPTED of a block of the armed layer with every line in its slot (07 R173). -/
theorem execBlockAccepted_accepts (hcur : (u.queue k.val).cur = some c) (hwritten : c.written = c.count)
    (hlayer : layerVerdict u c.layerNo = 0) : execBlockAccepted dt ⟨k, false⟩ s = .next (acceptBlock u k.val c) := by
  rw [execBlockAccepted, clocked_fires hu htrip (by simp [hmain, hcur, hwritten])]
  simp [hcur, hlayer]

/-- BLOCK_ACCEPTED on an inflater that a parity error stops: the block fails check 6 (07 R179). -/
theorem execBlockAccepted_parity (hcur : (u.queue k.val).cur = some c) (hwritten : c.written = c.count) :
    execBlockAccepted dt ⟨k, true⟩ s =
      .next (engineCheck (blockFail (dropInflation u k.val) k.val c.seq.toNat 0x0802 0x0E2) k.val true) := by
  rw [execBlockAccepted, clocked_fires hu htrip (by simp [hmain, hcur, hwritten])]
  simp [hcur]

end

/-! ### Outbound blocks -/

section
variable {u : State} {kind : Byte} {place n : Nat} {parity : Bool} {j : CmpJob}

/-- The items that a producer of KIND 2 or 3 hands over start a job (07 R177). -/
theorem handOver_made {rest : List Made} (hkind : kind = 2 ∨ kind = 3)
    (htake : takeMade kind n u.time (u.data.made.getD (kind.toNat - 2) []) = some (j, rest)) :
    handOver u kind place n parity = some
      (startJobAt { u with data := { u.data with made := u.data.made.set (kind.toNat - 2) rest } } j place parity) := by
  have hgb : kind ≠ 4 := by
    rintro rfl
    exact absurd hkind (by decide)
  rw [handOver, if_neg hgb, if_pos hkind, htake, Option.map_some]

/-- Keeper hands over Guestbook entries 2 048 at a time, while a channel reads them (17 R363). -/
theorem handOver_entries (hreader : gbReader u = true) (henough : 2048 ≤ (u.gb.next - gbStart u.gb).toNat) :
    handOver u 4 place 2048 parity = some (handEntries u 2048 place parity) := by
  rw [handOver, if_pos rfl, if_pos ⟨hreader, rfl, henough⟩]

theorem putBlock_layer {coded : Option (List Byte)} : (putBlock u j coded).layer = u.layer := by
  by_cases hk : j.kind.toNat - 2 = 3 <;> cases hw : j.w <;> simp [putBlock, hk, hw]

end

section
variable {dt : Nat} {s u v : State} {k : Fin 4} {parity : Bool} {j : CmpJob} {rest : List CmpJob}
variable (hu : s.pass dt = u) (htrip : u.therm.tripped = false) (hmain : u.mainOn = true)
include hu htrip hmain

theorem execCompressHandover_fires {kind : Byte} {n : U16} (hv : handOver u kind k.val n.toNat parity = some v) :
    execCompressHandover dt kind k n parity s = .next v := by
  rw [execCompressHandover, clocked_fires hu htrip (by simp [hmain, hv]), hv, Option.getD_some]

/-- COMPRESS_DONE of an engine that works: a job that was tried in vain is counted and goes out stored (07 R177). -/
theorem execCompressDone_works (hjob : u.data.cmp.getD k.val none = some j)
    (hv : { u with data := { u.data with cmp := u.data.cmp.set k.val none } } = v) :
    execCompressDone dt k false s = .next (nextJob (engineCheck (putBlock
      (if u.pv 0x0810 (j.kind.toNat - 2) ≠ 0 ∧ codedOf u j = none then v.count 0x0822 1 1 else v) j (codedOf u j))
      (2 + k.val) false)) := by
  have hcoded : codedOf v j = codedOf u j := hv ▸ rfl
  have hmode : v.pv 0x0810 (j.kind.toNat - 2) = u.pv 0x0810 (j.kind.toNat - 2) := hv ▸ rfl
  rw [execCompressDone, clocked_fires hu htrip (by rw [hmain, hjob]; rfl)]
  simp only [hjob, hv, hcoded, hmode]
  simp

/-- COMPRESS_DONE of a faulty engine: its job goes out stored (07 R179). -/
theorem execCompressDone_faulty (hjob : u.data.cmp.getD k.val none = some j) :
    execCompressDone dt k true s = .next (nextJob (engineCheck (putBlock
      { u with data := { u.data with cmp := u.data.cmp.set k.val none } } j none) (2 + k.val) true)) := by
  rw [execCompressDone, clocked_fires hu htrip (by rw [hmain, hjob]; rfl)]
  simp only [hjob]
  rfl

/-- COMPRESS_BYPASS in IDLE, where no layer's first bypass is to be raised (07 R177). -/
theorem execCompressBypass_idle (hwait : u.data.cmpWait = j :: rest)
    (hlate : j.since + u.pv 0x0812 0 * usU ≤ u.time) (hst : u.layer.st = .idle) :
    execCompressBypass dt s = .next ((putBlock { u with data := { u.data with cmpWait := rest } } j none).count 0x0822 2 1) := by
  rw [execCompressBypass, clocked_fires hu htrip (by simp [hmain, hwait, hlate])]
  simp [hwait, putBlock_layer, hst]

end

/-! ### The shadow check -/

section
variable {dt r c : Nat} {s u v : State} {x : Shadow} {wrong : List (Nat × Nat × U16)} {e a : U16}
variable (hu : s.pass dt = u) (hrun : u.keep.running = true) (hx : u.data.shadow = some x)
include hu hrun hx

/-- SHADOW_COMPARE of a sample that agrees ends the sample (07 R182). -/
theorem execShadowCompare_agrees (hgood : firstWrong x wrong = none) :
    execShadowCompare dt wrong s = .next { u with data := { u.data with shadow := none } } := by
  rw [execShadowCompare, event_fires hu (by simp [hrun, hx])]
  simp only [hx, hgood]

/-- SHADOW_COMPARE of a sample with a wrong word: the mismatch is kept, counted and raised, and a Guestbook record with open
values goes with it (07 R182, log entry 6). -/
theorem execShadowCompare_differs (hwrong : firstWrong x wrong = some (r, c, e, a))
    (hv : raise { ({ u with data := { u.data with shadow := none } } : State).count 0x0823 0 1 with
      data := { u.data with shadow := none, mismatch := some (x.m, x.chain, r, c, e, a) } } 0x0E8 0 false = v) :
    execShadowCompare dt wrong s = .next (gbRecord v.freeTaken.freeTaken 8 (v.freeBits 16) (v.freeTaken.freeBits 64)) := by
  rw [execShadowCompare, event_fires hu (by simp [hrun, hx])]
  simp only [hx, hwrong]
  rw [← hv]

end

/-- Settles O13: each clause's premises are the event's condition, and pick the branch of its effect. -/
theorem dataEventsComplete : Obligations.DataEventsComplete := by
  refine ⟨?_, ?_, ?_, ?_, ?_, ?_, ?_, ?_, ?_, ?_, ?_, ?_, ?_⟩
  · intro dt s u e v k bs rest parity hu htrip hmain hwaits he hblock hv hhdr hlayer
    rw [← checkBlock_ofArmedLayer hhdr hlayer]
    exact execAqripolBlock_takes hu htrip hmain hwaits he hblock hv
  · exact fun _ _ _ _ _ _ => execAqripolBlock_nothing
  · intro dt s u e v k bs rest parity hu htrip hmain hwaits he hblock hv hhdr
    rw [← checkBlock_badHeader hhdr]
    exact execAqripolBlock_takes hu htrip hmain hwaits he hblock hv
  · exact fun _ _ _ _ _ => execBlockAccepted_accepts
  · exact fun _ _ _ _ _ => execBlockAccepted_parity
  · intro dt s u k hu htrip hcur
    change execInflaterSlotFree dt k s = _
    rw [execInflaterSlotFree, clocked_fires hu htrip hcur]
  · exact fun _ _ _ _ _ _ _ _ _ hu htrip hmain hkind htake =>
      execCompressHandover_fires hu htrip hmain (handOver_made hkind htake)
  · exact fun _ _ _ _ _ hu htrip hmain hreader henough =>
      execCompressHandover_fires hu htrip hmain (handOver_entries hreader henough)
  · exact fun _ _ _ _ _ _ => execCompressDone_works
  · exact fun _ _ _ _ _ => execCompressDone_faulty
  · exact fun _ _ _ _ _ => execCompressBypass_idle
  · exact fun _ _ _ _ _ => execShadowCompare_agrees
  · exact fun _ _ _ _ _ _ _ _ _ _ => execShadowCompare_differs

end Sys2Proof.Proofs.DoseSynthesis
end

section
/-!
PROOFS. The tile link family (05_tile_links): the state after reset (R125, 01 Table ARCH-4, 17 Table KEEP-1), the requests of the
tile link controller (R119, R131 to R134, R144), and its events: frames and lanes (R117 to R140), bring-up and presence (R126 to
R137).
-/

namespace Sys2Proof.Proofs.TileLinks

open Sys2Proof.Machine Sys2Proof.Safety Sys2Proof.Proofs.LayerCycle

-- Off, because every lemma's own thread reserves a stack.
set_option Elab.async false

/-! ### Reset -/

theorem memGet_nil (a : Nat) : memGet [] a = memRest a := rfl

/-- Settles O4: the fields are read off; a chain of the reset state is one of four equal ones, and the SRAM lists no byte. -/
theorem resetLeavesStandby : Obligations.ResetLeavesStandby :=
  ⟨rfl, rfl, rfl, rfl, rfl, rfl, rfl, rfl, rfl, by decide, memGet_nil⟩

/-! ### Chains and tiles -/

section
variable {s : State} {n p k : Nat}

theorem laneReset_chain : (laneReset s k).chain n = s.chain n := rfl

theorem reportTimely_onTile {f : Tile → Tile} {m : Nat} : reportTimely (s.onTile n p f) m = reportTimely s m := rfl

/-- An update that keeps a chain's state keeps it on every chain, listed or not. -/
theorem onChain_chain_st {f : Chain → Chain} (hf : ∀ c, (f c).st = c.st) : ((s.onChain n f).chain n).st = (s.chain n).st := by
  rw [State.chain, State.chain, State.onChain_link, List.getD_eq_getElem?_getD, List.getD_eq_getElem?_getD,
    List.getElem?_modify_eq]
  cases s.link.chains[n]? with
  | none => rfl
  | some c => exact hf c

theorem chain_mem (hn : n < s.link.chains.length) : s.chain n ∈ s.link.chains := by
  rw [State.chain, List.getD_eq_getElem _ _ hn]
  exact List.getElem_mem hn

/-- Of 16 rows that all fired none is a lost frame. -/
theorem foldl_allFired {lose : State → Nat → State} :
    (List.range 16).foldl (fun v i => if (0xFFFF : U16).getLsbD i then v else lose v i) s = s := by
  have hfired : ∀ i ∈ List.range 16, (0xFFFF : U16).getLsbD i = true := by decide
  refine List.foldlRecOn _ _ (motive := (· = s)) rfl fun v hv i hi => ?_
  rw [if_pos (hfired i hi), hv]

/-- The search from the chain whose turn it is ends there if that chain will do. -/
theorem find?_turn {turn : Nat} {good : Nat → Bool} (hn : n < 4) (hturn : turn = n) (hgood : good n = true) :
    ((List.range 4).map fun i => (turn + i) % 4).find? good = some n := by
  have hfirst : (turn + 0) % 4 = n := by omega
  rw [List.range_succ_eq_map, List.map_cons, hfirst, List.find?_cons_of_pos hgood]

theorem expectTiles_met (h : s.pv 0x0614 n = 0 ∨ s.pv 0x0614 n = k) : expectTiles s n k = s := by
  rw [expectTiles, if_neg (by omega)]

end

/-! ### Requests -/

section
variable {q : Req} {s t : State} {w : Waiting} {n p : Byte}

/-- A tile that answers is present, and its operands are in range (R144). -/
theorem tileStatus_answers (h : tileStatus t n p = 0) :
    n.toNat ≤ 3 ∧ p.toNat ≤ 17 ∧ p.toNat < (shownTiles (t.chain n.toNat)).length := by
  rw [tileStatus] at h
  split at h
  · exact absurd h (by decide)
  · split at h
    · exact absurd h (by decide)
    · omega

/-- LINK_CHAIN_POWER on, of a chain that is present and OFF, without a lockout (R131, R137). -/
theorem exec_linkChainPower_on (h : Runs 0x0601 2 q s w t) (hn : n.toNat ≤ 3) (hidle : t.layer.st = .idle)
    (hready : t.readyOn = true) (hc4 : t.flt.c4 = none) (hpresent : (t.chain n.toNat).presence = true)
    (hoff : (t.chain n.toNat).st = .off) :
    exec (.linkChainPower q n 1) s = .next (answer (chainOn t n.toNat) w sOK []) := by
  have hrange : ¬ (3 < n.toNat ∨ 1 < (1 : Byte).toNat) := not_or.mpr ⟨by omega, by decide⟩
  change execLinkChainPower q n 1 s = _
  rw [execLinkChainPower, request_ok h]
  dsimp only
  rw [if_neg hrange, if_neg (by simp [hidle, hready]), if_neg (by decide), if_neg (by simp [hc4]), if_neg (by simp [hpresent]),
    if_neg (by simp [hoff]), finish_done]

/-- LINK_CHAIN_POWER off, of a chain that is not OFF (R131). -/
theorem exec_linkChainPower_off (h : Runs 0x0601 2 q s w t) (hn : n.toNat ≤ 3) (hidle : t.layer.st = .idle)
    (hready : t.readyOn = true) (hon : (t.chain n.toNat).st ≠ .off) :
    exec (.linkChainPower q n 0) s = .next (answer (chainOff t n.toNat) w sOK []) := by
  have hrange : ¬ (3 < n.toNat ∨ 1 < (0 : Byte).toNat) := not_or.mpr ⟨by omega, by decide⟩
  change execLinkChainPower q n 0 s = _
  rw [execLinkChainPower, request_ok h]
  dsimp only
  rw [if_neg hrange, if_neg (by simp [hidle, hready]), if_pos rfl, if_neg hon, finish_done]

/-- LINK_DESC_READ of a length that the answer holds: the tile is asked, and answers later (R119). -/
theorem exec_linkDescRead_asks {a : U32} {len : U16} (h : Runs 0x0602 8 q s w t) (hpos : 1 ≤ len.toNat) (hlen : len.toNat ≤ 256)
    (hfits : len.toNat ≤ (payloadLimit w.mb).2) (htile : tileStatus t n p = 0) :
    exec (.linkDescRead q n p a len) s = .next (mgmtAsk t (some w) n.toNat p.toNat 1 a.toNat (le 2 len.toNat)) := by
  change execLinkDescRead q n p a len s = _
  rw [execLinkDescRead, request_ok h, if_neg (by bv_omega), if_neg (not_not.mpr htile), finish_later]

/-- LINK_DESC_WRITE in IDLE, inside the machine area (R144). -/
theorem exec_linkDescWrite_asks {a : U32} {len : U16} {data : List Byte} (h : Runs 0x0603 (8 + data.length) q s w t)
    (hdata : data.length = len.toNat) (hpos : 1 ≤ len.toNat) (hlen : len.toNat ≤ 256) (hlo : 0x100 ≤ a.toNat)
    (hhi : a.toNat + len.toNat ≤ 0x140) (hidle : t.layer.st = .idle) (htile : tileStatus t n p = 0) :
    exec (.linkDescWrite q n p a len data) s = .next (mgmtAsk t (some w) n.toNat p.toNat 2 a.toNat data) := by
  obtain ⟨hn, hp, hpresent⟩ := tileStatus_answers htile
  change execLinkDescWrite q n p a len data s = _
  rw [execLinkDescWrite, request_runs h fun hq => by simp [hq, hdata], if_neg (by bv_omega),
    if_neg (Nat.not_le.mpr hpresent), if_neg (by omega), if_neg (by simp [hidle, htile]), finish_later]

/-- LINK_TILE_SWITCH in IDLE; only a usable tile's switch is closed (R134). -/
theorem exec_linkTileSwitch_asks {close : Byte} (h : Runs 0x0604 3 q s w t) (hclose : close.toNat ≤ 1)
    (hidle : t.layer.st = .idle) (htile : tileStatus t n p = 0) (husable : close = 1 → (t.tile n.toNat p.toNat).usable = true) :
    exec (.linkTileSwitch q n p close) s = .next (mgmtAsk t (some w) n.toNat p.toNat 2 0x208 [close]) := by
  have hanswers : ¬ (tileStatus t n p = sRange ∨ tileStatus t n p = sNotPresent) := by
    rw [htile]
    decide
  have hallowed : ¬ (t.layer.st ≠ .idle ∨ tileStatus t n p ≠ 0
      ∨ (close = 1 ∧ (t.tile n.toNat p.toNat).usable = false)) := by
    simpa [hidle, htile] using husable
  change execLinkTileSwitch q n p close s = _
  rw [execLinkTileSwitch, request_ok h, if_neg (Nat.not_lt.mpr hclose), if_neg hanswers, if_neg hallowed, finish_later]

/-- LINK_FAILOVER in IDLE of a chain that carries frames, with TL4 free for it (R132). -/
theorem exec_linkFailover_moves (h : Runs 0x0605 1 q s w t) (hn : n.toNat ≤ 3) (hidle : t.layer.st = .idle)
    (hfree : tl4Free t n.toNat = true) (hlive : chainLive (t.chain n.toNat) = true) :
    exec (.linkFailover q n) s = .next (answer (startMove t n.toNat) w sOK []) := by
  change execLinkFailover q n s = _
  rw [execLinkFailover, request_ok h]
  dsimp only
  rw [if_neg (Nat.not_lt.mpr hn), if_neg (not_not.mpr hidle), if_neg (by simp [hfree]), if_neg (by simp [hlive]), finish_done]

/-- LINK_RESTORE in IDLE of a chain that TL4 serves (R133). -/
theorem exec_linkRestore_bringsUp (h : Runs 0x0606 1 q s w t) (hn : n.toNat ≤ 3) (hidle : t.layer.st = .idle)
    (hreserve : onReserve t n.toNat = true) :
    exec (.linkRestore q n) s = .next (answer (settlePitch
      ((laneReset (freeTl4 (dropMgmt t n.toNat) n.toNat) n.toNat).onChain n.toNat fun c => { c with
        st := .bringup, servedBy := n.toNat, tiles := [], judged := false, found := false, ended := false
        lswNext := 0 })) w sOK []) := by
  change execLinkRestore q n s = _
  rw [execLinkRestore, request_ok h]
  dsimp only
  rw [if_neg (Nat.not_lt.mpr hn), if_neg (by simp [hidle, hreserve]), finish_done]

/-- LINK_STATUS of a chain that there is (R144). -/
theorem exec_linkStatus_reports (h : Runs 0x0607 1 q s w t) (hn : n.toNat ≤ 3) :
    exec (.linkStatus q n) s = .next (answer t w sOK
      (le 1 (chainCode (t.chain n.toNat).st) ++ le 1 (t.chain n.toNat).servedBy
        ++ le 1 ((shownTiles (t.chain n.toNat)).countP (·.usable))
        ++ le 4 (t.pv 0x0623 n.toNat) ++ le 4 (t.pv 0x0624 (t.chain n.toNat).servedBy) ++ le 4 (t.pv 0x0625 n.toNat))) := by
  change execLinkStatus q n s = _
  rw [execLinkStatus, request_ok h]
  dsimp only
  rw [if_neg (Nat.not_lt.mpr hn), finish_now]

end

/-- Settles O14: in the state that the checks of a request leave, each clause's premises pick one branch of its body. -/
theorem linkRequestsComplete : Obligations.LinkRequestsComplete := by
  refine ⟨?_, ?_, ?_, ?_, ?_, ?_, ?_, ?_⟩
  · exact fun _ _ _ _ _ => exec_linkChainPower_on
  · exact fun _ _ _ _ _ => exec_linkChainPower_off
  · exact fun _ _ _ _ _ _ _ _ => exec_linkDescRead_asks
  · exact fun _ _ _ _ _ _ _ _ _ => exec_linkDescWrite_asks
  · exact fun _ _ _ _ _ _ _ => exec_linkTileSwitch_asks
  · exact fun _ _ _ _ _ => exec_linkFailover_moves
  · exact fun _ _ _ _ _ => exec_linkRestore_bringsUp
  · exact fun _ _ _ _ _ => exec_linkStatus_reports

/-! ### Events of frames -/

section
variable {dt wait tAdv : Nat} {s u v x y : State} {n : Fin 4} {p : Fin 18} {m : U32} {rx : RxFrame} {stop : Bool} {fired : U16}
  {status : Byte} {f : Telemetry}
variable (hu : s.pass dt = u) (htrip : u.therm.tripped = false)
include hu htrip

/-- MARKER_ADVANCE: the sync frames leave, the tiles they do not reach are noted, and a count past T_ADV's range stops the period
(R121, R124). -/
theorem exec_markerAdvance_fires (hlayer : u.layer.st = .runUp ∨ u.layer.st = .expose)
    (hlast : u.link.nextAdvance ≤ u.layer.mFinal + 1) (hadv : advanceCount u.link.advNm (carriageSpeed u) wait = (tAdv, stop))
    (hv : ((List.range 4).filter fun n => chainLive (u.chain n)).foldl (fun v n => linkSend v n
      [Out.sync n u.link.nextAdvance (BitVec.ofNat 16 tAdv) 0 (bitB stop) (BitVec.ofNat 64 (time64 (u.time + wait * nsU)))]) u = v)
    (hx : { v with link := { v.link with nextAdvance := u.link.nextAdvance + 1 } } = x)
    (hy : (onBuild x u.link.nextAdvance fun b =>
      { b with unsent := b.unsent ++ (tilesUnreached x).filter fun z => !(b.unsent.contains z) }) = y) :
    exec (.markerAdvance dt wait) s = .next (if stop then
      linkFirst (onBuild (y.count 0x0626 0 1) u.link.nextAdvance fun b => { b with noFire := true }) 2 0x0B4 0 else y) := by
  change execMarkerAdvance dt wait s = _
  rw [execMarkerAdvance, clocked_fires hu htrip (by simpa [hlast] using hlayer)]
  dsimp only
  rw [hadv]
  dsimp only
  rw [hv, hx, hy]

/-- ACK_UNKNOWN: the report is counted as missing, and the tile lost if those before it on a live chain report (R124, R140). -/
theorem exec_ackUnknown_fires (hpos : p.val < (u.chain n.val).tiles.length) (hsent : unsentTo u m.toNat n.val p.val = false)
    (hbegun : periodBegun u m.toNat = true) (hlate : m.toNat < u.layer.marker.getD 0)
    (hv : raise ((u.onTile n.val p.val fun t => { t with missing := t.missing + 1 }).count 0x0625 n.val 1) 0x0A8 0 false = v) :
    exec (.ackUnknown dt n p m) s = .next (if chainLive (v.chain n.val) = true ∧ p.val ≠ 0
        ∧ ((List.range p.val).all fun k => (v.tile n.val k).missing == 0) = true ∧ (v.tile n.val p.val).lost = false
      then raise (v.onTile n.val p.val fun t => { t with lost := true }) 0x0A3 0 false else v) := by
  change execAckUnknown dt n p m s = _
  rw [execAckUnknown, clocked_fires hu htrip (by simp [hpos, hsent, hbegun, hlate])]
  dsimp only
  rw [hv]

section
variable (hserdes : u.serdesOn = true)
include hserdes

/-- DELIVERY_REPORT in time: each row that was sent and not fired is a lost frame (R122, R123). -/
theorem exec_deliveryReport_timely (hgood : rx.good = true) (hlive : chainLive (u.chain n.val) = true)
    (hpos : p.val < (u.chain n.val).tiles.length) (htimely : reportTimely u m.toNat = true) :
    exec (.deliveryReport dt n p m fired ⟨status, rx⟩) s = .next ((List.range 16).foldl
      (fun v i => if fired.getLsbD i then v else loseFrame v m.toNat n.val (16 * p.val + i))
      (u.onTile n.val p.val fun t => { t with missing := 0 })) := by
  change execDeliveryReport dt n p m fired ⟨status, rx⟩ s = _
  rw [execDeliveryReport, received_fires hgood hu htrip hserdes (by simp [hlive, hpos, htimely])]
  dsimp only
  rw [reportTimely_onTile, if_pos htimely]

/-- DELIVERY_REPORT that fails a check is discarded (R117). -/
theorem exec_deliveryReport_discarded (hlink : u.linkOn = true) (hbad : rx.good = false) :
    exec (.deliveryReport dt n p m fired ⟨status, rx⟩) s = .next (discardFrames u (u.chain n.val).servedBy 1) := by
  change execDeliveryReport dt n p m fired ⟨status, rx⟩ s = _
  rw [execDeliveryReport, received_discards hbad hu htrip hserdes hlink]

/-- TELEMETRY_FRAME with no cell fault, no status bit and no tile too hot: it is kept, and the condition 0x0AE ends (R138 to
R140). -/
theorem exec_telemetryFrame_quiet (hgood : rx.good = true) (hlive : chainLive (u.chain n.val) = true)
    (hpos : p.val < (u.chain n.val).tiles.length) (hcells : f.cellFaults = []) (hstatus : f.status = 0)
    (hcool : tooHot (u.tile n.val p.val) f = false)
    (hall : anyTooHot (u.onTile n.val p.val fun t => { t with telem := some (f, u.time) }) = false) :
    exec (.telemetryFrame dt n p ⟨f, rx⟩) s =
      .next (clearCond (u.onTile n.val p.val fun t => { t with telem := some (f, u.time) }) 0x0AE) := by
  change execTelemetryFrame dt n p ⟨f, rx⟩ s = _
  rw [execTelemetryFrame, received_fires hgood hu htrip hserdes (by simp [hlive, hpos])]
  simp [hcells, hstatus, hcool, hall]

end

end

/-! ### Management responses -/

section
variable {s : State} {m : Mgmt}

theorem mgmtApplied_read (hop : m.op = 1) : mgmtApplied s m = s := by
  simp [mgmtApplied, hop]

theorem mgmtApplied_loadSwitch (hop : m.op = 2) (haddr : m.addr = 0x208) :
    mgmtApplied s m = s.onTile m.chain m.pos fun t => { t with lsw := m.data == [1] } := by
  rw [mgmtApplied, if_pos ⟨hop, haddr⟩]

end

section
variable {dt : Nat} {s u : State} {n : Fin 4} {p : Fin 18} {rx : RxFrame} {tag st : Byte} {data : List Byte}
  {m : Mgmt} {w : Waiting} {rest : List Mgmt}

/-- MANAGEMENT_RESPONSE to the oldest request, whose command waits: done, or refused with the tile's STATUS (R119, R144). -/
theorem exec_managementResponse_first (hu : s.pass dt = u) (htrip : u.therm.tripped = false) (hserdes : u.serdesOn = true)
    (hgood : rx.good = true) (hmgmt : u.link.mgmt = m :: rest) (hchain : m.chain = n.val) (hpos : m.pos = p.val)
    (htag : m.tag = tag) (hw : m.w = some w) :
    exec (.managementResponse dt n p tag st ⟨data, rx⟩) s = .next (if st = 0
      then answer (mgmtApplied { u with link := { u.link with mgmt := rest } } m) w 0 (if m.op = 1 then data else [])
      else answer { u with link := { u.link with mgmt := rest } } w 0x0601 [st]) := by
  have hmine : (m.chain == n.val && m.pos == p.val && m.tag == tag) = true := by simp [hchain, hpos, htag]
  change execManagementResponse dt n p tag st ⟨data, rx⟩ s = _
  rw [execManagementResponse, received_fires hgood hu htrip hserdes (by simp [hmgmt, hmine])]
  simp only [hmgmt, List.find?_cons, List.eraseP_cons, hmine, cond_true, hw]
  by_cases hst : st = 0
  · simp only [if_pos hst]
  · simp only [if_neg hst]

end

/-! ### Events of lanes -/

section
variable {dt k : Nat} {s u v : State} {n : Fin 4} {lane : Fin 5} {e : CwError} {got : Pretrained}
variable (hu : s.pass dt = u) (htrip : u.therm.tripped = false)
include hu htrip

/-- CODEWORD_UNCORRECTABLE: counted, its frames discarded, and noted for the triggers of R132; a bad CHK lengthens a run or
begins one, and any other error ends it (R117). -/
theorem exec_codewordUncorrectable_counts (hserdes : u.serdesOn = true) (hlink : u.linkOn = true) :
    exec (.codewordUncorrectable dt lane e) s = .next { u.count 0x0624 lane.val 1 with link := { u.link with
      discards := u.link.discards.modify lane.val (· + e.lost)
      chkRun := u.link.chkRun.set lane.val
        (if e.badChk then (if followsBad u lane.val then u.link.chkRun.getD lane.val 0 + 1 else 1) else 0)
      uncorr := u.link.uncorr.set lane.val
        (u.time :: (u.link.uncorr.getD lane.val []).filter fun t => decide (u.time ≤ t + msU)) } } := by
  change execCodewordUncorrectable dt lane e s = _
  rw [execCodewordUncorrectable, clocked_fires hu htrip (by simp [hserdes, hlink])]
  rfl

/-- LANE_FAILOVER of a chain that is not moving, with a trigger on its lane (R132). -/
theorem exec_laneFailover_fires (hst : chainLive (u.chain n.val) = true ∨ (u.chain n.val).st = .doze)
    (hmoving : (u.chain n.val).moving = false) (htrigger : laneTrigger u n.val = true) :
    exec (.laneFailover dt n) s = .next (laneLost u n.val) := by
  change execLaneFailover dt n s = _
  rw [execLaneFailover, clocked_fires hu htrip (by simpa [hmoving, htrigger] using hst)]

/-- FAILOVER_COMPLETE of a chain that moves (Table TILE-11). -/
theorem exec_failoverComplete_fires (hserdes : u.serdesOn = true) (hmoving : (u.chain n.val).moving = true) :
    exec (.failoverComplete dt n) s = .next (moveDone u n.val) := by
  change execFailoverComplete dt n s = _
  rw [execFailoverComplete, clocked_fires hu htrip (by simp [hserdes, hmoving])]

/-- RESERVE_PRETRAIN on the chain whose turn it is: TL4 begins anew on its spare port, and LOOPBACK goes to its tiles (R127,
R133). -/
theorem exec_reservePretrain_next (hidle : u.layer.st = .idle) (hready : u.readyOn = true) (hfree : u.link.tl4Chain = none)
    (hnone : u.link.pretrain = none) (hon : u.pv 0x0617 0 ≠ 0) (hturn : u.link.pretrainNext = n.val)
    (hlive : chainLive (u.chain n.val) = true) (hn : n.val < u.link.chains.length)
    (hv : laneReset { u with link := { u.link with pretrain := some n.val, tl4Sel := n.val } } 4 = v) :
    exec (.reservePretrain dt) s = .next ((List.range (u.chain n.val).tiles.length).foldl
      (fun v p => laneSend v 4 [.management n.val p 4 0 0 []]) v) := by
  have hgood : (chainLive (u.chain n.val) || (u.chain n.val).st == .doze) = true := by simp [hlive]
  have hany : (u.link.chains.any fun c => chainLive c || c.st == .doze) = true :=
    List.any_eq_true.mpr ⟨_, chain_mem hn, hgood⟩
  have hnext : ((List.range 4).map fun i => (u.link.pretrainNext + i) % 4).find?
      (fun k => chainLive (u.chain k) || (u.chain k).st == .doze) = some n.val := find?_turn n.isLt hturn hgood
  have hchain : v.chain n.val = u.chain n.val := by rw [← hv, laneReset_chain, State.chain, State.chain]
  change execReservePretrain dt s = _
  rw [execReservePretrain, clocked_fires hu htrip (by simp [hidle, hready, hfree, hnone, hon, hany])]
  dsimp only
  rw [hnext, Option.getD_some, hv, hchain]

/-- PRETRAIN_DONE: TL4 has what it needs for the chain, or is unavailable for it; the next chain's turn comes (R133). -/
theorem exec_pretrainDone_fires (hchain : u.link.pretrain = some k) :
    (exec (.pretrainDone dt true got) s = .next (laneReset { u with link := { u.link with
      pretrain := none, pretrainNext := (k + 1) % 4, tl4Sel := u.pv 0x0616 0, tl4Ready := u.link.tl4Ready.set k true
      tl4Coef := u.link.tl4Coef.set k got.coef, tl4Lat := u.link.tl4Lat.set k got.latencies } } 4))
    ∧ exec (.pretrainDone dt false got) s = .next (raise (laneReset { u with link := { u.link with
      pretrain := none, pretrainNext := (k + 1) % 4, tl4Sel := u.pv 0x0616 0
      tl4Ready := u.link.tl4Ready.set k false } } 4) 0x0B3 0 false) := by
  have hfires : (u.link.pretrain.isSome) = true := by simp [hchain]
  change execPretrainDone dt true got s = _ ∧ execPretrainDone dt false got s = _
  rw [execPretrainDone, execPretrainDone, clocked_fires hu htrip hfires, clocked_fires hu htrip hfires]
  simp [hchain]

end

/-- Settles O15: each clause's premises are the event's condition, and pick the branch of its effect. -/
theorem linkFrameEventsComplete : Obligations.LinkFrameEventsComplete := by
  refine ⟨?_, ?_, ?_, ?_, ?_, ?_, ?_, ?_, ?_, ?_, ?_, ?_, ?_, ?_, ?_, ?_, ?_⟩
  · intro dt s u v x wait tAdv hu htrip hlayer hlast hadv hv hx
    rw [exec_markerAdvance_fires hu htrip hlayer hlast hadv hv hx rfl, if_neg Bool.false_ne_true]
  · intro dt s u v x wait hu htrip hlayer hlast hadv hv hx
    rw [exec_markerAdvance_fires hu htrip hlayer hlast hadv hv hx rfl, if_pos rfl]
  · intro dt s u n p m st rx hu htrip hserdes hgood hlive hpos htimely
    rw [exec_deliveryReport_timely hu htrip hserdes hgood hlive hpos htimely, foldl_allFired]
  · exact fun _ _ _ _ _ _ _ _ _ => exec_deliveryReport_timely
  · exact fun _ _ _ _ _ _ _ _ _ => exec_deliveryReport_discarded
  · exact fun _ _ _ _ _ _ _ => exec_ackUnknown_fires
  · exact fun _ _ _ _ _ _ _ => exec_telemetryFrame_quiet
  · intro dt s u n p tag data m w rest rx hu htrip hserdes hgood hmgmt hchain hpos htag hop hw
    rw [exec_managementResponse_first hu htrip hserdes hgood hmgmt hchain hpos htag hw, if_pos rfl, if_pos hop,
      mgmtApplied_read hop]
    rfl
  · intro dt s u n p tag st data m w rest rx hu htrip hserdes hgood hmgmt hchain hpos htag hst hw
    rw [exec_managementResponse_first hu htrip hserdes hgood hmgmt hchain hpos htag hw, if_neg hst]
  · intro dt s u n p tag m w rest rx hu htrip hserdes hgood hmgmt hchain hpos htag hop haddr hw
    rw [exec_managementResponse_first hu htrip hserdes hgood hmgmt hchain hpos htag hw, if_pos rfl, ite_self,
      mgmtApplied_loadSwitch hop haddr, hchain, hpos]
    rfl
  · exact fun _ _ _ _ _ => exec_codewordUncorrectable_counts
  · exact fun _ _ _ _ _ => exec_codewordUncorrectable_counts
  · exact fun _ _ _ _ => exec_laneFailover_fires
  · exact fun _ _ _ _ => exec_failoverComplete_fires
  · exact fun _ _ _ _ _ => exec_reservePretrain_next
  · exact fun _ _ _ _ _ _ hu htrip hchain => (exec_pretrainDone_fires hu htrip hchain).1
  · exact fun _ _ _ _ _ _ hu htrip hchain => (exec_pretrainDone_fires hu htrip hchain).2

/-! ### Events of bring-up -/

section
variable {dt k mv : Nat} {s u v : State} {n : Fin 4} {p : Fin 18} {space : List Byte} {rtt : List Nat} {blocks : List (List Byte)}
  {off : Bool}
variable (hu : s.pass dt = u)
include hu

/-- CHAIN_RAILS_GOOD of a POWERING chain (Table TILE-10). -/
theorem exec_chainRailsGood_fires (hst : (u.chain n.val).st = .powering) (hgood : chainRailsGood u n.val = true) :
    exec (.chainRailsGood dt n) s = .next (u.onChain n.val fun c => { c with st := .bringup }) := by
  change execChainRailsGood dt n s = _
  rw [execChainRailsGood, event_fires hu (by simp [hst, hgood])]

section
variable (htrip : u.therm.tripped = false)
include htrip

/-- SEGMENT_TRAINED with a good header, before the chain's last place (R126, R129). -/
theorem exec_segmentTrained_good (hserdes : u.serdesOn = true)
    (hdisc : discovering (u.chain n.val) = true) (hk : (u.chain n.val).tiles.length = k) (hplace : k < 17)
    (hheader : headerOk { space := space } = true)
    (hv : mgmtRead (mgmtRead (mgmtSend u n.val k 3 0 []) n.val k 0 256) n.val k 0x100 64 = v) :
    exec (.segmentTrained dt n space) s = .next ((v.send (.trainNext n.val k)).onChain n.val fun c =>
      { c with tiles := c.tiles ++ [{ space := space, usable := true }] }) := by
  have hroom : k < 18 := by omega
  change execSegmentTrained dt n space s = _
  rw [execSegmentTrained, clocked_fires hu htrip (by simp [hserdes, hdisc, hk, hroom])]
  dsimp only
  rw [hk, hv, if_pos hplace, hheader, if_pos rfl]

/-- SEGMENT_TRAIN_FAIL: the chain ends before the segment; without a tile it fails (R126, R129). -/
theorem exec_segmentTrainFail_fires (hdisc : discovering (u.chain n.val) = true)
    (hv : raise (u.onChain n.val fun c => { c with found := true }) 0x0A2 0 false = v) :
    exec (.segmentTrainFail dt n) s = .next (if (v.chain n.val).tiles.isEmpty
      then settlePower (chainFail (expectTiles v n.val 0) n.val) else v) := by
  change execSegmentTrainFail dt n s = _
  rw [execSegmentTrainFail, clocked_fires hu htrip hdisc]
  dsimp only
  rw [hv]

/-- CHAIN_DISCOVERED with as many tiles as LINK.EXPECT_TILES asks for (R126 to R130). -/
theorem exec_chainDiscovered_expected (hserdes : u.serdesOn = true)
    (hst : (u.chain n.val).st = .bringup) (hended : (u.chain n.val).ended = false) (hk : (u.chain n.val).tiles.length = k)
    (hpos : 0 < k)
    (hv : (List.range k).foldl (fun v p => calDiscovered v n.val p (blocks.getD p [])) (measureChain
      (sendTelem (mgmtSend (u.onChain n.val fun c => { c with ended := true }) n.val 31 2 0x200 (le 1 k)) n.val) n.val rtt).1 = v)
    (hexpect : v.pv 0x0614 n.val = 0 ∨ v.pv 0x0614 n.val = k) :
    exec (.chainDiscovered dt n rtt blocks) s = .next (settlePower v) := by
  have htiles : (u.chain n.val).tiles ≠ [] := List.ne_nil_of_length_pos (hk ▸ hpos)
  change execChainDiscovered dt n rtt blocks s = _
  rw [execChainDiscovered, clocked_fires hu htrip (by simp [hserdes, hst, hended, htiles])]
  dsimp only
  rw [hk, hv, expectTiles_met hexpect]

/-- LOAD_SWITCH_CLOSE of the tile whose turn it is, on a live chain (R134). -/
theorem exec_loadSwitchClose_next (hjudged : (u.chain n.val).judged = true) (hlive : chainLive (u.chain n.val) = true)
    (hturn : (u.chain n.val).lswNext = p.val) (husable : (u.tile n.val p.val).usable = true) :
    exec (.loadSwitchClose dt n) s = .next (((mgmtSend u n.val p.val 2 0x208 [1]).onTile n.val p.val fun t =>
      { t with lsw := true }).onChain n.val fun c => { c with lswNext := p.val + 1 }) := by
  have hnext : ((List.range 18).find? fun k => decide ((u.chain n.val).lswNext ≤ k) && (u.tile n.val k).usable) = some p.val := by
    rw [List.find?_range_eq_some, hturn]
    exact ⟨by simp [husable], List.mem_range.mpr p.isLt, fun k hk => by simp [Nat.not_le.mpr hk]⟩
  change execLoadSwitchClose dt n s = _
  rw [execLoadSwitchClose, clocked_fires hu htrip (by simp [hjudged, hlive, hnext])]
  dsimp only
  rw [hnext, Option.getD_some]

end

/-! ### Events of presence -/

section
variable (hmain : u.mainOn = true)
include hmain

/-- PRESENCE_LOSS: a chain in OFF with its rails down only loses its presence; any other loses its rails too (R135). -/
theorem exec_presenceLoss_fires (hpresent : (u.chain n.val).presence = true)
    (hoff : ((u.chain n.val).st == .off && (chainSlots n.val).all fun k => railDown (u.rail k).st) = off)
    (hv : (u.onChain n.val fun c => { c with presence := false }) = v) :
    exec (.presenceLoss dt n) s = .next (settlePower (if off then v else presenceLost v n.val)) := by
  change execPresenceLoss dt n s = _
  rw [execPresenceLoss, event_fires hu (by simp [hmain, hpresent])]
  dsimp only
  rw [hoff, hv]

/-- RAIL_DISCHARGE_CHECK with a rail at 2 V or more (Table TILE-12). -/
theorem exec_railDischargeCheck_fires (hst : (u.chain n.val).st = .off) (habsent : (u.chain n.val).presence = false)
    (hmv : 2000 ≤ mv) : exec (.railDischargeCheck dt n mv) s = .next (raise u 0x0B2 0 false) := by
  change execRailDischargeCheck dt n mv s = _
  rw [execRailDischargeCheck, event_fires hu (by simp [hmain, hst, habsent, hmv])]

/-- PRESENCE_RETURN: a record for a chain in OFF, no other effect (R137). -/
theorem exec_presenceReturn_fires (habsent : (u.chain n.val).presence = false)
    (hv : (u.onChain n.val fun c => { c with presence := true }) = v) :
    exec (.presenceReturn dt n) s = .next (if (u.chain n.val).st = .off then gbRecord v 6 1 n.val else v) := by
  have hst : (v.chain n.val).st = (u.chain n.val).st := hv ▸ onChain_chain_st fun _ => rfl
  change execPresenceReturn dt n s = _
  rw [execPresenceReturn, event_fires hu (by simp [hmain, habsent])]
  dsimp only
  rw [hv, hst]

end

end

/-- Settles O16: each clause's premises are the event's condition, and pick the branch of its effect. -/
theorem linkBringUpEventsComplete : Obligations.LinkBringUpEventsComplete := by
  refine ⟨?_, ?_, ?_, ?_, ?_, ?_, ?_, ?_, ?_, ?_, ?_, ?_⟩
  · exact fun _ _ _ _ => exec_chainRailsGood_fires
  · exact fun _ _ _ _ _ _ _ => exec_segmentTrained_good
  · intro dt s u n v hu htrip hdisc hv htiles
    rw [exec_segmentTrainFail_fires hu htrip hdisc hv, if_neg (by simpa using htiles)]
  · intro dt s u n v hu htrip hdisc hv htiles hexpect
    rw [exec_segmentTrainFail_fires hu htrip hdisc hv, if_pos (by simp [htiles]), expectTiles_met (.inl hexpect)]
  · exact fun _ _ _ _ _ _ _ _ => exec_chainDiscovered_expected
  · exact fun _ _ _ _ _ => exec_loadSwitchClose_next
  · intro dt s u n hu hmain hpresent hon
    rw [exec_presenceLoss_fires (off := false) hu hmain hpresent (by simp [hon]) rfl, if_neg Bool.false_ne_true]
  · intro dt s u n k hu hmain hpresent hst hk hrail
    have hup : ((chainSlots n.val).all fun k => railDown (u.rail k).st) = false :=
      List.all_eq_false.mpr ⟨k, hk, by simp [hrail]⟩
    rw [exec_presenceLoss_fires (off := false) hu hmain hpresent (by simp [hup]) rfl, if_neg Bool.false_ne_true]
  · intro dt s u n hu hmain hpresent hst hrails
    have hdown : ((chainSlots n.val).all fun k => railDown (u.rail k).st) = true := List.all_eq_true.mpr hrails
    rw [exec_presenceLoss_fires (off := true) hu hmain hpresent (by simp [hst, hdown]) rfl, if_pos rfl]
  · exact fun _ _ _ _ _ => exec_railDischargeCheck_fires
  · intro dt s u n hu hmain habsent hon
    rw [exec_presenceReturn_fires hu hmain habsent rfl, if_neg hon]
  · intro dt s u n hu hmain habsent hst _
    rw [exec_presenceReturn_fires hu hmain habsent rfl, if_pos hst]

end Sys2Proof.Proofs.TileLinks
end

section
/-!
PROOFS. The host ports family (06_host_ports_dma): the requests of the host ports (R155, R158, R168), the transport's events (R145
to R154), the events of the ports and of IEEE 1588 (R145, R155 to R157), and DMA (R159 to R168).
-/

namespace Sys2Proof.Proofs.HostPorts

open Sys2Proof.Machine Sys2Proof.Safety Sys2Proof.Proofs.LayerCycle

-- Off, because every lemma's own thread reserves a stack.
set_option Elab.async false

/-! ### Updates of ports and DMA channels -/

section
variable {s : State} {p k : Nat}

/-- An update of one port leaves the others alone. -/
theorem onPort_port_other {f : Port → Port} {o : Nat} (h : p ≠ o) : (s.onPort p f).port o = s.port o := by
  change (s.host.ports.modify p f).getD o {} = s.host.ports.getD o {}
  rw [List.getD_eq_getElem?_getD, List.getD_eq_getElem?_getD, List.getElem?_modify_ne _ _ h]

theorem onPort_portUp_other {f : Port → Port} {o : Nat} (h : p ≠ o) : (s.onPort p f).portUp o = s.portUp o := by
  rw [State.portUp, State.portUp, onPort_port_other h]
  rfl

/-- The condition of a source is no part of a port. -/
theorem clearCond_port {id : Nat} : (clearCond s id).port p = s.port p := rfl

/-- A DMA channel's update counts only by what it makes of the channel as it stands. -/
theorem onDma_congr {f g : DmaChan → DmaChan} (h : f (s.dch k) = g (s.dch k)) : s.onDma k f = s.onDma k g := by
  have hlist : s.dma.modify k f = s.dma.modify k g := by
    refine List.ext_getElem? fun j => ?_
    rw [List.getElem?_modify, List.getElem?_modify]
    by_cases hj : k = j
    · subst hj
      rw [State.dch, List.getD_eq_getElem?_getD] at h
      cases hc : s.dma[k]? with
      | none => rfl
      | some c =>
        rw [hc, Option.getD_some] at h
        simp [h]
    · simp [hj]
  rw [State.onDma, State.onDma, hlist]

end

theorem fin2_ne_other (p : Fin 2) : p.val ≠ 1 - p.val := by omega

/-! ### Requests of the host ports -/

section
variable {q : Req} {s t : State} {w : Waiting} {p ch : Byte}

/-- HOST_PORT_STATUS of a port that there is (Table HOST-10). -/
theorem exec_hostPortStatus_reports (h : Runs 0x0701 1 q s w t) (hp : p.toNat ≤ 1) :
    exec (.hostPortStatus q p) s = .next (answer t w sOK
      (le 1 (t.port p.toNat).link ++ le 4 (t.portParam 0x0710 p.toNat) ++ le 16 (t.portParam 0x0711 p.toNat)
        ++ le 1 (t.portParam 0x0712 0) ++ le 2 (t.portParam 0x0713 0) ++ le 2 (t.portParam 0x0714 0)
        ++ le 2 (t.portParam 0x0715 0) ++ le 2 (t.portParam 0x0716 0)
        ++ le 8 (t.port p.toNat).fecCorr.toNat ++ le 8 (t.port p.toNat).fecUncorr.toNat)) := by
  change execHostPortStatus q p s = _
  rw [execHostPortStatus, request_ok h]
  dsimp only
  rw [if_neg (Nat.not_lt.mpr hp), finish_now]

/-- HOST_PORT_RESTART in IDLE: the parameters of R158 come into use, the port trains, and its channels come back (R155). -/
theorem exec_hostPortRestart_trains (h : Runs 0x0702 1 q s w t) (hp : p.toNat ≤ 1) (hidle : t.layer.st = .idle) :
    exec (.hostPortRestart q p) s =
      .next (answer ((applyPortParams t p.toNat).onPort p.toNat fun x => { x with link := 1, moved := false }) w sOK []) := by
  change execHostPortRestart q p s = _
  rw [execHostPortRestart, request_ok h]
  dsimp only
  rw [if_neg (Nat.not_lt.mpr hp), if_neg (not_not.mpr hidle), finish_done]

/-- HOST_CHAN_OPEN of a bulk channel that is closed (Table HOST-10). -/
theorem exec_hostChanOpen_opens {rel dir : Byte} (h : Runs 0x0703 3 q s w t) (hlo : 8 ≤ ch.toNat) (hhi : ch.toNat ≤ 63)
    (hrel : rel.toNat ≤ 1) (hdir : dir.toNat ≤ 1) (hclosed : (t.chan ch.toNat).isOpen = false) :
    exec (.hostChanOpen q ch rel dir) s = .next (answer
      (t.onChan ch.toNat fun _ => { isOpen := true, reliable := rel == 1, outbound := dir == 1 }) w sOK []) := by
  have hrange : ¬ (ch.toNat < 8 ∨ 63 < ch.toNat ∨ 1 < rel.toNat ∨ 1 < dir.toNat) := by omega
  change execHostChanOpen q ch rel dir s = _
  rw [execHostChanOpen, request_ok h]
  dsimp only
  rw [if_neg hrange, if_neg (by simp [hclosed]), finish_done]

/-- HOST_CHAN_CLOSE of an open bulk channel that no DMA channel uses (Table HOST-10). -/
theorem exec_hostChanClose_closes (h : Runs 0x0704 1 q s w t) (hlo : 8 ≤ ch.toNat) (hhi : ch.toNat ≤ 63)
    (hopen : (t.chan ch.toNat).isOpen = true) (hunused : (t.dma.any fun d => dmaUses d ch.toNat) = false) :
    exec (.hostChanClose q ch) s = .next (answer (t.onChan ch.toNat fun _ => {}) w sOK []) := by
  have hrange : ¬ (ch.toNat < 8 ∨ 63 < ch.toNat) := by omega
  change execHostChanClose q ch s = _
  rw [execHostChanClose, request_ok h]
  dsimp only
  rw [if_neg hrange, if_neg (by simp [hopen]), if_neg (by simp [hunused]), finish_done]

end

/-- Settles O17: in the state that the checks of a request leave, each clause's premises pick one branch of its body. -/
theorem hostRequestsComplete : Obligations.HostRequestsComplete := by
  refine ⟨?_, ?_, ?_, ?_⟩
  · exact fun _ _ _ _ _ => exec_hostPortStatus_reports
  · exact fun _ _ _ _ _ => exec_hostPortRestart_trains
  · exact fun _ _ _ _ _ _ _ => exec_hostChanOpen_opens
  · exact fun _ _ _ _ _ => exec_hostChanClose_closes

/-! ### Packets received -/

section
variable {v : State} {pkt : Packet}
variable (hok : packetOk v pkt = true) (hopen : (v.chan pkt.channel.toNat).isOpen = true)
include hok hopen

/-- A packet of the register window or of a bulk channel is processed by its type (R147, R148). -/
theorem takePacket_bulk (hch : pkt.channel.toNat = 0 ∨ 8 ≤ pkt.channel.toNat) (hmax : pkt.channel.toNat < 64) :
    takePacket v pkt false = rxPacket v pkt.channel.toNat pkt := by
  have hmail : ¬ (1 ≤ pkt.channel.toNat ∧ pkt.channel.toNat ≤ 4) := by omega
  have hplace : ¬ ((5 ≤ pkt.channel.toNat ∧ pkt.channel.toNat ≤ 7) ∨ 64 ≤ pkt.channel.toNat) := by omega
  rw [takePacket]
  dsimp only
  rw [if_neg (by simp [hok]), if_neg (by simpa [hopen] using hplace), if_neg fun h => hmail ⟨h.1, h.2.1⟩,
    if_neg fun h => hmail ⟨h.1, h.2.1⟩, if_neg Bool.false_ne_true,
    if_neg fun h => hmail h.1]

/-- A packet of a mailbox that answers and whose session takes it is processed by its type; one with a SESSION shows that the
session lives (17 R355). -/
theorem takePacket_mailbox (hlo : 1 ≤ pkt.channel.toNat) (hhi : pkt.channel.toNat ≤ 4)
    (hlive : mailboxDead v (pkt.channel.toNat - 1) = false) (hsession : sessionOk v pkt.channel.toNat pkt = true) :
    takePacket v pkt false = rxPacket (if pkt.session ≠ 0 then touchSession v (pkt.channel.toNat - 1) else v)
      pkt.channel.toNat pkt := by
  have hplace : ¬ ((5 ≤ pkt.channel.toNat ∧ pkt.channel.toNat ≤ 7) ∨ 64 ≤ pkt.channel.toNat) := by omega
  rw [takePacket]
  dsimp only
  rw [if_neg (by simp [hok]), if_neg (by simpa [hopen] using hplace), if_neg (by simp [hlive]), if_neg (by simp [hsession]),
    if_neg Bool.false_ne_true]
  simp [hlo, hhi]

end

/-! ### Frames received -/

section
variable {dt : Nat} {s u c : State} {p : Fin 2} {f : EthFrame} {full : Bool}

theorem exec_transportPacketRx_fires (hu : s.pass dt = u) (hmain : u.mainOn = true) (hports : u.portsOn = true) :
    exec (.transportPacketRx dt p f full) s = .next (takeFrame u p.val f full) := by
  change execTransportPacketRx dt p f full s = _
  rw [execTransportPacketRx, event_fires hu (by simp [hmain, hports])]

section
variable (hc : (u.onPort p.val fun x => { x with
  fecCorr := x.fecCorr + BitVec.ofNat 64 f.fecCorr, fecUncorr := x.fecUncorr + BitVec.ofNat 64 f.fecUncorr }) = c)
include hc

/-- Of a frame whose FCS fails only the FEC codewords count (R145). -/
theorem takeFrame_badFcs (hfcs : f.fcsOk = false) : takeFrame u p.val f full = c := by
  rw [takeFrame, hc]
  dsimp only
  rw [if_pos (by simp [hfcs])]

variable (hfcs : f.fcsOk = true)
include hfcs

/-- A frame longer than HOST.MAX_FRAME and a PAUSE are discarded and counted (R146, log entry 34). -/
theorem takeFrame_discarded (hdiscard : c.portParam 0x0715 0 < f.len ∨ f.body = .pause) :
    takeFrame u p.val f full = c.count 0x071E 3 1 := by
  rw [takeFrame, hc]
  dsimp only
  rw [if_neg (by simp [hfcs]), if_pos hdiscard]

variable {v : State} (hlen : f.len ≤ c.portParam 0x0715 0) (hpause : f.body ≠ .pause) (hvlan : f.vlan = c.vid)
  (hv : (c.onPort p.val fun x => { x with lastRx := c.time }) = v)
include hlen hpause hvlan hv

/-- A frame that the port accepts is looked at for a transport packet, then for a question to the port itself (R146, R147). -/
theorem takeFrame_accepted :
    (∀ pkt, framePacket v p.val f.body = some pkt → takeFrame u p.val f full = takePacket v pkt full)
    ∧ ∀ r, framePacket v p.val f.body = none → frameReply v p.val f.body = some r →
      takeFrame u p.val f full = portReply v p.val r := by
  have hkept : ¬ (c.portParam 0x0715 0 < f.len ∨ f.body = .pause) := not_or.mpr ⟨Nat.not_lt.mpr hlen, hpause⟩
  rw [takeFrame, hc]
  dsimp only
  rw [if_neg (by simp [hfcs]), if_neg hkept, if_neg (by simp [tagAccepted, hvlan]), hv]
  refine ⟨fun pkt hpkt => ?_, fun r hnone hr => ?_⟩
  · rw [hpkt]
  · rw [hnone, hr]

end

end

/-! ### Timers of the transport -/

section
variable {dt : Nat} {s u v : State} {ch : Fin 64}

theorem chanSession_zero : chanSession u 0 = 0 := rfl

/-- A port's own KEEPALIVE: channel 0, no session, no SEQ (R154, Table HOST-1). -/
theorem emitPort_keepalive {p : Nat} : emitPort u p 0 3 0 none [] =
    (u.onPort p fun x => { x with lastTx := u.time }).send
      (.packet p u.vid (u.encap p) 3 (if p = 1 then 16 else 0) 0 0 none (u.chan 0).rxNext (BitVec.ofNat 64 u.now64) []) := by
  have hflags : ∀ b : Byte, 0 ||| b = b := fun _ => BitVec.zero_or
  rw [emitPort, hflags, chanSession_zero]

/-- KEEPALIVE_SEND of a port that is up and has been silent for HOST.FAILOVER_US / 4 (R154). -/
theorem exec_keepaliveSend_fires {p : Fin 2} (hu : s.pass dt = u) (hmain : u.mainOn = true) (hup : u.portUp p.val = true)
    (hsilent : 4 * (u.port p.val).lastTx + u.pv 0x0718 0 * usU ≤ 4 * u.time) :
    exec (.keepaliveSend dt p) s = .next (emitPort u p.val 0 3 0 none []) := by
  change execKeepaliveSend dt p s = _
  rw [execKeepaliveSend, event_fires hu (by simp [hmain, hup, hsilent])]

variable (hu : s.pass dt = u) (hmain : u.mainOn = true) (hopen : (u.chan ch.val).isOpen = true)
include hu hmain hopen

/-- ACK_TIMER of a reliable channel that owes an ACK since HOST.ACK_US (R150). -/
theorem exec_ackTimer_fires (hreliable : (u.chan ch.val).reliable = true) (howed : 0 < (u.chan ch.val).ackDue)
    (hdue : (u.chan ch.val).ackSince + u.pv 0x071C 1 * usU ≤ u.time) :
    exec (.ackTimer dt ch) s = .next (sendAck u ch.val) := by
  change execAckTimer dt ch s = _
  rw [execAckTimer, event_fires hu (by simp [hmain, hopen, hreliable, howed, hdue])]

/-- RETRANSMIT_TIMEOUT of a reliable channel without a hole sends no NAK (R150). -/
theorem exec_retransmitTimeout_noHole (hreliable : (u.chan ch.val).reliable = true)
    (hv : (retransmit u ch.val fun p => decide (p.last + u.pv 0x071A 0 * usU ≤ u.time)) = v) (hnone : (v.chan ch.val).ooo = []) :
    exec (.retransmitTimeout dt ch) s = .next v := by
  change execRetransmitTimeout dt ch s = _
  rw [execRetransmitTimeout, event_fires hu (by simp [hmain, hopen, hreliable])]
  dsimp only
  rw [hv, hnone, holesFrom, List.filter_nil, List.foldl_nil]

/-- INBOUND_GAP_TIMEOUT of a channel with a hole since HOST.STREAM_TIMEOUT_MS (R151). -/
theorem exec_inboundGapTimeout_fires {t0 : Nat} (hhole : holeSince (u.chan ch.val) = some t0)
    (hdue : t0 + u.pv 0x071B 0 * msU ≤ u.time)
    (hv : drainOoo (u.onChan ch.val fun c => { c with
      rxNext := (((u.chan ch.val).ooo.head?).map (·.seq)).getD 0, broken := decide (8 ≤ ch.val) }) ch.val = v) :
    exec (.inboundGapTimeout dt ch) s = .next (raise (v.count 0x071E 0 1) 0x0D3 0 false) := by
  change execInboundGapTimeout dt ch s = _
  rw [execInboundGapTimeout, event_fires hu (by simp [hmain, hopen, hhole, hdue])]
  dsimp only
  rw [hv]

/-- OUTBOUND_PEER_LOST of a channel whose oldest packet is unacknowledged for longer than HOST.STREAM_TIMEOUT_MS (R152). -/
theorem exec_outboundPeerLost_fires {p : TxPkt} {rest : List TxPkt} (hunacked : (u.chan ch.val).unacked = p :: rest)
    (hlate : p.first + u.pv 0x071B 0 * msU < u.time)
    (hv : (u.onChan ch.val fun c => { c with unacked := [], txWait := [], isOpen := decide (ch.val < 5) }) = v) :
    exec (.outboundPeerLost dt ch) s = .next (raise { v with
      dma := v.dma.map fun d => if dmaUses d ch.val then { d with lost := true } else d } 0x0D2 0 false) := by
  change execOutboundPeerLost dt ch s = _
  rw [execOutboundPeerLost, event_fires hu (by simp [hmain, hopen, hunacked, hlate])]
  dsimp only
  rw [hv]

end

/-- Settles O18: each clause's premises are the event's condition, and pick the branch of its effect. -/
theorem transportEventsComplete : Obligations.TransportEventsComplete := by
  refine ⟨?_, ?_, ?_, ?_, ?_, ?_, ?_, ?_, ?_, ?_⟩
  · intro dt s u c v p f pkt hu hmain hports hc hfcs hlen hpause hvlan hv hpkt hok hch hmax hopen
    obtain ⟨htake, -⟩ := takeFrame_accepted (full := false) hc hfcs hlen hpause hvlan hv
    rw [exec_transportPacketRx_fires hu hmain hports, htake pkt hpkt, takePacket_bulk hok hopen hch hmax]
  · intro dt s u c v p f pkt hu hmain hports hc hfcs hlen hpause hvlan hv hpkt hok hlo hhi hopen hlive hsession
    obtain ⟨htake, -⟩ := takeFrame_accepted (full := false) hc hfcs hlen hpause hvlan hv
    rw [exec_transportPacketRx_fires hu hmain hports, htake pkt hpkt, takePacket_mailbox hok hopen hlo hhi hlive hsession]
  · intro dt s u c v p f r full hu hmain hports hc hfcs hlen hpause hvlan hv hnone hr
    obtain ⟨-, hreply⟩ := takeFrame_accepted (full := full) hc hfcs hlen hpause hvlan hv
    rw [exec_transportPacketRx_fires hu hmain hports, hreply r hnone hr]
  · intro dt s u c p f full hu hmain hports hc hfcs hdiscard
    rw [exec_transportPacketRx_fires hu hmain hports, takeFrame_discarded hc hfcs hdiscard]
  · intro dt s u c p f full hu hmain hports hc hfcs
    rw [exec_transportPacketRx_fires hu hmain hports, takeFrame_badFcs hc hfcs]
  · exact fun _ _ _ _ => exec_ackTimer_fires
  · exact fun _ _ _ _ hu hmain hopen hreliable _ hnone => exec_retransmitTimeout_noHole hu hmain hopen hreliable rfl hnone
  · exact fun _ _ _ _ _ _ hu hmain hopen => exec_inboundGapTimeout_fires hu hmain hopen
  · exact fun _ _ _ _ _ _ hu hmain hopen hunacked hlate => exec_outboundPeerLost_fires hu hmain hopen hunacked hlate rfl
  · intro dt s u p hu hmain hup hsilent
    rw [exec_keepaliveSend_fires hu hmain hup hsilent, emitPort_keepalive]

/-! ### Events of the ports -/

section
variable {dt : Nat} {s u v : State} {p : Fin 2}
variable (hu : s.pass dt = u) (hmain : u.mainOn = true)
include hu hmain

/-- PORT_DOWN: the channels move to the other port if that is up, and else 0x0D1 (R155, R156). -/
theorem exec_portDown_fires (hlink : (u.port p.val).link ≠ 0) (hv : (u.onPort p.val fun x => { x with link := 0 }) = v) :
    exec (.portDown dt p) s = .next (if u.portUp (1 - p.val) then failOver v p.val else raise v 0x0D1 0 true) := by
  have hother : v.portUp (1 - p.val) = u.portUp (1 - p.val) := hv ▸ onPort_portUp_other (fin2_ne_other p)
  change execPortDown dt p s = _
  rw [execPortDown, event_fires hu (by simp [hmain, hlink])]
  dsimp only
  rw [hv, hother]

/-- PORT_LINK_UP: 0x0D1 is over, and the channels of a port that is down move here (R145, R155). -/
theorem exec_portLinkUp_fires (hports : u.portsOn = true)
    (hv : clearCond (u.onPort p.val fun x => { x with link := 2, lastRx := u.time }) 0x0D1 = v) :
    exec (.portLinkUp dt p) s = .next (if (u.port (1 - p.val)).link = 0 then failOver v (1 - p.val) else v) := by
  have hother : v.port (1 - p.val) = u.port (1 - p.val) := by
    rw [← hv, clearCond_port, onPort_port_other (fin2_ne_other p)]
  change execPortLinkUp dt p s = _
  rw [execPortLinkUp, event_fires hu (by simp [hmain, hports])]
  dsimp only
  rw [hv, hother]

end

/-! ### IEEE 1588 -/

section
variable {dt t0 : Nat} {s u : State} {p : Fin 2} {via : PtpVia} {origin rx : Int}

theorem ptpDomain_own : ptpDomain u (u.pv 0x071D 1) = true := beq_self_eq_true _

/-- PTP_SYNC_LOST with 1588 in use (R157). -/
theorem exec_ptpSyncLost_fires (hu : s.pass dt = u) (hmain : u.mainOn = true) (hon : u.pv 0x071D 0 ≠ 0) :
    exec (.ptpSyncLost dt) s = .next (raise { u with host := { u.host with
      ptpSynced := false, ptpSync := none, ptpReq := none, ptpFwd := none, ptpRev := none } } 0x0D4 0 true) := by
  change execPtpSyncLost dt s = _
  rw [execPtpSyncLost, event_fires hu (by simp [hmain, hon])]

variable (hu : s.pass dt = u) (hmain : u.mainOn = true) (hports : u.portsOn = true) (hmode : u.pv 0x071D 0 = ptpModeOf via)
  (hport : portFor u 0 = p.val)
include hu hmain hports hmode hport

/-- A Sync of the own domain waits for its Follow_Up, or brings its origin itself (R157). -/
theorem exec_ptpMessageRx_sync {two : Bool} :
    exec (.ptpMessageRx dt p ⟨.sync (u.pv 0x071D 1) two origin, via, u.vid⟩) s = .next (if two
      then { u with host := { u.host with ptpSync := some u.time } } else ptpForward u u.time origin) := by
  change execPtpMessageRx dt p _ s = _
  rw [execPtpMessageRx, event_fires hu (by simp [hmain, hports, hmode, hport, tagAccepted])]
  dsimp only
  rw [ptpDomain_own, if_neg (by decide)]

/-- A Follow_Up brings the origin of the Sync that waits for it (R157). -/
theorem exec_ptpMessageRx_followUp (hsync : u.host.ptpSync = some t0) :
    exec (.ptpMessageRx dt p ⟨.followUp (u.pv 0x071D 1) origin, via, u.vid⟩) s = .next (ptpForward u t0 origin) := by
  change execPtpMessageRx dt p _ s = _
  rw [execPtpMessageRx, event_fires hu (by simp [hmain, hports, hmode, hport, tagAccepted])]
  dsimp only
  rw [hsync]
  dsimp only
  rw [ptpDomain_own, if_pos rfl]

/-- A Delay_Resp to the last Delay_Req gives the reverse difference (R157, R298). -/
theorem exec_ptpMessageRx_delayResp (hreq : u.host.ptpReq = some t0) :
    exec (.ptpMessageRx dt p ⟨.delayResp (u.pv 0x071D 1) rx, via, u.vid⟩) s =
      .next (ptpLaw { u with host := { u.host with ptpRev := some (rx - psOf t0), ptpReq := none } }) := by
  change execPtpMessageRx dt p _ s = _
  rw [execPtpMessageRx, event_fires hu (by simp [hmain, hports, hmode, hport, tagAccepted])]
  dsimp only
  rw [hreq]
  dsimp only
  rw [ptpDomain_own, if_pos rfl]

end

/-- Settles O19: each clause's premises are the event's condition, and pick the branch of its effect. -/
theorem portEventsComplete : Obligations.PortEventsComplete := by
  refine ⟨?_, ?_, ?_, ?_, ?_, ?_, ?_, ?_, ?_⟩
  · intro dt s u p hu hmain hlink hother
    rw [exec_portDown_fires hu hmain hlink rfl, if_pos hother]
  · intro dt s u p hu hmain hlink hother
    rw [exec_portDown_fires hu hmain hlink rfl, if_neg (ne_true_of_eq_false hother)]
  · intro dt s u p hu hmain hports hother
    rw [exec_portLinkUp_fires hu hmain hports rfl, if_neg hother]
  · intro dt s u p hu hmain hports hother
    rw [exec_portLinkUp_fires hu hmain hports rfl, if_pos hother]
  · intro dt s u p via origin hu hmain hports hmode hport
    rw [exec_ptpMessageRx_sync hu hmain hports hmode hport, if_pos rfl]
  · intro dt s u p via origin hu hmain hports hmode hport
    rw [exec_ptpMessageRx_sync hu hmain hports hmode hport, if_neg Bool.false_ne_true]
  · exact fun _ _ _ _ _ _ _ => exec_ptpMessageRx_followUp
  · exact fun _ _ _ _ _ _ _ => exec_ptpMessageRx_delayResp
  · exact fun _ _ _ => exec_ptpSyncLost_fires

/-! ### DMA -/

section
variable {q : Req} {s t v : State} {w : Waiting} {k : Byte}

theorem dmaEngine_own {n : Nat} (hgood : dmaFaulty t (t.dch n).phys = false) : dmaEngine t n = some (t.dch n).phys := by
  rw [dmaEngine]
  simp [hgood]

/-- DMA_START of an idle channel with a valid descriptor, on its own engine (R159, R161). -/
theorem exec_dmaStart_ownEngine {desc : U32} (h : Runs 0x0710 5 q s w t) (hk : k.toNat ≤ 31) (hidle : (t.dch k.toNat).st = .idle)
    (hdesc : descStatus t.mem desc.toNat = 0) (hgood : dmaFaulty t (t.dch k.toNat).phys = false) :
    exec (.dmaStart q k desc) s = .next (answer (beginDesc (t.onDma k.toNat fun c => { c with
      st := .running, passes := [], stop := none, disable := none, lost := false, lastGrant := t.time, credit := 0 })
      k.toNat desc.toNat) w sOK []) := by
  change execDmaStart q k desc s = _
  rw [execDmaStart, request_ok h]
  dsimp only
  rw [if_neg (Nat.not_lt.mpr hk), if_neg (not_not.mpr hidle), if_neg (not_not.mpr hdesc), dmaEngine_own hgood]
  dsimp only
  rw [if_neg (by simp), finish_done]
  -- The engine that is written is the channel's own.
  exact congrArg (fun u => Host.Outcome.next (answer (beginDesc u k.toNat desc.toNat) w sOK [])) (onDma_congr rfl)

/-- DMA_STOP of a running channel: at an element boundary it stops, inside an element the stop waits (R164). -/
theorem exec_dmaStop_running (h : Runs 0x0711 1 q s w t) (hk : k.toNat ≤ 31) (hst : (t.dch k.toNat).st = .running)
    (hnone : (t.dch k.toNat).stop = none) :
    exec (.dmaStop q k) s = .next (if (t.dch k.toNat).moved = 0
      then answer (t.onDma k.toNat fun c => { c with st := .stopping }) w sOK []
      else t.onDma k.toNat fun c => { c with stop := some w }) := by
  change execDmaStop q k s = _
  rw [execDmaStop, request_ok h]
  dsimp only
  rw [if_neg (Nat.not_lt.mpr hk), if_neg (by simp [hst]), if_neg (by simp [hst, hnone])]
  by_cases hmoved : (t.dch k.toNat).moved = 0
  · rw [if_pos hmoved, if_pos hmoved, finish_done]
  · rw [if_neg hmoved, if_neg hmoved, finish_later]

/-- DMA_DISABLE of a channel that is not idle and not layer-bound: at an element boundary it ends, inside an element the disable
waits (R165). -/
theorem exec_dmaDisable_accepted (h : Runs 0x0712 1 q s w t) (hk : k.toNat ≤ 31) (hst : (t.dch k.toNat).st ≠ .idle)
    (hclass : t.pv 0x0741 k.toNat ≠ 1) (hnone : (t.dch k.toNat).disable = none)
    (hv : (t.onDma k.toNat fun c => { c with disable := some w }) = v) :
    exec (.dmaDisable q k) s = .next (if (t.dch k.toNat).moved = 0 then dmaEnd v k.toNat 2 0 else v) := by
  change execDmaDisable q k s = _
  rw [execDmaDisable, request_ok h]
  dsimp only
  rw [if_neg (Nat.not_lt.mpr hk), if_neg hst, if_neg fun h => hclass h.1, if_neg (by simp [hnone]), finish_later, hv]

/-- DMA_STATUS of a channel that there is (Table HOST-10). -/
theorem exec_dmaStatus_reports (h : Runs 0x0713 1 q s w t) (hk : k.toNat ≤ 31) :
    exec (.dmaStatus q k) s = .next (answer t w sOK
      (le 1 (dmaCode (t.dch k.toNat).st) ++ le 1 (t.dch k.toNat).endCode ++ le 4 (t.dch k.toNat).desc.tag.toNat
        ++ le 4 (t.dch k.toNat).element ++ le 4 (AMap.get (t.dch k.toNat).passes (t.dch k.toNat).descAt 0)
        ++ le 4 (t.pv 0x0744 k.toNat))) := by
  change execDmaStatus q k s = _
  rw [execDmaStatus, request_ok h]
  dsimp only
  rw [if_neg (Nat.not_lt.mpr hk), finish_now]

end

section
variable {dt : Nat} {s u : State} {k : Fin 32}
variable (hu : s.pass dt = u) (hmain : u.mainOn = true)
include hu hmain

/-- DMA_BURST of a channel that the arbiter grants; a parity error marks its engine before the round is refilled (R159, R166). -/
theorem exec_dmaBurst_granted {parity : Bool} (hready : dmaReady u k.val = true) (hstarved : starved u = none)
    (hgranted : granted u k.val = true) :
    exec (.dmaBurst dt ⟨k, parity⟩) s = .next (burst ((refill (if parity
      then { u with host := { u.host with badEngines := u.host.badEngines ++ [(u.dch k.val).phys] } } else u)).onDma k.val
        fun c => { c with credit := c.credit - 1 }) k.val) := by
  change execDmaBurst dt ⟨k, parity⟩ s = _
  rw [execDmaBurst, event_fires hu (by simp [hmain, hready, hstarved, hgranted])]

/-- DMA_STARVE_BOOST of the channel that starves: counted, and one grant ahead of every class (R166). -/
theorem exec_dmaStarveBoost_fires (hstarved : starved u = some k.val) :
    exec (.dmaStarveBoost dt k) s = .next (burst (u.count 0x0744 k.val 1) k.val) := by
  change execDmaStarveBoost dt k s = _
  rw [execDmaStarveBoost, event_fires hu (by simp [hmain, hstarved])]

end

/-- Settles O20: each clause's premises are what lets the command through, and pick the branch of its effect. -/
theorem dmaCommandsComplete : Obligations.DmaCommandsComplete := by
  refine ⟨?_, ?_, ?_, ?_, ?_, ?_, ?_, ?_, ?_⟩
  · exact fun _ _ _ _ _ _ => exec_dmaStart_ownEngine
  · intro q s w t k h hk hst hnone hmoved
    rw [exec_dmaStop_running h hk hst hnone, if_pos hmoved]
  · intro q s w t k h hk hst hnone hmoved
    rw [exec_dmaStop_running h hk hst hnone, if_neg hmoved]
  · intro q s w t k h hk hst hclass hnone hmoved
    rw [exec_dmaDisable_accepted h hk hst hclass hnone rfl, if_neg hmoved]
  · intro q s w t k h hk hst hclass hnone hmoved
    rw [exec_dmaDisable_accepted h hk hst hclass hnone rfl, if_pos hmoved]
  · exact fun _ _ _ _ _ => exec_dmaStatus_reports
  · intro dt s u k hu hmain hready hstarved hgranted
    rw [exec_dmaBurst_granted hu hmain hready hstarved hgranted, if_neg Bool.false_ne_true]
  · intro dt s u k hu hmain hready hstarved hgranted
    rw [exec_dmaBurst_granted hu hmain hready hstarved hgranted, if_pos rfl]
  · exact fun _ _ _ _ => exec_dmaStarveBoost_fires

end Sys2Proof.Proofs.HostPorts
end

section
/-!
PROOFS. The layer data family (07_layer_data): a job for the compressors (R177, R179), and the requests of the layer data engines
(R175, R176, R178, R182, Table DATA-8).
-/

namespace Sys2Proof.Proofs.LayerData

open Sys2Proof.Machine Sys2Proof.Safety Sys2Proof.Proofs.LayerCycle

-- Off, because every lemma's own thread reserves a stack.
set_option Elab.async false

/-! ### Jobs of the compressors -/

section
variable {s : State}

/-- The check at a block boundary leaves a sound engine in service (R179). -/
theorem engineCheck_sound {k : Nat} (hsound : engineFaulty s k = false) : engineCheck s k false = s := by
  simp [engineCheck, hsound]

/-- A job takes the first place where it is free and its compressor is in service and sound (R177, R179). -/
theorem startJob_firstPlace {j : CmpJob} (hfree : s.data.cmp.getD 0 none = none) (hserves : engineOut s 2 = false)
    (hsound : engineFaulty s 2 = false) :
    startJob s j = { s with data := { s.data with cmp := s.data.cmp.set 0 (some j) } } := by
  have hplace : (0 :: List.range 4).find? (fun k => (s.data.cmp.getD k none).isNone && !(engineOut s (2 + k))) = some 0 :=
    List.find?_cons_of_pos (by rw [hfree, hserves]; rfl)
  simp only [startJob, startJobAt, hplace, engineCheck_sound hsound]

end

/-! ### Requests -/

section
variable {q : Req} {s t : State} {w : Waiting}

/-- DATA_KEK_AGREE with a host key on the curve: the session holds the agreed key (R175). -/
theorem exec_dataKekAgree_agrees {key kek dev sig : List Byte} {x : Session} (h : Runs 0x0801 97 q s w t)
    (hsession : t.session q.mb.val = some x) (hagree : agreement t.free x.id key = some (kek, dev, sig)) :
    exec (.dataKekAgree q key) s = .next (answer (setKek (agreeDraws t) q.mb.val (some kek)
      (some (privateKey (Config.ephemeralKey t.free)))) w sOK (dev ++ sig)) := by
  change execDataKekAgree q key s = _
  rw [execDataKekAgree, request_ok h, hsession]
  dsimp only
  rw [hagree, finish_now]

/-- DATA_KEK_AGREE with a host key off the curve: the session's earlier key is erased all the same (R175). -/
theorem exec_dataKekAgree_offCurve {key : List Byte} {x : Session} (h : Runs 0x0801 97 q s w t)
    (hsession : t.session q.mb.val = some x) (hagree : agreement t.free x.id key = none) :
    exec (.dataKekAgree q key) s = .next (answer (setKek (agreeDraws t) q.mb.val none none) w sAuthFail []) := by
  change execDataKekAgree q key s = _
  rw [execDataKekAgree, request_ok h, hsession]
  dsimp only
  rw [hagree, finish_refuse]

/-- DATA_KEY_LOAD of a slot that there is, in a session with a key-encryption key (R176). -/
theorem exec_dataKeyLoad_unwraps {slot : Byte} {iv : U32} {wrapped kek : List Byte} (h : Runs 0x0802 45 q s w t)
    (hslot : slot.toNat ≤ 3) (hkek : (t.session q.mb.val).bind (·.kek) = some kek) :
    exec (.dataKeyLoad q slot iv wrapped) s = .next (match keyUnwrap kek wrapped with
      | some key => answer { t with data := { t.data with
        aesRegs := kek
        keys := t.data.keys.set slot.toNat { loaded := true, key := key, ivFixed := iv, ivCount := 0 } } } w sOK []
      | none => answer { t with data := { t.data with aesRegs := kek } } w sAuthFail []) := by
  change execDataKeyLoad q slot iv wrapped s = _
  rw [execDataKeyLoad, request_ok h]
  dsimp only
  rw [if_neg (Nat.not_lt.mpr hslot), hkek]
  dsimp only
  cases keyUnwrap kek wrapped with
  | none => rw [finish_refuse]
  | some key => rw [finish_done]

/-- DATA_KEY_CLEAR of one slot (R176). -/
theorem exec_dataKeyClear_slot {slot : Byte} (h : Runs 0x0803 1 q s w t) (hslot : slot.toNat ≤ 3) :
    exec (.dataKeyClear q slot) s = .next (answer { t with data := { t.data with
      keys := t.data.keys.set slot.toNat {} } } w sOK []) := by
  have hone : slot ≠ 0xFF := by bv_omega
  change execDataKeyClear q slot s = _
  rw [execDataKeyClear, request_ok h]
  dsimp only
  rw [if_neg fun hrange => Nat.not_lt.mpr hslot hrange.1, if_neg hone, finish_done]

/-- DATA_KEY_CLEAR of slot 0xFF clears all four (R176). -/
theorem exec_dataKeyClear_all (h : Runs 0x0803 1 q s w t) :
    exec (.dataKeyClear q 0xFF) s = .next (answer { t with data := { t.data with
      keys := [{}, {}, {}, {}] } } w sOK []) := by
  change execDataKeyClear q 0xFF s = _
  rw [execDataKeyClear, request_ok h]
  dsimp only
  rw [if_neg fun hrange => hrange.2 rfl, if_pos rfl, finish_done]
  rfl

/-- DATA_KEY_STATUS shows the slots without their keys (Table DATA-8). -/
theorem exec_dataKeyStatus_reports (h : Runs 0x0804 0 q s w t) :
    exec (.dataKeyStatus q) s = .next (answer t w sOK
      (t.data.keys.flatMap fun k => le 1 (bitN k.loaded) ++ le 4 k.ivFixed.toNat ++ le 8 k.ivCount.toNat)) := by
  change execDataKeyStatus q s = _
  rw [execDataKeyStatus, request_ok h, finish_now]

/-- DATA_STREAM_STATUS of a queue that there is (Table DATA-8). -/
theorem exec_dataStreamStatus_reports {n : Byte} (h : Runs 0x0805 1 q s w t) (hn : n.toNat ≤ 1) :
    exec (.dataStreamStatus q n) s = .next (answer t w sOK
      (le 1 (bitN (t.queue n.toNat).sequenced) ++ le 4 (t.queue n.toNat).nextSeq.toNat ++ le 2 (t.queue n.toNat).lastError.toNat
        ++ le 4 (t.queue n.toNat).lastErrorSeq.toNat ++ le 4 (t.pv 0x0820 n.toNat))) := by
  change execDataStreamStatus q n s = _
  rw [execDataStreamStatus, request_ok h]
  dsimp only
  rw [if_neg (Nat.not_lt.mpr hn), finish_now]

/-- DATA_SHADOW_REPORT once a comparison has failed (R182). -/
theorem exec_dataShadowReport_reports {m n r c : Nat} {e a : U16} (h : Runs 0x0806 0 q s w t)
    (hmismatch : t.data.mismatch = some (m, n, r, c, e, a)) :
    exec (.dataShadowReport q) s = .next (answer t w sOK
      (le 4 m ++ le 1 n ++ le 2 r ++ le 2 c ++ le 2 e.toNat ++ le 2 a.toNat)) := by
  change execDataShadowReport q s = _
  rw [execDataShadowReport, request_ok h, hmismatch, finish_now]

/-- DATA_COMPRESS of a range that DMA may read, with engine 5 empty and no compressor at work: the first takes the block, and the
answer waits for it (R178). -/
theorem exec_dataCompress_starts {src len : U32} (h : Runs 0x0807 8 q s w t) (hpos : 1 ≤ len.toNat) (hlen : len.toNat ≤ 65536)
    (hreads : dmaReads src.toNat len.toNat = true) (hread : t.data.out5Len ≤ t.data.out5Read)
    (hcmp : t.data.cmp = [none, none, none, none]) (hwait : t.data.cmpWait = []) (hserves : engineOut t 2 = false)
    (hsound : engineFaulty t 2 = false) :
    exec (.dataCompress q src len) s = .next { t with data := { t.data with cmp := [some
      { kind := 5, layerNo := t.layer.desc.layerNo, firstLine := src, items := 1
        content := memBytes t.mem src.toNat len.toNat, since := t.time, w := some w }, none, none, none] } } := by
  have hrange : ¬ (len = 0 ∨ 65536 < len.toNat ∨ (!dmaReads src.toNat len.toNat) = true) := by
    simp only [hreads, Bool.not_true, Bool.false_eq_true, or_false]
    bv_omega
  have hfree : t.data.cmp.getD 0 none = none := by rw [hcmp]; rfl
  change execDataCompress q src len s = _
  rw [execDataCompress, request_ok h]
  dsimp only
  rw [if_neg hrange, if_neg (by simp [hread, hcmp, hwait]), finish_later, startJob_firstPlace hfree hserves hsound, hcmp]
  rfl

end

/-- Settles O12: in the state that the checks of a request leave, each clause's premises pick one branch of its body. -/
theorem dataRequestsComplete : Obligations.DataRequestsComplete := by
  refine ⟨?_, ?_, ?_, ?_, ?_, ?_, ?_, ?_, ?_⟩
  · exact fun _ _ _ _ _ _ _ _ _ => exec_dataKekAgree_agrees
  · exact fun _ _ _ _ _ _ => exec_dataKekAgree_offCurve
  · exact fun _ _ _ _ _ _ _ _ => exec_dataKeyLoad_unwraps
  · exact fun _ _ _ _ _ => exec_dataKeyClear_slot
  · exact fun _ _ _ _ => exec_dataKeyClear_all
  · exact fun _ _ _ _ => exec_dataKeyStatus_reports
  · exact fun _ _ _ _ _ => exec_dataStreamStatus_reports
  · exact fun _ _ _ _ _ _ _ _ _ _ => exec_dataShadowReport_reports
  · exact fun _ _ _ _ _ _ => exec_dataCompress_starts

end Sys2Proof.Proofs.LayerData
end

section
/-!
PROOFS. The servo engine family (08_servo_engine): the product of a signal and a coefficient (R187), the servo requests (R189 to
R194, R200, R203, R204, Table SERVO-7), and the servo events (R186, R194, R198 to R201, R205).
-/

namespace Sys2Proof.Proofs.ServoEngine

open Sys2Proof.Machine Sys2Proof.Safety Sys2Proof.Proofs.LayerCycle

-- Off, because every lemma's own thread reserves a stack.
set_option Elab.async false

/-! ### The product of a signal and a coefficient -/

/-- `divr` by a power of two above 1 is the shift that `mul` of R187 makes: half the divisor added, and the floor taken. -/
theorem divr_two_pow_succ (p : Int) (m : Nat) : divr p (2 ^ (m + 1)) = (p + 2 ^ m) / 2 ^ (m + 1) := by
  have hdouble : 2 * p + 2 ^ (m + 1) = 2 * (p + 2 ^ m) := by ring
  rw [divr, hdouble, Int.mul_ediv_mul_of_pos _ _ two_pos]

theorem divr_one (p : Int) : divr p 1 = p := by
  rw [divr]
  omega

/-- `divr` rounds an exact half up. -/
theorem divr_half (n : Int) (m : Nat) : divr (n * 2 ^ (m + 1) + 2 ^ m) (2 ^ (m + 1)) = n + 1 := by
  have hnext : n * 2 ^ (m + 1) + 2 ^ m + 2 ^ m = (n + 1) * 2 ^ (m + 1) := by ring
  rw [divr_two_pow_succ, hnext, Int.mul_ediv_cancel _ (by positivity)]

theorem sat32_bounds (x : Int) : -2147483648 ≤ sat32 x ∧ sat32 x ≤ 2147483647 := by
  rw [sat32, clampI]
  omega

/-- `mul` of R187, with the coefficient taken apart into its value and its shift. -/
theorem coefMul_eq_divr (x : Int) {c : Nat} (sh : Nat) (hc : c < 4294967296) :
    coefMul x (c + 4294967296 * sh) = sat32 (divr (x * ofField 32 c) (2 ^ sh)) := by
  have hshift : (c + 4294967296 * sh) / 4294967296 = sh := by omega
  have hvalue : (c + 4294967296 * sh) % 4294967296 = c := by omega
  rw [coefMul, hshift, hvalue]
  cases sh with
  | zero => rw [pow_zero, divr_one, if_pos rfl]
  | succ m => rw [divr_two_pow_succ, if_neg (Nat.succ_ne_zero m), Nat.add_sub_cancel]

/-- Settles O52: the product is `sat32` of `divr`, which rounds an exact half up. -/
theorem servoProductRoundsHalfUp : Obligations.ServoProductRoundsHalfUp := by
  rintro x c sh _ - hc rfl
  obtain ⟨hlo, hhi⟩ := sat32_bounds (divr (x * ofField 32 c) (2 ^ sh))
  rw [coefMul_eq_divr x sh hc]
  refine ⟨rfl, hlo, hhi, fun n hsh hhalf => ?_⟩
  obtain ⟨m, rfl⟩ := Nat.exists_eq_succ_of_ne_zero hsh
  rw [hhalf, Nat.succ_sub_one, divr_half]

/-! ### Requests -/

section
variable {q : Req} {s t : State} {w : Waiting} {n : Byte}

/-- SERVO_LOOP_ENABLE of a disabled slot that may run: typed, its selectors valid, its destination free (R189, R190). -/
theorem exec_servoLoopEnable_enables (h : Runs 0x0901 2 q s w t) (hn : n.toNat ≤ 23)
    (hc4 : slotType t n.toNat = 7 → t.c4On = false) (hmotion : t.motionOn = true) (hbist : t.bist.failed.getLsbD 60 = false)
    (hoff : (t.slot n.toNat).en = false) (htype : slotType t n.toNat ≠ 0) (hselectors : selectorsOk t n.toNat = true)
    (hdest : destInUse t n.toNat = false) :
    exec (.servoLoopEnable q n 1) s = .next (answer (slotOn t n.toNat) w sOK []) := by
  have hrange : ¬ (23 < n.toNat ∨ 1 < (1 : Byte).toNat) := by simpa using hn
  have hlockout : ¬ (slotType t n.toNat = 7 ∧ t.c4On = true) := fun ⟨hheater, hon⟩ => by simp [hc4 hheater] at hon
  change execServoLoopEnable q n 1 s = _
  rw [execServoLoopEnable, request_ok h]
  dsimp only
  rw [if_neg hrange, if_neg (by decide), if_neg hlockout, if_neg (by simp [hmotion]), if_neg (ne_true_of_eq_false hbist),
    if_neg (by simp [hoff]), if_neg htype, if_neg (by simp [hselectors]), if_neg (by simp [hdest]), finish_done]

theorem clearCondIf_servo {c : Prop} [Decidable c] {k : Nat} : (if c then clearCond t k else t).servo = t.servo := by
  split <;> rfl

/-- The ends of the conditions 0x0F8 to 0x0FA are no part of the servo engine's own state. -/
theorem settleServoConds_servo : (settleServoConds t).servo = t.servo := by
  rw [settleServoConds]
  dsimp only
  rw [clearCondIf_servo, clearCondIf_servo, clearCondIf_servo]

/-- Disabling a slot ends no test and starts none. -/
theorem slotOff_test {k : Nat} : (slotOff t k).servo.test = t.servo.test := by
  rw [slotOff]
  dsimp only
  rw [settleServoConds_servo]
  split_ifs <;> rfl

/-- SERVO_LOOP_ENABLE with ON 0 of an enabled slot, while no test runs (R189). -/
theorem exec_servoLoopEnable_disables (h : Runs 0x0901 2 q s w t) (hn : n.toNat ≤ 23) (hon : (t.slot n.toNat).en = true)
    (htest : t.servo.test = none) :
    exec (.servoLoopEnable q n 0) s = .next (answer (slotOff t n.toNat) w sOK []) := by
  have hrange : ¬ (23 < n.toNat ∨ 1 < (0 : Byte).toNat) := by simpa using hn
  change execServoLoopEnable q n 0 s = _
  rw [execServoLoopEnable, request_ok h]
  dsimp only
  rw [if_neg hrange, if_pos rfl, if_pos hon, slotOff_test, htest]
  dsimp only
  rw [finish_done]

/-- SERVO_LOOP_COMMIT of one slot (R189). -/
theorem exec_servoLoopCommit_slot (h : Runs 0x0902 1 q s w t) (hn : n.toNat ≤ 23) (hmotion : t.motionOn = true) :
    exec (.servoLoopCommit q n) s = .next (answer (t.onSlot n.toNat fun x => { x with commit := true }) w sOK []) := by
  have hone : n ≠ 0xFF := by bv_omega
  change execServoLoopCommit q n s = _
  rw [execServoLoopCommit, request_ok h]
  dsimp only
  rw [if_neg fun hrange => Nat.not_lt.mpr hn hrange.2, if_neg (by simp [hmotion]), if_neg hone, finish_done]

/-- SERVO_LOOP_COMMIT of every slot (R189). -/
theorem exec_servoLoopCommit_all (h : Runs 0x0902 1 q s w t) (hmotion : t.motionOn = true) :
    exec (.servoLoopCommit q 0xFF) s = .next (answer
      { t with servo := { t.servo with slots := t.servo.slots.map fun x => { x with commit := true } } } w sOK []) := by
  change execServoLoopCommit q 0xFF s = _
  rw [execServoLoopCommit, request_ok h]
  dsimp only
  rw [if_neg fun hrange => hrange.1 rfl, if_neg (by simp [hmotion]), if_pos rfl, finish_done]

/-- SERVO_TABLE_WRITE of entries that the table has: they wait for the next base tick (R192). -/
theorem exec_servoTableWrite_queues {tab : Byte} {first n : U16} {vs : List U32} (h : Runs 0x0903 (5 + 4 * n.toNat) q s w t)
    (hvs : vs.length = n.toNat) (htab : 1 ≤ tab.toNat) (htab' : tab.toNat ≤ 8) (hn : 1 ≤ n.toNat) (hn' : n.toNat ≤ 256)
    (hend : first.toNat + n.toNat ≤ 1024) (hmotion : t.motionOn = true) :
    exec (.servoTableWrite q tab first n vs) s = .next (answer { t with servo := { t.servo with
      tabWrites := t.servo.tabWrites ++ ((List.range vs.length).zip vs).map fun e =>
        (0x10C0000 + (tab.toNat - 1) * 4096 + 4 * first.toNat + 4 * e.1, e.2) } } w sOK []) := by
  have hrange : ¬ (tab.toNat = 0 ∨ 8 < tab.toNat ∨ n.toNat = 0 ∨ 256 < n.toNat ∨ 1024 < first.toNat + n.toNat) := by omega
  change execServoTableWrite q tab first n vs s = _
  rw [execServoTableWrite, request_runs h fun hlen => by simp [hlen, hvs]]
  dsimp only
  rw [if_neg hrange, if_neg (by simp [hmotion]), finish_done]

/-- SERVO_ENC_REFERENCE arms the next Z edge of the encoder (R200). -/
theorem exec_servoEncReference_arms {k : Byte} (h : Runs 0x0904 1 q s w t) (hk : k.toNat ≤ 3) (hmotion : t.motionOn = true) :
    exec (.servoEncReference q k) s = .next (answer (t.onEnc k.toNat fun e => { e with armed := true }) w sOK []) := by
  change execServoEncReference q k s = _
  rw [execServoEncReference, request_ok h, if_neg (Nat.not_lt.mpr hk), if_neg (by simp [hmotion]), finish_done]

/-- SERVO_CARRIAGE_MOVE of a driver in IDLE whose carriage is on no stop ramp (R194). -/
theorem exec_servoCarriageMove_accepted {x : U32} (h : Runs 0x0905 4 q s w t) (hmotion : t.motionOn = true)
    (hdriver : t.driver = true) (hidle : t.layer.st = .idle) (hramp : onStopRamp t = false) :
    exec (.servoCarriageMove q x) s = .next (answer
      { t with servo := { t.servo with prof := { t.servo.prof with moveTo := some x.toInt } } } w sOK []) := by
  change execServoCarriageMove q x s = _
  rw [execServoCarriageMove, request_ok h]
  dsimp only
  rw [if_neg (by simp [hmotion, hdriver, hidle]), if_neg (by simp [hramp]), finish_done]

/-- SERVO_CARRIAGE_STOP of a move waits for the next base tick (R194). -/
theorem exec_servoCarriageStop_waits (h : Runs 0x0906 0 q s w t) (hdriver : t.driver = true)
    (hmoves : moveRuns t.servo.prof = true) (hnone : t.servo.prof.stop = none) :
    exec (.servoCarriageStop q) s = .next { t with servo := { t.servo with prof := { t.servo.prof with stop := some w } } } := by
  change execServoCarriageStop q s = _
  rw [execServoCarriageStop, request_ok h]
  dsimp only
  rw [if_neg (by simp [hdriver, hmoves]), if_neg (by simp [hnone]), finish_later]

/-- SERVO_TEST_START on an enabled slot, with operands in range and no test running (R203). -/
theorem exec_servoTestStart_starts {x : ServoTest} (h : Runs 0x0907 35 q s w t) (hnone : t.servo.test = none)
    (hloop : x.loop.toNat ≤ 23) (hrange : testRangeOk t x = true)
    (hidle : 2 ≤ slotType t x.loop.toNat → slotType t x.loop.toNat ≤ 5 → t.layer.st = .idle)
    (hon : (t.slot x.loop.toNat).en = true) :
    exec (.servoTestStart q x) s = .next (answer { t.freeTaken with servo := { t.servo with
      test := some { t := x, no := t.servo.testNo + 1, lfsr := 1 + t.freeBits 15 % 32767 }
      testNo := t.servo.testNo + 1, testEnd := none } } w sOK []) := by
  have hmotor : (decide (2 ≤ slotType t x.loop.toNat) && decide (slotType t x.loop.toNat ≤ 5) &&
      decide (t.layer.st ≠ .idle)) = false := by
    simpa using hidle
  change execServoTestStart q x s = _
  rw [execServoTestStart, request_ok h]
  dsimp only
  rw [if_neg (by simp [hnone]), if_neg (by simp [hloop, hrange]), if_neg (ne_true_of_eq_false hmotor),
    if_neg (by simp [hon]), finish_done]
  rfl

/-- SERVO_TEST_STOP of a running test waits for the slot's next due tick (R204). -/
theorem exec_servoTestStop_waits {r : TestRun} (h : Runs 0x0908 0 q s w t) (htest : t.servo.test = some r)
    (hnone : r.stop = none) :
    exec (.servoTestStop q) s = .next { t with servo := { t.servo with test := some { r with stop := some w } } } := by
  change execServoTestStop q s = _
  rw [execServoTestStop, request_ok h, htest]
  dsimp only
  rw [if_neg (by simp [hnone]), finish_later]

/-- SERVO_STATUS of a slot that there is (Table SERVO-7). -/
theorem exec_servoStatus_reports (h : Runs 0x0909 1 q s w t) (hn : n.toNat ≤ 23) :
    exec (.servoStatus q n) s = .next (answer t w sOK ([bitB (t.slot n.toNat).en] ++ leI 4 (t.slot n.toNat).sp
      ++ leI 4 (t.slot n.toNat).fb ++ leI 4 (t.slot n.toNat).out ++ leI 4 (t.slot n.toNat).iAcc
      ++ [bitB ((t.slot n.toNat).coef != shadowCoef t n.toNat)])) := by
  change execServoStatus q n s = _
  rw [execServoStatus, request_ok h]
  dsimp only
  rw [if_neg (Nat.not_lt.mpr hn), finish_now]

end

/-- Settles O23: in the state that the checks of a request leave, each clause's premises pick one branch of its body. -/
theorem servoRequestsComplete : Obligations.ServoRequestsComplete := by
  refine ⟨?_, ?_, ?_, ?_, ?_, ?_, ?_, ?_, ?_, ?_, ?_⟩
  · exact fun _ _ _ _ _ => exec_servoLoopEnable_enables
  · exact fun _ _ _ _ _ => exec_servoLoopEnable_disables
  · exact fun _ _ _ _ _ => exec_servoLoopCommit_slot
  · exact fun _ _ _ _ => exec_servoLoopCommit_all
  · exact fun _ _ _ _ _ _ _ _ => exec_servoTableWrite_queues
  · exact fun _ _ _ _ _ => exec_servoEncReference_arms
  · exact fun _ _ _ _ _ => exec_servoCarriageMove_accepted
  · exact fun _ _ _ _ => exec_servoCarriageStop_waits
  · intro q s w t x h hnone hloop hrange hidle hon
    have hseed : t.freeBits 15 % 32767 < 32767 := Nat.mod_lt _ (by decide)
    exact ⟨1 + t.freeBits 15 % 32767, by omega, by omega, exec_servoTestStart_starts h hnone hloop hrange hidle hon⟩
  · exact fun _ _ _ _ _ => exec_servoTestStop_waits
  · exact fun _ _ _ _ _ => exec_servoStatus_reports

/-! ### Encoders -/

section
variable {u : State} {k : Nat}

/-- What an encoder's update keeps of the encoder reads as before. -/
theorem onEnc_enc_same {α : Type} (g : Encoder → α) {f : Encoder → Encoder} (hf : ∀ e, g (f e) = g e) :
    g ((u.onEnc k f).enc k) = g (u.enc k) := by
  rw [State.enc, State.enc, State.onEnc_servo, List.getD_eq_getElem?_getD, List.getD_eq_getElem?_getD, List.getElem?_modify_eq]
  cases u.servo.encs[k]? with
  | none => rfl
  | some e => exact hf e

/-- An encoder whose signal is back stands where it stood (R201). -/
theorem encFound_enc_pos : ((encFound u k).enc k).pos = (u.enc k).pos := by
  rw [encFound]
  split
  · exact onEnc_enc_same (u := clearCond u (0x0F0 + k)) Encoder.pos fun _ => rfl
  · rfl

/-- A move to another position is captured on the 125 ps grid (R198, R199). -/
theorem encMove_moved {t : Nat} {x : Int} (hx : x ≠ (u.enc k).pos) : encMove u k t x =
    noteRest (u.onEnc k fun e => { e with pos := x, changes := (onGrid t, x) :: keepChanges (onGrid t) e.changes })
      k (onGrid t) := by
  rw [encMove, if_neg hx]

/-- Only the A/B signals of an incremental encoder are filtered (R198). -/
theorem glitch_of_notAB (hAB : u.pv 0x0930 k ≠ 1) : glitch u k = false := by
  simp [glitch, hAB]

end

/-! ### Events -/

section
variable {dt : Nat} {s u : State} {k : Fin 4} {n : Fin 24} {p x : Int} {cause : EncLoss}
variable (hu : s.pass dt = u) (hmotion : u.motionOn = true)
include hu hmotion

/-- BASE_TICK on a multiple of 10 µs (R186). -/
theorem exec_baseTick_fires (htick : u.time / 256 % 10000 = 0) : exec (.baseTick dt) s = .next (Machine.baseTick u) := by
  change execBaseTick dt s = _
  rw [execBaseTick, event_fires hu (by simp [hmotion, htick])]

/-- ENCODER_POSITION_CHANGE of an incremental or sin/cos encoder that moved (R198, R199, R201). -/
theorem exec_encoderPositionChange_moves (htype : u.pv 0x0930 k = 1 ∨ u.pv 0x0930 k = 2)
    (hclean : glitch u k = false) (hp : ofField 48 (toField 48 p) = x) (hx : x ≠ (u.enc k).pos) :
    exec (.encoderPositionChange dt k p) s = .next (noteRest ((encFound u k).onEnc k fun e => { e with
      pos := x, changes := (onGrid u.time, x) :: keepChanges (onGrid u.time) e.changes }) k (onGrid u.time)) := by
  have hssi : u.pv 0x0930 k ≠ 3 := by omega
  have hused : u.pv 0x0930 k ≠ 0 := by omega
  change execEncoderPositionChange dt k p s = _
  rw [execEncoderPositionChange, event_fires hu (by simp [hmotion, hused, hclean]), if_neg hssi, hp,
    encMove_moved (encFound_enc_pos.symm ▸ hx)]

/-- ENCODER_POSITION_CHANGE of an SSI encoder waits for its next frame (R198). -/
theorem exec_encoderPositionChange_ssi (htype : u.pv 0x0930 k = 3) :
    exec (.encoderPositionChange dt k p) s = .next (u.onEnc k fun e => { e with raw := p }) := by
  have hclean : glitch u k = false := glitch_of_notAB (by omega)
  change execEncoderPositionChange dt k p s = _
  rw [execEncoderPositionChange, event_fires hu (by simp [hmotion, htype, hclean]), if_pos htype]

/-- ENCODER_Z_EDGE of an incremental or sin/cos encoder: the reference where it is armed, else the check of a later edge (R200). -/
theorem exec_encoderZEdge_fires (htype : u.pv 0x0930 k = 1 ∨ u.pv 0x0930 k = 2) :
    exec (.encoderZEdge dt k) s = .next (if (u.enc k).armed then zReference u k
      else if (u.enc k).referenced && u.pv 0x093B (k + 4) == 1 && zOff u k then raise u 0x0FC k false else u) := by
  change execEncoderZEdge dt k s = _
  rw [execEncoderZEdge, event_fires hu (by simpa [hmotion] using htype)]

/-- ENCODER_LOST of an encoder that is not lost yet, in a way that its interface knows (R201). -/
theorem exec_encoderLost_fires (hfits : lossFits (u.pv 0x0930 k) cause = true)
    (hlost : (u.enc k).lost = false) : exec (.encoderLost dt k cause) s = .next (encLost u k cause) := by
  change execEncoderLost dt k cause s = _
  rw [execEncoderLost, event_fires hu (by simp [hmotion, hfits, hlost])]

/-- CARRIAGE_IN_POSITION: the profile is complete, and in RUN_OUT a carriage that was not at rest comes to rest (R41, R194). -/
theorem exec_carriageInPosition_fires {v : State} (hdriver : u.driver = true) (hover : profOver u.servo.prof u.time = true)
    (hnew : u.servo.prof.inPos = false) (hnone : u.servo.prof.moveTo = none) (hinside : inPosition u = true)
    (hv : { u with servo := { u.servo with prof := { u.servo.prof with inPos := true } } } = v) :
    exec (.carriageInPosition dt) s =
      .next (if u.layer.st = .runOut ∧ u.layer.atRest = false then restReached v else v) := by
  subst hv
  change execCarriageInPosition dt s = _
  rw [execCarriageInPosition, event_fires hu (by simp [hmotion, hdriver, hover, hnew, hnone, hinside])]

/-- OUTPUT_SATURATED of an enabled slot after 1000 due ticks (R205). -/
theorem exec_outputSaturated_fires (hon : (u.slot n).en = true) (hrun : 1000 ≤ (u.slot n).satRun) :
    exec (.outputSaturated dt n) s = .next (raise (u.onSlot n fun x => { x with satRun := 0 }) 0x0FB n false) := by
  change execOutputSaturated dt n s = _
  rw [execOutputSaturated, event_fires hu (by simp [hmotion, hon, hrun])]

end

/-- Settles O24: each clause's premises are the event's condition, and pick the branch of its effect. -/
theorem servoEventsComplete : Obligations.ServoEventsComplete := by
  refine ⟨?_, ?_, ?_, ?_, ?_, ?_, ?_, ?_, ?_⟩
  · exact fun _ _ _ => exec_baseTick_fires
  · exact fun _ _ _ _ _ _ => exec_encoderPositionChange_moves
  · exact fun _ _ _ _ _ => exec_encoderPositionChange_ssi
  · intro dt s u k hu hmotion htype harmed
    rw [exec_encoderZEdge_fires hu hmotion htype, if_pos harmed, zReference]
  · intro dt s u k hu hmotion htype hidle hreferenced hchecked
    rw [exec_encoderZEdge_fires hu hmotion htype, if_neg (ne_true_of_eq_false hidle), hreferenced, hchecked]
    rfl
  · exact fun _ _ _ _ _ => exec_encoderLost_fires
  · intro dt s u hu hmotion hdriver hover hnew hnone hinside hrest
    rw [exec_carriageInPosition_fires hu hmotion hdriver hover hnew hnone hinside rfl,
      if_neg fun ⟨hst, hmoving⟩ => by simp [hrest hst] at hmoving]
  · intro dt s u hu hmotion hdriver hover hnew hnone hinside hst hmoving
    rw [exec_carriageInPosition_fires hu hmotion hdriver hover hnew hnone hinside rfl, if_pos ⟨hst, hmoving⟩]
  · exact fun _ _ _ _ => exec_outputSaturated_fires

end Sys2Proof.Proofs.ServoEngine
end

section
/-!
PROOFS. The drive channels family (09_drive_channels): the drive requests (R215, R225, Tables DRV-3, DRV-6), and the drive events
(R210, R211, R218 to R220, R225, Tables DRV-3, DRV-4).
-/

namespace Sys2Proof.Proofs.DriveChannels

open Sys2Proof.Machine Sys2Proof.Safety Sys2Proof.Proofs.LayerCycle

-- Off, because every lemma's own thread reserves a stack.
set_option Elab.async false

/-! ### Requests -/

section
variable {q : Req} {s t : State} {w : Waiting} {k : Byte}

/-- DRV_ENABLE of a disabled or faulted channel that may run: it latches its parameters and goes to IDLE (Table DRV-3). -/
theorem exec_drvEnable_enables (h : Runs 0x0A01 2 q s w t) (hk : k.toNat ≤ 7) (hmotion : t.motionOn = true)
    (hmode : driveMode t k.toNat ≠ 0) (hc4 : t.c4On = false)
    (hst : (t.drive k.toNat).st = .disabled ∨ (t.drive k.toNat).st = .fault) (halign : (t.drive k.toNat).align = none)
    (hallowed : enableDenied t k.toNat = false)
    (hreferenced : driveMode t k.toNat = 3 → (t.enc (t.pv 0x0A1F k.toNat)).referenced = true) :
    exec (.drvEnable q k 1) s = .next (answer ((latchDrive t k.toNat).onDrive k.toNat fun d => { driveTo d .idle t.time with
      c3Ramp := false, startFails := 0, catchFails := 0, caughtAt := none, spd := 0, rampRem := 0, iAcc := 0, isumRun := 0
      runReq := false }) w sOK []) := by
  have hrange : ¬ (7 < k.toNat ∨ 1 < (1 : Byte).toNat) := by simpa using hk
  have hidle : ¬ ((t.drive k.toNat).st ≠ .disabled ∧ (t.drive k.toNat).st ≠ .fault) := by
    rwa [← not_or, not_not]
  have hencoder : ¬ (driveMode t k.toNat = 3 ∧ (t.enc (t.pv 0x0A1F k.toNat)).referenced = false) :=
    fun ⟨hthree, hnot⟩ => by simp [hreferenced hthree] at hnot
  change execDrvEnable q k 1 s = _
  rw [execDrvEnable, request_ok h]
  dsimp only
  rw [if_neg hrange, if_neg (by decide), if_neg hmode, if_neg (ne_true_of_eq_false hc4), if_neg (by simp [hmotion]),
    if_neg hidle, if_neg (by simp [halign]), if_neg (ne_true_of_eq_false hallowed), if_neg hencoder, finish_done]

/-- DRV_ENABLE with ON 0 disables a channel in any state (Table DRV-3). -/
theorem exec_drvEnable_disables (h : Runs 0x0A01 2 q s w t) (hk : k.toNat ≤ 7) :
    exec (.drvEnable q k 0) s = .next (answer (driveDisable t k.toNat sDenied) w sOK []) := by
  have hrange : ¬ (7 < k.toNat ∨ 1 < (0 : Byte).toNat) := by simpa using hk
  change execDrvEnable q k 0 s = _
  rw [execDrvEnable, request_ok h]
  dsimp only
  rw [if_neg hrange, if_pos rfl, finish_done]

/-- DRV_CURVE_WRITE of eight points that rise: the next decision takes them over (R215). -/
theorem exec_drvCurveWrite_accepted {pts : List (U32 × U32)} (h : Runs 0x0A02 65 q s w t) (hlen : pts.length = 8)
    (hk : k.toNat ≤ 7) (hmotion : t.motionOn = true)
    (hrising : curveRising (pts.map fun p : U32 × U32 => (p.1.toInt, p.2.toInt)) = true) :
    exec (.drvCurveWrite q k pts) s = .next (answer (t.onDrive k.toNat fun d => { d with
      curveNew := some (pts.map fun p : U32 × U32 => (p.1.toInt, p.2.toInt)) }) w sOK []) := by
  change execDrvCurveWrite q k pts s = _
  rw [execDrvCurveWrite, request_runs h fun hq => by simp [hq, hlen]]
  dsimp only
  rw [if_neg (Nat.not_lt.mpr hk), if_neg (by simp [hrising]), if_neg (by simp [hmotion]), finish_done]

/-- DRV_ALIGN of a disabled channel of mode 3: V1 is applied, and the answer waits for DRV_ALIGN_DONE (R225, log entry 64). -/
theorem exec_drvAlign_begins (h : Runs 0x0A03 1 q s w t) (hk : k.toNat ≤ 7) (hmode : driveMode t k.toNat = 3)
    (hst : (t.drive k.toNat).st = .disabled) (hmotion : t.motionOn = true) (hnone : (t.drive k.toNat).align = none)
    (hc4 : t.c4On = false) :
    exec (.drvAlign q k) s = .next ((latchDrive t k.toNat).onDrive k.toNat fun d =>
      withVector { d with align := some w, gates := true, chop := false, tState := t.time } 1) := by
  change execDrvAlign q k s = _
  rw [execDrvAlign, request_ok h]
  dsimp only
  rw [if_neg (Nat.not_lt.mpr hk), if_neg (by simp [hmode, hst]), if_neg (ne_true_of_eq_false hc4), if_neg (by simp [hmotion]),
    if_neg (by simp [hnone]), finish_later]

/-- DRV_STATUS of a channel that there is (Table DRV-6). -/
theorem exec_drvStatus_reports (h : Runs 0x0A04 1 q s w t) (hk : k.toNat ≤ 7) :
    exec (.drvStatus q k) s = .next (answer t w sOK
      ([BitVec.ofNat 8 (drvCode (t.drive k.toNat).st)] ++ leI 4 (t.drive k.toNat).speed ++ leI 4 (t.drive k.toNat).tEst
        ++ ((List.range 3).map fun l => BitVec.ofNat 8 (legOfs t (3 * k.toNat + l)).src)
        ++ ((List.range 3).map fun l => le 4 (satN 32 ((t.time - (legOfs t (3 * k.toNat + l)).setAt) / secU))).flatten)) := by
  change execDrvStatus q k s = _
  rw [execDrvStatus, request_ok h]
  dsimp only
  rw [if_neg (Nat.not_lt.mpr hk), finish_now, List.map_map, List.map_map]
  rfl

end

/-- Settles O25: in the state that the checks of a request leave, each clause's premises pick one branch of its body. -/
theorem driveRequestsComplete : Obligations.DriveRequestsComplete := by
  refine ⟨?_, ?_, ?_, ?_, ?_⟩
  · exact fun _ _ _ _ _ => exec_drvEnable_enables
  · exact fun _ _ _ _ _ => exec_drvEnable_disables
  · exact fun _ _ _ _ _ _ => exec_drvCurveWrite_accepted
  · exact fun _ _ _ _ _ => exec_drvAlign_begins
  · exact fun _ _ _ _ _ => exec_drvStatus_reports

/-! ### Events -/

section
variable {dt vbus : Nat} {s u v : State} {k : Fin 8} {a b c p : Int} {w : Waiting} {phase : Fin 3} {rising gd : Bool}
variable (hu : s.pass dt = u) (hmotion : u.motionOn = true)
include hu hmotion

/-- DECISION_PERIOD of a channel that is enabled or aligns, and is not in FAULT (R210). -/
theorem exec_decisionPeriod_fires
    (hworks : (u.drive k).st ≠ .disabled ∨ (u.drive k).align.isSome = true) (hsound : (u.drive k).st ≠ .fault) :
    exec (.decisionPeriod dt k a b c vbus) s = .next (decision u k [a, b, c] vbus) := by
  change execDecisionPeriod dt k a b c vbus s = _
  rw [execDecisionPeriod, event_fires hu (by simpa [hmotion, hsound] using hworks)]

/-- DRIVE_OVERCURRENT that trips, by the gate driver (`gd`) or by a shunt with gates driven: FAULT, and an alignment in progress
is answered DENIED (R211, R225). -/
theorem exec_driveOvercurrent_trips (hlive : gd = true ∨ (u.drive k).gates = true)
    (hv : u.onDrive k (fun d => { d with gdf := d.gdf || gd }) = v) :
    exec (.driveOvercurrent dt k (if gd then .gdfLow else .shunt)) s =
      .next (driveRaise ((u.drive k).align.elim (driveFault v k) fun w =>
          answer ((driveFault v k).onDrive k fun d => { d with align := none }) w sDenied [])
        k (if gd then 0x119 else 0x110) gd) := by
  subst hv
  change execDriveOvercurrent dt k _ s = _
  cases gd with
  | false =>
    have hgates : (u.drive k).gates = true := by simpa using hlive
    rw [execDriveOvercurrent, event_fires hu (by simp [hmotion, hgates]), if_neg (by decide)]
    cases (u.drive k).align <;> rfl
  | true =>
    rw [execDriveOvercurrent, event_fires hu (by simp [hmotion]), if_neg (by decide)]
    cases (u.drive k).align <;> rfl

/-- DRIVE_OVERCURRENT whose gate driver input goes high again ends the condition of 0x119 (R211). -/
theorem exec_driveOvercurrent_releases (hgdf : (u.drive k).gdf = true) :
    exec (.driveOvercurrent dt k .gdfHigh) s = .next (driveConds (u.onDrive k fun d => { d with gdf := false })) := by
  change execDriveOvercurrent dt k .gdfHigh s = _
  rw [execDriveOvercurrent, event_fires hu (by simp [hmotion, hgdf]), if_pos rfl]

/-- BEMF_ZERO_CROSSING of a channel in CATCH (R219). -/
theorem exec_bemfZeroCrossing_catch (hst : (u.drive k).st = .catch) :
    exec (.bemfZeroCrossing dt k phase rising) s = .next (catchCross u k phase rising) := by
  change execBemfZeroCrossing dt k phase rising s = _
  rw [execBemfZeroCrossing, event_fires hu (by simp [hmotion, hst]), if_pos hst]

/-- BEMF_ZERO_CROSSING of a channel whose start ramp runs (R220). -/
theorem exec_bemfZeroCrossing_start (hst : (u.drive k).st = .start) (hramping : (u.drive k).ramping = true) :
    exec (.bemfZeroCrossing dt k phase rising) s = .next (startCross u k phase rising) := by
  change execBemfZeroCrossing dt k phase rising s = _
  rw [execBemfZeroCrossing, event_fires hu (by simp [hmotion, hst, hramping]), if_neg (by simp [hst])]

/-- CATCH_TIMEOUT after CATCH_MS (R219). -/
theorem exec_catchTimeout_fires (hst : (u.drive k).st = .catch)
    (hdue : (u.drive k).tState + u.dpv 0x0A2D k 0 * msU ≤ u.time) :
    exec (.catchTimeout dt k) s = .next (driveOn u k .brake 0) := by
  change execCatchTimeout dt k s = _
  rw [execCatchTimeout, event_fires hu (by simp [hmotion, hst, stateElapsed, hdue])]

/-- BRAKE_ELAPSED after BRAKE_MS (Table DRV-3, R220). -/
theorem exec_brakeElapsed_fires (hst : (u.drive k).st = .brake)
    (hdue : (u.drive k).tState + u.dpv 0x0A2D k 8 * msU ≤ u.time) :
    exec (.brakeElapsed dt k) s = .next ((driveOn u k .start 1).onDrive k fun d => { d with stepVec := 1, rampHz := 0 }) := by
  change execBrakeElapsed dt k s = _
  rw [execBrakeElapsed, event_fires hu (by simp [hmotion, hst, stateElapsed, hdue])]

/-- ALIGN_ELAPSED after ALIGN_MS of a START whose ramp has not begun (R220). -/
theorem exec_alignElapsed_fires (hst : (u.drive k).st = .start) (haligning : (u.drive k).ramping = false)
    (hdue : (u.drive k).tState + u.dpv 0x0A27 k 0 * msU ≤ u.time) :
    exec (.alignElapsed dt k) s = .next (u.onDrive k fun d => { d with
      ramping := true, lastComm := u.time, rampAcc := 0, rampAt := u.time, lockRun := 0, crossed := false, chop := false }) := by
  change execAlignElapsed dt k s = _
  rw [execAlignElapsed, event_fires hu (by simp [hmotion, hst, haligning, stateElapsed, hdue])]

/-- COAST_ELAPSED after COAST_MS: BRAKE for a further try of START, else CATCH (Table DRV-3, R220). -/
theorem exec_coastElapsed_fires (hst : (u.drive k).st = .coast)
    (hdue : (u.drive k).tState + u.dpv 0x0A2D k 16 * msU ≤ u.time) :
    exec (.coastElapsed dt k) s = .next (if (u.drive k).coastToStart
      then (driveOn u k .brake 0).onDrive k fun d => { d with coastToStart := false } else enterCatch u k) := by
  change execCoastElapsed dt k s = _
  rw [execCoastElapsed, event_fires hu (by simp [hmotion, hst, stateElapsed, hdue])]

/-- STANDSTILL_OFFSET of a channel at a standstill with its gates off (R218). -/
theorem exec_standstillOffset_fires (hst : (u.drive k).st = .disabled ∨ (u.drive k).st = .idle)
    (hgates : (u.drive k).gates = false) :
    exec (.standstillOffset dt k a b c) s = .next (setOffset (setOffset (setOffset u k 0 a 1) k 1 b 1) k 2 c 1) := by
  change execStandstillOffset dt k a b c s = _
  rw [execStandstillOffset, event_fires hu (by simpa [hmotion, hgates] using hst)]

/-- DRIVE_STALL of a running channel of mode 1 with its torque reference at T_MAX and its speed below HANDOVER (Table DRV-4). -/
theorem exec_driveStall_fires (hmode : driveMode u k = 1) (hst : (u.drive k).st = .run)
    (hfull : (u.drive k).tRef.natAbs = u.pv 0x0A19 k) (hslow : (u.drive k).speed.natAbs < u.dpv 0x0A2A k 0) :
    exec (.driveStall dt k) s = .next (driveRaise u k 0x118 false) := by
  change execDriveStall dt k s = _
  rw [execDriveStall, event_fires hu (by simp [hmotion, hmode, hst, hfull, hslow])]

/-- SIX_STEP_COMMUTATION of a channel whose start ramp runs (R220). -/
theorem exec_sixStepCommutation_fires (hst : (u.drive k).st = .start) (hramping : (u.drive k).ramping = true) :
    exec (.sixStepCommutation dt k) s = .next (sixStep u k) := by
  change execSixStepCommutation dt k s = _
  rw [execSixStepCommutation, event_fires hu (by simp [hmotion, hst, hramping])]

/-- DRV_ALIGN_DONE after ALIGN_MS of an alignment: the encoder's position is stored as the offset and answered (R225). -/
theorem exec_drvAlignDone_fires (halign : (u.drive k).align = some w)
    (hdue : (u.drive k).tState + u.dpv 0x0A27 k 0 * msU ≤ u.time)
    (hp : sat32 (encNm u (u.pv 0x0A1F k) (u.enc (u.pv 0x0A1F k)).pos) = p) :
    exec (.drvAlignDone dt k) s = .next (answer ((u.pput 0x0A20 k (toField 32 p)).onDrive k
      fun d => { driveTo d .disabled u.time with align := none }) w sOK (leI 4 p)) := by
  subst hp
  change execDrvAlignDone dt k s = _
  rw [execDrvAlignDone, event_fires hu (by simp [hmotion, halign, stateElapsed, hdue]), halign]
  rfl

end

/-- Settles O26: each clause's premises are the event's condition, and pick the branch of its effect. -/
theorem driveEventsComplete : Obligations.DriveEventsComplete := by
  refine ⟨?_, ?_, ?_, ?_, ?_, ?_, ?_, ?_, ?_, ?_, ?_, ?_, ?_, ?_, ?_⟩
  · exact fun _ _ _ _ _ _ _ _ => exec_decisionPeriod_fires
  · intro dt s u v k gd hu hmotion hlive hnone hv
    rw [exec_driveOvercurrent_trips hu hmotion hlive hv, hnone, Option.elim_none]
  · intro dt s u v k gd w hu hmotion hlive halign hv
    rw [exec_driveOvercurrent_trips hu hmotion hlive hv, halign, Option.elim_some]
  · exact fun _ _ _ _ => exec_driveOvercurrent_releases
  · exact fun _ _ _ _ _ _ => exec_bemfZeroCrossing_catch
  · exact fun _ _ _ _ _ _ => exec_bemfZeroCrossing_start
  · exact fun _ _ _ _ => exec_catchTimeout_fires
  · exact fun _ _ _ _ => exec_brakeElapsed_fires
  · exact fun _ _ _ _ => exec_alignElapsed_fires
  · intro dt s u k hu hmotion hst htoCatch hdue
    rw [exec_coastElapsed_fires hu hmotion hst hdue, if_neg (ne_true_of_eq_false htoCatch)]
  · intro dt s u k hu hmotion hst htoStart hdue
    rw [exec_coastElapsed_fires hu hmotion hst hdue, if_pos htoStart]
  · exact fun _ _ _ _ _ _ _ => exec_standstillOffset_fires
  · exact fun _ _ _ _ => exec_driveStall_fires
  · exact fun _ _ _ _ => exec_sixStepCommutation_fires
  · exact fun _ _ _ _ _ _ => exec_drvAlignDone_fires

end Sys2Proof.Proofs.DriveChannels
end

section
/-!
PROOFS. The stepper axes family (10_stepper_axes): the stepper requests (R227, R228, R230, R232, R233, R235, R237, R238, Table
STEP-5), and the stepper events (R226 to R228, R235, R236, Table STEP-3).
-/

namespace Sys2Proof.Proofs.StepperAxes

open Sys2Proof.Machine Sys2Proof.Safety Sys2Proof.Proofs.LayerCycle

-- Off, because every lemma's own thread reserves a stack.
set_option Elab.async false

/-! ### The unit a request names -/

section
variable {t : State} {uf : Byte} {n : Nat} {f : Nat → Answer}

/-- A unit that has members is there (Table STEP-5). -/
theorem withUnit_present (hunit : unitField uf = some n) (hmembers : (t.unit n).members ≠ []) : withUnit t uf f = f n := by
  rw [withUnit, hunit]
  exact if_neg hmembers

/-- An axis outside every group, or a defined group, takes commands that move it (R230). -/
theorem withMover_present (hunit : unitField uf = some n) (hmembers : (t.unit n).members ≠ [])
    (hfree : n < 8 → (t.axis n).group = none) : withMover t uf f = f n := by
  have hungrouped : ¬ (n < 8 ∧ (t.axis n).group.isSome = true) := fun ⟨haxis, hgroup⟩ => by simp [hfree haxis] at hgroup
  rw [withMover, withUnit_present hunit hmembers, if_neg hungrouped]

end

/-! ### Forming a group -/

section
variable {t : State} {g : Nat} {ks : List Nat}

/-- An empty mask names no axis, so a mask that names some is not 0. -/
theorem mask_ne_zero {mask : Byte} (h : bitsOf mask.toNat 8 ≠ []) : mask ≠ 0 := by
  rintro rfl
  exact h (by decide)

/-- A group forms of axes that are free or its own, all idle, while it has no members or is idle itself (R230). -/
theorem formGroup_forms
    (haxes : ∀ k ∈ ks, ((t.axis k).group = none ∨ (t.axis k).group = some g)
      ∧ (t.unit (unitOf t k)).st = .idle ∧ (t.unit (unitOf t k)).queue = [])
    (hgroup : (t.unit (8 + g)).members ≠ [] → (t.unit (8 + g)).st = .idle ∧ (t.unit (8 + g)).queue = []) :
    formGroup t g ks = done (setGroup t g ks) := by
  have hfree : ¬ (ks.any fun k => (t.axis k).group.isSome && (t.axis k).group != some g) = true := by
    simp only [List.any_eq_true, not_exists, not_and]
    intro k hk
    obtain hnone | hown := (haxes k hk).1
    · simp [hnone]
    · simp [hown]
  have hidle : (ks.all fun k => decide ((t.unit (unitOf t k)).st = .idle) && (t.unit (unitOf t k)).queue.isEmpty) = true := by
    rw [List.all_eq_true]
    intro k hk
    obtain ⟨-, hst, hqueue⟩ := haxes k hk
    simp [hst, hqueue]
  have hgroupIdle : ¬ ((t.unit (8 + g)).members ≠ [] ∧
      (decide ((t.unit (8 + g)).st = .idle) && (t.unit (8 + g)).queue.isEmpty) = false) := by
    rintro ⟨hmembers, hbusy⟩
    obtain ⟨hst, hqueue⟩ := hgroup hmembers
    simp [hst, hqueue] at hbusy
  rw [formGroup]
  dsimp only
  rw [if_neg hfree, if_neg (by simp [hidle]), if_neg hgroupIdle]

end

/-! ### Requests -/

section
variable {q : Req} {s t v : State} {w : Waiting} {k uf : Byte} {n : Nat}

/-- STEP_ENABLE of a disabled unit that may run (R227). -/
theorem exec_stepEnable_enables (h : Runs 0x0B01 2 q s w t) (hk : k.toNat ≤ 7) (hmotion : t.motionOn = true)
    (hbist : t.bist.failed.getLsbD 62 = false) (hc4 : t.c4On = false) (hst : (t.unit (unitOf t k.toNat)).st = .disabled) :
    exec (.stepEnable q k 1) s = .next (answer (t.onUnit (unitOf t k.toNat) fun x => { x with st := .idle }) w sOK []) := by
  have hrange : ¬ (7 < k.toNat ∨ 1 < (1 : Byte).toNat) := by simpa using hk
  change execStepEnable q k 1 s = _
  rw [execStepEnable, request_ok h]
  dsimp only
  rw [if_neg hrange, if_neg (by decide), if_neg (ne_true_of_eq_false hc4), if_neg (by simp [hmotion]),
    if_neg (ne_true_of_eq_false hbist), if_pos hst, finish_done]

/-- STEP_ENABLE with ON 0 disables the axis's unit in any state (R227). -/
theorem exec_stepEnable_disables (h : Runs 0x0B01 2 q s w t) (hk : k.toNat ≤ 7) :
    exec (.stepEnable q k 0) s = .next (answer (unitDisable t (unitOf t k.toNat)) w sOK []) := by
  have hrange : ¬ (7 < k.toNat ∨ 1 < (0 : Byte).toNat) := by simpa using hk
  change execStepEnable q k 0 s = _
  rw [execStepEnable, request_ok h]
  dsimp only
  rw [if_neg hrange, if_pos rfl, finish_done]

/-- STEP_MOVE with operands in range, to a unit that takes moves and has room in its queue (R228 to R230, R235). -/
theorem exec_stepMove_queues {abs : Byte} {v a j : U32} {ts : List (BitVec 48)} {m : Move}
    (h : Runs 0x0B02 (14 + 6 * ts.length) q s w t) (hunit : unitField uf = some n) (hmembers : (t.unit n).members ≠ [])
    (hfree : n < 8 → (t.axis n).group = none) (hlen : ts.length = (t.unit n).members.length) (habs : abs.toNat ≤ 1)
    (hm : planMove t n (abs == 1) v.toNat a.toNat j.toNat (ts.map (·.toInt)) = m)
    (hlimits : moveRangeOk v.toNat a.toNat j.toNat = true) (htargets : m.targets.all targetOk = true)
    (htakes : takesMoves (t.unit n) = true) (hroom : (t.unit n).queue.length < 32)
    (hhomed : abs = 1 → ((t.unit n).members.any fun k => !(t.axis k).homed) = false)
    (hclear : towardLimit t n (List.zipWith (fun t p => t - p) m.targets (planStart t n)) = false) :
    exec (.stepMove q uf abs v a j ts) s = .next (answer (t.onUnit n fun x => { x with
        queue := x.queue ++ [m], st := if x.st = .idle then .moving else x.st }) w sOK
      [BitVec.ofNat 8 ((t.onUnit n fun x => { x with
        queue := x.queue ++ [m], st := if x.st = .idle then .moving else x.st }).unit n).queue.length]) := by
  subst hm
  have hunhomed : ¬ (abs = 1 ∧ ((t.unit n).members.any fun k => !(t.axis k).homed) = true) :=
    fun ⟨hone, hany⟩ => by simp [hhomed hone] at hany
  change execStepMove q uf abs v a j ts s = _
  rw [execStepMove, request_ok h, withMover_present hunit hmembers hfree]
  dsimp only
  rw [if_neg (not_not.mpr hlen), if_neg (by rw [hlimits, htargets]; simpa using habs), if_neg (by simp [htakes]),
    if_neg (Nat.not_le.mpr hroom), if_neg hunhomed, if_neg (ne_true_of_eq_false hclear), finish_now]

/-- STEP_STOP, of an axis or of the group it is in, waits for the next evaluation (R230, R232). -/
theorem exec_stepStop_waits {u : Nat} (h : Runs 0x0B03 1 q s w t) (hunit : unitField uf = some n)
    (hmembers : (t.unit n).members ≠ []) (hu : (if n < 8 then unitOf t n else n) = u) (hmotion : t.motionOn = true)
    (hnone : (t.unit u).stop = none) :
    exec (.stepStop q uf) s = .next (t.onUnit u fun x => { x with stop := some w }) := by
  change execStepStop q uf s = _
  rw [execStepStop, request_ok h, withUnit_present hunit hmembers]
  dsimp only
  rw [hu, if_neg (by simp [hmotion]), if_neg (by simp [hnone]), finish_later]

/-- STEP_RESUME of a stopped unit goes on from where it is (R233). -/
theorem exec_stepResume_resumes (h : Runs 0x0B04 1 q s w t) (hunit : unitField uf = some n)
    (hmembers : (t.unit n).members ≠ []) (hfree : n < 8 → (t.axis n).group = none) (hst : (t.unit n).st = .stopped)
    (hhomed : ((t.unit n).cur.map (·.abs)).getD false = true → ((t.unit n).members.any fun k => !(t.axis k).homed) = false)
    (hclear : towardLimit t n (((t.unit n).cur.map fun m => moveDelta m (unitPos t n)).getD []) = false) :
    exec (.stepResume q uf) s = .next (answer (t.onUnit n fun x => { x with
      st := .moving, cur := x.cur.map fun m => { m with start := unitPos t n }, joint := none, prog := 0, vel := 0, acc := 0 })
      w sOK []) := by
  have hunhomed : ¬ (((t.unit n).cur.map (·.abs)).getD false && (t.unit n).members.any fun k => !(t.axis k).homed) = true := by
    rw [Bool.and_eq_true]
    exact fun ⟨habs, hany⟩ => ne_true_of_eq_false (hhomed habs) hany
  change execStepResume q uf s = _
  rw [execStepResume, request_ok h, withMover_present hunit hmembers hfree]
  dsimp only
  rw [if_neg (not_not.mpr hst), if_neg hunhomed, if_neg (ne_true_of_eq_false hclear), finish_done]

/-- STEP_FLUSH of an idle or stopped unit empties its queue (R233). -/
theorem exec_stepFlush_empties (h : Runs 0x0B05 1 q s w t) (hunit : unitField uf = some n)
    (hmembers : (t.unit n).members ≠ []) (hfree : n < 8 → (t.axis n).group = none)
    (hst : (t.unit n).st = .idle ∨ (t.unit n).st = .stopped) :
    exec (.stepFlush q uf) s = .next (answer (t.onUnit n fun x => { x with
      st := .idle, queue := [], cur := none, joint := none, prog := 0, remain := [] }) w sOK []) := by
  change execStepFlush q uf s = _
  rw [execStepFlush, request_ok h, withMover_present hunit hmembers hfree]
  obtain hst | hst := hst <;> rw [hst, finish_done]

/-- STEP_HOME of an idle axis in no group, with no other limit active in its direction (R235, R238). -/
theorem exec_stepHome_begins (h : Runs 0x0B06 1 q s w t) (hk : k.toNat ≤ 7) (hfree : (t.axis k.toNat).group = none)
    (hst : (t.unit k.toNat).st = .idle) (hclear : homeBlocked t k.toNat = false) :
    exec (.stepHome q k) s = .next (answer ((t.onUnit k.toNat fun x => { x with
        st := .homing, queue := [], cur := none, remain := [], vel := 0, acc := 0 }).onAxis k.toNat fun a => { a with
        homed := false, homeStep := if swActive t k.toNat (homeSrc t k.toNat) then 1 else 2, homeWait := true
        homeDir := t.pv 0x0B21 k.toNat == 1, homeRev := false }) w sOK []) := by
  change execStepHome q k s = _
  rw [execStepHome, request_ok h]
  dsimp only
  rw [if_neg (Nat.not_lt.mpr hk), if_neg (by simp [hfree]), if_neg (not_not.mpr hst), if_neg (ne_true_of_eq_false hclear),
    finish_done]
  rfl

/-- STEP_GROUP with a mask of two to four axes forms the group, whose earlier members are free (R230). -/
theorem exec_stepGroup_forms {g mask : Byte} {ks : List Nat} (h : Runs 0x0B07 2 q s w t) (hg : g.toNat ≤ 3)
    (hks : bitsOf mask.toNat 8 = ks) (htwo : 2 ≤ ks.length) (hfour : ks.length ≤ 4)
    (haxes : ∀ k ∈ ks, ((t.axis k).group = none ∨ (t.axis k).group = some g.toNat)
      ∧ (t.unit (unitOf t k)).st = .idle ∧ (t.unit (unitOf t k)).queue = [])
    (hgroup : (t.unit (8 + g.toNat)).members ≠ [] →
      (t.unit (8 + g.toNat)).st = .idle ∧ (t.unit (8 + g.toNat)).queue = []) :
    exec (.stepGroup q g mask) s = .next (answer ((ks.foldl (fun s k => s.onAxis k fun a => { a with group := some g.toNat })
        ((t.unit (8 + g.toNat)).members.foldl (fun s k => s.onAxis k fun a => { a with group := none }) t)).onUnit (8 + g.toNat)
      fun x => { x with members := ks, st := .idle, queue := [], cur := none, joint := none, prog := 0, remain := [] })
      w sOK []) := by
  have hsome : ks ≠ [] := List.ne_nil_of_length_pos (by omega)
  change execStepGroup q g mask s = _
  rw [execStepGroup, request_ok h]
  dsimp only
  rw [hks, if_neg (Nat.not_lt.mpr hg), if_neg (mask_ne_zero (hks ▸ hsome)), if_neg (by omega),
    formGroup_forms haxes hgroup, finish_done, setGroup]
  simp only [if_neg hsome]

/-- STEP_GROUP with mask 0 dissolves an idle group (R230). -/
theorem exec_stepGroup_dissolves {g : Byte} (h : Runs 0x0B07 2 q s w t) (hg : g.toNat ≤ 3)
    (hmembers : (t.unit (8 + g.toNat)).members ≠ []) (hst : (t.unit (8 + g.toNat)).st = .idle) :
    exec (.stepGroup q g 0) s = .next (answer (((t.unit (8 + g.toNat)).members.foldl
      (fun s k => s.onAxis k fun a => { a with group := none }) t).onUnit (8 + g.toNat) fun x => { x with
        members := [], st := .disabled, queue := [], cur := none, joint := none, prog := 0, remain := [] }) w sOK []) := by
  change execStepGroup q g 0 s = _
  rw [execStepGroup, request_ok h]
  dsimp only
  rw [if_neg (Nat.not_lt.mpr hg), if_pos rfl, if_neg hmembers, if_neg (not_not.mpr hst), finish_done, setGroup]
  rfl

/-- STEP_SW_RESET of inputs that have had no edge within the window; the condition 0x122 ends with the last of them (R237). -/
theorem exec_stepSwReset_resets (h : Runs 0x0B08 1 q s w t) (hk : k.toNat ≤ 7)
    (hquiet : ∀ x ∈ (t.axis k.toNat).sw, x.unstable = true → ∀ e, x.edgeAt = some e →
      e + t.pv 0x0B27 (k.toNat + 8) * msU ≤ t.time)
    (hv : (t.onAxis k.toNat fun a => { a with sw := a.sw.map fun x => { x with unstable := false } }) = v) :
    exec (.stepSwReset q k) s = .next (answer
      (if (List.range 8).any fun j => (v.axis j).sw.any (·.unstable) then v else clearCond v 0x122) w sOK []) := by
  subst hv
  change execStepSwReset q k s = _
  rw [execStepSwReset, request_ok h]
  dsimp only
  rw [if_neg (Nat.not_lt.mpr hk), if_neg, finish_done]
  simp only [List.any_eq_true, Bool.and_eq_true, not_exists, not_and]
  intro x hx hunstable
  cases hedge : x.edgeAt with
  | none => exact Bool.false_ne_true
  | some e => simpa using hquiet x hx hunstable e hedge

/-- STEP_STATUS of a unit that is there, with the state and queue of the group that a grouped axis is in (Table STEP-5). -/
theorem exec_stepStatus_reports {u : Nat} (h : Runs 0x0B09 1 q s w t) (hunit : unitField uf = some n)
    (hmembers : (t.unit n).members ≠ []) (hu : (if n < 8 then unitOf t n else n) = u) :
    exec (.stepStatus q uf) s = .next (answer t w sOK
      ([BitVec.ofNat 8 (axisCode (t.unit u).st), bitB ((t.unit n).members.all fun k => (t.axis k).homed)]
        ++ ((t.unit n).members.map fun k => leI 6 (axisPos (t.axis k)) ++ leI 6 (axisRemain t k)).flatten
        ++ [BitVec.ofNat 8 (t.unit u).queue.length])) := by
  change execStepStatus q uf s = _
  rw [execStepStatus, request_ok h, withUnit_present hunit hmembers]
  dsimp only
  rw [hu, finish_now]

end

/-- Settles O27: in the state that the checks of a request leave, each clause's premises pick one branch of its body. -/
theorem stepperRequestsComplete : Obligations.StepperRequestsComplete := by
  refine ⟨?_, ?_, ?_, ?_, ?_, ?_, ?_, ?_, ?_, ?_, ?_⟩
  · exact fun _ _ _ _ _ => exec_stepEnable_enables
  · exact fun _ _ _ _ _ => exec_stepEnable_disables
  · exact fun _ _ _ _ _ _ _ _ _ _ _ _ => exec_stepMove_queues
  · exact fun _ _ _ _ _ _ _ => exec_stepStop_waits
  · exact fun _ _ _ _ _ _ => exec_stepResume_resumes
  · exact fun _ _ _ _ _ _ => exec_stepFlush_empties
  · exact fun _ _ _ _ _ => exec_stepHome_begins
  · exact fun _ _ _ _ _ _ _ => exec_stepGroup_forms
  · exact fun _ _ _ _ _ => exec_stepGroup_dissolves
  · exact fun _ _ _ _ _ _ => exec_stepSwReset_resets
  · exact fun _ _ _ _ _ _ _ => exec_stepStatus_reports

/-! ### Events -/

section
variable {dt t0 vbus : Nat} {s u v : State} {k : Fin 8} {i : Fin 3} {levels : BitVec 3}
variable (hu : s.pass dt = u) (hmotion : u.motionOn = true)
include hu hmotion

/-- STEPPER_PWM_PERIOD of an axis that is not DISABLED (R226). -/
theorem exec_stepperPwmPeriod_fires (hon : unitState u (unitOf u k) ≠ .disabled) :
    exec (.stepperPwmPeriod dt k vbus) s = .next (pwmStep u k vbus) := by
  change execStepperPwmPeriod dt k vbus s = _
  rw [execStepperPwmPeriod, event_fires hu (by simp [hmotion, hon])]

/-- VOLTAGE_SATURATION of a duty that has clamped for SAT_MS (R226, Table STEP-3). -/
theorem exec_voltageSaturation_fires (hsat : (u.axis k).satAt = some t0) (hdue : t0 + u.pv 0x0B15 k * msU ≤ u.time) :
    exec (.voltageSaturation dt k) s = .next (raise (u.onAxis k fun a => { a with satAt := some u.time }) 0x123 k false) := by
  change execVoltageSaturation dt k s = _
  rw [execVoltageSaturation, event_fires hu (by simp [hmotion, hsat, hdue])]

/-- PROFILE_EVALUATION of every unit (R228). -/
theorem exec_profileEvaluation_fires :
    exec (.profileEvaluation dt) s = .next ((List.range 12).foldl unitEval { u with stepAt := u.time }) := by
  change execProfileEvaluation dt s = _
  rw [execProfileEvaluation, event_fires hu hmotion]

/-- STEP_DRIVER_FAULT with AXn_nFLT low disables the axis's unit (R227). -/
theorem exec_stepDriverFault_faults (hv : u.onAxis k (fun a => { a with nflt := true }) = v) :
    exec (.stepDriverFault dt ⟨k, false⟩) s = .next (raise (unitDisable v (unitOf v k)) 0x124 k true) := by
  subst hv
  change execStepDriverFault dt ⟨k, false⟩ s = _
  rw [execStepDriverFault]
  dsimp only
  rw [event_fires hu (by simp [hmotion]), if_neg Bool.false_ne_true]
  rfl

/-- STEP_DRIVER_FAULT with AXn_nFLT high again ends the condition of 0x124 once no axis has it low (R227). -/
theorem exec_stepDriverFault_releases (hlow : (u.axis k).nflt = true)
    (hv : u.onAxis k (fun a => { a with nflt := false }) = v) :
    exec (.stepDriverFault dt ⟨k, true⟩) s =
      .next (if (List.range 8).any fun j => (v.axis j).nflt then v else clearCond v 0x124) := by
  subst hv
  change execStepDriverFault dt ⟨k, true⟩ s = _
  rw [execStepDriverFault]
  dsimp only
  rw [event_fires hu (by simp [hmotion, hlow]), if_pos rfl]
  rfl

/-- SWITCH_SAMPLE of an axis (R235). -/
theorem exec_switchSample_fires :
    exec (.switchSample dt k levels) s = .next (swSample u k levels) := by
  change execSwitchSample dt k levels s = _
  rw [execSwitchSample, event_fires hu hmotion]

/-- SWITCH_QUALIFIED of an input whose new level has held for DEBOUNCE since the last edge (R236). -/
theorem exec_switchQualified_fires (hnew : ((u.axis k).sw.getD i {}).qual ≠ ((u.axis k).sw.getD i {}).level)
    (hedge : ((u.axis k).sw.getD i {}).edgeAt = some t0) (hdue : t0 + u.pv 0x0B26 k * 100 * usU ≤ u.time) :
    exec (.switchQualified dt k i) s = .next (swQualify u k i) := by
  have hchanged : (((u.axis k).sw.getD i {}).qual != ((u.axis k).sw.getD i {}).level) = true := bne_iff_ne.mpr hnew
  change execSwitchQualified dt k i s = _
  rw [execSwitchQualified, event_fires hu]
  dsimp only
  rw [hmotion, hchanged, hedge]
  simpa using hdue

end

/-- Settles O28: each clause's premises are the event's condition, and pick the branch of its effect. -/
theorem stepperEventsComplete : Obligations.StepperEventsComplete := by
  refine ⟨?_, ?_, ?_, ?_, ?_, ?_, ?_⟩
  · exact fun _ _ _ _ _ => exec_stepperPwmPeriod_fires
  · exact fun _ _ _ _ _ => exec_voltageSaturation_fires
  · exact fun _ _ _ => exec_profileEvaluation_fires
  · exact fun _ _ _ _ _ => exec_stepDriverFault_faults
  · exact fun _ _ _ _ _ => exec_stepDriverFault_releases
  · exact fun _ _ _ _ _ => exec_switchSample_fires
  · exact fun _ _ _ _ _ _ => exec_switchQualified_fires

end Sys2Proof.Proofs.StepperAxes
end

section
/-!
PROOFS. The housekeeping and chamber family (11_housekeeping_chamber_io): HK_READ and HTR_OT_RESET (R253, Tables HKP-5, HKP-7),
and the housekeeping, mains, heater and thermal events (R243, R250 to R252; 12 R264, R265).
-/

namespace Sys2Proof.Proofs.Housekeeping

open Sys2Proof.Machine Sys2Proof.Safety Sys2Proof.Proofs.LayerCycle

-- Off, because every lemma's own thread reserves a stack.
set_option Elab.async false

/-! ### Data as read -/

section
variable {t : State} {w : Waiting} {d : List Byte}

/-- Data that fit the mailbox are answered (R348). -/
theorem finish_sized_fits (h : d.length ≤ (payloadLimit w.mb).2) : finish w (sized t w d) = answer t w sOK d := by
  rw [sized, if_neg (Nat.not_lt.mpr h), finish_now]

/-- Data that do not fit the mailbox answer RANGE (R348; log entry 71). -/
theorem finish_sized_exceeds (h : (payloadLimit w.mb).2 < d.length) : finish w (sized t w d) = answer t w sRange [] := by
  rw [sized, if_pos h, finish_refuse]

/-- An entry of HK_READ has 16 bytes (Table HKP-5). -/
@[simp] theorem hkEntry_length (e : ChEntry) : (hkEntry e).length = 16 := by
  simp [hkEntry, leI]

/-- HK_READ's answer is the round number and 16 bytes a channel (Table HKP-5). -/
theorem hkData_length (r n : Nat) (f : Nat → ChEntry) :
    (le 4 r ++ ((List.range n).map fun i => hkEntry (f i)).flatten).length = 4 + 16 * n := by
  simp [List.length_flatten, Function.comp_def, Nat.mul_comm]

end

/-! ### Requests -/

section
variable {q : Req} {s t v : State} {w : Waiting} {first n k : Byte}

/-- HK_READ of channels that there are answers their entries, where they fit the mailbox (Table HKP-5). -/
theorem exec_hkRead_sized (h : Runs 0x0C01 2 q s w t) (hn : n ≠ 0) (hlast : first.toNat + n.toNat ≤ 128) :
    exec (.hkRead q first n) s = .next (finish w (sized t w (le 4 t.house.rounds.toNat
      ++ ((List.range n.toNat).map fun i => hkEntry (t.hk (first.toNat + i))).flatten))) := by
  have hrange : ¬ (n = 0 ∨ 128 < first.toNat + n.toNat) := not_or.mpr ⟨hn, Nat.not_lt.mpr hlast⟩
  change execHkRead q first n s = _
  rw [execHkRead, request_ok h, if_neg hrange]

/-- HTR_OT_RESET of a cut output that has no source, or whose source is valid and has cooled down; the condition 0x104 ends with
the last of them (R253). -/
theorem exec_htrOtReset_resets (h : Runs 0x0C02 1 q s w t) (hk : k.toNat ≤ 31) (hcut : (t.heater k.toNat).cut = true)
    (hcool : t.pv 0x0C36 k.toNat = 255 ∨ ((t.hk (t.pv 0x0C36 k.toNat)).flags &&& fValid ≠ 0
      ∧ (t.hk (t.pv 0x0C36 k.toNat)).value < t.pvI 32 0x0C37 k.toNat - t.pv 0x0C38 k.toNat))
    (hv : (t.onHeater k.toNat fun h => { h with cut := false }) = v) :
    exec (.htrOtReset q k) s = .next (answer
      (if (List.range 32).any fun j => (v.heater j).cut then v else clearCond v 0x104) w sOK []) := by
  have hallowed : ¬ (t.pv 0x0C36 k.toNat ≠ 255 ∧ ((t.hk (t.pv 0x0C36 k.toNat)).flags &&& fValid = 0
      ∨ t.pvI 32 0x0C37 k.toNat - t.pv 0x0C38 k.toNat ≤ (t.hk (t.pv 0x0C36 k.toNat)).value)) := by
    rintro ⟨hsource, hbad⟩
    obtain ⟨hvalid, hcold⟩ := hcool.resolve_left hsource
    exact hbad.elim hvalid (Int.not_le.mpr hcold)
  subst hv
  change execHtrOtReset q k s = _
  rw [execHtrOtReset, request_ok h]
  dsimp only
  rw [if_neg (Nat.not_lt.mpr hk), if_neg (by simp [hcut]), if_neg hallowed, finish_done]

end

/-- Settles O29: in the state that the checks of a request leave, each clause's premises pick one branch of its body. -/
theorem housekeepingRequestsComplete : Obligations.HousekeepingRequestsComplete := by
  refine ⟨?_, ?_, ?_⟩
  · intro q s w t first n h hn hlast hfits
    rw [exec_hkRead_sized h hn hlast, finish_sized_fits (by rwa [hkData_length])]
  · intro q s w t first n h hn hlast hexceeds
    rw [exec_hkRead_sized h hn hlast, finish_sized_exceeds (by rwa [hkData_length])]
  · exact fun _ _ _ _ _ _ => exec_htrOtReset_resets

/-! ### The mains lines -/

/-- Two updates of one element that agree on it as it stands make the same list. -/
theorem modify_congr {α : Type} {l : List α} {k : Nat} {d : α} {f g : α → α} (h : f (l.getD k d) = g (l.getD k d)) :
    l.modify k f = l.modify k g := by
  rw [List.getD_eq_getElem?_getD] at h
  rw [List.modify_eq_set_getElem?, List.modify_eq_set_getElem?]
  cases hk : l[k]? with
  | none => rfl
  | some a =>
    rw [hk, Option.getD_some] at h
    simp [h]

/-- A mains line's update counts only by what it makes of the line as it stands. -/
theorem onLine_congr {s : State} {l : Nat} {f g : Mains → Mains} (h : f (s.line l) = g (s.line l)) :
    s.onLine l f = s.onLine l g := by
  rw [State.onLine, State.onLine, modify_congr h]

/-! ### Events -/

section
variable {dt n t0 : Nat} {s u v : State} {l : Fin 2} {k : Fin 32} {p : Bool} {x : RoundInputs}
variable (hu : s.pass dt = u)
include hu

/-- ROUND_START of the first round, or once HK.ROUND_MS of the round before have passed (R243, R256). -/
theorem exec_roundStart_fires (hmain : u.mainOn = true)
    (hdue : u.house.roundAt = 0 ∨ u.house.roundAt + u.house.roundMs * msU ≤ u.time) :
    exec (.roundStart dt) s = .next { u with house := { u.house with
      roundAt := u.time, roundMs := u.pv 0x0C10 0
      cio := AMap.keep u.params fun k => decide (0x0C20 * 256 ≤ k) && decide (k < 0x0C28 * 256) } } := by
  change execRoundStart dt s = _
  rw [execRoundStart, event_fires hu (by simpa [hmain] using hdue)]

/-- ROUND_PUBLISH (R243). -/
theorem exec_roundPublish_fires (hmain : u.mainOn = true) :
    exec (.roundPublish dt x) s = .next (publishRound u x) := by
  change execRoundPublish dt x s = _
  rw [execRoundPublish, event_fires hu hmain]

/-- MAINS_ZERO_CROSS of a line that is not lost completes a half-cycle, unless it is the line's first (R249, R250). -/
theorem exec_mainsZeroCross_present (hmain : u.mainOn = true) (hlost : (u.line l).lost = false) :
    exec (.mainsZeroCross dt l p) s = .next ((List.range 32).foldl (crossHeater l p) (u.onLine l fun m => { m with
      lastZc := some u.time, half := (m.lastZc.map fun t => u.time - t).getD 0
      halves := if (u.line l).lastZc.isSome then m.halves + 1 else 0
      dur := if (u.line l).lastZc.isSome then m.dur + (((u.line l).lastZc.map fun t => u.time - t).getD 0) else 0
      lost := false, good := 0 })) := by
  change execMainsZeroCross dt l p s = _
  rw [execMainsZeroCross, event_fires hu hmain]
  simp only [hlost, Bool.false_and, Bool.not_false, Bool.and_true, Bool.false_eq_true, if_false]
  exact congrArg (fun z => Host.Outcome.next ((List.range 32).foldl (crossHeater l p) z))
    (onLine_congr (by simp [hlost]))

/-- MAINS_ZERO_CROSS finds a lost line at the fourth good crossing in a row (R250). -/
theorem exec_mainsZeroCross_finds (hmain : u.mainOn = true) (hlost : (u.line l).lost = true)
    (hzc : (u.line l).lastZc = some t0) (hgood : halfGood (u.time - t0) = true) (hthree : 3 ≤ (u.line l).good) :
    exec (.mainsZeroCross dt l p) s = .next ((List.range 32).foldl (crossHeater l p) (clearCond (u.onLine l fun m => { m with
      lastZc := some u.time, half := u.time - t0, halves := 0, dur := 0, lost := false, good := 0 }) (0x105 + l))) := by
  change execMainsZeroCross dt l p s = _
  rw [execMainsZeroCross, event_fires hu hmain]
  simp [hlost, hzc, hgood, hthree]

/-- MAINS_ZERO_CROSS of a lost line whose good crossings in a row are fewer than four still (R250). -/
theorem exec_mainsZeroCross_counts (hmain : u.mainOn = true) (hlost : (u.line l).lost = true)
    (hzc : (u.line l).lastZc = some t0) (hn : (if halfGood (u.time - t0) then (u.line l).good + 1 else 0) = n) (hfew : n < 4) :
    exec (.mainsZeroCross dt l p) s = .next ((List.range 32).foldl (crossHeater l p) (u.onLine l fun m => { m with
      lastZc := some u.time, half := u.time - t0, halves := 0, dur := 0, lost := m.lost, good := n })) := by
  change execMainsZeroCross dt l p s = _
  rw [execMainsZeroCross, event_fires hu hmain]
  simp [hlost, hzc, hn, Nat.not_le.mpr hfew]

/-- MAINS_LOST of a line without a crossing for 1.5 half-cycles (R250). -/
theorem exec_mainsLost_fires (hmain : u.mainOn = true) (hlost : (u.line l).lost = false)
    (hzc : (u.line l).lastZc = some t0) (hdue : t0 + lossTime (u.line l) < u.time) :
    exec (.mainsLost dt l) s = .next (loseLine u l) := by
  change execMainsLost dt l s = _
  rw [execMainsLost, event_fires hu (by simp [hmain, hlost, hzc, hdue])]

/-- HEATER_PWM_PERIOD of an output in PWM mode, or of one that is off and is to enter it (R252). -/
theorem exec_heaterPwmPeriod_fires (hready : u.readyOn = true)
    (hmode : (u.heater k).mode = 2 ∨ ((u.heater k).mode = 0 ∧ u.pv 0x0C30 k = 2)) :
    exec (.heaterPwmPeriod dt k) s = .next (pwmPeriod u k) := by
  change execHeaterPwmPeriod dt k s = _
  rw [execHeaterPwmPeriod, event_fires hu (by simpa [hready] using hmode)]

/-- ANALOGUE_TRIP raises 0x134, and ends a running self-test at once (12 R264; 18 R376). -/
theorem exec_analogueTrip_trips (hmain : u.mainOn = true)
    (hv : raise { u with therm := { u.therm with tripped := true, div2 := true } } 0x134 0 true = v) :
    exec (.analogueTrip dt) s = .next (if v.bist.running then interruptTest v else v) := by
  subst hv
  change execAnalogueTrip dt s = _
  rw [execAnalogueTrip, event_fires hu hmain]

/-- WEAR_SAVE while Keeper runs (12 R265). -/
theorem exec_wearSave_saves (hmain : u.mainOn = true) (hkeep : u.keep.running = true) :
    exec (.wearSave dt) s = .next (markDirty { u with therm := { u.therm with
      saved := (u.therm.bandTime.map fun t => satN 32 (t / secU), tjMean u.therm) } }) := by
  change execWearSave dt s = _
  rw [execWearSave, event_fires hu (by simp [hmain, hkeep])]

end

/-- Settles O30: each clause's premises are the event's condition, and pick the branch of its effect. -/
theorem housekeepingEventsComplete : Obligations.HousekeepingEventsComplete := by
  refine ⟨?_, ?_, ?_, ?_, ?_, ?_, ?_, ?_, ?_, ?_, ?_⟩
  · exact fun _ _ _ => exec_roundStart_fires
  · exact fun _ _ _ _ => exec_roundPublish_fires
  · exact fun _ _ _ _ _ => exec_mainsZeroCross_present
  · exact fun _ _ _ _ _ _ => exec_mainsZeroCross_finds
  · intro dt s u l p t0 hu hmain hlost hzc hgood hfew
    exact exec_mainsZeroCross_counts hu hmain hlost hzc (if_pos hgood) (by omega)
  · intro dt s u l p t0 hu hmain hlost hzc hbad
    exact exec_mainsZeroCross_counts hu hmain hlost hzc (if_neg (ne_true_of_eq_false hbad)) (by decide)
  · exact fun _ _ _ _ _ => exec_mainsLost_fires
  · exact fun _ _ _ _ => exec_heaterPwmPeriod_fires
  · intro dt s u v hu hmain hv hidle
    rw [exec_analogueTrip_trips hu hmain hv, if_neg (ne_true_of_eq_false hidle)]
  · intro dt s u v hu hmain hv hrunning
    rw [exec_analogueTrip_trips hu hmain hv, if_pos hrunning]
  · exact fun _ _ _ => exec_wearSave_saves

end Sys2Proof.Proofs.Housekeeping
end

section
/-!
PROOFS. What every step holds (95_what_each_step_holds): which command it runs, the queue it leaves, and SEC.ROLLBACK (18 R382).
-/

namespace Sys2Proof.Proofs.Steps

open Sys2Proof.Machine Sys2Proof.Safety Sys2Proof.Proofs.Architecture

section
variable {s t : State}

/-- A step with a command waiting runs it with the queue's rest. -/
theorem step_cons {c : Instr} {rest : List Instr} (h : s.pending = c :: rest) :
    step s = exec c { s with pending := rest } := by
  rw [step, h]

/-- A step with an empty queue idles. -/
theorem step_nil (h : s.pending = []) : step s = .next s := by
  rw [step, h]

/-- No command touches the queue: not even one that leaves the block unpowered. -/
theorem exec_pending {c : Instr} (h : exec c s = .next t) : t.pending = s.pending := by
  obtain hk | ⟨v, rfl, hk, -⟩ := kept_or_unpowered h
  · exact hk.pending
  · exact hk.pending

/-- No command lowers the OTP counter: a block that is left unpowered keeps it too (18 R382). -/
theorem exec_rollback_le {c : Instr} (h : exec c s = .next t) : s.bist.rollback ≤ t.bist.rollback := by
  obtain hk | ⟨v, rfl, hk, -⟩ := kept_or_unpowered h
  · exact hk.rollback
  · exact hk.rollback

end

/-- Settles O6: an idle step keeps the counter, and so does each command. -/
theorem rollbackNeverFalls : Obligations.RollbackNeverFalls := by
  intro s t h
  cases hp : s.pending with
  | nil =>
    cases (step_nil hp).symm.trans h
    exact le_rfl
  | cons c rest => exact exec_rollback_le (s := { s with pending := rest }) ((step_cons hp).symm.trans h)

/-- Settles O2: the command at the front runs with the tail of the queue, and leaves it alone. -/
theorem commandsLeaveQueueAlone : Obligations.CommandsLeaveQueueAlone := by
  intro s t h
  cases hp : s.pending with
  | nil =>
    cases (step_nil hp).symm.trans h
    exact hp
  | cons c rest => exact exec_pending ((step_cons hp).symm.trans h)

/-- Settles O1: the two equations of a step. -/
theorem stepRunsFrontCommand : Obligations.StepRunsFrontCommand :=
  ⟨fun _ _ _ => step_cons, fun _ => step_nil⟩

end Sys2Proof.Proofs.Steps
end

section
/-!
PROOFS. The power family (13_power_stageline): the power requests (R275, R278, R286, Table PWR-8) and the events of the rails
and of PMBus (R270 to R274, Tables PWR-2, PWR-4).
-/

namespace Sys2Proof.Proofs.Power

open Sys2Proof.Machine Sys2Proof.Safety Sys2Proof.Proofs.LayerCycle

-- Off, because every lemma's own thread reserves a stack.
set_option Elab.async false

/-! ### Power requests -/

section
variable {q : Req} {s t : State} {w : Waiting} {k d p : Byte}

/-- PWR_STATE with a target that is not refused takes it (R275). -/
theorem exec_pwrState_applies {x : Byte} (h : Runs 0x0101 1 q s w t) (hx : targetStatus t x.toNat = 0) :
    exec (.pwrState q x) s = .next (applyTarget t x.toNat (some w)) := by
  change execPwrState q x s = _
  rw [execPwrState, request_ok h, if_neg (not_not.mpr hx), finish_later]

/-- PWR_RAIL of a slot of group 0 (R286): what the C4 latch denies, and else the start or the release. -/
theorem exec_pwrRail_groupZero {on : Byte} (h : Runs 0x0102 2 q s w t) (hlo : 6 ≤ k.toNat) (hhi : k.toNat ≤ 31)
    (hon : on.toNat ≤ 1) (hgroup : t.pv 0x0112 k.toNat = 0) :
    exec (.pwrRail q k on) s = .next (finish w
      (if on = 1 ∧ driveSlot k.toNat = true ∧ t.flt.c4.isSome = true then refuse t sDenied
        else done (settlePower (if on = 1 then startSlots t [k.toNat] else releaseSlots t [k.toNat])))) := by
  change execPwrRail q k on s = _
  rw [execPwrRail, request_ok h]
  dsimp only
  rw [if_neg (by omega), if_neg (not_not.mpr hgroup)]

/-- PWR_MARGIN of a slot that is GOOD, may be margined now and is not being trimmed (R278): nominal, PMBus or trim. -/
theorem exec_pwrMargin_taken (h : Runs 0x0103 3 q s w t) (hk : k.toNat ≤ 31)
    (hrange : marginRange t k.toNat d.toNat p.toNat = true) (hgood : (t.rail k.toNat).st = .good)
    (hidle : 8 ≤ k.toNat → k.toNat < 28 → t.layer.st = .idle) (hmode : t.pv 0x011A k.toNat ≠ 0) (hw : (t.rail k.toNat).w = none) :
    exec (.pwrMargin q k d p) s = .next (finish w
      (if d.toNat = 0 then done (marginNominal t k.toNat)
      else if t.pv 0x011A k.toNat = 1 then
        if (t.rail k.toNat).voutMode.toNat / 32 ≠ 0 then refuse t 0x0104
        else done (marginPmbus (t.onRail k.toNat fun r => { r with
            margin := some (divHalfUp (marginTarget t k.toNat d.toNat p.toNat) 1000, d.toNat == 1) }) k.toNat d.toNat
          (marginCode (marginTarget t k.toNat d.toNat p.toNat) (t.rail k.toNat).voutMode))
      else .later (t.onRail k.toNat fun r => { r with
        margin := some (divHalfUp (marginTarget t k.toNat d.toNat p.toNat) 1000, d.toNat == 1), w := some w }))) := by
  have hstate : ¬ ((t.rail k.toNat).st ≠ .good ∨ (8 ≤ k.toNat ∧ k.toNat < 28 ∧ t.layer.st ≠ .idle) ∨ t.pv 0x011A k.toNat = 0) := by
    rintro (hst | ⟨hlo, hhi, hst⟩ | hm)
    · exact hst hgood
    · exact hst (hidle hlo hhi)
    · exact hmode hm
  change execPwrMargin q k d p s = _
  rw [execPwrMargin, request_ok h]
  dsimp only
  rw [if_neg (Nat.not_lt.mpr hk), if_neg (by simp [hrange]), if_neg hstate, if_neg (by simp [hw])]

/-- PWR_RAIL_STATUS of a slot (Table PWR-8). -/
theorem exec_pwrRailStatus (h : Runs 0x0104 1 q s w t) (hk : k.toNat ≤ 31) :
    exec (.pwrRailStatus q k) s = .next (answer t w sOK (le 1 (railCode (t.rail k.toNat).st) ++ le 2 (t.rail k.toNat).mv.toNat
      ++ le 1 ((t.rail k.toNat).attempts - 1) ++ le 2 (t.rail k.toNat).vout.toNat ++ le 2 (t.rail k.toNat).iout.toNat)) := by
  change execPwrRailStatus q k s = _
  rw [execPwrRailStatus, request_ok h]
  dsimp only
  rw [if_neg (Nat.not_lt.mpr hk), finish_now]

end

/-- Settles O31: in the state that the checks of a request leave, each clause's premises pick one branch of its body. -/
theorem powerRequestsComplete : Obligations.PowerRequestsComplete := by
  refine ⟨?_, ?_, ?_, ?_, ?_, ?_, ?_, ?_⟩
  · exact fun _ _ _ _ _ => exec_pwrState_applies
  · intro q s w t k h hlo hhi hgroup hdrive hc4
    rw [exec_pwrRail_groupZero h hlo hhi (by decide) hgroup, if_pos ⟨rfl, hdrive, hc4⟩, finish_refuse]
  · intro q s w t k h hlo hhi hgroup hfree
    have hallowed : ¬ ((1 : Byte) = 1 ∧ driveSlot k.toNat = true ∧ t.flt.c4.isSome = true) := by
      rintro ⟨-, hdrive, hc4⟩
      obtain hd | hc := hfree
      · exact absurd hdrive (by simp [hd])
      · exact absurd hc4 (by simp [hc])
    rw [exec_pwrRail_groupZero h hlo hhi (by decide) hgroup, if_neg hallowed, if_pos rfl, finish_done]
  · intro q s w t k h hlo hhi hgroup
    rw [exec_pwrRail_groupZero h hlo hhi (by decide) hgroup, if_neg (fun hon => absurd hon.1 (by decide)), if_neg (by decide),
      finish_done]
  · intro q s w t k p h hk hrange hgood hidle hmode hw
    rw [exec_pwrMargin_taken (d := 0) h hk hrange hgood hidle hmode hw, if_pos (by rfl), finish_done]
  · intro q s w t k d p h hk hd hrange hgood hidle hmode hw hlinear
    rw [exec_pwrMargin_taken h hk hrange hgood hidle (by simp [hmode]) hw, if_neg (by omega), if_pos hmode, if_neg (by omega),
      finish_done]
  · intro q s w t k d p h hk hd hrange hgood hidle hmode hw
    rw [exec_pwrMargin_taken h hk hrange hgood hidle (by omega) hw, if_neg (by omega), if_neg (by omega), finish_later]
  · exact fun _ _ _ _ _ => exec_pwrRailStatus

/-! ### PMBus accesses without acknowledgement -/

section
variable {s : State} {k : Nat}

/-- A slot after a change of it. -/
theorem rail_onRail_same {f : Rail → Rail} (hk : k < s.pwr.rails.length) : (s.onRail k f).rail k = f (s.rail k) := by
  simp [State.rail, State.onRail, hk]

/-- Two changes of a slot are one. -/
theorem onRail_onRail (f g : Rail → Rail) : (s.onRail k f).onRail k g = s.onRail k (g ∘ f) := by
  simp [State.onRail, List.modify_modify_eq]

/-- What PMBus reads leave of the rails. -/
@[simp] theorem pmbusRead_pwr (codes : List Byte) : (pmbusRead s k codes).pwr = s.pwr := by
  unfold pmbusRead
  split <;> rfl

/-- An access that goes without acknowledgement and is not the third in a row is counted (Table PWR-4). -/
theorem pmbusNoAck_counts {n : Nat} (hn : (s.rail k).noAck = n) (hfew : n < 2) :
    pmbusNoAck s k = s.onRail k fun r => { r with noAck := n + 1 } := by
  have hnot : ¬ 3 ≤ n + 1 := by omega
  simp only [pmbusNoAck, hn, if_neg hnot]

/-- The third in a row raises 0x006 (Table PWR-4). -/
theorem pmbusNoAck_raises (hn : (s.rail k).noAck = 2) :
    pmbusNoAck s k = raise (s.onRail k fun r => { r with noAck := 0 })
      0x006 (railData (s.onRail k fun r => { r with noAck := 0 }) k) false := by
  have hthree : 3 ≤ 2 + 1 := by omega
  simp only [pmbusNoAck, hn, if_pos hthree]

/-- The three accesses of one event raise 0x006 when none was counted before (Table PWR-4). -/
theorem pmbusMiss_raises (hk : k < s.pwr.rails.length) (hn : (s.rail k).noAck = 0) :
    pmbusMiss s k = raise (s.onRail k fun r => { r with noAck := 0 }) 0x006 (railData s k) false := by
  have hone : ((s.onRail k fun r => { r with noAck := 1 }).rail k).noAck = 1 := by rw [rail_onRail_same hk]
  have htwo : ((s.onRail k fun r => { r with noAck := 2 }).rail k).noAck = 2 := by rw [rail_onRail_same hk]
  have hdata : railData (s.onRail k fun r => { r with noAck := 0 }) k = railData s k := by
    rw [railData, railData, rail_onRail_same hk]
  rw [pmbusMiss, pmbusNoAck_counts hn (by decide), pmbusNoAck_counts hone (by decide), onRail_onRail, Function.comp_def,
    pmbusNoAck_raises htwo, onRail_onRail, Function.comp_def, hdata]

end

/-! ### Events of the rails -/

section
variable {dt : Nat} {s u : State} {k : Fin 32} {mv y o z : U16} {vm v i : Byte} {w : Waiting} {x : BitVec 12} {reached : Bool}
variable (hu : s.pass dt = u)
include hu

/-- RAIL_DELAY_ELAPSED in WAIT, with the slots it depends on GOOD and no C4 latch on it (Table PWR-2, R274). -/
theorem exec_railDelayElapsed_fires (hst : (u.rail k).st = .wait) (hdeps : u.depsGood k = true) (hfree : latchedOff u k = false) :
    exec (.railDelayElapsed dt k) s = .next (enableSlot u k) := by
  change execRailDelayElapsed dt k s = _
  rw [execRailDelayElapsed, event_fires hu (by simp [hst, hdeps, hfree])]

/-- RAIL_GOOD in RAMP (Table PWR-2). -/
theorem exec_railGood_fires (hst : (u.rail k).st = .ramp) :
    exec (.railGood dt k mv vm) s = .next (settlePower (pmbusRead (u.onRail k fun r => { r with
      st := .good, mv := mv, voutMode := vm, noAck := 0 }) k [0x20])) := by
  change execRailGood dt k mv vm s = _
  rw [execRailGood, event_fires hu (by simp [hst])]

/-- RAIL_PG_TIMEOUT in RAMP: RETRY, and FAILED after the third attempt (Table PWR-2). -/
theorem exec_railPgTimeout_fires (hst : (u.rail k).st = .ramp) :
    exec (.railPgTimeout dt k) s = .next
      (if (u.rail k).attempts < 3 then u.onRail k fun r => { r with st := .retry } else railFailed u k) := by
  change execRailPgTimeout dt k s = _
  rw [execRailPgTimeout, event_fires hu (by simp [hst])]

/-- RAIL_DECAYED in RETRY is the next attempt, in DECAY the end (Table PWR-2). -/
theorem exec_railDecayed_fires (hst : (u.rail k).st = .retry ∨ (u.rail k).st = .decay) :
    exec (.railDecayed dt k mv) s = .next (if (u.rail k).st = .retry
      then enableSlot (u.onRail k fun r => { r with mv := mv }) k else railOff (u.onRail k fun r => { r with mv := mv }) k) := by
  change execRailDecayed dt k mv s = _
  rw [execRailDecayed, event_fires hu (by simpa using hst)]

/-- RAIL_DECAY_TIMEOUT in RETRY is the next attempt, in DECAY the end with 0x005 (R270, R273). -/
theorem exec_railDecayTimeout_fires (hst : (u.rail k).st = .retry ∨ (u.rail k).st = .decay) :
    exec (.railDecayTimeout dt k) s = .next (if (u.rail k).st = .retry
      then enableSlot u k else raise (railOff u k) 0x005 (railData u k) false) := by
  change execRailDecayTimeout dt k s = _
  rw [execRailDecayTimeout, event_fires hu (by simpa using hst)]

/-- RAIL_LOST of a slot that was GOOD; without RAIL00 to RAIL03 a running self-test ends (R272; 18 R376). -/
theorem exec_railLost_fires (hon : u.mainOn = true ∨ u.flt.initLow = true) (hst : (u.rail k).st = .good) :
    exec (.railLost dt k mv) s = .next (if u.bist.running && decide (k.val < 4)
      then interruptTest (raise (dropLost u k mv) (lostSource u k) (railData u k) false)
      else raise (dropLost u k mv) (lostSource u k) (railData u k) false) := by
  change execRailLost dt k mv s = _
  rw [execRailLost, event_fires hu (by simpa [hst] using hon)]

/-- RAIL_OVERVOLTAGE of a tile-lane slot that is GOOD (R272). -/
theorem exec_railOvervoltage_fires (hmain : u.mainOn = true) (hlo : 8 ≤ k.val) (hhi : k.val < 28) (hst : (u.rail k).st = .good) :
    exec (.railOvervoltage dt k mv) s =
      .next (raise (raise (dropLost u k mv) (lostSource u k) (railData u k) false) 0x004 (railData u k) false) := by
  change execRailOvervoltage dt k mv s = _
  rw [execRailOvervoltage, event_fires hu (by simp [hmain, hlo, hhi, hst])]

/-- PMBUS_ALERT with the status registers read: a fault bit raises 0x007 (Table PWR-4). -/
theorem exec_pmbusAlert_reads (hmain : u.mainOn = true) (hbus : u.pv 0x011B k ≠ 0) :
    exec (.pmbusAlert dt k (some (y, v, i))) s = .next (if pmbusFault v i
      then raise (pmbusRead ((pmbusRead u k [0x79, 0x7A, 0x7B]).onRail k fun r => { r with noAck := 0 }) k [0x03])
        0x007 (railData ((pmbusRead u k [0x79, 0x7A, 0x7B]).onRail k fun r => { r with noAck := 0 }) k) false
      else (pmbusRead u k [0x79, 0x7A, 0x7B]).onRail k fun r => { r with noAck := 0 }) := by
  change execPmbusAlert dt k (some (y, v, i)) s = _
  rw [execPmbusAlert, event_fires hu (by simp [hmain, hbus])]

/-- PMBUS_ALERT without any acknowledgement (Table PWR-4). -/
theorem exec_pmbusAlert_misses (hmain : u.mainOn = true) (hbus : u.pv 0x011B k ≠ 0) :
    exec (.pmbusAlert dt k none) s = .next (pmbusMiss (pmbusRead u k [0x79, 0x7A, 0x7B]) k) := by
  change execPmbusAlert dt k none s = _
  rw [execPmbusAlert, event_fires hu (by simp [hmain, hbus])]

/-- PMBUS_POLL with its readings (Table PWR-4). -/
theorem exec_pmbusPoll_reads (hmain : u.mainOn = true) (hbus : u.pv 0x011B k ≠ 0) :
    exec (.pmbusPoll dt k (some (y, o, z))) s = .next ((pmbusRead u k [0x8B, 0x8C, 0x8D]).onRail k
      fun r => { r with vout := y, iout := o, temp := z, noAck := 0 }) := by
  change execPmbusPoll dt k (some (y, o, z)) s = _
  rw [execPmbusPoll, event_fires hu (by simp [hmain, hbus])]

/-- PMBUS_POLL without any acknowledgement (Table PWR-4). -/
theorem exec_pmbusPoll_misses (hmain : u.mainOn = true) (hbus : u.pv 0x011B k ≠ 0) :
    exec (.pmbusPoll dt k none) s = .next (pmbusMiss (pmbusRead u k [0x8B, 0x8C, 0x8D]) k) := by
  change execPmbusPoll dt k none s = _
  rw [execPmbusPoll, event_fires hu (by simp [hmain, hbus])]

/-- MARGIN_TRIM_DONE of a trim that a command waits for (R278). -/
theorem exec_marginTrimDone_fires (hmain : u.mainOn = true)
    (hw : (u.rail k).w = some w) : exec (.marginTrimDone dt k reached x) s = .next
      (if reached then answer (u.onRail k fun r => { r with w := none, trim := x }) w 0 [] else endMargin u k) := by
  change execMarginTrimDone dt k reached x s = _
  rw [execMarginTrimDone, event_fires hu (by simp [hmain, hw]), hw]

end

/-- Clearing a slot's count of missed accesses leaves its event data. -/
theorem railData_pmbusRead {s : State} {k : Nat} {codes : List Byte} : railData (pmbusRead s k codes) k = railData s k := by
  simp [railData, State.rail]

theorem railData_onRail_noAck {s : State} {k : Nat} :
    railData (s.onRail k fun r => { r with noAck := 0 }) k = railData s k := by
  simp only [railData, State.rail, State.onRail, List.getD_eq_getElem?_getD, List.getElem?_modify]
  cases s.pwr.rails[k]? <;> rfl

/-- Settles O32: each clause's premises are the event's condition, and pick the branch of its effect. -/
theorem railEventsComplete : Obligations.RailEventsComplete := by
  refine ⟨?_, ?_, ?_, ?_, ?_, ?_, ?_, ?_, ?_, ?_, ?_, ?_, ?_, ?_, ?_, ?_, ?_, ?_⟩
  · exact fun _ _ _ _ => exec_railDelayElapsed_fires
  · exact fun _ _ _ _ _ _ => exec_railGood_fires
  · intro dt s u k hu hst hfew
    rw [exec_railPgTimeout_fires hu hst, if_pos hfew]
  · intro dt s u k hu hst hthree
    rw [exec_railPgTimeout_fires hu hst, if_neg (Nat.not_lt.mpr hthree)]
  · intro dt s u k mv hu hst
    rw [exec_railDecayed_fires hu (.inl hst), if_pos hst]
  · intro dt s u k mv hu hst
    rw [exec_railDecayed_fires hu (.inr hst), if_neg (by simp [hst])]
  · intro dt s u k hu hst
    rw [exec_railDecayTimeout_fires hu (.inl hst), if_pos hst]
  · intro dt s u k hu hst
    rw [exec_railDecayTimeout_fires hu (.inr hst), if_neg (by simp [hst])]
  · intro dt s u k mv hu hon hst hidle
    rw [exec_railLost_fires hu hon hst, if_neg]
    obtain hr | hk := hidle
    · simp [hr]
    · simp [hk]
  · intro dt s u k mv hu hon hst hrunning hk
    rw [exec_railLost_fires hu hon hst, if_pos (by simp [hrunning, hk])]
  · exact fun _ _ _ _ _ => exec_railOvervoltage_fires
  · intro dt s u k x v i hu hmain hbus hfault
    rw [exec_pmbusAlert_reads hu hmain hbus, if_pos hfault, railData_onRail_noAck, railData_pmbusRead]
  · intro dt s u k x v i hu hmain hbus hgood
    rw [exec_pmbusAlert_reads hu hmain hbus, if_neg (ne_true_of_eq_false hgood)]
  · exact fun _ _ _ _ _ _ _ => exec_pmbusPoll_reads
  · intro dt s u k hu hmain hbus hk hn
    rw [exec_pmbusPoll_misses hu hmain hbus, pmbusMiss_raises (by simpa using hk) (by simpa [State.rail] using hn), railData_pmbusRead]
  · intro dt s u k hu hmain hbus hk hn
    rw [exec_pmbusAlert_misses hu hmain hbus, pmbusMiss_raises (by simpa using hk) (by simpa [State.rail] using hn),
      railData_pmbusRead]
  · intro dt s u k w x hu hmain hw
    rw [exec_marginTrimDone_fires hu hmain hw, if_pos rfl]
  · intro dt s u k w x hu hmain hw
    rw [exec_marginTrimDone_fires hu hmain hw, if_neg (by decide)]

end Sys2Proof.Proofs.Power
end

section
/-!
PROOFS. The Stageline family (13_power_stageline): the master's requests (R281 to R283, Table PWR-8) and the events of the
Stageline (R279 to R283, Table PWR-6; 14 R300).
-/

namespace Sys2Proof.Proofs.Stageline

open Sys2Proof.Machine Sys2Proof.Safety Sys2Proof.Proofs.LayerCycle

-- Off, because every lemma's own thread reserves a stack.
set_option Elab.async false

/-! ### Requests of the master -/

section
variable {q : Req} {s t : State} {w : Waiting}

/-- PWR_STAGE_CLAIM with no claim in progress: the holder of the token keeps it, another node begins to claim (R282). -/
theorem exec_pwrStageClaim_free {f : Byte} (h : Runs 0x0105 1 q s w t) (hf : f.toNat ≤ 1)
    (hclaim : t.stage.master = true ∨ t.stage.claim = none) :
    exec (.pwrStageClaim q f) s =
      .next (if t.stage.master then answer t w sOK [] else startClaim t (f == 1) (some w)) := by
  change execPwrStageClaim q f s = _
  rw [execPwrStageClaim, request_ok h, if_neg (Nat.not_lt.mpr hf)]
  split
  · rfl
  · next hm => rw [if_neg (by simp [hclaim.resolve_left hm]), finish_later]

/-- PWR_STAGE_RELEASE by the holder of the token (Table PWR-8). -/
theorem exec_pwrStageRelease_yields (h : Runs 0x0106 0 q s w t) (hm : t.stage.master = true) :
    exec (.pwrStageRelease q) s = .next (answer (yieldToken t) w sOK []) := by
  change execPwrStageRelease q s = _
  rw [execPwrStageRelease, request_ok h, if_neg (by simp [hm]), finish_done]

/-- PWR_STAGE_DISCOVER waits for the frames of the ports that have a partner (R281). -/
theorem exec_pwrStageDiscover_asks {l : List (Option Nat)} (h : Runs 0x0107 0 q s w t) (hm : t.stage.master = true)
    (hd : t.stage.discover = none) (hl : ([0, 1].map fun p => if (t.stagePort p).up then none else some 0) = l) :
    exec (.pwrStageDiscover q) s = .next (turnedStep ((if l.contains none then ask t 0x3FF 1 [] else sendBoth t 0x3FF 1 0 []).onStage
      fun g => { g with discover := some w, turned := l })) := by
  subst hl
  change execPwrStageDiscover q s = _
  rw [execPwrStageDiscover, request_ok h, if_neg (by simp [hm]), if_neg (by simp [hd]), finish_later]

/-- PWR_STAGE_SEQ for a range of nodes: the wake pattern first, but for a shut-down (R283). -/
theorem exec_pwrStageSeq_sends {a : Byte} {first last us : U16} {at_ : U64} {p : List Byte} (h : Runs 0x0108 15 q s w t)
    (hm : t.stage.master = true) (hlo : 1 ≤ a.toNat) (hhi : a.toNat ≤ 3) (horder : first.toNat ≤ last.toNat)
    (hlast : last.toNat ≤ 511) (hp : le 1 a.toNat ++ le 2 first.toNat ++ le 2 last.toNat ++ le 8 at_.toNat ++ le 2 us.toNat = p) :
    exec (.pwrStageSeq q a first last at_ us) s = .next (answer
      (hearSeq (sendBoth (if a.toNat < 3 then t.send (.stageMarker true true 2) else t) 0x3FF 6 0 p) p) w sOK []) := by
  subst hp
  change execPwrStageSeq q a first last at_ us s = _
  rw [execPwrStageSeq, request_ok h]
  dsimp only
  rw [if_neg (by simp [hm]), if_neg (by omega), finish_done]

/-- PWR_STAGE_START for a time that has not passed (R283). -/
theorem exec_pwrStageStart_sends {at_ : U64} (h : Runs 0x0109 8 q s w t) (hm : t.stage.master = true) (hat : t.now64 ≤ at_.toNat) :
    exec (.pwrStageStart q at_) s = .next (answer ((sendBoth t 0x3FF 8 0 (le 8 at_.toNat)).onStage fun g => { g with
      startAt := some (ofTime64 (fieldAt (le 8 at_.toNat) 0 8)) }) w sOK []) := by
  change execPwrStageStart q at_ s = _
  rw [execPwrStageStart, request_ok h]
  dsimp only
  rw [if_neg (by simp [hm]), if_neg (Nat.not_lt.mpr hat), finish_done, hearStart]

end

/-- Settles O34: in the state that the checks of a request leave, each clause's premises pick one branch of its body. -/
theorem stagelineRequestsComplete : Obligations.StagelineRequestsComplete := by
  refine ⟨?_, ?_, ?_, ?_, ?_, ?_, ?_, ?_⟩
  · intro q s w t f h hf hm hclaim
    rw [exec_pwrStageClaim_free h hf (.inr hclaim), if_neg (ne_true_of_eq_false hm)]
  · intro q s w t f h hf hm
    rw [exec_pwrStageClaim_free h hf (.inl hm), if_pos hm]
  · exact fun _ _ _ _ => exec_pwrStageRelease_yields
  · intro q s w t h hm hd hup
    rw [exec_pwrStageDiscover_asks h hm hd rfl, if_pos]
    obtain hup | hup := hup <;> simp [hup]
  · intro q s w t h hm hd ha hb
    rw [exec_pwrStageDiscover_asks (l := [some 0, some 0]) h hm hd (by simp [ha, hb]), if_neg (by decide)]
  · intro q s w t a first last at_ us p h hm hlo hhi horder hlast hp
    rw [exec_pwrStageSeq_sends h hm hlo (by omega) horder hlast hp, if_pos (by omega)]
  · intro q s w t first last at_ us p h hm horder hlast hp
    rw [exec_pwrStageSeq_sends (a := 3) h hm (by decide) (by decide) horder hlast hp, if_neg (by decide)]
  · exact fun _ _ _ _ _ => exec_pwrStageStart_sends

/-! ### Events -/

section
variable {dt a t0 n : Nat} {s u v : State} {p : Fin 2} {f : StageFrame} {r : StageReq} {rest : List StageReq} {force : Bool}
  {w : Option Waiting}
variable (hu : s.pass dt = u)
include hu

/-- STAGELINE_FRAME_RX, as Porter hears it alone or with Main awake (R277, R279). -/
theorem exec_stagelineFrameRx_fires (hoff : u.power ≠ .off) (hidle : u.bist.running = false) :
    exec (.stagelineFrameRx dt p f) s = .next (if u.power = .porter then porterRx u p f else stageRx u p f) := by
  change execStagelineFrameRx dt p f s = _
  rw [execStagelineFrameRx, event_fires hu (by simp [hoff, hidle])]

/-- NEIGHBOUR_SEND (R280). -/
theorem exec_neighbourSend_fires (hon : u.stageOn = true) :
    exec (.neighbourSend dt p) s = .next (sendNeighbour u p false) := by
  change execNeighbourSend dt p s = _
  rw [execNeighbourSend, event_fires hu hon]

/-- NODE_ZERO_TIMEOUT of a node without a number: its fixed number, or 0 where port A has no partner (R280). -/
theorem exec_nodeZeroTimeout_fires (hon : u.stageOn = true) (hnode : u.stage.node = none)
    (hn : (if u.pv 0x0140 0 = 1 then u.pv 0x0141 0 else 0) = n) (hfirst : u.pv 0x0140 0 = 1 ∨ (u.stagePort 0).partner = none) :
    exec (.nodeZeroTimeout dt) s = .next (u.onStage fun g => { g with
      node := some n, autoClaim := decide (n = 0) && u.pv 0x0142 0 == 1 }) := by
  subst hn
  change execNodeZeroTimeout dt s = _
  rw [execNodeZeroTimeout, event_fires hu (by simpa [hon, hnode] using hfirst)]

/-- SWEEP_SEND by the holder of the token (R281). -/
theorem exec_sweepSend_fires (hon : u.stageOn = true) (hm : u.stage.master = true) (hy : u.stage.yielding = false) :
    exec (.sweepSend dt) s = .next (sendBoth u 0x3FF 0 0 (List.replicate 64 0)) := by
  change execSweepSend dt s = _
  rw [execSweepSend, event_fires hu (by simp [hon, hm, hy])]

/-- STAGE_REQUEST_TIMEOUT of a request sent fewer than three times again: sent once more (R281). -/
theorem exec_stageRequestTimeout_resends (hon : u.stageOn = true) (hm : u.stage.master = true) (hr : u.stage.reqs = r :: rest)
    (hfew : r.attempt < 3)
    (hv : (sendBoth u r.frame.dst.toNat r.frame.type.toNat (2 * (r.attempt + 1)) r.frame.payload).onStage
      (fun g => { g with reqs := rest ++ [{ r with attempt := r.attempt + 1 }] }) = v) :
    exec (.stageRequestTimeout dt) s = .next (if r.attempt + 1 = 3
      then raise (v.onStage fun g => { g with reserveUses := g.reserveUses + 1 }) 0x016 r.frame.dst.toNat false else v) := by
  subst hv
  change execStageRequestTimeout dt s = _
  rw [execStageRequestTimeout, event_fires hu (by simp [hon, hm, hr]), hr]
  dsimp only
  rw [if_pos hfew]

/-- STAGE_REQUEST_TIMEOUT of a request sent three times again: its node is unreachable (R281). -/
theorem exec_stageRequestTimeout_givesUp (hon : u.stageOn = true) (hm : u.stage.master = true) (hr : u.stage.reqs = r :: rest)
    (hthree : 3 ≤ r.attempt) (hv : raise (u.onStage fun g => { g with reqs := rest }) 0x017 r.frame.dst.toNat false = v) :
    exec (.stageRequestTimeout dt) s = .next (settleYield
      (if r.frame.type = 2 then identStep v else if r.frame.type = 1 then endDiscover v sNotPresent else v)) := by
  subst hv
  change execStageRequestTimeout dt s = _
  rw [execStageRequestTimeout, event_fires hu (by simp [hon, hm, hr]), hr]
  dsimp only
  rw [if_neg (Nat.not_lt.mpr hthree)]

/-- CLAIM_WINDOW_END of a claim (R282). -/
theorem exec_claimWindowEnd_fires (hon : u.stageOn = true) (hclaim : u.stage.claim.isSome = true) :
    exec (.claimWindowEnd dt) s = .next (endClaim (endSourceLoss (u.onStage fun g => { g with master := true })) 0) := by
  change execClaimWindowEnd dt s = _
  rw [execClaimWindowEnd, event_fires hu (by simp [hon, hclaim])]

/-- CLAIM_COLLISION_RESEND, at most three times (R282). -/
theorem exec_claimCollisionResend_fires (hon : u.stageOn = true) (hclaim : u.stage.claim = some (force, w, n)) (hfew : n < 3) :
    exec (.claimCollisionResend dt) s =
      .next ((sendBoth u 0x3FF 4 0 (claimPayload force)).onStage fun g => { g with claim := some (force, w, n + 1) }) := by
  change execClaimCollisionResend dt s = _
  rw [execClaimCollisionResend, event_fires hu (by simp [hon, hclaim, hfew]), hclaim]

/-- MASTER_LOST of a node that has heard no SWEEP for three periods (R282; 14 R300). -/
theorem exec_masterLost_fires (hon : u.stageOn = true) (hm : u.stage.master = false)
    (hdue : u.stage.sweepAt + 3 * u.pv 0x0143 0 * msU ≤ u.time) (hv : raise u 0x014 (nodeN u.stage) true = v) :
    exec (.masterLost dt) s = .next ((if v.clk.srcLost then v else enterHoldover v).onStage fun g => { g with
      autoClaim := (if v.clk.srcLost then v else enterHoldover v).pv 0x0142 0 == 1 && g.node.isSome }) := by
  subst hv
  change execMasterLost dt s = _
  rw [execMasterLost, event_fires hu (by simp [hon, hm, hdue])]

/-- AUTO_CLAIM (R282). -/
theorem exec_autoClaim_fires (hon : u.stageOn = true) (hauto : u.stage.autoClaim = true) (hm : u.stage.master = false)
    (hclaim : u.stage.claim = none) : exec (.autoClaim dt) s = .next (startClaim u false none) := by
  change execAutoClaim dt s = _
  rw [execAutoClaim, event_fires hu (by simp [hon, hauto, hm, hclaim])]

/-- SEQ_APPLY of a target whose time has come (R283). -/
theorem exec_seqApply_fires (hon : u.stageOn = true) (hseq : u.stage.seq = some (a, t0)) (hdue : t0 ≤ u.time) :
    exec (.seqApply dt) s = .next (applySeq u a) := by
  change execSeqApply dt s = _
  rw [execSeqApply, event_fires hu (by simp [hon, hseq, hdue]), hseq, Option.map_some, Option.getD_some]

/-- STAGE_LINK_DOWN of a port that was up (Table PWR-6). -/
theorem exec_stageLinkDown_fires (hon : u.stageOn = true) (hup : (u.stagePort p).up = true) :
    exec (.stageLinkDown dt p) s = .next (raise (u.onStage fun g => { g with ports := g.ports.modify p fun _ => {} })
      (0x010 + p) p true) := by
  change execStageLinkDown dt p s = _
  rw [execStageLinkDown, event_fires hu (by simp [hon, hup])]

end

section
variable {s : State}

/-- A token that no forced claim asks for stays (R282). -/
theorem settleYield_keeps (hy : s.stage.yielding = false) : settleYield s = s := by
  rw [settleYield, if_neg (by simp [hy])]

/-- A forced claim has the token once no request is in flight (R282). -/
theorem settleYield_yields (hy : s.stage.yielding = true) (hr : s.stage.reqs = []) : settleYield s = yieldToken s := by
  rw [settleYield, if_pos (by simp [hy, hr])]

end

/-- Settles O35: each clause's premises are the event's condition, and pick the branch of its effect. -/
theorem stagelineEventsComplete : Obligations.StagelineEventsComplete := by
  refine ⟨?_, ?_, ?_, ?_, ?_, ?_, ?_, ?_, ?_, ?_, ?_, ?_, ?_, ?_, ?_, ?_, ?_, ?_⟩
  · intro dt s u p f hu hp hidle
    rw [exec_stagelineFrameRx_fires hu (by simp [hp]) hidle, if_pos hp]
  · intro dt s u p f hu hp hoff hidle
    rw [exec_stagelineFrameRx_fires hu hoff hidle, if_neg hp]
  · exact fun _ _ _ _ => exec_neighbourSend_fires
  · intro dt s u hu hon hnode hfixed
    exact exec_nodeZeroTimeout_fires hu hon hnode (if_pos hfixed) (.inl hfixed)
  · intro dt s u hu hon hnode hfixed hpartner
    exact exec_nodeZeroTimeout_fires hu hon hnode (if_neg hfixed) (.inr hpartner)
  · exact fun _ _ _ => exec_sweepSend_fires
  · intro dt s u r rest hu hon hm hr hfew
    rw [exec_stageRequestTimeout_resends hu hon hm hr (by omega) rfl, if_neg (by omega)]
  · intro dt s u r rest hu hon hm hr htwo
    rw [exec_stageRequestTimeout_resends hu hon hm hr (by omega) rfl, if_pos (by omega), htwo]
    rfl
  · rintro dt s u _ r rest hu hon hm hr hthree htype rfl hy
    rw [exec_stageRequestTimeout_givesUp hu hon hm hr hthree rfl, if_neg (by simp [htype]), if_pos htype, settleYield_keeps hy]
  · rintro dt s u _ r rest hu hon hm hr hthree htype rfl hy hreqs
    rw [exec_stageRequestTimeout_givesUp hu hon hm hr hthree rfl, if_neg (by simp [htype]), if_neg (by simp [htype]),
      settleYield_yields hy hreqs]
  · rintro dt s u _ r rest hu hon hm hr hthree htype rfl hy
    rw [exec_stageRequestTimeout_givesUp hu hon hm hr hthree rfl, if_pos htype, settleYield_keeps hy]
  · rintro dt s u _ r rest hu hon hm hr hthree htype rfl hy
    rw [exec_stageRequestTimeout_givesUp hu hon hm hr hthree rfl, if_neg (by simp [htype]), if_neg (by simp [htype]),
      settleYield_keeps hy]
  · exact fun _ _ _ => exec_claimWindowEnd_fires
  · exact fun _ _ _ _ _ _ => exec_claimCollisionResend_fires
  · exact fun _ _ _ hu hon hm hdue => ⟨_, rfl, exec_masterLost_fires hu hon hm hdue rfl⟩
  · exact fun _ _ _ => exec_autoClaim_fires
  · exact fun _ _ _ _ _ => exec_seqApply_fires
  · exact fun _ _ _ _ => exec_stageLinkDown_fires

end Sys2Proof.Proofs.Stageline
end

section
/-!
PROOFS. The clock family (14_clocks_time): the clock requests (R303, R304, Table CLK-7), and the events of the reference, the
PLLs and time (R288 to R303).
-/

namespace Sys2Proof.Proofs.Clocks

open Sys2Proof.Machine Sys2Proof.Safety Sys2Proof.Proofs.LayerCycle

-- Off, because every lemma's own thread reserves a stack.
set_option Elab.async false

/-! ### Requests -/

section
variable {q : Req} {s t : State} {w : Waiting}

/-- CLK_TIME_GET (Table CLK-7). -/
theorem exec_clkTimeGet (h : Runs 0x0201 0 q s w t) :
    exec (.clkTimeGet q) s = .next (answer t w sOK
      (le 8 (time64 t.time) ++ calendar t ++ le 4 (t.time / 256 % 1000000000) ++ leI 2 t.clk.taiUtc ++ le 1 (clkStatusN t.clk))) := by
  change execClkTimeGet q s = _
  rw [execClkTimeGet, request_ok h]
  rfl

/-- CLK_TIME_SET of a date that exists, on a node that keeps its own time, in IDLE (R304). -/
theorem exec_clkTimeSet_steps {y : U16} {mo d h mi sec rsv : Byte} {ns : U32} (hruns : Runs 0x0202 12 q s w t)
    (hdate : dateOk y.toNat mo.toNat d.toNat h.toNat mi.toNat sec.toNat = true) (hns : ns.toNat ≤ 999999999)
    (hsrc : t.timeSrc = 0) (hidle : t.layer.st = .idle) :
    exec (.clkTimeSet q y mo d h mi sec rsv ns) s = .next (answer { t with clk := { t.clk with
      step := some ((((dateDays y.toNat mo.toNat d.toNat * 86400 + h.toNat * 3600 + mi.toNat * 60 + sec.toNat : Nat) + t.clk.taiUtc) * secU
          + (ns.toNat * nsU : Nat)) - t.time) } } w sOK []) := by
  change execClkTimeSet q y mo d h mi sec rsv ns s = _
  rw [execClkTimeSet, request_ok hruns]
  dsimp only
  rw [if_neg (by simp [hdate]), if_neg (Nat.not_lt.mpr hns), if_neg (not_not.mpr hsrc), if_neg (not_not.mpr hidle), finish_done]

/-- CLK_LEAP_SET of an offset in range for a time that has not passed (R303). -/
theorem exec_clkLeapSet_accepted {off : U16} {at_ : U64} (h : Runs 0x0203 10 q s w t) (hlo : 0 ≤ off.toInt)
    (hhi : off.toInt ≤ 1000) (hat : time64 t.time ≤ at_.toNat) :
    exec (.clkLeapSet q off at_) s = .next (answer { t with clk := { t.clk with leap := some (off.toInt, at_.toNat) } } w sOK []) := by
  have hlate : ¬ at_.toNat < t.now64 := Nat.not_lt.mpr hat
  change execClkLeapSet q off at_ s = _
  rw [execClkLeapSet, request_ok h, if_neg (by omega), if_neg hlate, finish_done]

/-- CLK_STATUS (Table CLK-7). -/
theorem exec_clkStatus (h : Runs 0x0204 0 q s w t) :
    exec (.clkStatus q) s = .next (answer t w sOK
      (le 1 t.timeSrc ++ le 1 (clkStatusN t.clk) ++ leI 8 t.clk.offsetPs ++ leI 4 t.clk.freqCorr
        ++ le 4 (t.clk.segDelay.getD 0 0) ++ le 4 (t.clk.segDelay.getD 1 0) ++ (t.clk.plls.flatMap fun p => le 1 p.band.toNat))) := by
  change execClkStatus q s = _
  rw [execClkStatus, request_ok h, finish_now]

end

/-- Settles O21: in the state that the checks of a request leave, each clause's premises pick one branch of its body. -/
theorem clockRequestsComplete : Obligations.ClockRequestsComplete := by
  refine ⟨?_, ?_, ?_, ?_⟩
  · exact fun _ _ _ _ => exec_clkTimeGet
  · exact fun _ _ _ _ _ _ _ _ _ _ _ _ => exec_clkTimeSet_steps
  · exact fun _ _ _ _ _ _ => exec_clkLeapSet_accepted
  · exact fun _ _ _ _ => exec_clkStatus

/-! ### The reference and the PLLs -/

section
variable {dt : Nat} {s u v : State} {k : Fin 5} {band : BitVec 6} {good : Bool}
variable (hu : s.pass dt = u)
include hu

/-- REFERENCE_NOT_READY with neither reference in use (R288). -/
theorem exec_referenceNotReady_fires (hmain : u.mainOn = true) (hfallback : u.clk.refFallback = false)
    (hcrystal : u.clk.refCrystal = false) :
    exec (.referenceNotReady dt) s = .next (raise { u with clk := { u.clk with
      plls := u.clk.plls.mapIdx fun k p => if k = 0 then p else { p with locked := false }
      phaseAligned := false, refFallback := true } } 0x030 0 true) := by
  change execReferenceNotReady dt s = _
  rw [execReferenceNotReady, event_fires hu (by simp [hmain, hfallback, hcrystal])]

/-- REFERENCE_LOST unlocks every PLL but SYSPLL (R289). -/
theorem exec_referenceLost_fires (hmain : u.mainOn = true) (hfallback : u.clk.refFallback = false) :
    exec (.referenceLost dt) s = .next ([1, 2, 3, 4].foldl pllUnlock
      (raise { u with clk := { u.clk with refFallback := true, refCrystal := false } } 0x031 0 true)) := by
  change execReferenceLost dt s = _
  rw [execReferenceLost, event_fires hu (by simp [hmain, hfallback])]
  rfl

/-- PORTER_CRYSTAL_FAIL (R290). -/
theorem exec_porterCrystalFail_fires (hoff : u.power ≠ .off) :
    exec (.porterCrystalFail dt) s =
      .next (raise { u with clk := { u.clk with porterCrystal := false, degraded := true } } 0x032 0 true) := by
  change execPorterCrystalFail dt s = _
  rw [execPorterCrystalFail, event_fires hu (by simp [hoff])]

/-- PORTER_RC_TRIM on the crystal reference (R290). -/
theorem exec_porterRcTrim_fires (hmain : u.mainOn = true) (hfallback : u.clk.refFallback = false) :
    exec (.porterRcTrim dt) s = .next { u with clk := { u.clk with rcTrimmed := true } } := by
  change execPorterRcTrim dt s = _
  rw [execPorterRcTrim, event_fires hu (by simp [hmain, hfallback])]

/-- PLL_LOCK of a PLL that searches: it locks, unless the search ended at an end of the bands out of range (R291, R292). -/
theorem exec_pllLock_ends (hpower : pllPowered u k.val = true) (href : k.val = 0 ∨ u.clk.refFallback = false)
    (hdown : (u.pll k.val).down = false) (hsearch : (u.pll k.val).locked = false ∨ researchOk u k.val = true)
    (hv : u.onPll k.val (fun p => { p with band := band }) = v) :
    exec (.pllLock dt k band good) s = .next (if (band = 0 ∨ band = 63) ∧ good = false then
        raise (if k.val = 1 then { v.onPll k.val fun p => { p with locked := false, down := p.relocked, relocked := true } with
            clk := { (v.onPll k.val fun p => { p with locked := false, down := p.relocked, relocked := true }).clk with
              phaseAligned := false } }
          else v.onPll k.val fun p => { p with locked := false, down := p.relocked, relocked := true }) (0x033 + k.val) 0 true
      else clearCond (({ v with clk := { v.clk with refCrystal := v.clk.refCrystal || !v.clk.refFallback } }).onPll k.val
        fun p => { p with locked := true, relocked := false, research := false }) (0x033 + k.val)) := by
  subst hv
  have hcond : (pllPowered u k.val && (decide (k.val = 0) || !u.clk.refFallback) && !(u.pll k.val).down
      && (!(u.pll k.val).locked || researchOk u k.val)) = true := by
    simpa [hpower, hdown] using ⟨href.imp_left Fin.ext, hsearch⟩
  change execPllLock dt k band good s = _
  rw [execPllLock, event_fires hu hcond]

/-- PLL_UNLOCK (R292). -/
theorem exec_pllUnlock_fires (hmain : u.mainOn = true) :
    exec (.pllUnlock dt k) s = .next (Machine.pllUnlock u k.val) := by
  change execPllUnlock dt k s = _
  rw [execPllUnlock, event_fires hu hmain]

/-- EXPPLL_PHASE_ALIGNED of a locked EXPPLL (R293). -/
theorem exec_exppllPhaseAligned_fires (hlocked : (u.pll 1).locked = true) :
    exec (.exppllPhaseAligned dt) s = .next { u with clk := { u.clk with phaseAligned := true } } := by
  change execExppllPhaseAligned dt s = _
  rw [execExppllPhaseAligned, event_fires hu hlocked]

end

/-! ### Time -/

/-- Without a step that waits, the counter goes on (R299). -/
theorem applyStep_none {s : State} (h : s.clk.step = none) : applyStep s = s := by
  rw [applyStep, h]

section
variable {dt at_ : Nat} {off o : Int} {s u v : State} {p : Fin 2} {ex : List (Nat × Nat)}
variable (hu : s.pass dt = u)
include hu

/-- SECOND_BOUNDARY at NSEC 0 (R294, R297, R299, R306). -/
theorem exec_secondBoundary_fires (hmain : u.mainOn = true) (hsec : u.time % secU < nsU)
    (hv : applyStep (latchClock (if u.stage.master ∧ u.stageOn = true then u.send (.stageMarker true true 0) else u)) = v) :
    exec (.secondBoundary dt) s = .next { v with clk := { v.clk with
      porterTime := porterCut v.time, porterCrystal := !v.clk.degraded } } := by
  subst hv
  change execSecondBoundary dt s = _
  rw [execSecondBoundary, event_fires hu (by simp [hmain, hsec])]
  simp only [Bool.and_eq_true]

/-- TIME_MARKER_RX of a node that is no master: the marker goes on, and counts from the master's side (R298; 13 R279). -/
theorem exec_timeMarkerRx_fires (hon : u.stageOn = true) (hm : u.stage.master = false)
    (hv : u.send (.stageMarker (p.val == 1) (p.val == 0) 0) = v) :
    exec (.timeMarkerRx dt p) s =
      .next (if (u.stage.ports.getD p.val {}).masterSide then takeMarker v p.val else v) := by
  subst hv
  change execTimeMarkerRx dt p s = _
  rw [execTimeMarkerRx, event_fires hu (by simp [hon, hm])]
  rfl

/-- SEGMENT_DELAY_MEASURE over at least one exchange (R297). -/
theorem exec_segmentDelayMeasure_fires (hon : u.stageOn = true) (hex : ex ≠ []) :
    exec (.segmentDelayMeasure dt p ex) s = .next { u with clk := { u.clk with
      segDelay := u.clk.segDelay.set p.val ((ex.map fun e => e.1 - e.2).sum / (2 * ex.length)) } } := by
  change execSegmentDelayMeasure dt p ex s = _
  rw [execSegmentDelayMeasure, event_fires hu (by simp [hon, hex])]

/-- HOLDOVER_ENTRY of a node that is or was connected (R300). -/
theorem exec_holdoverEntry_fires (hmain : u.mainOn = true) (hm : u.stage.master = false) (hsrc : u.clk.srcLost = false)
    (hchained : u.clk.chained = true ∨ (u.stage.ports.any fun p => p.up) = true) :
    exec (.holdoverEntry dt) s =
      .next (raise { u with clk := { u.clk with holdover := true, srcLost := true } } 0x038 0 true) := by
  have hcond : (u.mainOn && !u.stage.master && (u.clk.chained || u.stage.ports.any (·.up)) && !u.clk.srcLost) = true := by
    rw [hmain, hm, hsrc, (Bool.or_eq_true _ _).mpr hchained]
    rfl
  change execHoldoverEntry dt s = _
  rw [execHoldoverEntry, event_fires hu hcond, enterHoldover]

/-- LEAP_APPLY at the instant of CLK_LEAP_SET (R303). -/
theorem exec_leapApply_fires (hmain : u.mainOn = true) (hleap : u.clk.leap = some (off, at_)) (hdue : at_ ≤ time64 u.time) :
    exec (.leapApply dt) s =
      .next (raise (markDirty (gbOpen { u with clk := { u.clk with taiUtc := off, leap := none } } 2 2)) 0x03C 0 false) := by
  have hnow : at_ ≤ u.now64 := hdue
  change execLeapApply dt s = _
  rw [execLeapApply, event_fires hu (by simp [hmain, hleap, hnow]), hleap, Option.map_some, Option.getD_some, applyLeap]

/-- PTP_DISAGREEMENT of a node that is no master and runs IEEE 1588: 0x03B beyond the limit in force (R296). -/
theorem exec_ptpDisagreement_judges (hmain : u.mainOn = true) (hm : u.stage.master = false) (hptp : u.pv 0x071D 0 ≠ 0)
    (ho : ptpOffset u = some o) :
    exec (.ptpDisagreement dt) s = .next (if u.clk.inForce.getD 3 0 * 1000 < o.natAbs then raise u 0x03B 0 false else u) := by
  change execPtpDisagreement dt s = _
  rw [execPtpDisagreement]
  split
  · next hfar => rw [event_fires hu (by simp only [hmain, hm, ho]; simpa [hptp] using hfar)]
  · next hnear =>
    subst hu
    rw [event_idle (by simp only [hmain, hm, ho]; simpa [hptp] using hnear)]

end

/-- Settles O22: each clause's premises are the event's condition, and pick the branch of its effect. -/
theorem clockEventsComplete : Obligations.ClockEventsComplete := by
  refine ⟨?_, ?_, ?_, ?_, ?_, ?_, ?_, ?_, ?_, ?_, ?_, ?_, ?_, ?_, ?_, ?_⟩
  · exact fun _ _ _ => exec_referenceNotReady_fires
  · exact fun _ _ _ => exec_referenceLost_fires
  · exact fun _ _ _ => exec_porterCrystalFail_fires
  · exact fun _ _ _ => exec_porterRcTrim_fires
  · intro dt s u k band hu hpower href hdown hsearch
    rw [exec_pllLock_ends hu hpower href hdown hsearch rfl, if_neg (by simp)]
    rfl
  · intro dt s u k band hu hpower href hdown hsearch hend hk
    rw [exec_pllLock_ends hu hpower href hdown hsearch rfl, if_pos ⟨hend, rfl⟩, if_neg hk]
    rfl
  · exact fun _ _ _ _ => exec_pllUnlock_fires
  · exact fun _ _ _ => exec_exppllPhaseAligned_fires
  · intro dt s u hu hmain hsec hm hstep
    rw [exec_secondBoundary_fires hu hmain hsec rfl, if_neg (by simp [hm]), applyStep_none (s := latchClock u) hstep]
    rfl
  · exact fun _ _ _ _ => exec_secondBoundary_fires
  · rintro dt s u _ p hu hon hm hside rfl
    rw [exec_timeMarkerRx_fires hu hon hm rfl, if_pos hside]
    rfl
  · intro dt s u p hu hon hm hside
    rw [exec_timeMarkerRx_fires hu hon hm rfl, if_neg (ne_true_of_eq_false hside)]
  · exact fun _ _ _ _ _ => exec_segmentDelayMeasure_fires
  · exact fun _ _ _ => exec_holdoverEntry_fires
  · exact fun _ _ _ _ _ => exec_leapApply_fires
  · exact fun _ _ _ _ => exec_ptpDisagreement_judges

end Sys2Proof.Proofs.Clocks
end

section
/-!
PROOFS. The fault family (15_faults) and the Guestbook (14 R301; 17 R363): the fault requests and events (R310 to R323,
Table FLT-9; 01 R29) and the Guestbook's records. What a raise records and the reactions of its class are in
`Proofs.Reaction`.
-/

namespace Sys2Proof.Proofs.Faults

open Sys2Proof.Machine Sys2Proof.Safety Sys2Proof.Proofs.LayerCycle Sys2Proof.Proofs.Housekeeping

-- Off, because every lemma's own thread reserves a stack.
set_option Elab.async false

/-! ### Guestbook records -/

/-- An entry has the 32 bytes of Table CLK-4. -/
@[simp] theorem gbEntry_length (s : State) (t seq id subsys kind cls frac data : Nat) (lost : Bool) :
    (gbEntry s t seq id subsys kind cls frac data lost).length = 32 := by
  simp [gbEntry, withCrc]

/-- Settles O54: the 32 bytes read back where they were written, and no byte outside them was. -/
theorem guestbookRecordLiesInItsSlot : Obligations.GuestbookRecordLiesInItsSlot := by
  intro s subsys id data hwf
  have hmem := gbWriteAt_mem s s.time id subsys 5 0 0 data
  rw [gbRecord, hmem]
  refine ⟨?_, fun a ha => ?_, rfl, memPuts_wf hwf _ _⟩
  · have hread := memBytes_memPuts hwf (gbSlot s.gb.next.toNat)
      (gbEntry s s.time s.gb.next.toNat id subsys 5 0 0 data (s.gb.lost || gbOverwrites s.gb))
    rwa [gbEntry_length] at hread
  · exact memGet_memPuts_outside _ _ (by rwa [gbEntry_length])

/-! ### Requests -/

/-- An entry of FAULT_STATUS has 12 bytes (Table FLT-9). -/
@[simp] theorem statusEntry_length (s : State) (id : Nat) : (statusEntry s id).length = 12 := by
  unfold statusEntry
  split <;> simp

/-- FAULT_STATUS's data have 12 bytes a source (Table FLT-9). -/
theorem statusEntries_length (s : State) (first n : Nat) :
    ((List.range n).flatMap fun k => statusEntry s (first + k)).length = 12 * n := by
  simp [List.length_flatMap, Nat.mul_comm]

section
variable {q : Req} {s t : State} {w : Waiting} {id first n : U16}

/-- FAULT_CLEAR of an active source below C4 whose condition has gone (R316). -/
theorem exec_faultClear_one (h : Runs 0x0E01 2 q s w t) (hone : id ≠ 0xFFFF) (hsrc : (faultSource id.toNat).isSome = true)
    (hc4 : isC4 t id.toNat = false) (hactive : t.flt.active.getLsbD id.toNat = true) (hheld : clearHeld t id.toNat = false) :
    exec (.faultClear q id) s = .next (answer (rearmFirst (clearSource t id.toNat)) w sOK
      (le 2 (rearmFirst (clearSource t id.toNat)).activeCount)) := by
  change execFaultClear q id s = _
  rw [execFaultClear, request_ok h]
  dsimp only
  rw [if_neg hone, if_neg (by simpa [Option.isSome_iff_ne_none] using hsrc), if_neg (by simp [hc4]), if_neg (by simp [hactive]),
    if_neg (by simp [hheld]), clearAnswer, finish_now]

/-- FAULT_CLEAR of all sources (R316). -/
theorem exec_faultClear_all (h : Runs 0x0E01 2 q s w t) :
    exec (.faultClear q 0xFFFF) s = .next (answer (rearmFirst (clearAll t)) w
      (if (rearmFirst (clearAll t)).flt.active = 0 then sOK else 0x0E01) (le 2 (rearmFirst (clearAll t)).activeCount)) := by
  change execFaultClear q 0xFFFF s = _
  rw [execFaultClear, request_ok h]
  dsimp only
  rw [if_pos rfl, clearAnswer, finish_now]

/-- FAULT_STATUS of sources that there are answers their entries, where they fit the mailbox (Table FLT-9). -/
theorem exec_faultStatus_sized (h : Runs 0x0E02 4 q s w t) (hn : n ≠ 0) (hmax : n.toNat ≤ 64)
    (hlast : first.toNat + n.toNat ≤ 0x140) :
    exec (.faultStatus q first n) s =
      .next (finish w (sized t w ((List.range n.toNat).flatMap fun k => statusEntry t (first.toNat + k)))) := by
  have hrange : ¬ (n = 0 ∨ 64 < n.toNat ∨ 0x140 < first.toNat + n.toNat) := by
    rintro (hz | hm | hl)
    · exact hn hz
    · omega
    · omega
  change execFaultStatus q first n s = _
  rw [execFaultStatus, request_ok h, if_neg hrange]

/-- FAULT_STATUS of more sources than fit the mailbox answers RANGE, as it does of sources that there are not (R348). -/
theorem exec_faultStatus_exceeds (h : Runs 0x0E02 4 q s w t) (hlong : (payloadLimit w.mb).2 < 12 * n.toNat) :
    exec (.faultStatus q first n) s = .next (answer t w sRange []) := by
  change execFaultStatus q first n s = _
  rw [execFaultStatus, request_ok h]
  split
  · rw [finish_refuse]
  · rw [finish_sized_exceeds (by rwa [statusEntries_length])]

/-- FAULT_FIRST (Table FLT-9). -/
theorem exec_faultFirst (h : Runs 0x0E03 0 q s w t) :
    exec (.faultFirst q) s = .next (answer t w sOK (firstFaultBytes t.flt.first)) := by
  change execFaultFirst q s = _
  rw [execFaultFirst, request_ok h, finish_now]

/-- FAULT_INJECT where it is allowed (R323, Table FLT-9). -/
theorem exec_faultInject_raises (h : Runs 0x0E04 2 q s w t) (hsrc : (faultSource id.toNat).isSome = true)
    (hon : t.pv 0x0E21 0 = 1) (hidle : t.layer.st = .idle) (htrip : id.toNat ≠ 0x134) (hcheck : id.toNat ≠ 0x13F) :
    exec (.faultInject q id) s = .next (answer (raiseR t { id := id.toNat, injected := true }) w sOK []) := by
  change execFaultInject q id s = _
  rw [execFaultInject, request_ok h]
  dsimp only
  rw [if_neg (by simpa [Option.isSome_iff_ne_none] using hsrc), if_neg (by simp [hon, hidle, htrip, hcheck]), finish_done]

end

/-- Settles O36: in the state that the checks of a request leave, each clause's premises pick one branch of its body. -/
theorem faultRequestsComplete : Obligations.FaultRequestsComplete := by
  refine ⟨?_, ?_, ?_, ?_, ?_, ?_⟩
  · exact fun _ _ _ _ _ => exec_faultClear_one
  · exact fun _ _ _ _ => exec_faultClear_all
  · intro q s w t first n h hn hmax hlast hfits
    rw [exec_faultStatus_sized h hn hmax hlast, finish_sized_fits (by rwa [statusEntries_length])]
  · exact fun _ _ _ _ _ _ => exec_faultStatus_exceeds
  · exact fun _ _ _ _ => exec_faultFirst
  · exact fun _ _ _ _ _ => exec_faultInject_raises

/-! ### Events -/

section
variable {dt : Nat} {s u v : State} {a b corrected : Bool} {off : U32} {r : SramReader} {m : Byte}
variable (hu : s.pass dt = u)
include hu

/-- FAULT_RAISE in every state (R310, R312). -/
theorem exec_faultRaise (id : Fin 320) (d : BitVec 63) (c : Bool) :
    exec (.faultRaise dt id d c) s = .next (raise (noteSource u id.val) id.val d.toNat c) := by
  change execFaultRaise dt id d c s = _
  rw [execFaultRaise, event_fires hu rfl]

/-- REACTION_CHECK of the oldest reaction that waits for one (R312). -/
theorem exec_reactionCheck_fires (hmain : u.mainOn = true) (hchecks : u.flt.checks ≠ [])
    (hv : { u with flt := { u.flt with checks := u.flt.checks.drop 1 } } = v) :
    exec (.reactionCheck dt a b) s = .next (if a && b then v else raise v 0x13F 0 false) := by
  subst hv
  change execReactionCheck dt a b s = _
  rw [execReactionCheck, event_fires hu (by simp [hmain, hchecks])]

/-- EMIT_INHIBIT_RISE (R313). -/
theorem exec_emitInhibitRise_fires (hlow : u.flt.inhibit = false)
    (hv : raise { u with flt := { u.flt with inhibit := true, inForce := true } } 0x04D 0 true = v) :
    exec (.emitInhibitRise dt) s = .next (raiseLosses v (inhibitLayer v)) := by
  subst hv
  change execEmitInhibitRise dt s = _
  rw [execEmitInhibitRise, event_fires hu (by simp [hlow])]

/-- EMIT_INHIBIT_FALL (R313). -/
theorem exec_emitInhibitFall_fires (hhigh : u.flt.inhibit = true) :
    exec (.emitInhibitFall dt) s = .next (clearCond
      { u with flt := { u.flt with inhibit := false, inhibitFell := u.runningTime } } 0x04D) := by
  change execEmitInhibitFall dt s = _
  rw [execEmitInhibitFall, event_fires hu hhigh]

/-- INHIBIT_HOLD_EXPIRY after FLT.INHIBIT_HOLD_MS low (R313). -/
theorem exec_inhibitHoldExpiry_fires (hforce : u.flt.inForce = true) (hlow : u.flt.inhibit = false)
    (hheld : u.flt.inhibitFell + u.pv 0x0E20 0 * msU ≤ u.runningTime) :
    exec (.inhibitHoldExpiry dt) s = .next { u with flt := { u.flt with inForce := false } } := by
  change execInhibitHoldExpiry dt s = _
  rw [execInhibitHoldExpiry, event_fires hu (by simp [hforce, hlow, hheld])]

/-- SRAM_ERROR inside the SRAM (R319). -/
theorem exec_sramError_inside (hmain : u.mainOn = true) (hoff : off.toNat < sramSize) :
    exec (.sramError dt off corrected r) s = .next (if corrected then correctedError u off.toNat
      else raiseR (regionEffect u off.toNat r) { id := 0x139, data := regionData off.toNat, floor := regionClass off.toNat }) := by
  change execSramError dt off corrected r s = _
  rw [execSramError, if_neg (Nat.not_le.mpr hoff), event_fires hu hmain]

/-- REGION_WRITE_BLOCKED inside the SRAM (01 R29). -/
theorem exec_regionWriteBlocked_inside (hmain : u.mainOn = true) (hoff : off.toNat < sramSize) :
    exec (.regionWriteBlocked dt off m) s = .next (raise u 0x13A 0 false) := by
  change execRegionWriteBlocked dt off m s = _
  rw [execRegionWriteBlocked, if_neg (Nat.not_le.mpr hoff), event_fires hu hmain]

/-- SCRUB_PASS rewrites every word with its own value (R319). -/
theorem exec_scrubPass : exec (.scrubPass dt) s = .next u := by
  change execScrubPass dt s = _
  rw [execScrubPass, event, hu]
  exact congrArg _ (ite_self u)

end

/-- Settles O37: each clause's premises are the event's condition, and pick the branch of its effect. -/
theorem faultEventsComplete : Obligations.FaultEventsComplete := by
  refine ⟨?_, ?_, ?_, ?_, ?_, ?_, ?_, ?_, ?_, ?_⟩
  · exact fun _ _ _ id d c hu => exec_faultRaise hu id d c
  · intro dt s u hu hmain hchecks
    rw [exec_reactionCheck_fires hu hmain hchecks rfl, if_pos (by decide)]
  · intro dt s u a b hu hmain hchecks hbad
    rw [exec_reactionCheck_fires hu hmain hchecks rfl, if_neg (ne_true_of_eq_false hbad)]
  · exact fun _ _ _ _ => exec_emitInhibitRise_fires
  · exact fun _ _ _ => exec_emitInhibitFall_fires
  · exact fun _ _ _ => exec_inhibitHoldExpiry_fires
  · intro dt s u off r hu hmain hoff
    rw [exec_sramError_inside hu hmain hoff, if_pos rfl]
  · intro dt s u off r hu hmain hoff
    rw [exec_sramError_inside hu hmain hoff, if_neg (by decide)]
  · exact fun _ _ _ _ _ => exec_regionWriteBlocked_inside
  · exact fun _ _ _ => exec_scrubPass

end Sys2Proof.Proofs.Faults
end

section
/-!
PROOFS. The calibration family (16_calibration): the calibration requests (R331, R336 to R338, R341, Table CAL-5) and the events of
the live table, of measurement runs and of traces (R327 to R338).
-/

namespace Sys2Proof.Proofs.Calibration

open Sys2Proof.Machine Sys2Proof.Safety Sys2Proof.Proofs.LayerCycle

-- Off, because every lemma's own thread reserves a stack.
set_option Elab.async false

/-! ### Requests -/

section
variable {q : Req} {s t v : State} {w : Waiting} {n p r : Byte} {c : U16}

/-- CAL_RUN of usable tiles makes them due (Table CAL-5). -/
theorem exec_calRun_due {m : BitVec 72} {tiles : List Nat} (h : Runs 0x0F01 9 q s w t)
    (htiles : (if m = 0 then tilesInPlace t else (List.range 72).filter fun k => m.getLsbD k) = tiles)
    (hlive : tiles.all (tileLive t) = true) (hv : tiles.foldl makeDue t = v) :
    exec (.calRun q m) s = .next (answer (settleCal { v with
      cal := { v.cal with forced := v.cal.forced ||| tileBits tiles } }) w sOK []) := by
  subst hv
  change execCalRun q m s = _
  rw [execCalRun, request_ok h]
  dsimp only
  rw [htiles, if_neg (by simp [hlive]), finish_done]

/-- CAL_CANCEL of a run that waits for its gap (R336). -/
theorem exec_calCancel_waiting (h : Runs 0x0F02 0 q s w t) (hst : t.cal.st = 1) :
    exec (.calCancel q) s = .next (answer (settleCal { t with cal := { t.cal with forced := 0 } }) w sOK []) := by
  change execCalCancel q s = _
  rw [execCalCancel, request_ok h, hst]
  exact congrArg _ finish_done

/-- CAL_CANCEL of a burst (R336). -/
theorem exec_calCancel_burst (h : Runs 0x0F02 0 q s w t) (hst : t.cal.st = 2) :
    exec (.calCancel q) s = .next (answer (sleepLanes (abandonRun t 2)) w sOK []) := by
  change execCalCancel q s = _
  rw [execCalCancel, request_ok h, hst]
  exact congrArg _ finish_done

/-- CAL_CANCEL of a held trace (R336). -/
theorem exec_calCancel_trace (h : Runs 0x0F02 0 q s w t) (hst : t.cal.st = 4) :
    exec (.calCancel q) s = .next (answer (dropTrace t) w sOK []) := by
  change execCalCancel q s = _
  rw [execCalCancel, request_ok h, hst]
  exact congrArg _ finish_done

/-- CAL_STATUS (Table CAL-5). -/
theorem exec_calStatus (h : Runs 0x0F03 0 q s w t) :
    exec (.calStatus q) s = .next (answer t w sOK (le 1 t.cal.st ++ le 9 t.cal.due.toNat ++ le 4 (t.pv 0x0F26 0))) := by
  change execCalStatus q s = _
  rw [execCalStatus, request_ok h, finish_now]

/-- CAL_CELL_READ of a cell of a usable tile (Table CAL-5). -/
theorem exec_calCellRead_reads {b : List Byte} {sets : Nat} (h : Runs 0x0F04 5 q s w t) (hcell : calCell t n p r c = 0)
    (hb : blocksOf t (18 * n.toNat + p.toNat) = b) (hsets : (t.tile n.toNat p.toNat).u 0x7A 1 = sets) :
    exec (.calCellRead q n p r c) s = .next (answer t w sOK
      (le 4 (userWord t.cal (cellIndex (16 * p.toNat + r.toNat) (256 * n.toNat + c.toNat)))
        ++ le 4 (calEntry t (16 * p.toNat + r.toNat) (256 * n.toNat + c.toNat))
        ++ (List.range sets).flatMap fun k => le 4 (cellBlock b k r.toNat c.toNat))) := by
  subst hb hsets
  change execCalCellRead q n p r c s = _
  rw [execCalCellRead, request_ok h, if_neg (not_not.mpr hcell), namedCell, finish_now]

/-- CAL_CELL_SET of a cell of a usable tile in IDLE (Table CAL-5). -/
theorem exec_calCellSet_acts {a : Byte} {cell : Nat} (h : Runs 0x0F05 6 q s w t) (ha : a.toNat ≤ 2)
    (hcell : calCell t n p r c = 0) (hidle : t.layer.st = .idle)
    (hindex : cellIndex (16 * p.toNat + r.toNat) (256 * n.toNat + c.toNat) = cell) :
    exec (.calCellSet q n p r c a) s = .next (answer (match a.toNat with
      | 0 => markDirty (setUserWord t cell
          (if (userWord t.cal cell).testBit 24 then userWord t.cal cell - 16777216 else userWord t.cal cell))
      | 1 => retireCell t (16 * p.toNat + r.toNat) (256 * n.toNat + c.toNat) 4
      | _ => settleCal (markDirty (unretire t (18 * n.toNat + p.toNat) cell))) w sOK []) := by
  subst hindex
  change execCalCellSet q n p r c a s = _
  rw [execCalCellSet, request_ok h, if_neg (Nat.not_lt.mpr ha), if_neg (not_not.mpr hcell), if_neg (not_not.mpr hidle)]
  rfl

/-- CAL_PD_TRACE of a usable tile in a gap, with no run in progress (R337). -/
theorem exec_calPdTrace_fires {smp : List (Fin 8 × Fin 128 × BitVec 12)} (h : Runs 0x0F06 2 q s w t)
    (htile : calTile t n p = 0) (hburst : t.cal.st ≠ 2) (happly : t.cal.st ≠ 3) (hok : burstOk t = true)
    (hmeas : measurable (t.chain n.toNat) = true)
    (hv : sleepLanes ((List.range ((wakeLanes t).pv 0x0F1D 0)).foldl (fun a m => sendMarks
        (sendTiles a [18 * n.toNat + p.toNat] fun k => fireFrames a k m (a.pv 0x0F15 1) fun _ _ => true)
        [18 * n.toNat + p.toNat] m) (wakeLanes t)) = v) :
    exec (.calPdTrace q n p smp) s = .next (answer { v with cal := { v.cal with
        st := 4, trace := some (18 * n.toNat + p.toNat, traceEnergy t n.toNat p.toNat smp, v.time) } } w sOK
      (le 8 (traceEnergy t n.toNat p.toNat smp))) := by
  subst hv
  change execCalPdTrace q n p smp s = _
  rw [execCalPdTrace, request_ok h, if_neg (not_not.mpr htile), if_neg (not_or.mpr ⟨hburst, happly⟩), if_neg (by simp [hok, hmeas]),
    finish_now]

/-- CAL_PD_ENTER of a held trace whose gain is in range (R337). -/
theorem exec_calPdEnter_enters {nj : U32} {tile e t0 : Nat} {g : Int} (h : Runs 0x0F07 4 q s w t) (hnew : traceOld t = false)
    (htrace : t.cal.trace = some (tile, e, t0)) (hg : tracedPd (t.pv 0x0F24 tile) nj.toNat e = g) (hlo : 0x2000 ≤ g)
    (hhi : g ≤ 0x8000) :
    exec (.calPdEnter q nj) s = .next (answer (dropTrace (markDirty (makeDue (gbRecord (t.pput 0x0F24 tile g.toNat) 0x0F 5
      (tile / 18 + 256 * (tile % 18) + 65536 * g.toNat)) tile))) w sOK (le 2 g.toNat)) := by
  subst hg
  change execCalPdEnter q nj s = _
  rw [execCalPdEnter, request_ok h, if_neg (ne_true_of_eq_false hnew), htrace]
  dsimp only
  rw [if_neg (by omega), finish_now]

/-- CAL_HK_TRACE with none in progress (R338). -/
theorem exec_calHkTrace_starts (h : Runs 0x0F08 0 q s w t) (hnone : t.cal.hkTrace = none) :
    exec (.calHkTrace q) s = .next { t with cal := { t.cal with hkTrace := some (w, 0, [0, 0, 0, 0, 0]) } } := by
  change execCalHkTrace q s = _
  rw [execCalHkTrace, request_ok h, if_neg (by simp [hnone]), finish_later]

/-- No tile is at chain 0xFF, position 0xFF, which name all of them (Table CAL-5). -/
theorem calTile_all (t : State) : calTile t 0xFF 0xFF = sRange :=
  if_pos (by decide)

/-- CAL_USER_RESET of one tile (Table CAL-5). -/
theorem exec_calUserReset_one (h : Runs 0x0F09 2 q s w t) (htile : calTile t n p = 0) :
    exec (.calUserReset q n p) s = .next (answer (settleCal (markDirty (resetTile t (18 * n.toNat + p.toNat)))) w sOK []) := by
  have hone : ¬ (n = 0xFF ∧ p = 0xFF) := by
    rintro ⟨rfl, rfl⟩
    exact absurd (htile.symm.trans (calTile_all t)) (by decide)
  change execCalUserReset q n p s = _
  rw [execCalUserReset, request_ok h, if_neg hone, if_neg (not_not.mpr htile), finish_done]

/-- CAL_USER_RESET of all tiles (Table CAL-5). -/
theorem exec_calUserReset_all (h : Runs 0x0F09 2 q s w t) :
    exec (.calUserReset q 0xFF 0xFF) s = .next (answer (settleCal (markDirty ((tilesInPlace t).foldl resetTile t))) w sOK []) := by
  change execCalUserReset q 0xFF 0xFF s = _
  rw [execCalUserReset, request_ok h, if_pos ⟨rfl, rfl⟩, finish_done]

end

/-- Settles O38: in the state that the checks of a request leave, each clause's premises pick one branch of its body. -/
theorem calibrationRequestsComplete : Obligations.CalibrationRequestsComplete := by
  refine ⟨?_, ?_, ?_, ?_, ?_, ?_, ?_, ?_, ?_, ?_, ?_, ?_⟩
  · exact fun _ _ _ _ _ _ h htiles hlive => ⟨_, rfl, exec_calRun_due h htiles hlive rfl⟩
  · exact fun _ _ _ _ => exec_calCancel_waiting
  · exact fun _ _ _ _ => exec_calCancel_burst
  · exact fun _ _ _ _ => exec_calCancel_trace
  · exact fun _ _ _ _ => exec_calStatus
  · exact fun _ _ _ _ _ _ _ _ _ _ => exec_calCellRead_reads
  · intro q s w t n p r c cell h hcell hidle hindex
    refine ⟨?_, ?_, ?_⟩
    · exact exec_calCellSet_acts (a := 0) h (by decide) hcell hidle hindex
    · exact exec_calCellSet_acts (a := 1) h (by decide) hcell hidle hindex
    · exact exec_calCellSet_acts (a := 2) h (by decide) hcell hidle hindex
  · exact fun _ _ _ _ _ _ _ h htile hburst happly hok hmeas =>
      ⟨_, rfl, exec_calPdTrace_fires h htile hburst happly hok hmeas rfl⟩
  · exact fun _ _ _ _ _ _ _ _ _ => exec_calPdEnter_enters
  · exact fun _ _ _ _ => exec_calHkTrace_starts
  · exact fun _ _ _ _ _ _ => exec_calUserReset_one
  · exact fun _ _ _ _ => exec_calUserReset_all

/-! ### Events of the live table and of measurement runs -/

section
variable {dt tile k : Nat} {s u v : State} {n : Fin 4} {p : Fin 18}
variable (hu : s.pass dt = u)
include hu

/-- BRACKET_LOAD of a tile that needs another pair (R327). -/
theorem exec_bracketLoad_fires (htile : 18 * n.val + p.val = tile) (hmain : u.mainOn = true)
    (hkeep : u.keep.running = true) (hwants : wantsSet u tile = true)
    (hk : pickSet (blocksOf u tile) (tileTemp u tile).value = k) :
    exec (.bracketLoad dt n p) s =
      .next (writeSets { u with cal := { u.cal with bracket := u.cal.bracket.set tile (some k) } } tile k) := by
  subst htile hk
  change execBracketLoad dt n p s = _
  rw [execBracketLoad, event_fires hu (by simp [hmain, hkeep, hwants])]

/-- LIVE_TABLE_REBUILD (R328). -/
theorem exec_liveTableRebuild_fires (hready : u.readyOn = true) (hkeep : u.keep.running = true)
    (hv : requestSwap (rebuildTable (restoreSets (retireReported u))) = v) :
    exec (.liveTableRebuild dt) s = .next (settleCal ((tilesInPlace v).foldl judgeDrift v)) := by
  subst hv
  change execLiveTableRebuild dt s = _
  rw [execLiveTableRebuild, event_fires hu (by simp [hready, hkeep])]

/-- CALIBRATION_BURST_START of a run that waits for this gap (R330, R331). -/
theorem exec_calibrationBurstStart_fires (hkeep : u.keep.running = true) (hst : u.cal.st = 1) (hwanted : runWanted u = true)
    (hok : burstOk u = true) (hv : wakeLanes u = v) :
    exec (.calibrationBurstStart dt) s = .next { v with cal := { v.cal with
      st := 2, run := some { tiles := tileBits (dueTiles u), fromDoze := u.power == .doze } } } := by
  subst hv
  change execCalibrationBurstStart dt s = _
  rw [execCalibrationBurstStart, event_fires hu (by simp [hkeep, hst, hwanted, hok])]

/-- CALIBRATION_PERIOD of a burst with emitter enable: the frames leave and the samples are kept (R332). -/
theorem exec_calibrationPeriod_fires {smp : List (Fin 4 × Fin 144 × Fin 128 × BitVec 12)} {r r' : CalRun}
    (hclock : u.therm.tripped = false) (hst : u.cal.st = 2) (henable : u.layer.emitEnable = true) (hrun : u.cal.run = some r)
    (hv : sendPeriod u r = v)
    (hr : { r with
      period := r.period + 1
      samples := smp.foldl (fun m x => AMap.put m (runKey r.period x.1.val x.2.1.val x.2.2.1.val) x.2.2.2.toNat) r.samples } = r') :
    exec (.calibrationPeriod dt smp) s = .next (if r'.period < 36 then { v with cal := { v.cal with run := some r' } }
      else sleepLanes { v with cal := { v.cal with st := 3, run := some r' } }) := by
  subst hv hr
  change execCalibrationPeriod dt smp s = _
  rw [execCalibrationPeriod, clocked_fires hu hclock (by simp [hst, henable, hrun]), hrun]

/-- CALIBRATION_RUN_END of a burst abandons the run with its cause (R336). -/
theorem exec_calibrationRunEnd_fires {cause : CalEnd} (hst : u.cal.st = 2) :
    exec (.calibrationRunEnd dt cause) s = .next (sleepLanes (abandonRun u (match cause with
      | .enableRemoved => 3
      | .carriageMoved => 4))) := by
  change execCalibrationRunEnd dt cause s = _
  unfold execCalibrationRunEnd
  exact event_fires hu (by simp [hst])

/-- CALIBRATION_RUN_APPLY of a finished run (R334). -/
theorem exec_calibrationRunApply_fires {r : CalRun} {tiles : List Nat} {a : State × RunSum} (hmain : u.mainOn = true)
    (hkeep : u.keep.running = true) (hst : u.cal.st = 3) (hrun : u.cal.run = some r)
    (htiles : ((List.range 72).filter fun k => r.tiles.getLsbD k) = tiles) (ha : tiles.foldl (applyTile r) (u, {}) = a) :
    exec (.calibrationRunApply dt) s = .next (settleCal (markDirty (gbRecord
      (({ a.1 with cal := { a.1.cal with st := 0, run := none } }).count 0x0F26 0 1) 0x0F 1
      (tiles.length + 256 * (min a.2.updated 65535) + 16777216 * (min a.2.suspect 65535)
        + 1099511627776 * (min a.2.retired 65535))))) := by
  obtain ⟨x, sum⟩ := a
  change execCalibrationRunApply dt s = _
  rw [execCalibrationRunApply, event_fires hu (by simp [hmain, hkeep, hst]), hrun]
  dsimp only
  rw [htiles, ha]

end

/-! ### Events of traces and of overdue tiles -/

section
variable {dt tile k : Nat} {s u v : State} {n : Fin 4} {p : Fin 18} {w : Waiting} {sums gs : List Int}
variable (hu : s.pass dt = u)
include hu

/-- TRACE_ENTER_TIMEOUT of a trace held for 600 s (R337). -/
theorem exec_traceEnterTimeout_fires (hmain : u.mainOn = true) (hold : traceOld u = true) :
    exec (.traceEnterTimeout dt) s = .next (dropTrace u) := by
  change execTraceEnterTimeout dt s = _
  rw [execTraceEnterTimeout, event_fires hu (by simp [hmain, hold])]

/-- HK_TRACE_DONE after CAL.REF_ROUNDS rounds (R338). -/
theorem exec_hkTraceDone_fires (hmain : u.mainOn = true)
    (hkeep : u.keep.running = true) (htrace : u.cal.hkTrace = some (w, k, sums)) (hdue : u.pv 0x0F1C 1 ≤ k)
    (hgs : ((List.range 5).map fun j => tracedGain u j (sums.getD j 0) k) = gs)
    (hv : { u with cal := { u.cal with hkTrace := none } } = v) :
    exec (.hkTraceDone dt) s = .next (if gs.all fun g => decide (0x3EB8 ≤ g) && decide (g ≤ 0x4148)
      then answer (applyGains v (gs.map Int.toNat)) w sOK ((gs.map Int.toNat).flatMap (le 2)) else answer v w 0x0F02 []) := by
  subst hgs hv
  change execHkTraceDone dt s = _
  rw [execHkTraceDone, event_fires hu (by simp [hmain, hkeep, htrace, hdue]), htrace]

/-- TILE_OVERDUE of a tile that has been due too long and is not warned of (R331). -/
theorem exec_tileOverdue_fires (htile : 18 * n.val + p.val = tile) (hmain : u.mainOn = true) (hkeep : u.keep.running = true)
    (hdue : u.cal.due.getLsbD tile = true) (hnew : u.cal.warned.getLsbD tile = false)
    (hlong : AMap.get u.cal.dueSince tile 0 + u.pv 0x0F1D 1 * secU < u.time) :
    exec (.tileOverdue dt n p) s = .next (gbRecord { u with cal := { u.cal with warned := setBit u.cal.warned tile true } } 0x0F 9
      (n.val + 256 * p.val + 65536 * wrap32 ((u.time - AMap.get u.cal.dueSince tile 0) / secU))) := by
  subst htile
  change execTileOverdue dt n p s = _
  rw [execTileOverdue, event_fires hu (by simp [hmain, hkeep, hdue, hnew, hlong])]

end

/-- Settles O39: each clause's premises are the event's condition, and pick the branch of its effect. -/
theorem calibrationEventsComplete : Obligations.CalibrationEventsComplete := by
  refine ⟨?_, ?_, ?_, ?_, ?_, ?_, ?_, ?_, ?_, ?_⟩
  · exact fun _ _ _ _ _ _ _ => exec_bracketLoad_fires
  · exact fun _ _ _ hu hready hkeep => ⟨_, rfl, exec_liveTableRebuild_fires hu hready hkeep rfl⟩
  · exact fun _ _ _ hu hkeep hst hwanted hok => ⟨_, rfl, exec_calibrationBurstStart_fires hu hkeep hst hwanted hok rfl⟩
  · intro dt s u smp r hu hclock hst henable hrun hfew
    refine ⟨_, rfl, ?_⟩
    rw [exec_calibrationPeriod_fires hu hclock hst henable hrun rfl rfl, if_pos (Nat.succ_lt_succ hfew)]
  · intro dt s u smp r hu hclock hst henable hrun hlast
    refine ⟨_, rfl, ?_⟩
    rw [exec_calibrationPeriod_fires hu hclock hst henable hrun rfl rfl, if_neg (Nat.not_lt.mpr (Nat.succ_le_succ hlast))]
  · exact fun _ _ _ hu hst => ⟨exec_calibrationRunEnd_fires hu hst, exec_calibrationRunEnd_fires hu hst⟩
  · exact fun _ _ _ _ _ hu hmain hkeep hst hrun ha => exec_calibrationRunApply_fires hu hmain hkeep hst hrun rfl ha
  · exact fun _ _ _ => exec_traceEnterTimeout_fires
  · exact fun _ _ _ _ _ _ _ _ => exec_hkTraceDone_fires
  · exact fun _ _ _ _ _ _ => exec_tileOverdue_fires

end Sys2Proof.Proofs.Calibration
end

section
/-!
PROOFS. The Keeper family (17_keeper_mailboxes), in two parts: Keeper's requests and its events. What a commit leaves of the
store is in `Proofs.Store`.

Part 1. Sessions and reports (R355 to R357, R360, R363, R372), parameters (R358), the store and the firmware slots (R344, R366, R369,
R370; 18 R380, R382).
-/

namespace Sys2Proof.Proofs.Keeper

open Sys2Proof.Machine Sys2Proof.Safety Sys2Proof.Proofs.LayerCycle

-- Off, because every lemma's own thread reserves a stack.
set_option Elab.async false

/-! ### Sessions and reports -/

section
variable {q : Req} {s t v : State} {w : Waiting}

/-- KEEP_IDENT (R372). -/
theorem exec_keepIdent (h : Runs 0x0001 0 q s w t) :
    exec (.keepIdent q) s = .next (answer t w sOK (wbBlock t (wbIdentity t))) := by
  change execKeepIdent q s = _
  rw [execKeepIdent, request_ok h, finish_now]

/-- KEEP_STATUS (Table KEEP-9). -/
theorem exec_keepStatus (h : Runs 0x0002 0 q s w t) :
    exec (.keepStatus q) s = .next (answer t w sOK
      (le 1 (keepLoad t.keep) ++ [bitB t.keep.deferAt.isSome] ++ le 4 t.deferMs ++ ((t.keep.queues.take 6).flatMap fun l => le 1 l.length)
        ++ le 2 t.keep.primary.toNat)) := by
  change execKeepStatus q s = _
  rw [execKeepStatus, request_ok h, finish_now]

/-- SESSION_OPEN on a transport mailbox without a session, or forced: the next identifier not in use (R355). -/
theorem exec_sessionOpen_opens {f : Byte} {n : Nat} (h : Runs 0x0006 1 q s w t) (hmb : q.mb.val < 4)
    (hfree : (t.session q.mb.val).isSome = false ∨ f = 1) (hv : endSession t q.mb.val = v)
    (hn : nextId (if v.keep.granted.isNone then v.freeTaken else v) 6 (v.keep.granted.getD (v.freeBits 16)) = n) :
    exec (.sessionOpen q f) s = .next (answer { (if v.keep.granted.isNone then v.freeTaken else v) with
      keep := { (if v.keep.granted.isNone then v.freeTaken else v).keep with
        sessions := (if v.keep.granted.isNone then v.freeTaken else v).keep.sessions.set q.mb.val
          (some { id := BitVec.ofNat 16 n, lastRx := (if v.keep.granted.isNone then v.freeTaken else v).time })
        granted := some ((n + 1) % 65536) } } w sOK (le 2 n)) := by
  have hopen : ¬ (((t.session q.mb.val).isSome && f != 1) = true) := by
    obtain hs | hf := hfree <;> simp [*]
  subst hv hn
  change execSessionOpen q f s = _
  rw [execSessionOpen, request_ok h, if_neg (Nat.not_le.mpr hmb), if_neg hopen, finish_now]

/-- SESSION_CLOSE of a session: answered, then ended (R355). -/
theorem exec_sessionClose_ends (h : Runs 0x0007 0 q s w t) (hsome : (t.session q.mb.val).isSome = true) :
    exec (.sessionClose q) s = .next (endSession (answer t w sOK []) q.mb.val) := by
  change execSessionClose q s = _
  rw [execSessionClose, request_ok h, if_neg (by simpa [Option.isSome_iff_ne_none] using hsome), finish_later]

/-- SESSION_CLAIM of a session waits for the claim window (R357). -/
theorem exec_sessionClaim_waits {f : Byte} {x : Session} (h : Runs 0x0008 1 q s w t) (hx : t.session q.mb.val = some x) :
    exec (.sessionClaim q f) s = .next (takeClaim t { w := w, session := x.id, force := f == 1 }) := by
  change execSessionClaim q f s = _
  rw [execSessionClaim, request_ok h, hx, finish_later]

/-- KEEP_RESYNC takes a new snapshot (R360). -/
theorem exec_keepResync {bytes : List Byte} (h : Runs 0x0009 0 q s w t) (hbytes : waybill t (t.keep.wbGen + 1).toNat = bytes)
    (hv : t.poke waybillAt bytes = v) :
    exec (.keepResync q) s = .next (answer { v with keep := { v.keep with
        wbGen := t.keep.wbGen + 1, wbPtr := BitVec.ofNat 32 waybillAt, wbLen := BitVec.ofNat 32 bytes.length } } w sOK
      (le 4 (t.keep.wbGen + 1).toNat ++ le 4 bytes.length ++ le 4 waybillAt)) := by
  subst hbytes hv
  change execKeepResync q s = _
  rw [execKeepResync, request_ok h, finish_now]

/-- WAYBILL_READ of the present generation, inside the snapshot and the mailbox's limit (R360). -/
theorem exec_waybillRead_reads {off : U32} {n : U16} (h : Runs 0x000A 10 q s w t)
    (hin : off.toNat + n.toNat ≤ t.keep.wbLen.toNat) (hfits : n.toNat ≤ (payloadLimit q.mb.val).2) :
    exec (.waybillRead q t.keep.wbGen off n) s =
      .next (answer t w sOK (memBytes t.mem (t.keep.wbPtr.toNat + off.toNat) n.toNat)) := by
  change execWaybillRead q t.keep.wbGen off n s = _
  rw [execWaybillRead, request_ok h, if_neg (not_not.mpr rfl), if_neg (by omega), finish_now]

/-- GB_READ of 1 to 128 records, from the oldest on (R363). -/
theorem exec_gbRead_reads {from_ start : U32} {n : U16} (h : Runs 0x000B 6 q s w t) (hn : n ≠ 0) (hmax : n.toNat ≤ 128)
    (hstart : (if serialLater (gbOldest t.gb) from_ then gbOldest t.gb else from_) = start) :
    exec (.gbRead q from_ n) s = .next (answer t w sOK (le 4 start.toNat ++ gbEntries t start
      (min (min n.toNat (if serialLater t.gb.next start then (t.gb.next - start).toNat else 0)) (((payloadLimit q.mb.val).2 - 4) / 32)))) := by
  subst hstart
  change execGbRead q from_ n s = _
  rw [execGbRead, request_ok h, if_neg (not_or.mpr ⟨hn, Nat.not_lt.mpr hmax⟩), finish_now]

/-- GB_ACK moves RD_SEQ forward, at most to the newest entry (R363, Table KEEP-9). -/
theorem exec_gbAck_moves {x : U32} (h : Runs 0x000C 4 q s w t) (hforward : x = t.gb.rd ∨ serialLater x t.gb.rd = true)
    (hnewest : serialLater t.gb.next x = true) :
    exec (.gbAck q x) s = .next (answer { t with gb := { t.gb with rd := x } } w sOK []) := by
  have hrange : ¬ (((x != t.gb.rd && !(serialLater x t.gb.rd)) || !(serialLater t.gb.next x)) = true) := by
    obtain hf | hf := hforward
    · simp [← hf, hnewest]
    · simp [hf, hnewest]
  change execGbAck q x s = _
  rw [execGbAck, request_ok h, if_neg hrange, finish_done]

/-- GB_ACK beyond the newest entry (Table KEEP-9). -/
theorem exec_gbAck_beyond {x : U32} (h : Runs 0x000C 4 q s w t) (hbeyond : serialLater t.gb.next x = false) :
    exec (.gbAck q x) s = .next (answer t w sRange []) := by
  change execGbAck q x s = _
  rw [execGbAck, request_ok h, if_pos (by simp [hbeyond]), finish_refuse]

end

/-- Settles O40: in the state that the checks of a request leave, each clause's premises pick one branch of its body. -/
theorem sessionAndReportRequestsComplete : Obligations.SessionAndReportRequestsComplete := by
  refine ⟨?_, ?_, ?_, ?_, ?_, ?_, ?_, ?_, ?_, ?_, ?_⟩
  · exact fun _ _ _ _ => exec_keepIdent
  · exact fun _ _ _ _ => exec_keepStatus
  · intro q s w t f v g n h hmb hfree hv hg hn
    have hsome : ¬ (v.keep.granted.isNone = true) := by simp [hg]
    rw [exec_sessionOpen_opens h hmb hfree hv (n := n) (by rw [if_neg hsome, hg]; exact hn), if_neg hsome]
  · intro q s w t f v h hmb hfree hv hg
    have hnone : v.keep.granted.isNone = true := by simp [hg]
    refine ⟨v.freeBits 16, _, rfl, ?_⟩
    rw [exec_sessionOpen_opens h hmb hfree hv (by rw [if_pos hnone, hg]), if_pos hnone]
    rfl
  · exact fun _ _ _ _ => exec_sessionClose_ends
  · exact fun _ _ _ _ _ _ => exec_sessionClaim_waits
  · exact fun _ _ _ _ _ h hbytes => ⟨_, rfl, exec_keepResync h hbytes rfl⟩
  · exact fun _ _ _ _ _ _ => exec_waybillRead_reads
  · exact fun _ _ _ _ _ _ _ => exec_gbRead_reads
  · exact fun _ _ _ _ _ => exec_gbAck_moves
  · exact fun _ _ _ _ _ => exec_gbAck_beyond

/-! ### Parameters -/

section
variable {q : Req} {s t : State} {w : Waiting}

/-- PARAM_READ of defined parameters whose values fit the mailbox (R358). -/
theorem exec_paramRead_reads {idx : U16} {sub n : Byte} {rs : List (PRow × Nat)} {wd : Nat} (h : Runs 0x0003 4 q s w t) (hn : n ≠ 0)
    (hmax : n.toNat ≤ 16) (hrs : rowsFrom idx.toNat sub.toNat n.toNat = some rs)
    (hwd : (rs.map fun r => valueBytes r.1.bits).foldl max 1 = wd)
    (hfits : (le 1 wd ++ rs.flatMap fun r => valueIn t wd r.1 r.2).length ≤ (payloadLimit q.mb.val).2) :
    exec (.paramRead q idx sub n) s = .next (answer t w sOK (le 1 wd ++ rs.flatMap fun r => valueIn t wd r.1 r.2)) := by
  subst hwd
  change execParamRead q idx sub n s = _
  rw [execParamRead, request_ok h, if_neg (not_or.mpr ⟨hn, Nat.not_lt.mpr hmax⟩), hrs]
  dsimp only
  rw [if_neg (Nat.not_lt.mpr hfits), finish_now]

/-- PARAM_WRITE_SET of 1 to 32 entries: all, or the first that fails a check (R358). -/
theorem exec_paramWriteSet_checks {n : Byte} {es : List ParamEntry}
    (h : Runs 0x0005 (1 + (es.map fun e => 4 + e.value.length).sum) q s w t) (hlen : es.length = n.toNat) (hn : n ≠ 0)
    (hmax : n.toNat ≤ 32) :
    exec (.paramWriteSet q n es) s = .next (finish w (match firstFailing t (paramsAfter t.params es) 0 es with
      | some (k, st) => .now t st (le 1 k)
      | none => .now (applyParams t es) sOK [0xFF])) := by
  change execParamWriteSet q n es s = _
  unfold execParamWriteSet
  refine (request_runs h fun hl => by simp [hl, hlen]).trans (congrArg (fun a => Host.Outcome.next (finish w a)) ?_)
  exact if_neg (not_or.mpr ⟨hn, Nat.not_lt.mpr hmax⟩)

end

/-- Settles O41: in the state that the checks of a request leave, each clause's premises pick one branch of its body. -/
theorem parameterRequestsComplete : Obligations.ParameterRequestsComplete := by
  refine ⟨?_, ?_, ?_, ?_⟩
  · exact fun _ _ _ _ _ _ _ _ _ => exec_paramRead_reads
  · exact fun _ _ _ _ _ => exec_paramWrite_applied
  · intro q s w t n es h hlen hn hmax hgood
    rw [exec_paramWriteSet_checks h hlen hn hmax, hgood, finish_now]
  · intro q s w t n es k st h hlen hn hmax hbad
    rw [exec_paramWriteSet_checks h hlen hn hmax, hbad, finish_now]

/-! ### The store and the firmware slots -/

section
variable {q : Req} {s t v : State} {w : Waiting} {fl : List Bool} {t0 t1 : Nat}

/-- STORE_COMMIT outside a load deferral commits (R366). -/
theorem exec_storeCommit_commits (h : Runs 0x000D 0 q s w t) (hdefer : t.keep.deferAt = none) :
    exec (.storeCommit q fl) s = .next (answer (commitStore t fl).1 w (if (commitStore t fl).2 then sOK else sStoreFail) []) := by
  change execStoreCommit q fl s = _
  rw [execStoreCommit, request_ok h, hdefer]
  rfl

/-- STORE_COMMIT in a load deferral waits (R344). -/
theorem exec_storeCommit_waits (h : Runs 0x000D 0 q s w t) (hdefer : t.keep.deferAt = some t0) (hnone : t.keep.commitWait = none) :
    exec (.storeCommit q fl) s = .next { t with keep := { t.keep with commitWait := some (t.time, some w) } } := by
  change execStoreCommit q fl s = _
  rw [execStoreCommit, request_ok h, hdefer, hnone]
  rfl

/-- STORE_COMMIT in a load deferral joins a delayed commit that waits (R344). -/
theorem exec_storeCommit_joins (h : Runs 0x000D 0 q s w t) (hdefer : t.keep.deferAt = some t0)
    (hsome : t.keep.commitWait = some (t1, none)) :
    exec (.storeCommit q fl) s = .next { t with keep := { t.keep with commitWait := some (t1, some w) } } := by
  change execStoreCommit q fl s = _
  rw [execStoreCommit, request_ok h, hdefer, hsome]
  rfl

/-- STORE_STATUS (Table KEEP-9). -/
theorem exec_storeStatus (h : Runs 0x000E 0 q s w t) :
    exec (.storeStatus q) s = .next (answer t w sOK (wbBlock t (wbStore t))) := by
  change execStoreStatus q s = _
  rw [execStoreStatus, request_ok h, finish_now]

/-- FW_BEGIN with no trial pending empties the slot that an update writes (R369). -/
theorem exec_fwBegin_begins {n : U32} (h : Runs 0x000F 4 q s w t) (hn : n.toNat ≤ 0x800000) (htrial : t.keep.fwTrial = false)
    (hv : t.onFw (updateSlot t) (fun _ => { length := n.toNat, data := [], verified := false }) = v) :
    exec (.fwBegin q n) s = .next (answer { v with keep := { v.keep with fwBegun := true } } w sOK (le 1 (updateSlot t))) := by
  subst hv
  change execFwBegin q n s = _
  rw [execFwBegin, request_ok h, if_neg (Nat.not_lt.mpr hn), if_neg (by simp [htrial]), finish_now]

/-- FW_WRITE of a range inside the image that is not written yet (R369). -/
theorem exec_fwWrite_writes {off : U32} {bs : List Byte} {x : FwSlot} (h : Runs 0x0010 (4 + bs.length) q s w t)
    (hbegun : t.keep.fwBegun = true) (hx : t.keep.fwSlots.getD (updateSlot t) {} = x) (hin : off.toNat + bs.length ≤ x.length)
    (hnew : rangeWritten x off.toNat bs.length = false) :
    exec (.fwWrite q off bs) s = .next (answer (t.onFw (updateSlot t) fun x => { x with
      data := x.data ++ [(off.toNat, bs)], verified := false }) w sOK []) := by
  subst hx
  change execFwWrite q off bs s = _
  rw [execFwWrite, request_ok h]
  dsimp only
  rw [if_neg (by simp [hbegun]), if_neg (Nat.not_lt.mpr hin), if_neg (ne_true_of_eq_false hnew), finish_done]

/-- FW_VERIFY of a slot begun: VERIFIED follows the checks of the image (R369; 18 R380). -/
theorem exec_fwVerify_checks {st : U16} (h : Runs 0x0011 0 q s w t) (hbegun : t.keep.fwBegun = true)
    (hst : imageStatus t (t.keep.fwSlots.getD (updateSlot t) {}) = st) :
    exec (.fwVerify q) s = .next (answer (t.onFw (updateSlot t) fun x => { x with verified := decide (st = 0) }) w
      (if st = 0 then sOK else st) []) := by
  change execFwVerify q s = _
  rw [execFwVerify, request_ok h]
  dsimp only
  rw [if_neg (by simp [hbegun]), hst]
  by_cases hgood : st = 0
  · rw [if_neg (not_not.mpr hgood), finish_done, if_pos hgood, decide_eq_true hgood]
  · rw [if_pos hgood, finish_refuse, if_neg hgood, decide_eq_false hgood]

/-- FW_ACTIVATE of a verified slot: at the next start, or by a restart now (R369). -/
theorem exec_fwActivate_activates {m : Byte} (h : Runs 0x0012 1 q s w t) (hm : m.toNat ≤ 1)
    (hgood : (t.keep.fwSlots.getD (updateSlot t) {}).verified = true) (hidle : m = 1 → t.layer.st = .idle)
    (hv : writeDir t (updateSlot t) t.keep.fwActive true = v) :
    exec (.fwActivate q m) s = .next (if m = 0
      then answer { v with keep := { v.keep with trialRuns := false, fwBegun := false } } w sOK []
      else keeperReset (answer { v with keep := { v.keep with trialRuns := false, fwBegun := false } } w sOK []) 3 0xFF) := by
  have hstate : ¬ (m = 1 ∧ t.layer.st ≠ .idle) := fun hbad => hbad.2 (hidle hbad.1)
  subst hv
  change execFwActivate q m s = _
  rw [execFwActivate, request_ok h]
  dsimp only
  rw [if_neg (Nat.not_lt.mpr hm), if_neg (by simp only [hgood]; decide), if_neg hstate]
  split
  · rw [finish_done]
  · rw [finish_later]

/-- FW_CONFIRM of a trial makes it permanent and raises the rollback counter (R370; 18 R382). -/
theorem exec_fwConfirm_confirms (h : Runs 0x0013 0 q s w t) (htrial : t.keep.fwTrial = true)
    (hv : writeDir t t.keep.fwActive t.keep.fwPrev false = v) :
    exec (.fwConfirm q) s = .next (answer { v with
      keep := { v.keep with trialRuns := false }
      bist := { v.bist with rollback := max v.bist.rollback (min 63 (slotSec v.keep v.keep.fwActive)) } } w sOK []) := by
  subst hv
  change execFwConfirm q s = _
  rw [execFwConfirm, request_ok h, if_neg (by simp [htrial]), finish_done]

end

/-- Settles O42: in the state that the checks of a request leave, each clause's premises pick one branch of its body. -/
theorem storeAndFirmwareRequestsComplete : Obligations.StoreAndFirmwareRequestsComplete := by
  refine ⟨?_, ?_, ?_, ?_, ?_, ?_, ?_, ?_, ?_⟩
  · exact fun _ _ _ _ _ => exec_storeCommit_commits
  · exact fun _ _ _ _ _ _ => exec_storeCommit_waits
  · exact fun _ _ _ _ _ _ _ => exec_storeCommit_joins
  · exact fun _ _ _ _ => exec_storeStatus
  · exact fun _ _ _ _ _ h hn htrial => ⟨_, rfl, exec_fwBegin_begins h hn htrial rfl⟩
  · exact fun _ _ _ _ _ _ _ => exec_fwWrite_writes
  · exact fun _ _ _ _ _ => exec_fwVerify_checks
  · intro q s w t v h hgood hv
    refine ⟨?_, fun hidle => ?_⟩
    · rw [exec_fwActivate_activates h (by decide) hgood (fun hm => absurd hm (by decide)) hv, if_pos rfl]
    · rw [exec_fwActivate_activates h (by decide) hgood (fun _ => hidle) hv, if_neg (by decide)]
  · exact fun _ _ _ _ _ => exec_fwConfirm_confirms

end Sys2Proof.Proofs.Keeper
end

section
/-!
PROOFS. Part 2 of the Keeper family. Keeper's events (R343, R344, R352, R355, R357, R363, R366) and the register window's (R345 to
R347).
-/

namespace Sys2Proof.Proofs.Keeper

open Sys2Proof.Machine Sys2Proof.Safety

-- Off, because every lemma's own thread reserves a stack.
set_option Elab.async false

/-! ### Cores and load -/

section
variable {dt cause core t0 : Nat} {s u v : State} {c : Fin 3} {x : BitVec 7} {fl : List Bool} {w : Option Waiting}
variable (hu : s.pass dt = u) (hmain : u.mainOn = true)
include hu hmain

/-- KEEPER_WATCHDOG_TRIP of an active core resets Keeper (R343). -/
theorem exec_keeperWatchdogTrip_fires (hrun : u.keep.running = true) (hcore : (activeCores u).contains c.val = true)
    (hv : { u with keep := { u.keep with
      trips := (u.keep.trips + 1) % 65536, tripTimes := u.keep.tripTimes.modify c.val fun l => u.time :: l } } = v) :
    exec (.keeperWatchdogTrip dt c) s = .next (raise (keeperReset (askReserve v c.val) 1 c.val) 0x13B 0 false) := by
  have hcond : (u.mainOn && u.keep.running && (activeCores u).contains c.val) = true := by rw [hmain, hrun, hcore]; rfl
  subst hv
  change execKeeperWatchdogTrip dt c s = _
  rw [execKeeperWatchdogTrip, event_fires hu hcond]

/-- KEEPER_RESTART_DONE after a reset (R343). -/
theorem exec_keeperRestartDone_fires (hdown : u.keep.running = false) (hcause : u.keep.cause = some (cause, core, t0))
    (hv : { u with keep := { u.keep with running := true, cause := none, replaceNext := 0 } } = v) :
    exec (.keeperRestartDone dt) s = .next (mb4Copy (deliverHeld (answerBusy (replaceCore (restartImage
      (gbWriteAt v t0 0 0 3 0 0 (cause + 256 * core)) cause) u.keep.replaceNext)))) := by
  subst hv
  change execKeeperRestartDone dt s = _
  rw [execKeeperRestartDone, event_fires hu (by simp [hmain, hdown, hcause]), hcause]

/-- LOAD_WINDOW outside a load deferral: one begins above a mean of 90 (R344). -/
theorem exec_loadWindow_free (hrun : u.keep.running = true) (hfree : u.keep.deferAt = none)
    (hv : { u with keep := { u.keep with loads := (min x.toNat 100 :: u.keep.loads).take 10 } } = v) :
    exec (.loadWindow dt x) s = .next (if keepLoad v.keep ≤ 90 then v
      else gbRecord ({ v with keep := { v.keep with deferAt := some v.time } }.count 0x0022 0 1) 0 1 (keepLoad v.keep)) := by
  subst hv
  change execLoadWindow dt x s = _
  rw [execLoadWindow, event_fires hu (by simp [hmain, hrun])]
  simp only [hfree]

/-- LOAD_WINDOW in a load deferral: it ends below a mean of 75, and a held commit proceeds (R344). -/
theorem exec_loadWindow_deferred (hrun : u.keep.running = true) (hdefer : u.keep.deferAt = some t0)
    (hv : { u with keep := { u.keep with loads := (min x.toNat 100 :: u.keep.loads).take 10 } } = v) :
    exec (.loadWindow dt x) s = .next (if 75 ≤ keepLoad v.keep then v
      else if v.keep.commitWait.isNone then { v with keep := { v.keep with deferAt := none } }
      else commitNow (freeFlash { v with keep := { v.keep with deferAt := none } }).2
        (freeFlash { v with keep := { v.keep with deferAt := none } }).1) := by
  subst hv
  change execLoadWindow dt x s = _
  rw [execLoadWindow, event_fires hu (by simp [hmain, hrun])]
  simp only [hdefer]

/-- STORE_COMMIT_DELAY after the delay: the commit, or its wait in a load deferral (R344, R366). -/
theorem exec_storeCommitDelay_fires (hrun : u.keep.running = true) (hwait : u.keep.commitWait = none)
    (hdirty : u.keep.dirty = some t0) (hdue : t0 + u.pv 0x0013 0 * secU ≤ u.time) :
    exec (.storeCommitDelay dt fl) s = .next (if u.keep.deferAt.isSome
      then { u with keep := { u.keep with commitWait := some (u.time, none) } } else (commitStore u fl).1) := by
  change execStoreCommitDelay dt fl s = _
  rw [execStoreCommitDelay, event_fires hu (by simp [hmain, hrun, hwait, hdirty, hdue])]

/-- STORE_DEFERRAL_LIMIT of a commit held for 60 s (R344). -/
theorem exec_storeDeferralLimit_fires (hrun : u.keep.running = true) (hwait : u.keep.commitWait = some (t0, w))
    (hdue : t0 + 60 * secU ≤ u.time) : exec (.storeDeferralLimit dt fl) s = .next (commitNow u fl) := by
  change execStoreDeferralLimit dt fl s = _
  rw [execStoreDeferralLimit, event_fires hu (by simp [hmain, hrun, hwait, hdue])]

/-- GB_FLUSH for a reader that has been handed nothing for KEEP.GB_FLUSH_MS (R363). -/
theorem exec_gbFlush_fires (hreader : gbReader u = true) (hdue : u.gb.handedAt + u.pv 0x0015 0 * msU ≤ u.time) :
    exec (.gbFlush dt) s = .next (handOut 17 u) := by
  change execGbFlush dt s = _
  rw [execGbFlush, event_fires hu (by simp [hmain, hreader, hdue])]

end

/-! ### Queues, sessions and claims -/

section
variable {dt t0 : Nat} {s u v : State} {m : Fin 7} {mb : Fin 4} {tag : U16} {e : QEntry} {x : Session} {l : List Claim}
variable (hu : s.pass dt = u) (hmain : u.mainOn = true)
include hu hmain

/-- REQUEST_AGING of a request that has waited long enough (R352). -/
theorem exec_requestAging_fires (hfind : (u.keep.queues.getD m.val []).find? (agedEntry u.time tag) = some e)
    (hv : u.count 0x0022 (1 + e.cls.toNat) 1 = v) :
    exec (.requestAging dt m tag) s = .next { v with keep := { v.keep with
      queues := v.keep.queues.modify m.val (ageFirst v.time tag) } } := by
  have hany : (u.keep.queues.getD m.val []).any (agedEntry u.time tag) = true :=
    List.any_eq_true.mpr ⟨e, List.mem_of_find?_eq_some hfind, List.find?_some hfind⟩
  subst hv
  change execRequestAging dt m tag s = _
  rw [execRequestAging, event_fires hu ((Bool.and_eq_true _ _).mpr ⟨hmain, hany⟩), hfind]

/-- SESSION_TIMEOUT of a session without a packet for KEEP.SESSION_TIMEOUT_MS (R355). -/
theorem exec_sessionTimeout_fires (hx : u.session mb.val = some x) (hdue : x.lastRx + u.pv 0x0011 0 * msU ≤ u.time) :
    exec (.sessionTimeout dt mb) s = .next (endSession u mb.val) := by
  change execSessionTimeout dt mb s = _
  rw [execSessionTimeout, event_fires hu (by simp [hmain, hx, hdue])]

/-- CLAIM_WINDOW_CLOSE once every claim of the window has been taken (R357). -/
theorem exec_claimWindowClose_fires (hrun : u.keep.running = true) (hclaims : u.keep.claims = some (t0, l))
    (hend : claimEnd u t0 ≤ u.time) (hqueued : claimQueued u = false) :
    exec (.claimWindowClose dt) s = .next (closeWindow u) := by
  change execClaimWindowClose dt s = _
  rw [execClaimWindowClose, event_fires hu (by simp [hmain, hrun, hclaims, hend, hqueued])]

end

/-- Settles O43: each clause's premises are the event's condition, and pick the branch of its effect. -/
theorem keeperEventsComplete : Obligations.KeeperEventsComplete := by
  refine ⟨?_, ?_, ?_, ?_, ?_, ?_, ?_, ?_, ?_, ?_, ?_, ?_, ?_, ?_⟩
  · exact fun _ _ _ _ _ => exec_keeperWatchdogTrip_fires
  · exact fun _ _ _ _ _ _ _ => exec_keeperRestartDone_fires
  · intro dt s u x v hu hmain hrun hfree hv hlow
    rw [exec_loadWindow_free hu hmain hrun hfree hv, if_pos hlow]
  · intro dt s u x v hu hmain hrun hfree hv hhigh
    rw [exec_loadWindow_free hu hmain hrun hfree hv, if_neg (Nat.not_le.mpr hhigh)]
  · intro dt s u x v t0 hu hmain hrun hdefer hv hhigh
    rw [exec_loadWindow_deferred hu hmain hrun hdefer hv, if_pos hhigh]
  · intro dt s u x v t0 hu hmain hrun hdefer hv hlow hwait
    rw [exec_loadWindow_deferred hu hmain hrun hdefer hv, if_neg (Nat.not_le.mpr hlow), if_pos (by simp [hwait])]
  · intro dt s u x v t0 d hu hmain hrun hdefer hv hlow hwait
    refine ⟨_, rfl, ?_⟩
    rw [exec_loadWindow_deferred hu hmain hrun hdefer hv, if_neg (Nat.not_le.mpr hlow), if_neg (by simp [hwait])]
  · exact fun _ _ _ _ _ _ hu hmain hfind => ⟨_, rfl, exec_requestAging_fires hu hmain hfind rfl⟩
  · exact fun _ _ _ _ _ => exec_sessionTimeout_fires
  · exact fun _ _ _ _ _ => exec_claimWindowClose_fires
  · intro dt s u fl t0 hu hmain hrun hwait hdirty hdue hfree
    rw [exec_storeCommitDelay_fires hu hmain hrun hwait hdirty hdue, if_neg (by simp [hfree])]
  · intro dt s u fl t0 d hu hmain hrun hwait hdirty hdue hdefer
    rw [exec_storeCommitDelay_fires hu hmain hrun hwait hdirty hdue, if_pos (by simp [hdefer])]
  · exact fun _ _ _ _ _ _ => exec_storeDeferralLimit_fires
  · exact fun _ _ _ => exec_gbFlush_fires

/-! ### The register window -/

section
variable {dt : Nat} {s u : State} {path : WindowPath} {off : BitVec 12} {v : U32}
variable (hu : s.pass dt = u) (hon : windowOn u = true)
include hu hon

/-- MB4_REQ_DOORBELL while MB4 answers (R347). -/
theorem exec_mb4ReqDoorbell_fires (hlive : mailboxDead u 4 = false) :
    exec (.mb4ReqDoorbell dt) s = .next (mb4Request u) := by
  change execMb4ReqDoorbell dt s = _
  rw [execMb4ReqDoorbell, event_fires hu (by simp [hon, hlive])]

/-- MB4_ACK_DOORBELL (R347). -/
theorem exec_mb4AckDoorbell_fires : exec (.mb4AckDoorbell dt) s = .next (mb4Ack u) := by
  change execMb4AckDoorbell dt s = _
  rw [execMb4AckDoorbell, event_fires hu hon]

/-- TIME_NOW_READ (R346). -/
theorem exec_timeNowRead_fires : exec (.timeNowRead dt) s = .next (latchTime u) := by
  change execTimeNowRead dt s = _
  rw [execTimeNowRead, event_fires hu hon]

/-- REGISTER_WRITE by either path (R345). -/
theorem exec_registerWrite_fires : exec (.registerWrite dt path off v) s = .next (match path with
    | .spi => spiWrite u off.toNat v.toNat
    | .transport => windowAccess u ([2, 0] ++ le 2 1 ++ le 4 off.toNat ++ le 4 v.toNat)) := by
  change execRegisterWrite dt path off v s = _
  unfold execRegisterWrite
  exact event_fires hu hon

end

/-- Settles O44: each clause's premises are the event's condition, and its path picks the effect. -/
theorem windowEventsComplete : Obligations.WindowEventsComplete := by
  refine ⟨?_, ?_, ?_, ?_, ?_⟩
  · exact fun _ _ _ => exec_mb4ReqDoorbell_fires
  · exact fun _ _ _ => exec_mb4AckDoorbell_fires
  · exact fun _ _ _ => exec_timeNowRead_fires
  · exact fun _ _ _ _ _ => exec_registerWrite_fires (path := .spi)
  · exact fun _ _ _ _ _ => exec_registerWrite_fires (path := .transport)

end Sys2Proof.Proofs.Keeper
end

section
/-!
PROOFS. The self-test family (18_selftest_security_reserves): the shut-down self-test, the start from its result, and their requests
(R374 to R379, R383, R387).
-/

namespace Sys2Proof.Proofs.SelfTest

open Sys2Proof.Machine Sys2Proof.Safety Sys2Proof.Proofs.LayerCycle

-- Off, because every lemma's own thread reserves a stack.
set_option Elab.async false

/-! ### Requests -/

section
variable {q : Req} {s t : State} {w : Waiting}

/-- BIST_RESULT_READ of a record that is held (R387). -/
theorem exec_bistResultRead_reads (h : Runs 0x1001 0 q s w t) (hres : t.bist.result ≠ 0) :
    exec (.bistResultRead q) s = .next (answer t w sOK (bistRecord t.bist)) := by
  change execBistResultRead q s = _
  rw [execBistResultRead, request_ok h, if_neg hres, finish_now]

/-- SEC_IDENT_GET (R383). -/
theorem exec_secIdentGet (h : Runs 0x1002 0 q s w t) :
    exec (.secIdentGet q) s = .next (answer t w sOK (le 8 Config.unitId.toNat ++ identityPublic ++ identityCert)) := by
  change execSecIdentGet q s = _
  rw [execSecIdentGet, request_ok h, finish_now]

/-- WEAR_READ (R387). -/
theorem exec_wearRead (h : Runs 0x1003 0 q s w t) :
    exec (.wearRead q) s = .next (answer t w sOK (wbBlock t (wbSecurity t))) := by
  change execWearRead q s = _
  rw [execWearRead, request_ok h, finish_now]

end

/-! ### Events -/

/-- The rows that an interrupted test had found and repaired: open, inside the SRAM, none where zeroisation had not read back
(R376; log entries 6, 44). -/
def interruptedRows (s : State) : List Nat :=
  if (s.freeBits 1 == 1) = true then ((Config.openRows s.free).filter fun r => decide (r < 96 * 1024)).dedup else []

theorem interruptedRows_eq_nil {s : State} (h : (s.freeBits 1 == 1) = false) : interruptedRows s = [] :=
  if_neg (ne_true_of_eq_false h)

theorem interruptedRows_lt {s : State} {r : Nat} (h : r ∈ interruptedRows s) : r < 96 * 1024 := by
  unfold interruptedRows at h
  split at h
  · exact of_decide_eq_true (List.mem_filter.mp (List.mem_dedup.mp h)).2
  · cases h

section
variable {dt : Nat} {s u v : State} {b : Bist}
variable (hu : s.pass dt = u)
include hu

/-- SHUTDOWN_SELF_TEST once the slots before the board's are released (R374). -/
theorem exec_shutdownSelfTest_fires {i : SelfTestInputs} (hrel : shutReleased u = true) :
    exec (.shutdownSelfTest dt i) s = .next (toPorter u (shutRecord u i)) := by
  change execShutdownSelfTest dt i s = _
  rw [execShutdownSelfTest, event_fires hu hrel]

/-- SELF_TEST_INTERRUPT of a running test: RESULT 5, and what it had repaired stays (R376). -/
theorem exec_selfTestInterrupt_fires (hmain : u.mainOn = true) (hrun : u.bist.running = true)
    (hb : (interruptedRows u).foldl repairSramRow u.bist = b)
    (hv : { u.freeTaken with bist := { u.bist with otpUsed := b.otpUsed, spares := b.spares, poolBytes := b.poolBytes } } = v) :
    exec (.selfTestInterrupt dt) s = .next (toPorter v
      { noTest v.bist 5 (u.freeBits 1 == 1) (BitVec.ofNat 32 ((v.time - v.bist.tTest) / usU)) with wakeHeld := v.bist.wakeWaits }) := by
  subst hb hv
  change execSelfTestInterrupt dt s = _
  rw [execSelfTestInterrupt, event_fires hu (by simp [hmain, hrun])]
  rfl

/-- BOOT of a waking device whose board slots are ready (R378). -/
theorem exec_boot_fires (hwake : waking u = true) (hready : boardReady u = true) :
    exec (.boot dt) s = .next (Machine.boot u) := by
  change execBoot dt s = _
  rw [execBoot, event_fires hu (by simp [hwake, hready])]

end

/-- Settles O45: each clause's premises pick one branch of its body, or are the event's condition. -/
theorem selfTestCommandsComplete : Obligations.SelfTestCommandsComplete := by
  refine ⟨?_, ?_, ?_, ?_, ?_, ?_⟩
  · exact fun _ _ _ _ => exec_bistResultRead_reads
  · exact fun _ _ _ _ => exec_secIdentGet
  · exact fun _ _ _ _ => exec_wearRead
  · exact fun _ _ _ _ hu => exec_shutdownSelfTest_fires hu
  · intro dt s u hu hmain hrun
    exact ⟨u.freeBits 1 == 1, interruptedRows u, _, _, interruptedRows_eq_nil, fun _ => interruptedRows_lt, rfl, rfl,
      exec_selfTestInterrupt_fires hu hmain hrun rfl rfl⟩
  · exact fun _ _ _ => exec_boot_fires

end Sys2Proof.Proofs.SelfTest
end

section
/-!
PROOFS. Answering a request (17 R347 to R349): a message on its way out touches the transport, the mailbox's history and
buffers and MB5's replies only. `bare` is the state with those blanked, and no stage of an answer changes it.
-/

namespace Sys2Proof.Proofs.Answering

open Sys2Proof.Machine Sys2Proof.Safety Sys2Proof.Proofs.LayerCycle

-- Off, because every lemma's own thread reserves a stack.
set_option Elab.async false

/-- A state with all blanked that a message on its way out may change. -/
def bare (s : State) : State :=
  { s with
    sent := []
    host := { s.host with chans := [], ports := s.host.ports.map fun p => { p with lastTx := 0 } }
    stage := { s.stage with mb5Out := [] }
    keep := { s.keep with hist := [], mb4Wait := [], mb4Resp := [], respReady := false } }

/-! ### The stages of an answer -/

@[simp] theorem bare_send (s : State) (o : Out) : bare (s.send o) = bare s := rfl
@[simp] theorem bare_onChan (s : State) (ch : Nat) (f : Chan → Chan) : bare (s.onChan ch f) = bare s := rfl

/-- A change of one element that `g` does not see is none to the list `g` makes. -/
theorem map_modify_same {α β : Type} (g : α → β) (f : α → α) (h : ∀ y, g (f y) = g y) (l : List α) (n : Nat) :
    (l.modify n f).map g = l.map g := by
  apply List.ext_getElem <;> simp only [List.length_map, List.length_modify, List.getElem_map, List.getElem_modify]
  intro i _ _
  split
  · exact h _
  · rfl

theorem bare_onPort_lastTx (s : State) (p x : Nat) : bare (s.onPort p fun y => { y with lastTx := x }) = bare s := by
  have hports := map_modify_same (fun y : Port => { y with lastTx := 0 }) (fun y => { y with lastTx := x })
    (fun _ => rfl) s.host.ports p
  simp only [bare, State.onPort, hports]

theorem bare_emitPort (s : State) (p ch : Nat) (ty fl : Byte) (seq : Option U32) (bs : List Byte) :
    bare (emitPort s p ch ty fl seq bs) = bare s := by
  rw [emitPort, bare_send, bare_onPort_lastTx]

theorem bare_emitPacket (s : State) (ch : Nat) (ty fl : Byte) (seq : Option U32) (bs : List Byte) :
    bare (emitPacket s ch ty fl seq bs) = bare s := by
  unfold emitPacket
  split
  · exact bare_emitPort ..
  · rfl

theorem bare_transmit (s : State) (ch : Nat) (ty fl : Byte) (bs : List Byte) : bare (transmit s ch ty fl bs) = bare s := by
  unfold transmit
  rw [bare_onChan, bare_emitPacket]

theorem bare_chanSend (s : State) (ch : Nat) (ty fl : Byte) (bs : List Byte) : bare (chanSend s ch ty fl bs) = bare s := by
  unfold chanSend
  split
  · exact bare_transmit ..
  · exact bare_onChan ..

theorem bare_sendMessage (s : State) (ch : Nat) (bs : List Byte) : bare (sendMessage s ch bs) = bare s :=
  foldl_same bare _ (fun _ _ => bare_chanSend ..) _ s

theorem bare_mb4Fill (s : State) : bare (mb4Fill s) = bare s := by
  unfold mb4Fill
  split
  · rfl
  · split <;> rfl

theorem bare_answer (s : State) (w : Waiting) (status : U16) (data : List Byte) : bare (answer s w status data) = bare s := by
  have hpushed (k : Keeper) (st : Stage) (o : List Out)
      (hk : { k with hist := [], mb4Wait := [], mb4Resp := [], respReady := false }
        = { s.keep with hist := [], mb4Wait := [], mb4Resp := [], respReady := false })
      (hst : { st with mb5Out := [] } = { s.stage with mb5Out := [] }) :
      bare { s with keep := k, stage := st, sent := o } = bare s := by
    simp only [bare, hk, hst]
  unfold answer
  simp only
  split
  · rw [bare_sendMessage, hpushed] <;> split <;> rfl
  · split
    · rw [bare_mb4Fill, hpushed]
      · rfl
      · split <;> rfl
    · rw [hpushed]
      · rfl
      · split <;> rfl

/-! ### What the blanked state says -/

/-- States that agree once blanked differ as `Quiet` allows. -/
theorem quiet_of_bare {s t : State} (h : bare t = bare s) : Quiet s t := by
  refine ⟨?_, congrArg (fun x => x.host.ports) h, ?_, fun k _ => ?_⟩
  · exact congrArg (fun x => { x with
      sent := s.sent
      host := { x.host with chans := s.host.chans, ports := s.host.ports }
      stage := { x.stage with mb5Out := s.stage.mb5Out }
      params := s.params
      keep := { x.keep with
        queues := s.keep.queues, fast := s.keep.fast, sessions := s.keep.sessions, hist := s.keep.hist
        mb4Wait := s.keep.mb4Wait, mb4Resp := s.keep.mb4Resp, respReady := s.keep.respReady, mbBad := s.keep.mbBad } }) h
  · exact congrArg (fun x => x.keep.sessions.map fun x => x.map fun y => { y with lastRx := 0 }) h
  · exact congrArg (fun x => AMap.find x.params k) h

/-- Settles O46: no stage of an answer changes the blanked state. -/
theorem answersLeaveMachineAlone : Obligations.AnswersLeaveMachineAlone := by
  intro s w status data
  have h := bare_answer s w status data
  exact ⟨quiet_of_bare h, answer_params s w status data, congrArg (fun x => x.keep.sessions) h,
    congrArg (fun x => x.keep.queues) h, congrArg (fun x => x.keep.fast) h, congrArg (fun x => x.keep.mbBad) h⟩

end Sys2Proof.Proofs.Answering
end

section
/-!
PROOFS. The report commands (O47) do not all leave the state alone: LAY_STATUS in a state whose pass has no marker yet
answers an open value (log entry 30), and taking it moves the counter of open values, which `Quiet` holds fixed.
-/

namespace Sys2Proof.Proofs.Reports

open Sys2Proof.Machine Sys2Proof.Safety Sys2Proof.Proofs.LayerCycle

-- Off, because every lemma's own thread reserves a stack.
set_option Elab.async false

/-- Main is on and Keeper runs; no marker has been passed. -/
def noMarkerYet : State :=
  { State.reset with power := .standby, keep := { State.reset.keep with running := true } }

/-- LAY_STATUS on mailbox 6. -/
def statusReq : Req := { dt := 0, mb := 6, tag := 0, cls := 2, crcOk := true, len := 0 }

/-- The state in which LAY_STATUS is then answered. -/
def statusAt : State := dequeue (arrive 0x0304 statusReq (noMarkerYet.pass 0)) 0x0304 statusReq

theorem statusReq_runs : ∃ w, Runs 0x0304 0 statusReq noMarkerYet w statusAt :=
  ⟨waitingOf (noMarkerYet.pass 0) 0x0304 statusReq 2 0, rfl, by decide, by decide, by rfl, rfl⟩

theorem statusAt_marker : statusAt.layer.marker = none := rfl

/-- The answer takes one open value. -/
theorem layStatus_takes_free :
    ∃ t, exec (.layStatus statusReq) noMarkerYet = .next t ∧ t.free = (noMarkerYet.pass 0).free + 1 := by
  obtain ⟨w, h⟩ := statusReq_runs
  refine ⟨_, exec_layStatus h, ?_⟩
  rw [answer_free, statusAt_marker]
  rfl

/-- Refutes O47: LAY_STATUS before the first marker takes an open value, so `free` is not what it was. -/
theorem not_reportsChangeNothing : ¬ Obligations.ReportsChangeNothing := by
  intro h
  obtain ⟨t, ht, hfree⟩ := layStatus_takes_free
  obtain ⟨hquiet, -⟩ := h _ _ _ _ rfl ht
  have hsame : t.free = (noMarkerYet.pass 0).free := congrArg (fun x => x.free) hquiet
  omega

end Sys2Proof.Proofs.Reports
end

section
/-!
PROOFS. A parameter write that is applied (17 R358) is what the parameter then reads, and only that parameter changes.
-/

namespace Sys2Proof.Proofs.Parameters

open Sys2Proof.Machine Sys2Proof.Safety Sys2Proof.Proofs.LayerCycle

-- Off, because every lemma's own thread reserves a stack.
set_option Elab.async false

/-- A sub-index has 8 bits, so a key names one parameter. -/
theorem pkey_inj {idx sub idx' sub' : Nat} (hsub : sub < 256) (hsub' : sub' < 256) (h : pkey idx sub = pkey idx' sub') :
    (idx, sub) = (idx', sub') := by
  unfold pkey at h
  ext <;> dsimp only <;> omega

theorem pv_pput_other (s : State) {idx sub idx' sub' : Nat} (v : Nat) (h : pkey idx' sub' ≠ pkey idx sub) :
    (s.pput idx sub v).pv idx' sub' = s.pv idx' sub' := by
  have hfind : AMap.find (pset s.params idx sub v) (pkey idx' sub') = AMap.find s.params (pkey idx' sub') := by
    unfold pset
    split
    · split
      · exact AMap.find_del_other _ h
      · exact AMap.find_put_other _ _ h
    · exact AMap.find_put_other _ _ h
  simp only [State.pv, State.pput_params, pread, hfind]

/-- What a write sets in motion on the links leaves the parameters alone. -/
theorem paramEffects_params (s : State) (es : List ParamEntry) : (paramEffects s es).params = s.params := by
  unfold paramEffects
  split
  · exact foldl_same State.params sendTelem (fun _ _ => mgmtSend_params ..) _ s
  · rfl

theorem applyParams_params (s : State) (es : List ParamEntry) : (applyParams s es).params = paramsAfter s.params es := by
  unfold applyParams
  dsimp only
  split
  · rw [markDirty_params, paramEffects_params]
  · rw [paramEffects_params]

/-- One entry applied is one parameter set. -/
theorem applyParams_one_pv {e : ParamEntry} {r : PRow} (hr : findParam e.index.toNat e.sub.toNat = some r) (s : State)
    (idx sub : Nat) : (applyParams s [e]).pv idx sub
      = (s.pput e.index.toNat e.sub.toNat (writtenBits e.index.toNat (toField r.bits (ofLe e.value)))).pv idx sub := by
  have hidx : r.idx = e.index.toNat := by
    have h := List.find?_some hr
    simp only [Bool.and_eq_true, beq_iff_eq] at h
    exact h.1.1
  simp only [State.pv, State.pput_params, applyParams_params, paramsAfter, List.foldl_cons, List.foldl_nil, hr, hidx]

/-- Settles O48: a write sets one key, which reads back and is no other parameter's key. -/
theorem writtenParameterReadsBack : Obligations.WrittenParameterReadsBack := by
  intro t e r hr
  refine ⟨?_, fun h => ?_, fun idx sub hsub hne => ?_⟩ <;> rw [applyParams_one_pv hr]
  · exact pv_pput_same ..
  · rw [pv_pput_same, writtenBits, if_neg (by omega)]
  · exact pv_pput_other _ _ fun h => hne (pkey_inj hsub e.sub.isLt h)

end Sys2Proof.Proofs.Parameters
end

section
/-!
PROOFS. What a reaction to a fault leaves alone (15 R312, Table FLT-3). A raise writes its record, its class's reaction runs,
and what that reaction loses or ends is raised in turn. `Calm` says what no part of a reaction changes and what it only ever
makes safer; each model function `f` that a reaction runs through has one lemma `Calm.f`.
-/

namespace Sys2Proof.Proofs.Reaction

open Sys2Proof.Machine Sys2Proof.Safety Sys2Proof.Proofs.Answering

-- Off, because every lemma's own thread reserves a stack.
set_option Elab.async false

/-! ### Bits of a vector -/

theorem setBit_eq {w : Nat} (v : BitVec w) (n : Nat) (b : Bool) :
    setBit v n b = if b then v ||| BitVec.twoPow w n else v &&& ~~~(BitVec.twoPow w n) := by
  have hpow : BitVec.ofNat w (2 ^ n) = BitVec.twoPow w n :=
    BitVec.eq_of_toNat_eq (by rw [BitVec.toNat_ofNat, BitVec.toNat_twoPow])
  rw [setBit, hpow]

theorem setBit_other {w : Nat} (v : BitVec w) {n j : Nat} (b : Bool) (h : j ≠ n) :
    (setBit v n b).getLsbD j = v.getLsbD j := by
  cases b
  · simpa [setBit_eq, BitVec.getLsbD_twoPow, h.symm] using BitVec.lt_of_getLsbD
  · simp [setBit_eq, BitVec.getLsbD_twoPow, h.symm]

theorem setBit_same {w : Nat} (v : BitVec w) {n : Nat} (b : Bool) (hn : n < w) : (setBit v n b).getLsbD n = b := by
  cases b <;> simp [setBit_eq, hn]

/-! ### The relations -/

/-- Every heater output is off under C4. -/
def HeatersOff (s : State) : Prop := ∀ h ∈ s.house.heaters, h.on = false ∧ h.c4Off = true

/-- Sources that a raise may raise in turn: a missed trigger, a lost first frame, a servo test that ends (R107, R123, R204). -/
def cascades : List Nat := [0x087, 0x0A7, 0x0FD]

/-- Sources whose condition a reaction may end: it takes a pending swap and stops drives (R77, R223). -/
def endable : List Nat := [0x048, 0x111, 0x112, 0x119]

/-- What no raise undoes: the block stays dark and still, the reactions in force stay, and no bank is touched. -/
structure Held (s t : State) : Prop where
  time : t.time = s.time
  inhibit : t.flt.inhibit = s.flt.inhibit
  inForce : t.flt.inForce = s.flt.inForce
  c3Src : ∀ j, s.flt.c3Src.getLsbD j = true → t.flt.c3Src.getLsbD j = true
  c4 : s.flt.c4.isSome = true → t.flt.c4.isSome = true
  enable : s.layer.emitEnable = false → t.layer.emitEnable = false
  nEmit : (∀ c ∈ s.link.chains, c.nEmit = true) → ∀ c ∈ t.link.chains, c.nEmit = true
  unit : ∀ k, (s.unit k).st = .disabled → (t.unit k).st = .disabled
  drive : ∀ k, (s.drive k).st = .disabled ∧ (s.drive k).gates = false → (t.drive k).st = .disabled ∧ (t.drive k).gates = false
  heaters : HeatersOff s → HeatersOff t
  keys : s.data.keys = List.replicate 4 {} → t.data.keys = List.replicate 4 {}
  banks : t.keep.banks = s.keep.banks
  newest : t.keep.newest = s.keep.newest

/-- A state's fault record without what a reaction may write: conditions, the reactions in force and their checks. -/
def ledger (f : Flt) : Flt := { f with cond := 0, c3Src := 0, c4 := none, checks := [] }

/-- What a reaction leaves alone that may lose frames of the period in progress. -/
structure Lossy (s t : State) : Prop extends Held s t where
  ledger : ledger t.flt = ledger s.flt
  cond : ∀ j, j ∉ endable → t.flt.cond.getLsbD j = s.flt.cond.getLsbD j
  cap : s.emon.cap.st = .off → t.emon.cap.st = .off ∧ t.emon.cap.missRaised = s.emon.cap.missRaised
  first : s.link.firsts.getD 0 false = true → t.link.firsts.getD 0 false = true

/-- What a reaction that loses no frame leaves alone. -/
structure Calm (s t : State) : Prop extends Lossy s t where
  firsts : t.link.firsts = s.link.firsts

section
variable {s t u : State}

theorem Held.refl (s : State) : Held s s where
  time := rfl
  inhibit := rfl
  inForce := rfl
  c3Src _ := id
  c4 := id
  enable := id
  nEmit := id
  unit _ := id
  drive _ := id
  heaters := id
  keys := id
  banks := rfl
  newest := rfl

theorem Held.trans (h : Held s t) (k : Held t u) : Held s u where
  time := k.time.trans h.time
  inhibit := k.inhibit.trans h.inhibit
  inForce := k.inForce.trans h.inForce
  c3Src j := k.c3Src j ∘ h.c3Src j
  c4 := k.c4 ∘ h.c4
  enable := k.enable ∘ h.enable
  nEmit := k.nEmit ∘ h.nEmit
  unit j := k.unit j ∘ h.unit j
  drive j := k.drive j ∘ h.drive j
  heaters := k.heaters ∘ h.heaters
  keys := k.keys ∘ h.keys
  banks := k.banks.trans h.banks
  newest := k.newest.trans h.newest

theorem Held.dark (h : Held s t) (hs : Dark s) : Dark t := ⟨h.enable hs.1, h.nEmit hs.2⟩

theorem Lossy.refl (s : State) : Lossy s s := ⟨.refl s, rfl, fun _ _ => rfl, fun h => ⟨h, rfl⟩, id⟩

theorem Lossy.trans (h : Lossy s t) (k : Lossy t u) : Lossy s u where
  toHeld := h.toHeld.trans k.toHeld
  ledger := k.ledger.trans h.ledger
  cond j hj := (k.cond j hj).trans (h.cond j hj)
  cap hs :=
    have ht := h.cap hs
    have hu := k.cap ht.1
    ⟨hu.1, hu.2.trans ht.2⟩
  first := k.first ∘ h.first

theorem Calm.refl (s : State) : Calm s s := ⟨.refl s, rfl⟩

theorem Calm.trans (h : Calm s t) (k : Calm t u) : Calm s u :=
  ⟨h.toLossy.trans k.toLossy, k.firsts.trans h.firsts⟩

/-! ### Rules for the shapes of an operation -/

/-- A record update writes any fields: what `Calm` speaks of needs a reason, which is found by itself where it is not written.
-/
theorem Calm.update (h : Calm s u) {pending sent free power params mem layer dose emon link host dma data servo axes stepAt
    house therm pwr stage clk gb cal keep bist}
    (he : u.layer.emitEnable = false → Layer.emitEnable layer = false := by with_reducible exact fun h => h)
    (hn : (∀ c ∈ u.link.chains, c.nEmit = true) → ∀ c ∈ Link.chains link, c.nEmit = true := by
      with_reducible exact fun h => h)
    (hf : Link.firsts link = u.link.firsts := by with_reducible rfl)
    (hc : u.emon.cap.st = .off → (Emon.cap emon).st = .off ∧ (Emon.cap emon).missRaised = u.emon.cap.missRaised := by
      with_reducible exact fun h => ⟨h, rfl⟩)
    (hh : House.heaters house = u.house.heaters := by with_reducible rfl)
    (hk : Data.keys data = u.data.keys := by with_reducible rfl)
    (hb : Keeper.banks keep = u.keep.banks := by with_reducible rfl)
    (hw : Keeper.newest keep = u.keep.newest := by with_reducible rfl) :
    Calm s (.mk pending u.time sent free power params mem layer dose emon link host dma data servo u.drv axes
      u.units stepAt house therm pwr stage clk u.flt gb cal keep bist) :=
  h.trans {
    Held.refl u, Lossy.refl u with
    enable := he
    nEmit := hn
    heaters := fun hu h hh' => hu h (hh ▸ hh')
    keys := hk.trans
    banks := hb
    newest := hw
    cap := hc
    first := fun hu => (congrArg (fun l => l.getD 0 false) hf).trans hu
    firsts := hf }

theorem Calm.ite {c : Prop} {_ : Decidable c} (ht : Calm s t) (hu : Calm s u) : Calm s (if c then t else u) := by
  split
  · exact ht
  · exact hu

theorem Calm.foldl {α : Type} {f : State → α → State} {l : List α} (h : Calm s t)
    (hf : ∀ u x, Calm s u → Calm s (f u x)) : Calm s (l.foldl f t) :=
  List.foldlRecOn l f (motive := Calm s) h fun u hu x _ => hf u x hu

/-! ### Small updates and the Guestbook -/

theorem Calm.poke {a bs} (h : Calm s t) : Calm s (State.poke t a bs) := by
  unfold State.poke
  exact h.update

theorem Calm.sendAll {os} (h : Calm s t) : Calm s (State.sendAll t os) := by
  unfold State.sendAll
  exact h.update

theorem Calm.freeTaken (h : Calm s t) : Calm s (State.freeTaken t) := by
  unfold State.freeTaken
  exact h.update

theorem Calm.pput {idx sub v} (h : Calm s t) : Calm s (State.pput t idx sub v) := by
  unfold State.pput
  exact h.update

theorem Calm.count {idx sub n} (h : Calm s t) : Calm s (State.count t idx sub n) := h.pput

theorem Calm.wear {sub n} (h : Calm s t) : Calm s (State.wear t sub n) := h.pput

theorem Calm.gbWriteAt {t' id subsys kind cls frac data} (h : Calm s t) :
    Calm s (gbWriteAt t t' id subsys kind cls frac data) := by
  unfold Machine.gbWriteAt
  exact h.update

theorem Calm.toPower {p} (h : Calm s t) : Calm s (State.toPower t p) := by
  unfold State.toPower gbOpen
  exact .ite h h.gbWriteAt.freeTaken.freeTaken.update

/-! ### Answers and frames -/

/-- An answer changes nothing that its blanked state shows. -/
theorem Calm.answer {w status data} (h : Calm s t) : Calm s (answer t w status data) := by
  have e := bare_answer t w status data
  generalize Machine.answer t w status data = v at e ⊢
  have hflt : v.flt = t.flt := congrArg (fun x => x.flt) e
  have hunits : v.units = t.units := congrArg (fun x => x.units) e
  have hdrv : v.drv = t.drv := congrArg (fun x => x.drv) e
  have hlayer : v.layer = t.layer := congrArg (fun x => x.layer) e
  have hlink : v.link = t.link := congrArg (fun x => x.link) e
  have hhouse : v.house = t.house := congrArg (fun x => x.house) e
  have hemon : v.emon = t.emon := congrArg (fun x => x.emon) e
  refine h.trans {
    time := congrArg (fun x => x.time) e
    inhibit := by rw [hflt]
    inForce := by rw [hflt]
    c3Src := fun _ => by rw [hflt]; exact id
    c4 := by rw [hflt]; exact id
    enable := by rw [hlayer]; exact id
    nEmit := by rw [hlink]; exact id
    unit := fun _ => by rw [State.unit, State.unit, hunits]; exact id
    drive := fun _ => by rw [State.drive, State.drive, hdrv]; exact id
    heaters := by rw [HeatersOff, HeatersOff, hhouse]; exact id
    keys := (congrArg (fun x => x.data.keys) e).trans
    banks := congrArg (fun x => x.keep.banks) e
    newest := congrArg (fun x => x.keep.newest) e
    ledger := by rw [hflt]
    cond := fun _ _ => by rw [hflt]
    cap := fun hs => by rw [hemon]; exact ⟨hs, rfl⟩
    first := by rw [hlink]; exact id
    firsts := by rw [hlink] }

theorem Calm.linkSend {n fs} (h : Calm s t) : Calm s (linkSend t n fs) := by
  unfold Machine.linkSend laneSend
  exact .ite (.ite h (h.sendAll.update (hn := id) (hf := rfl))) h

end

end Sys2Proof.Proofs.Reaction
end

section
/-!
PROOFS. The parts of a reaction that touch the dose of a pass and the emission monitor (01 R33, 04 R76 to R109): an emission
stop and the lines it accounts, the map's end and the capture.
-/

namespace Sys2Proof.Proofs.Reaction

open Sys2Proof.Machine Sys2Proof.Safety

-- Off, because every lemma's own thread reserves a stack.
set_option Elab.async false

section
variable {s t : State}

/-! ### Energy that comes back -/

theorem Calm.onGroup {key f} (h : Calm s t) : Calm s (State.onGroup t key f) := by
  unfold State.onGroup
  exact h.update

theorem Calm.flagGroup {key bits} (h : Calm s t) : Calm s (State.flagGroup t key bits) := h.onGroup

theorem Calm.addDeficit {k c e} (h : Calm s t) : Calm s (State.addDeficit t k c e) := h.onGroup

theorem Calm.flagLine {k bits} (h : Calm s t) : Calm s (State.flagLine t k bits) := by
  unfold State.flagLine
  exact h.foldl fun _ _ h => h.flagGroup

theorem Calm.giveBack {nb k c e} (h : Calm s t) : Calm s (giveBack t nb k c e) := by
  unfold Machine.giveBack
  exact .ite h.update h.addDeficit

theorem Calm.joinRow {nb k c r} (h : Calm s t) : Calm s (joinRow t nb k c r) := by
  unfold Machine.joinRow
  exact h.giveBack

theorem Calm.joinColumn {nb k c} (h : Calm s t) : Calm s (joinColumn t nb k c) := by
  unfold Machine.joinColumn
  exact .ite h (h.foldl fun _ _ h => h.joinRow)

theorem Calm.joinLine {nb k} (h : Calm s t) : Calm s (joinLine t nb k) := by
  unfold Machine.joinLine
  exact .ite (h.foldl fun _ _ h => h.joinColumn) h

theorem Calm.returnWords {ws} (h : Calm s t) : Calm s (returnWords t ws) := by
  unfold Machine.returnWords returnEnergy
  exact h.foldl fun _ _ h => (Calm.ite h.addDeficit h.update).flagGroup

theorem Calm.onBuild {m f} (h : Calm s t) : Calm s (onBuild t m f) := by
  unfold Machine.onBuild
  exact h.update

/-! ### Emission stops -/

theorem Calm.lineDone {k} (h : Calm s t) : Calm s (lineDone t k) := by
  -- Named, so that checking the update does not run the fold over all columns.
  have ends (u : State) (hu : Calm s u) : Calm s { u with
      layer := { u.layer with missRun := 0 }
      dose := { u.dose with ring := AMap.del u.dose.ring (k % 2048), passed := k + 1 } } := hu.update
  unfold Machine.lineDone
  exact ends _ (.foldl (.update (.ite h.joinLine h)) fun _ _ h => .ite h.addDeficit h)

theorem Calm.lineAbsent {k} (h : Calm s t) : Calm s (lineAbsent t k) := by
  unfold Machine.lineAbsent
  exact h.flagLine.update.update

theorem Calm.passAtStop {m} (h : Calm s t) : Calm s (passAtStop t m) := by
  unfold Machine.passAtStop
  exact h.foldl fun _ _ h => .ite h.lineDone h.lineAbsent

theorem Calm.undoBuilds {m} (h : Calm s t) : Calm s (undoBuilds t m) := by
  unfold Machine.undoBuilds
  exact h.update

theorem Calm.stopLine {m k} (h : Calm s t) : Calm s (stopLine t m k) := by
  unfold Machine.stopLine
  exact .ite (h.foldl fun _ _ h => h.addDeficit) (.ite h.flagLine h.flagLine.update)

theorem Calm.addReturned {nb} (h : Calm s t) : Calm s (addReturned t nb) := by
  unfold Machine.addReturned
  exact (h.foldl fun _ _ h => h.giveBack).update

theorem Calm.addJoins {nb} (h : Calm s t) : Calm s (addJoins t nb) := by
  unfold Machine.addJoins
  exact (h.foldl fun _ _ h => h.joinLine).update

theorem Calm.stopCarries {m lines} (h : Calm s t) : Calm s (stopCarries t m lines) := by
  unfold Machine.stopCarries stopCarry
  exact h.foldl fun _ _ h => h.foldl fun _ _ h => .ite h h.onGroup.update

theorem Calm.unreachedLine {k} (h : Calm s t) : Calm s (unreachedLine t k) := by
  unfold Machine.unreachedLine
  exact .ite (h.flagLine.foldl fun _ _ h => h.addDeficit) h.flagLine.flagLine

theorem Calm.stopEmission {m} (h : Calm s t) : Calm s (stopEmission t m) := by
  unfold Machine.stopEmission
  refine .ite h (.update (.foldl (.stopCarries (.foldl ?_ fun _ _ h => h.stopLine)) fun _ _ h => h.unreachedLine))
  exact h.passAtStop.undoBuilds.addReturned.addJoins

/-! ### The emission map and the capture -/

theorem Calm.make {kind first bytes} (h : Calm s t) : Calm s (make t kind first bytes) := by
  unfold Machine.make
  exact h.update

theorem Calm.sendHeader {tFirst} (h : Calm s t) : Calm s (sendHeader t tFirst) := by
  unfold Machine.sendHeader
  exact .ite h (h.make.update (hc := fun hoff => ⟨hoff, rfl⟩))

theorem Calm.endMap {outcome} (h : Calm s t) : Calm s (endMap t outcome) := by
  unfold Machine.endMap
  exact h.sendHeader.make

/-- A capture that is on may be done. -/
theorem Calm.capDone {code} (h : Calm s t) (hon : t.emon.cap.st ≠ .off) : Calm s (capDone t code) := by
  unfold Machine.capDone
  refine h.trans (((Calm.refl t).update (hc := fun hoff => absurd hoff hon)).poke.update (hc := ?_))
  exact fun hoff => nomatch hoff

theorem Calm.capLeaveExpose (h : Calm s t) : Calm s (capLeaveExpose t) := by
  unfold Machine.capLeaveExpose
  split
  · next htrig => exact h.capDone (htrig ▸ nofun)
  · exact h

/-- A capture that is off sees no trigger. -/
theorem capTrigger_off {src m at_ : Nat} (hoff : t.emon.cap.st = .off) : capTrigger t src m at_ = (t, false) := by
  unfold capTrigger
  split
  · rfl
  · rw [hoff]

theorem Calm.capTrigger {src m at_} (h : Calm s t) : Calm s (capTrigger t src m at_).1 := by
  unfold Machine.capTrigger
  split
  · exact h
  · split
    next => exact h
    next hst => exact h.update (hc := fun hoff => nomatch hst.symm.trans hoff)
    next hst => exact h.update (hc := fun hoff => nomatch hst.symm.trans hoff)
    all_goals
      next hst =>
        unfold capMissed
        exact (h.count.update (hc := fun hoff => nomatch hst.symm.trans hoff)).gbWriteAt

end

end Sys2Proof.Proofs.Reaction
end

section
/-!
PROOFS. The parts of a reaction that touch the layer, the rails and motion (02 Tables LAY-1, LAY-6, 13 R272, 15 Table FLT-3):
whatever the state, they lose frames at most where EXPOSE is cut, and a layer under C3 ends dark.
-/

namespace Sys2Proof.Proofs.Reaction

open Sys2Proof.Machine Sys2Proof.Safety

-- Off, because every lemma's own thread reserves a stack.
set_option Elab.async false

/-! ### Lists of which one element changes -/

theorem forall_mem_modify {α : Type} {p : α → Prop} {f : α → α} {l : List α} (k : Nat) (hf : ∀ x, p x → p (f x))
    (h : ∀ x ∈ l, p x) : ∀ x ∈ l.modify k f, p x := by
  intro x hx
  obtain ⟨i, hi, rfl⟩ := List.mem_iff_getElem.mp hx
  rw [List.getElem_modify]
  split
  · exact hf _ (h _ (List.getElem_mem _))
  · exact h _ (List.getElem_mem _)

theorem getD_modify_of {α : Type} {p : α → Prop} {f : α → α} {l : List α} {d : α} (j k : Nat)
    (hf : p (l.getD j d) → p (f (l.getD j d))) (h : p (l.getD k d)) : p ((l.modify j f).getD k d) := by
  rw [List.getD_eq_getElem?_getD] at h hf ⊢
  rw [List.getElem?_modify]
  cases hx : l[k]? <;> rw [hx] at h
  case none => exact h
  case some x =>
    by_cases hjk : j = k
    · subst hjk
      rw [hx] at hf
      simpa using hf h
    · simpa [hjk] using h

section
variable {s t : State}

/-! ### The layer -/

theorem Calm.profDecel {kind a} (h : Calm s t) : Calm s (profDecel t kind a) := by
  unfold Machine.profDecel
  exact h.update

theorem Calm.emitOff (h : Calm s t) : Calm s (emitOff t) := by
  unfold Machine.emitOff
  exact h.update (he := fun _ => rfl) (hn := fun _ => List.forall_mem_map.mpr fun _ _ => rfl)

theorem emitOff_dark (s : State) : Dark (emitOff s) := ⟨rfl, List.forall_mem_map.mpr fun _ _ => rfl⟩

theorem Calm.sendEnd (h : Calm s t) : Calm s (sendEnd t) := by
  unfold Machine.sendEnd
  exact h.foldl fun _ _ h => h.linkSend

theorem Calm.endAbort {result status} (h : Calm s t) : Calm s (endAbort t result status) := by
  unfold Machine.endAbort
  split
  · exact h
  · exact h.update.answer

theorem Calm.takeAbort {stop} (h : Calm s t) : Calm s (takeAbort t stop) := by
  unfold Machine.takeAbort
  exact .ite h.endAbort h.endAbort

theorem Calm.answerAbort (h : Calm s t) : Calm s (answerAbort t) := by
  unfold Machine.answerAbort
  exact .ite h.endAbort h.endAbort

theorem Calm.sampleCapStop (h : Calm s t) : Calm s (sampleCapStop t) := by
  have stopped : Calm s { t with emon := { t.emon with cap := { t.emon.cap with stop := none } } } := h.update
  unfold Machine.sampleCapStop
  dsimp only
  split
  · exact h
  · split
    next => exact stopped.answer
    next => exact stopped.update.answer
    next hst => exact (stopped.update (hc := fun hoff => absurd (hst.symm.trans hoff) (by decide))).answer
    next hst => exact (stopped.capDone fun hoff => absurd (hst.symm.trans hoff) (by decide)).answer
    next => exact stopped.answer

theorem Calm.clearCond {id} (h : Calm s t) (hid : id ∈ endable) : Calm s (clearCond t id) :=
  h.trans { Calm.refl t with
    cond := fun _ hj => setBit_other t.flt.cond false fun e => hj (e ▸ hid) }

theorem Calm.takeSwap (h : Calm s t) : Calm s (takeSwap t) := by
  unfold Machine.takeSwap swapLive
  exact .ite (h.update.clearCond (by decide)) h

theorem Calm.forgetOff (h : Calm s t) : Calm s (forgetOff t) := by
  unfold Machine.forgetOff settlePitch
  have hshown : Calm s { t with link := { t.link with chains := t.link.chains.map fun c => { c with tiles := shownTiles c } } } :=
    h.update (hn := fun hc => List.forall_mem_map.mpr hc)
  exact .ite hshown hshown.update

theorem Calm.markAborted {cause stop} (h : Calm s t) : Calm s (markAborted t cause stop) := by
  unfold Machine.markAborted
  exact .ite h h.update

theorem Calm.runOutProfile {how} (h : Calm s t) : Calm s (runOutProfile t how) := by
  unfold Machine.runOutProfile
  refine .ite h ?_
  dsimp only
  split <;> exact h.profDecel

/-- Whatever else RUN_OUT does follows the removal of enable. -/
theorem Calm.enterRunOut_of_off {how} (h : Calm s (Machine.emitOff t)) : Calm s (enterRunOut t how) := by
  have rest (u : State) (hu : Calm s u) : Calm s (Machine.takeSwap (Machine.answerAbort { u with
      layer := { u.layer with st := .runOut, tState := u.time, atRest := false, c2Wait := none } })) :=
    hu.update.answerAbort.takeSwap
  unfold Machine.enterRunOut
  refine rest _ (.runOutProfile (.sampleCapStop ?_))
  dsimp only
  split
  · exact h.sendEnd.capLeaveExpose
  · exact h.update

theorem Calm.enterRunOut {how} (h : Calm s t) : Calm s (enterRunOut t how) := .enterRunOut_of_off h.emitOff

theorem enterRunOut_dark (s : State) (how : StopHow) : Dark (enterRunOut s how) :=
  (Calm.enterRunOut_of_off (.refl _)).dark (emitOff_dark s)

theorem Calm.idlePower (h : Calm s t) : Calm s (idlePower t) := by
  have hdoze : Calm s (dozeChains t) := by
    unfold dozeChains
    refine h.update (hn := fun hc => List.forall_mem_map.mpr fun c hm => ?_)
    split <;> exact hc c hm
  have hwake : Calm s (wakeChains t) := by
    unfold wakeChains
    refine h.update (hn := fun hc => List.forall_mem_map.mpr fun c hm => ?_)
    split <;> exact hc c hm
  unfold Machine.idlePower
  exact .ite hdoze.toPower hwake.toPower

theorem Calm.toIdle (h : Calm s t) : Calm s (toIdle t) := by
  unfold Machine.toIdle
  exact h.update.idlePower

theorem Calm.commitRecord {skipped} (h : Calm s t) : Calm s (commitRecord t skipped) := by
  unfold Machine.commitRecord
  exact .forgetOff (.update (.ite h.answerAbort.endMap.wear h.answerAbort.endMap))

theorem Calm.commitAborted_of_off {cause} (h : Calm s (Machine.emitOff (Machine.markAborted t cause 0xFFFFFFFF))) :
    Calm s (commitAborted t cause) := h.commitRecord.toIdle

theorem Calm.commitAborted {cause} (h : Calm s t) : Calm s (commitAborted t cause) :=
  .commitAborted_of_off h.markAborted.emitOff

theorem commitAborted_dark (s : State) (cause : Byte) : Dark (commitAborted s cause) :=
  (Calm.commitAborted_of_off (.refl _)).dark (emitOff_dark _)

theorem Calm.noteFault {id cls} (h : Calm s t) : Calm s (noteFault t id cls) := by
  unfold Machine.noteFault
  exact .ite h h.update

/-! ### A cut in EXPOSE -/

theorem Lossy.calm {u : State} (h : Lossy s t) (k : Calm t u) : Lossy s u := h.trans k.toLossy

/-- A lost row is a first loss, if none was before. -/
theorem Lossy.loseRow {m n r} (h : Lossy s t) : Lossy s (loseRow t m n r) := by
  have lost (u : State) : Lossy u { u with
      layer := { u.layer with record := { u.layer.record with lostFrames := u.layer.record.lostFrames + 1 } }
      link := { u.link with firsts := u.link.firsts.set 0 true } } :=
    { Lossy.refl u with first := fun hf => by cases hl : u.link.firsts <;> simp_all }
  unfold Machine.loseRow
  split
  · exact h
  · exact ((h.calm (Calm.refl t).count).trans (lost _)).calm (Calm.refl _).returnWords.onBuild.capTrigger

theorem Lossy.cutRows {m} (h : Lossy s t) : Lossy s (cutRows t m) := by
  unfold Machine.cutRows
  split
  · exact h
  · exact List.foldlRecOn _ _ (motive := Lossy s) h fun _ hu _ _ => hu.loseRow

/-- Whatever else a cut does follows the removal of enable. -/
theorem Lossy.cutEmission_of_off {cause} (h : Lossy s (emitOff t)) : Lossy s (cutEmission t cause) := by
  unfold Machine.cutEmission
  dsimp only
  have hcut {u : State} (hu : Lossy s u) (last : Nat) :
      Lossy s (if u.layer.stopped then u else
        let v := Machine.cutRows (Machine.stopEmission u (last + 1)) last
        { v with layer := { v.layer with record := { v.layer.record with
            stopMarker := BitVec.ofNat 32 last, linesFull := BitVec.ofNat 32 (linesFull v.layer last) } } }) := by
    split
    · exact hu
    · exact (hu.calm (Calm.refl _).stopEmission).cutRows.calm (Calm.refl _).update
  refine hcut ?_ _
  split
  · exact h.calm (Calm.refl _).markAborted
  · exact h

theorem Lossy.cutEmission {cause} (h : Lossy s t) : Lossy s (cutEmission t cause) :=
  .cutEmission_of_off (h.calm (Calm.refl t).emitOff)

theorem cutEmission_dark (s : State) (cause : Byte) : Dark (cutEmission s cause) :=
  (Lossy.cutEmission_of_off (.refl _)).dark (emitOff_dark s)

/-! ### The layer's part of a reaction -/

theorem Calm.layerC2 {id} (h : Calm s t) : Calm s (layerC2 t id) := by
  unfold Machine.layerC2
  split
  · exact h.commitAborted
  · exact h.markAborted.enterRunOut
  · split
    · exact h
    · exact h.update
  · exact h

/-- Outside EXPOSE no frame is in flight to be lost. -/
theorem Calm.layerC3 (h : Calm s t) (hst : t.layer.st ≠ .expose) : Calm s (layerC3 t) := by
  unfold Machine.layerC3
  split
  next => exact h.commitAborted
  next => exact h.markAborted.enterRunOut
  next he => exact absurd he hst
  next => exact h.runOutProfile.emitOff
  next => exact h.emitOff

theorem Lossy.layerC3 (h : Lossy s t) : Lossy s (layerC3 t) := by
  by_cases hst : t.layer.st = .expose
  · rw [Machine.layerC3, hst]
    exact h.cutEmission.calm (Calm.refl _).enterRunOut
  · exact h.calm ((Calm.refl t).layerC3 hst)

theorem layerC3_dark (s : State) : Dark (layerC3 s) := by
  unfold layerC3
  split
  · exact commitAborted_dark ..
  · exact enterRunOut_dark ..
  · exact enterRunOut_dark ..
  · exact emitOff_dark _
  · exact emitOff_dark _

/-! ### Rails -/

theorem Calm.onRail {k f} (h : Calm s t) : Calm s (State.onRail t k f) := by
  unfold State.onRail
  exact h.update

theorem Calm.releaseSlot {k} (h : Calm s t) : Calm s (releaseSlot t k) := by
  have margin {u : State} (hu : Calm s u) : Calm s (endMargin u k) := by
    unfold endMargin
    dsimp only
    split
    · exact hu.onRail.answer
    · exact hu.onRail
  have disch {u : State} (hu : Calm s u) : Calm s (updateDisch u k) := by
    unfold updateDisch State.onChain
    exact .ite (hu.update (hn := forall_mem_modify _ fun _ => id)) hu
  exact disch (margin h.onRail)

theorem Calm.dropSlots {ks} (h : Calm s t) : Calm s (dropSlots t ks) := h.foldl fun _ _ h => h.releaseSlot

/-! ### Motion -/

theorem Calm.endTest {code} (h : Calm s t) : Calm s (endTest t code) := by
  unfold Machine.endTest
  dsimp only
  split
  · exact h
  · split
    · exact h.poke.update.answer
    · exact h.poke.update

theorem Calm.carriageStop (h : Calm s t) : Calm s (carriageStop t) := by
  unfold Machine.carriageStop
  exact .ite h.update (.ite h.update.profDecel (.ite h.update.update h.update))

/-- A change of a unit that keeps DISABLED. -/
theorem Calm.onUnit {k f} (h : Calm s t) (hf : (t.unit k).st = .disabled → (f (t.unit k)).st = .disabled) :
    Calm s (State.onUnit t k f) :=
  h.trans { Calm.refl t with
    unit := fun j => getD_modify_of (p := fun x : StepUnit => x.st = .disabled) k j hf }

theorem Calm.onAxis {k f} (h : Calm s t) : Calm s (State.onAxis t k f) := by
  unfold State.onAxis
  exact h.update

/-- A stop changes no unit that is DISABLED. -/
theorem Calm.unitStop {k} (h : Calm s t) : Calm s (unitStop t k) := by
  unfold Machine.unitStop homingOff
  split
  next hst => exact h.onUnit fun hd => absurd (hst.symm.trans hd) (by decide)
  next hst => exact (h.onUnit fun hd => absurd (hst.symm.trans hd) (by decide)).foldl fun _ _ h => h.onAxis
  next => exact h

theorem Calm.unitDisable {k} (h : Calm s t) : Calm s (unitDisable t k) := by
  unfold Machine.unitDisable
  exact (h.onUnit fun _ => rfl).foldl fun _ _ h => h.onAxis

/-- A change of a drive channel that keeps DISABLED. -/
theorem Calm.onDrive {k f} (h : Calm s t) (hf : (t.drive k).st = .disabled ∧ (t.drive k).gates = false →
    (f (t.drive k)).st = .disabled ∧ (f (t.drive k)).gates = false) : Calm s (State.onDrive t k f) :=
  h.trans { Calm.refl t with
    drive := fun j => getD_modify_of (p := fun x : Drive => x.st = .disabled ∧ x.gates = false) k j hf }

theorem Calm.driveConds (h : Calm s t) : Calm s (driveConds t) := by
  have off {u : State} (hu : Calm s u) (id : Nat) (p : Drive → Bool) (hid : id ∈ endable) :
      Calm s (if u.drv.any p then u else Machine.clearCond u id) := .ite hu (hu.clearCond hid)
  exact off (off (off h 0x111 _ (by decide)) 0x112 _ (by decide)) 0x119 _ (by decide)

theorem Calm.driveDisable {k status} (h : Calm s t) : Calm s (driveDisable t k status) := by
  have disabled : Calm s (Machine.driveConds (State.onDrive t k fun d =>
      { driveTo d .disabled t.time with align := none, runReq := false, spd := 0, target := 0, c3Ramp := false })) :=
    (h.onDrive fun _ => ⟨rfl, rfl⟩).driveConds
  unfold Machine.driveDisable
  dsimp only
  split
  · exact disabled.answer
  · exact disabled

/-- A channel under C3 that is DISABLED stays so. -/
theorem Calm.driveC3 {k} (h : Calm s t) : Calm s (driveC3 t k) := by
  unfold Machine.driveC3 driveFault
  dsimp only
  split
  · exact h
  · next hon =>
    have hst : (t.drive k).st ≠ .disabled := fun hd => hon (.inl hd)
    split
    · exact (h.onDrive fun hd => absurd hd.1 hst).driveConds
    · exact h.onDrive id
    · exact h

theorem Calm.heatersC4 (h : Calm s t) : Calm s (heatersC4 t) := by
  unfold Machine.heatersC4
  exact h.trans { Calm.refl t with
    heaters := fun _ => List.forall_mem_map.mpr fun _ _ => ⟨rfl, rfl⟩ }

end

end Sys2Proof.Proofs.Reaction
end

section
/-!
PROOFS. A raise as a whole (15 R310 to R315): its record, its reaction, and the raises that these bring about in turn, which
are of three sources only and can undo nothing of the first.
-/

namespace Sys2Proof.Proofs.Reaction

open Sys2Proof.Machine Sys2Proof.Safety

-- Off, because every lemma's own thread reserves a stack.
set_option Elab.async false

/-! ### The reaction of each class -/

section
variable {s t : State} {id c : Nat}

/-- What a C3 reaction does beside the layer's part. -/
theorem reactC3_calm (s : State) (id : Nat) : Calm (layerC3 s) (reactC3 s id) := by
  have still : Calm (layerC3 s) (dropSlots ((List.range 8).foldl driveC3 ((List.range 12).foldl unitStop
      (carriageStop (layerC3 s)))) ((List.range 32).filter driveSlot)) :=
    .dropSlots (((Calm.refl _).carriageStop.foldl fun _ _ h => h.unitStop).foldl fun _ _ h => h.driveC3)
  unfold reactC3
  dsimp only
  generalize dropSlots _ _ = u at still ⊢
  refine still.trans { Calm.refl u with c3Src := fun j hj => ?_ }
  by_cases hid : j = id
  · subst hid
    exact setBit_same u.flt.c3Src true (BitVec.lt_of_getLsbD hj)
  · exact (setBit_other u.flt.c3Src true hid).trans hj

theorem reactC3_c3Src (s : State) (hid : id < 320) : (reactC3 s id).flt.c3Src.getLsbD id = true := by
  unfold reactC3
  dsimp only
  generalize dropSlots _ _ = u
  exact setBit_same u.flt.c3Src true hid

theorem reactC3_dark (s : State) (id : Nat) : Dark (reactC3 s id) := (reactC3_calm s id).dark (layerC3_dark s)

theorem Lossy.reactC3 (h : Lossy s t) : Lossy s (reactC3 t id) := h.layerC3.calm (reactC3_calm t id)

/-- Axes and drives are disabled and heaters off (Table FLT-3). -/
def powerless (s : State) : State :=
  heatersC4 ((List.range 8).foldl (fun s k => driveDisable s k 8) ((List.range 12).foldl unitDisable s))

theorem powerless_calm (s : State) : Calm s (powerless s) :=
  .heatersC4 (((Calm.refl s).foldl fun _ _ h => h.unitDisable).foldl fun _ _ h => h.driveDisable)

/-- What a C4 reaction does beside that of C3. -/
theorem reactC4_calm (s : State) (id : Nat) : Calm (reactC3 s id) (reactC4 s id) := by
  have off := powerless_calm (reactC3 s id)
  unfold powerless at off
  unfold reactC4
  dsimp only
  generalize heatersC4 _ = u at off ⊢
  refine off.trans { Calm.refl u with keys := fun _ => rfl, c4 := fun _ => ?_ }
  dsimp only
  split <;> rfl

theorem Lossy.reactC4 (h : Lossy s t) : Lossy s (reactC4 t id) := h.reactC3.calm (reactC4_calm t id)

/-! ### What C4 switches off -/

/-- What a fold's step brings about for one element and keeps for the others, the fold brings about for all. -/
theorem foldl_reaches {α : Type} {f : State → α → State} {p : α → State → Prop} (hstep : ∀ s x, p x (f s x))
    (hkeep : ∀ s x y, p x s → p x (f s y)) {l : List α} {x : α} (hx : x ∈ l) (s : State) : p x (l.foldl f s) := by
  induction l generalizing s with
  | nil => nomatch hx
  | cons y l ih =>
    rw [List.foldl_cons]
    obtain rfl | hx := List.mem_cons.mp hx
    · exact List.foldlRecOn l f (motive := p x) (hstep s x) fun s hs y _ => hkeep s x y hs
    · exact ih hx _

/-- Where a change of an element and the default both satisfy a predicate, the element does afterwards. -/
theorem getD_modify_same {α : Type} {p : α → Prop} {f : α → α} {l : List α} {d : α} (k : Nat) (hf : ∀ x, p (f x))
    (hd : p d) : p ((l.modify k f).getD k d) := by
  rw [List.getD_eq_getElem?_getD, List.getElem?_modify]
  cases l[k]? with
  | none => exact hd
  | some x => simpa using hf x

theorem unitDisable_disabled (s : State) (k : Nat) : ((unitDisable s k).unit k).st = .disabled := by
  unfold unitDisable
  refine ((Calm.refl _).foldl fun _ _ h => h.onAxis).unit k ?_
  exact getD_modify_same (p := fun x : StepUnit => x.st = .disabled) k (fun _ => rfl) rfl

theorem driveDisable_disabled (s : State) (k : Nat) (status : U16) :
    ((driveDisable s k status).drive k).st = .disabled ∧ ((driveDisable s k status).drive k).gates = false := by
  have disabled := getD_modify_same (l := s.drv) (p := fun x : Drive => x.st = .disabled ∧ x.gates = false) (d := {})
    (f := fun d => { driveTo d .disabled s.time with align := none, runReq := false, spd := 0, target := 0, c3Ramp := false })
    k (fun _ => ⟨rfl, rfl⟩) ⟨rfl, rfl⟩
  have rest := (Calm.refl (s.onDrive k fun d =>
    { driveTo d .disabled s.time with align := none, runReq := false, spd := 0, target := 0, c3Ramp := false })).driveConds
  unfold driveDisable
  dsimp only
  split
  · exact rest.answer.drive k disabled
  · exact rest.drive k disabled

theorem heatersC4_off (s : State) : HeatersOff (heatersC4 s) := List.forall_mem_map.mpr fun _ _ => ⟨rfl, rfl⟩

theorem powerless_motionDead (s : State) : MotionDead (powerless s) := by
  have units (k : Nat) (hk : k < 12) : (((List.range 12).foldl unitDisable s).unit k).st = .disabled :=
    foldl_reaches (p := fun k s => (s.unit k).st = .disabled) unitDisable_disabled
      (fun s k j => ((Calm.refl s).unitDisable (k := j)).unit k) (List.mem_range.mpr hk) s
  have drives (u : State) (k : Nat) (hk : k < 8) :
      (((List.range 8).foldl (fun s k => driveDisable s k 8) u).drive k).st = .disabled
        ∧ (((List.range 8).foldl (fun s k => driveDisable s k 8) u).drive k).gates = false :=
    foldl_reaches (p := fun k s => (s.drive k).st = .disabled ∧ (s.drive k).gates = false)
      (fun s k => driveDisable_disabled s k 8) (fun s k j => ((Calm.refl s).driveDisable (k := j)).drive k)
      (List.mem_range.mpr hk) u
  have rest (u : State) : Calm u (heatersC4 ((List.range 8).foldl (fun s k => driveDisable s k 8) u)) :=
    .heatersC4 ((Calm.refl u).foldl fun _ _ h => h.driveDisable)
  exact ⟨fun k hk => (rest _).unit k (units k hk), fun k hk => (Calm.refl _).heatersC4.drive k (drives _ k hk)⟩

/-- After C4 nothing moves, heats or decrypts, and the lockout stands (R318, Table FLT-3). -/
def LockedOut (s : State) : Prop :=
  MotionDead s ∧ s.flt.c4.isSome = true ∧ s.data.keys = List.replicate 4 {} ∧ HeatersOff s

theorem Held.lockedOut (h : Held s t) (hs : LockedOut s) : LockedOut t := by
  obtain ⟨⟨hunits, hdrives⟩, hc4, hkeys, hheaters⟩ := hs
  exact ⟨⟨fun k hk => h.unit k (hunits k hk), fun k hk => h.drive k (hdrives k hk)⟩, h.c4 hc4, h.keys hkeys,
    h.heaters hheaters⟩

theorem reactC4_lockedOut (s : State) (id : Nat) : LockedOut (reactC4 s id) := by
  have dead := powerless_motionDead (reactC3 s id)
  have off : HeatersOff (powerless (reactC3 s id)) := heatersC4_off _
  unfold powerless at dead off
  unfold reactC4
  dsimp only
  generalize heatersC4 _ = u at dead off ⊢
  refine ⟨dead, ?_, rfl, off⟩
  dsimp only
  split <;> rfl

/-! ### A reaction of any class -/

theorem Lossy.react (h : Lossy s t) : Lossy s (react t id c) := by
  have noted := h.calm (Calm.refl t).noteFault (u := noteFault t id c)
  unfold Machine.react
  dsimp only
  split
  · exact noted
  · exact noted
  · exact noted.calm (Calm.refl _).layerC2
  · exact noted.reactC3
  · exact noted.reactC4

theorem noteFault_st (s : State) (id c : Nat) : (noteFault s id c).layer.st = s.layer.st := by
  unfold noteFault
  split <;> rfl

/-- Outside EXPOSE a reaction loses no frame. -/
theorem react_calm (hst : s.layer.st ≠ .expose) : Calm s (react s id c) := by
  have noted : Calm s (noteFault s id c) := (Calm.refl s).noteFault
  have stopped : Calm s (layerC3 (noteFault s id c)) := noted.layerC3 (by rwa [noteFault_st])
  unfold Machine.react
  dsimp only
  split
  · exact noted
  · exact noted
  · exact noted.layerC2
  · exact stopped.trans (reactC3_calm _ id)
  · exact (stopped.trans (reactC3_calm _ id)).trans (reactC4_calm _ id)

theorem react_severe (hc : 3 ≤ c) : react s id c = reactC3 (noteFault s id c) id ∨ react s id c = reactC4 (noteFault s id c) id := by
  unfold react
  dsimp only
  split
  · omega
  · omega
  · omega
  · exact .inl rfl
  · exact .inr rfl

theorem react_lockedOut (hc : 4 ≤ c) : LockedOut (react s id c) := by
  unfold react
  dsimp only
  split
  · omega
  · omega
  · omega
  · omega
  · exact reactC4_lockedOut ..

theorem react_dark (hc : 3 ≤ c) : Dark (react s id c) := by
  obtain e | e := react_severe (s := s) (id := id) hc <;> rw [e]
  · exact reactC3_dark ..
  · exact (reactC4_calm _ id).dark (reactC3_dark ..)

theorem react_c3Src (hc : 3 ≤ c) (hid : id < 320) : (react s id c).flt.c3Src.getLsbD id = true := by
  obtain e | e := react_severe (s := s) (id := id) hc <;> rw [e]
  · exact reactC3_c3Src _ hid
  · exact (reactC4_calm _ id).c3Src id (reactC3_c3Src _ hid)

end

end Sys2Proof.Proofs.Reaction
end

section
/-!
PROOFS. What stands after a raise (15 R310 to R318): its record, the first fault, and the safe state of its class. What the
raise brings about in turn is of the sources `cascades` only.
-/

namespace Sys2Proof.Proofs.Reaction

open Sys2Proof.Machine Sys2Proof.Safety Sys2Proof.Proofs.LayerCycle

-- Off, because every lemma's own thread reserves a stack.
set_option Elab.async false

/-! ### The record of a raise -/

section
variable (s : State) (r : Raised) (c : Nat)

theorem recordRaise_active : (recordRaise s r c).flt.active = setBit s.flt.active r.id true := by
  unfold recordRaise; dsimp only; split <;> rfl

theorem recordRaise_raised : (recordRaise s r c).flt.raised = setBit s.flt.raised r.id true := by
  unfold recordRaise; dsimp only; split <;> rfl

theorem recordRaise_cond :
    (recordRaise s r c).flt.cond = setBit s.flt.cond r.id (r.cond || s.flt.cond.getLsbD r.id) := by
  unfold recordRaise; dsimp only; split <;> rfl

theorem recordRaise_tLast : (recordRaise s r c).flt.tLast = AMap.put s.flt.tLast r.id s.time := by
  unfold recordRaise; dsimp only; split <;> rfl

theorem recordRaise_raises :
    (recordRaise s r c).flt.raises = AMap.put s.flt.raises r.id (satN 16 (AMap.get s.flt.raises r.id 0 + 1)) := by
  unfold recordRaise; dsimp only; split <;> rfl

theorem recordRaise_first :
    (recordRaise s r c).flt.first = latchFirst s.flt.first r.id c s.time (s.srcFrac r.id) := by
  unfold recordRaise; dsimp only; split <;> rfl

theorem recordRaise_layer : (recordRaise s r c).layer = s.layer := by
  unfold recordRaise; dsimp only; split <;> rfl

theorem recordRaise_link : (recordRaise s r c).link = s.link := by
  unfold recordRaise; dsimp only; split <;> rfl

theorem recordRaise_emon : (recordRaise s r c).emon = s.emon := by
  unfold recordRaise; dsimp only; split <;> rfl

theorem recordRaise_servo : (recordRaise s r c).servo = s.servo := by
  unfold recordRaise; dsimp only; split <;> rfl

theorem recordRaise_time : (recordRaise s r c).time = s.time := by
  unfold recordRaise; dsimp only; split <;> rfl

/-- The record alone changes nothing else that a raise must keep. -/
theorem recordRaise_held : Held s (recordRaise s r c) := by
  unfold recordRaise
  dsimp only
  split
  · exact { Held.refl s with }
  · exact { Held.refl s with }

end

/-! ### One raise -/

section
variable {s : State} {r : Raised}

theorem Calm.faultTrigger {t : State} {c} (h : Calm s t) : Calm s (faultTrigger t c).1 := by
  unfold Machine.faultTrigger
  split
  · exact h.capTrigger
  · exact h

/-- The state in which a raise's reaction has run. -/
def reacted (s : State) (r : Raised) : State :=
  react (faultTrigger (recordRaise s r (s.raisedClass r)) (s.raisedClass r)).1 r.id (s.raisedClass r)

theorem reacted_lossy (s : State) (r : Raised) : Lossy (recordRaise s r (s.raisedClass r)) (reacted s r) :=
  ((Lossy.refl _).calm (Calm.refl _).faultTrigger).react

/-- A raise that is taken ends in the state after its reaction, less a servo test in progress. -/
theorem raiseOne_calm (hsrc : (faultSource r.id).isSome = true) (hon : (s.mainOn || s.flt.initLow) = true) :
    Calm (reacted s r) (raiseOne s r).1 := by
  unfold raiseOne
  rw [if_neg (by simpa [Option.isSome_iff_ne_none] using hsrc), if_neg (by simp [hon])]
  dsimp only
  split
  · exact (Calm.refl _).endTest
  · exact .refl _

/-- A raise that another brings about: of one of `cascades`, with no condition. -/
def Cascade (r : Raised) : Prop := r.id ∈ cascades ∧ r.cond = false

theorem lossRaises_cascade (s t : State) : ∀ x ∈ lossRaises s t, Cascade x := by
  intro x hx
  obtain h | h := List.mem_append.mp hx
  all_goals
    split at h
    · exact List.mem_singleton.mp h ▸ ⟨by decide, rfl⟩
    · nomatch h

theorem raiseOne_cascade (s : State) (r : Raised) : ∀ x ∈ (raiseOne s r).2, Cascade x := by
  intro x hx
  unfold raiseOne at hx
  split at hx
  · nomatch hx
  split at hx
  · nomatch hx
  obtain h | h := List.mem_append.mp hx
  · obtain h | h := List.mem_append.mp h
    · split at h
      · exact List.mem_singleton.mp h ▸ ⟨by decide, rfl⟩
      · nomatch h
    · exact lossRaises_cascade _ _ x h
  · split at h
    · exact List.mem_singleton.mp h ▸ ⟨by simp [cascades], rfl⟩
    · nomatch h

end

/-! ### Raises that a raise brings about -/

/-- What the raises brought about by another leave of its record. -/
structure Cascaded (s t : State) : Prop extends Held s t where
  active : ∀ j, j ∉ cascades → t.flt.active.getLsbD j = s.flt.active.getLsbD j
  activeStays : ∀ j, s.flt.active.getLsbD j = true → t.flt.active.getLsbD j = true
  raised : ∀ j, s.flt.raised.getLsbD j = true → t.flt.raised.getLsbD j = true
  cond : ∀ j, j ∉ endable → t.flt.cond.getLsbD j = s.flt.cond.getLsbD j
  tLast : ∀ j, AMap.find s.flt.tLast j = some s.time → AMap.find t.flt.tLast j = some s.time
  raises : ∀ j, j ∉ cascades → AMap.get t.flt.raises j 0 = AMap.get s.flt.raises j 0

section
variable {s t u : State} {r : Raised}

theorem Cascaded.trans (h : Cascaded s t) (k : Cascaded t u) : Cascaded s u where
  toHeld := h.toHeld.trans k.toHeld
  active j hj := (k.active j hj).trans (h.active j hj)
  activeStays j := k.activeStays j ∘ h.activeStays j
  raised j := k.raised j ∘ h.raised j
  cond j hj := (k.cond j hj).trans (h.cond j hj)
  tLast j hj := by
    have ht := h.tLast j hj
    rw [← h.time] at ht ⊢
    exact k.tLast j ht
  raises j hj := (k.raises j hj).trans (h.raises j hj)

theorem Lossy.cascaded (h : Lossy s t) : Cascaded s t := by
  have hactive : t.flt.active = s.flt.active := congrArg (fun f => f.active) h.ledger
  have hraised : t.flt.raised = s.flt.raised := congrArg (fun f => f.raised) h.ledger
  have htLast : t.flt.tLast = s.flt.tLast := congrArg (fun f => f.tLast) h.ledger
  have hraises : t.flt.raises = s.flt.raises := congrArg (fun f => f.raises) h.ledger
  exact {
    toHeld := h.toHeld
    active := fun _ _ => by rw [hactive]
    activeStays := fun _ => by rw [hactive]; exact id
    raised := fun _ => by rw [hraised]; exact id
    cond := h.cond
    tLast := fun _ hj => by rw [htLast]; exact hj
    raises := fun _ _ => by rw [hraises] }

theorem Cascaded.refl (s : State) : Cascaded s s := (Lossy.refl s).cascaded

theorem setBit_true_stays {w : Nat} (v : BitVec w) (n : Nat) {j : Nat} (h : v.getLsbD j = true) :
    (setBit v n true).getLsbD j = true := by
  by_cases hj : j = n
  · subst hj
    exact setBit_same v true (BitVec.lt_of_getLsbD h)
  · exact (setBit_other v true hj).trans h

/-- To set a bit to what it is changes no bit. -/
theorem setBit_self {w : Nat} (v : BitVec w) {n : Nat} (hn : n < w) (j : Nat) :
    (setBit v n (v.getLsbD n)).getLsbD j = v.getLsbD j := by
  by_cases hj : j = n
  · rw [hj, setBit_same v _ hn]
  · exact setBit_other v _ hj

theorem cascades_lt : ∀ j ∈ cascades, j < 320 := by decide

theorem recordRaise_cascaded (s : State) (c : Nat) (hr : Cascade r) : Cascaded s (recordRaise s r c) := by
  obtain ⟨hid, hcond⟩ := hr
  have ne {j : Nat} (hj : j ∉ cascades) : j ≠ r.id := fun e => hj (e ▸ hid)
  exact {
    toHeld := recordRaise_held s r c
    active := fun j hj => by rw [recordRaise_active, setBit_other _ _ (ne hj)]
    activeStays := fun j hj => by rw [recordRaise_active]; exact setBit_true_stays _ _ hj
    raised := fun j hj => by rw [recordRaise_raised]; exact setBit_true_stays _ _ hj
    cond := fun j _ => by
      rw [recordRaise_cond, hcond, Bool.false_or]
      exact setBit_self _ (cascades_lt _ hid) j
    tLast := fun j hj => by
      rw [recordRaise_tLast]
      by_cases e : j = r.id
      · rw [e, find_put_same]
      · rw [AMap.find_put_other _ _ e, hj]
    raises := fun j hj => by simp only [recordRaise_raises, AMap.get, AMap.find_put_other _ _ (ne hj)] }

/-- A raise is not taken, or its reaction follows its record. -/
theorem raiseOne_fst (s : State) (r : Raised) :
    (raiseOne s r).1 = s ∨ Lossy (recordRaise s r (s.raisedClass r)) (raiseOne s r).1 := by
  by_cases hsrc : (faultSource r.id).isSome = true
  · by_cases hon : (s.mainOn || s.flt.initLow) = true
    · exact .inr ((reacted_lossy s r).calm (raiseOne_calm hsrc hon))
    · unfold raiseOne
      rw [if_neg (by simpa [Option.isSome_iff_ne_none] using hsrc), if_pos (by simpa using hon)]
      exact .inl rfl
  · unfold raiseOne
    rw [if_pos (by simpa using hsrc)]
    exact .inl rfl

/-- No raise, taken or not, undoes what `Held` speaks of. -/
theorem raiseOne_held (s : State) (r : Raised) : Held s (raiseOne s r).1 := by
  obtain h | h := raiseOne_fst s r
  · exact h.symm ▸ .refl s
  · exact (recordRaise_held s r _).trans h.toHeld

theorem raiseOne_cascaded (s : State) (hr : Cascade r) : Cascaded s (raiseOne s r).1 := by
  obtain h | h := raiseOne_fst s r
  · exact h.symm ▸ .refl s
  · exact (recordRaise_cascaded s _ hr).trans h.cascaded

theorem foldl_cascaded {f : State → Raised → State} (hf : ∀ s x, Cascade x → Cascaded s (f s x)) (rs : List Raised)
    (hrs : ∀ x ∈ rs, Cascade x) (s : State) : Cascaded s (rs.foldl f s) :=
  List.foldlRecOn rs f (motive := Cascaded s) (.refl s) fun u hu x hx => hu.trans (hf u x (hrs x hx))

/-- What one raise brings about, with what that brings about in turn. -/
theorem raiseR_cascaded (s : State) (r : Raised) : Cascaded (raiseOne s r).1 (raiseR s r) := by
  refine foldl_cascaded (fun s x hx => ?_) _ (raiseOne_cascade s r) _
  exact (raiseOne_cascaded s hx).trans
    (foldl_cascaded (fun s x hx => raiseOne_cascaded s hx) _ (raiseOne_cascade s x) _)

theorem raiseR_held (s : State) (r : Raised) : Held s (raiseR s r) := (raiseOne_held s r).trans (raiseR_cascaded s r).toHeld

/-- What losses raise leaves the record of the raise before. -/
theorem raiseLosses_cascaded (s t : State) : Cascaded t (raiseLosses s t) :=
  foldl_cascaded (fun s r hr => (raiseOne_cascaded s hr).trans (raiseR_cascaded s r)) _ (lossRaises_cascade s t) _

/-- A raise that is taken: its reaction has run, and what that brings about undoes none of it. -/
theorem raiseR_of_reacted (hsrc : (faultSource r.id).isSome = true) (hon : (s.mainOn || s.flt.initLow) = true) :
    Cascaded (reacted s r) (raiseR s r) :=
  (raiseOne_calm hsrc hon).cascaded.trans (raiseR_cascaded s r)

theorem raiseR_of_record (hsrc : (faultSource r.id).isSome = true) (hon : (s.mainOn || s.flt.initLow) = true) :
    Cascaded (recordRaise s r (s.raisedClass r)) (raiseR s r) :=
  (reacted_lossy s r).cascaded.trans (raiseR_of_reacted hsrc hon)

end

end Sys2Proof.Proofs.Reaction
end

section
/-!
PROOFS. The statements about raising (O55 to O58): each is read off the record, which nothing that follows undoes, or off the
reaction, whose safe state nothing that follows leaves.
-/

namespace Sys2Proof.Proofs.Reaction

open Sys2Proof.Machine Sys2Proof.Safety Sys2Proof.Proofs.LayerCycle

-- Off, because every lemma's own thread reserves a stack.
set_option Elab.async false

/-! ### FAULT_RAISE as a raise -/

section
variable {dt : Nat} {s u t : State} {id : Fin 320} {d : BitVec 63} {c : Bool}

/-- A state with other encoders: no raise reads them. -/
def withEncs (s : State) (encs : List Encoder) : State := { s with servo := { s.servo with encs := encs } }

/-- FAULT_RAISE as a raise. -/
def raisedBy (id : Fin 320) (d : BitVec 63) (c : Bool) : Raised := { id := id.val, data := d.toNat, cond := c }

theorem noteSource_eq (s : State) (id : Nat) : ∃ encs, noteSource s id = withEncs s encs := by
  unfold noteSource
  split
  · exact ⟨_, rfl⟩
  · exact ⟨s.servo.encs, rfl⟩

/-- FAULT_RAISE raises its source in the state it comes in, but for an encoder's flag. -/
theorem exec_faultRaise_raiseR (hu : s.pass dt = u) (h : exec (.faultRaise dt id d c) s = .next t) :
    ∃ encs, t = raiseR (withEncs u encs) (raisedBy id d c) := by
  obtain ⟨encs, hencs⟩ := noteSource_eq u id.val
  rw [Faults.exec_faultRaise hu, hencs] at h
  injection h with h
  exact ⟨encs, h.symm⟩

/-- A raise by command is taken at the class of its source. -/
theorem raisedClass_raisedBy (u : State) (encs : List Encoder) (id : Fin 320) (d : BitVec 63) (c : Bool) :
    (withEncs u encs).raisedClass (raisedBy id d c) = u.faultClass id.val := Nat.max_zero _

end

/-- Settles O55: the record is written first, and no reaction or cascaded raise undoes it. -/
theorem raiseRecordsItsSource : Obligations.RaiseRecordsItsSource := by
  intro dt s u id d c t hu hsrc hon ht
  obtain ⟨encs, rfl⟩ := exec_faultRaise_raiseR hu ht
  have h := raiseR_of_record (s := withEncs u encs) (r := raisedBy id d c) hsrc (Bool.or_eq_true _ _ ▸ hon)
  generalize hw : recordRaise _ _ _ = w at h
  refine ⟨h.activeStays _ ?_, h.raised _ ?_, fun hid => (h.cond _ hid).trans ?_, ?_, fun hid => (h.raises _ hid).trans ?_,
    fun j hj hne hid => (h.active _ hid).trans ?_⟩
  · rw [← hw, recordRaise_active]
    exact setBit_same _ _ id.isLt
  · rw [← hw, recordRaise_raised]
    exact setBit_same _ _ id.isLt
  · rw [← hw, recordRaise_cond]
    exact setBit_same _ _ id.isLt
  · have hlast := h.tLast id.val (by rw [← hw, recordRaise_tLast, recordRaise_time]; exact find_put_same ..)
    rw [hlast, ← hw, recordRaise_time]
    rfl
  · rw [← hw, recordRaise_raises, AMap.get]
    exact (congrArg (fun x => x.getD 0) (find_put_same ..)).trans (Nat.min_comm _ _)
  · rw [← hw, recordRaise_active]
    exact setBit_other _ _ hne

/-- Settles O57: the reaction reaches the safe state of its class, which nothing that follows leaves. -/
theorem severeRaiseStopsEmission : Obligations.SevereRaiseStopsEmission := by
  intro dt s u id d c t hu hsrc hon hcls ht
  obtain ⟨encs, rfl⟩ := exec_faultRaise_raiseR hu ht
  have h := (raiseR_of_reacted (s := withEncs u encs) (r := raisedBy id d c) hsrc (Bool.or_eq_true _ _ ▸ hon)).toHeld
  rw [reacted, raisedClass_raisedBy] at h
  refine ⟨h.dark (react_dark hcls), h.c3Src _ (react_c3Src hcls id.isLt), fun hc4 => ?_⟩
  exact h.lockedOut (react_lockedOut hc4)

/-! ### The first fault -/

section
variable {s t : State} {r : Raised}

/-- A change that loses no first frame and misses no trigger raises nothing. -/
theorem lossRaises_none (h : Lossy s t) (hcap : s.emon.cap.st = .off)
    (hfirst : t.link.firsts = s.link.firsts ∨ s.link.firsts.getD 0 false = true) : lossRaises s t = [] := by
  have hmiss := (h.cap hcap).2
  unfold lossRaises
  rw [hmiss]
  obtain e | e := hfirst <;> rw [e] <;> simp

/-- With no servo test, capture or frame to lose, a raise brings about no other. -/
theorem raiseR_eq_reacted (hsrc : (faultSource r.id).isSome = true) (hon : (s.mainOn || s.flt.initLow) = true)
    (htest : s.servo.test = none) (hcap : s.emon.cap.st = .off)
    (hfirst : s.layer.st ≠ .expose ∨ s.link.firsts.getD 0 false = true) : raiseR s r = reacted s r := by
  generalize hw : recordRaise s r (s.raisedClass r) = w
  have htest' : w.servo.test = none := by rw [← hw, recordRaise_servo, htest]
  have hcap' : w.emon.cap.st = .off := by rw [← hw, recordRaise_emon, hcap]
  have hfirst' : w.layer.st ≠ .expose ∨ w.link.firsts.getD 0 false = true := by
    rw [← hw, recordRaise_layer, recordRaise_link]
    exact hfirst
  have htrig : faultTrigger w (s.raisedClass r) = (w, false) := by
    unfold faultTrigger
    split
    · exact capTrigger_off hcap'
    · rfl
  have hreacted : reacted s r = react w r.id (s.raisedClass r) := by rw [reacted, hw, htrig]
  have hloss : lossRaises w (react w r.id (s.raisedClass r)) = [] :=
    lossRaises_none (.react (.refl w)) hcap' (hfirst'.imp (fun hst => (react_calm hst).firsts) id)
  have hone : raiseOne s r = (reacted s r, []) := by
    unfold raiseOne
    rw [if_neg (by simpa [Option.isSome_iff_ne_none] using hsrc), if_neg (by simp [hon])]
    simp [hw, htrig, htest', hloss, hreacted]
  rw [raiseR, hone]
  rfl

/-- FIRST_FAULT after a raise is what its record leaves. -/
theorem reacted_first (s : State) (r : Raised) :
    (reacted s r).flt.first = latchFirst s.flt.first r.id (s.raisedClass r) s.time (s.srcFrac r.id) :=
  (congrArg (fun f => f.first) (reacted_lossy s r).ledger).trans (recordRaise_first ..)

end

/-- Settles O56: the raise brings about no other, so FIRST_FAULT is as its record latched it. -/
theorem firstFaultKeepsTheFirst : Obligations.FirstFaultKeepsTheFirst := by
  intro dt s u id d c t k hu hsrc hmain hclass hk htest hcap hfirst ht
  obtain ⟨encs, rfl⟩ := exec_faultRaise_raiseR hu ht
  have hlatched : (raiseR (withEncs u encs) (raisedBy id d c)).flt.first
      = latchFirst u.flt.first id.val k u.time (u.srcFrac id.val) := by
    rw [raiseR_eq_reacted (s := withEncs u encs) (r := raisedBy id d c) hsrc (Bool.or_eq_true _ _ ▸ .inl hmain) htest hcap hfirst,
      reacted_first, raisedClass_raisedBy, hclass]
    rfl
  rw [hlatched]
  have hk0 : k ≠ 0 := Nat.ne_of_gt hk
  refine ⟨fun hv => ?_, fun hv ht => ?_, fun hv ht hc => ?_, fun hv ht hc => ?_⟩ <;> rw [latchFirst, if_neg hk0]
  · rw [if_pos (by simp [hv])]
  · rw [if_neg (by simp [hv]), if_neg ht]
  · rw [if_neg (by simp [hv]), if_pos ht, if_pos hc]
  · rw [if_neg (by simp [hv]), if_pos ht, if_neg (by omega)]

/-! ### EMIT_INHIBIT -/

theorem inhibitLayer_dark (s : State) : Dark (inhibitLayer s) := by
  unfold inhibitLayer
  split
  · exact emitOff_dark _
  · exact emitOff_dark _
  · exact cutEmission_dark s 3
  · exact emitOff_dark _

/-- What EMIT_INHIBIT does to the layer is no more than a reaction may. -/
theorem inhibitLayer_lossy (s : State) : Lossy s (inhibitLayer s) := by
  have emitOff_lossy (u : State) : Lossy u (emitOff u) := (Calm.refl u).emitOff.toLossy
  unfold inhibitLayer
  split
  · exact ((Lossy.refl s).calm (Calm.refl s).update).trans (emitOff_lossy _)
  · exact ((Lossy.refl s).calm (Calm.refl s).update).trans (emitOff_lossy _)
  · exact (Lossy.refl s).cutEmission.calm (Calm.refl _).update
  · exact emitOff_lossy s

theorem readyChecks_inForce {t : State} (d : LayerDesc) (repair : Bool) (h : t.flt.inForce = true) :
    readyChecks t d repair = 0x0008 := by
  rw [readyChecks, h, Bool.or_true, if_pos rfl]

/-- Settles O58: the layer's part comes after the raise and leaves it dark; the ready checks name the inhibit. -/
theorem inhibitStopsEmissionAndArming : Obligations.InhibitStopsEmissionAndArming := by
  refine ⟨fun dt s u t hu hin ht => ?_, fun t d hin => ?_, fun dt s u hu hin => ?_⟩
  · rw [Faults.exec_emitInhibitRise_fires hu hin rfl] at ht
    injection ht with ht
    subst ht
    generalize hw : ({ u with flt := { u.flt with inhibit := true, inForce := true } } : State) = w
    have hraised : Held w (inhibitLayer (raise w 0x04D 0 true)) := (raiseR_held w _).trans (inhibitLayer_lossy _).toHeld
    have hafter := (raiseLosses_cascaded (raise w 0x04D 0 true) (inhibitLayer (raise w 0x04D 0 true))).toHeld
    refine ⟨hafter.dark (inhibitLayer_dark _), ?_, ?_⟩
    · rw [hafter.inhibit, hraised.inhibit, ← hw]
    · rw [hafter.inForce, hraised.inForce, ← hw]
  · unfold armChecks
    rw [readyChecks_inForce d false hin]
    split
    · decide
    split
    · decide
    split
    · decide
    split <;> decide
  · rw [Faults.exec_emitInhibitFall_fires hu hin]
    rfl

end Sys2Proof.Proofs.Reaction
end

section
/-!
PROOFS. What a commit leaves of the store (17 R344, R366; O60): only a commit's attempts touch the banks, and no attempt goes to
the newest one. All else that a command does beside a commit leaves the banks alone: `SameStore`, one lemma per function.
-/

namespace Sys2Proof.Proofs.Store

open Sys2Proof.Machine Sys2Proof.Safety Sys2Proof.Proofs.LayerCycle Sys2Proof.Proofs.Answering Sys2Proof.Proofs.Reaction

-- Off, because every lemma's own thread reserves a stack.
set_option Elab.async false

/-! ### The relations -/

/-- The banks and which of them is the newest. -/
def banked (s : State) : AMap Bank × Option Nat := (s.keep.banks, s.keep.newest)

/-- The store is as it was. -/
def SameStore (s t : State) : Prop := banked t = banked s

/-- The bank that was newest is still there. -/
def Spared (s t : State) : Prop :=
  ∀ n bank, s.keep.newest = some n → AMap.find s.keep.banks n = some bank → AMap.find t.keep.banks n = some bank

section
variable {s t u : State}

theorem SameStore.refl (s : State) : SameStore s s := rfl

theorem SameStore.trans (h : SameStore s t) (k : SameStore t u) : SameStore s u := Eq.trans k h

theorem SameStore.banks (h : SameStore s t) : t.keep.banks = s.keep.banks := congrArg Prod.fst h

theorem SameStore.newest (h : SameStore s t) : t.keep.newest = s.keep.newest := congrArg Prod.snd h

theorem SameStore.spared (h : SameStore s t) : Spared s t := fun _ _ _ hfind => h.banks ▸ hfind

theorem Spared.after (h : Spared s t) (k : SameStore t u) : Spared s u :=
  fun n bank hn hfind => k.banks ▸ h n bank hn hfind

theorem SameStore.before (h : SameStore s t) (k : Spared t u) : Spared s u :=
  fun n bank hn hfind => k n bank (h.newest.trans hn) (h.banks.symm ▸ hfind)

/-! ### Rules for the shapes of an operation -/

theorem SameStore.of_held (h : SameStore s t) (k : Held t u) : SameStore s u := h.trans (Prod.ext k.banks k.newest)

theorem SameStore.calm (h : SameStore s t) (k : Calm t u) : SameStore s u := h.of_held k.toHeld

/-- A record update that keeps the store, which is found by itself where Keeper's part is not written. -/
theorem SameStore.update (h : SameStore s u) {pending time sent free power params mem layer dose emon link host dma data
    servo drv axes units stepAt house therm pwr stage clk flt gb cal keep bist}
    (hb : (Keeper.banks keep, Keeper.newest keep) = (u.keep.banks, u.keep.newest) := by with_reducible rfl) :
    SameStore s (.mk pending time sent free power params mem layer dose emon link host dma data servo drv axes units stepAt
      house therm pwr stage clk flt gb cal keep bist) := h.trans hb

theorem SameStore.ite {c : Prop} {_ : Decidable c} (ht : SameStore s t) (hu : SameStore s u) :
    SameStore s (if c then t else u) := by
  split
  · exact ht
  · exact hu

theorem SameStore.foldl {α : Type} {f : State → α → State} {l : List α} (h : SameStore s t)
    (hf : ∀ u x, SameStore s u → SameStore s (f u x)) : SameStore s (l.foldl f t) :=
  List.foldlRecOn l f (motive := SameStore s) h fun u hu x _ => hf u x hu

/-! ### Answers, raises and time -/

theorem SameStore.answer {w status data} (h : SameStore s t) : SameStore s (answer t w status data) :=
  h.calm (Calm.refl t).answer

theorem SameStore.raise {id data c} (h : SameStore s t) : SameStore s (raise t id data c) := h.of_held (raiseR_held t _)

theorem SameStore.gbRecord {subsys id data} (h : SameStore s t) : SameStore s (gbRecord t subsys id data) :=
  h.calm (Calm.refl t).gbWriteAt

theorem SameStore.advance {dt} (h : SameStore s t) : SameStore s (State.advance t dt) :=
  h.trans (congrArg (fun k : Keeper => (k.banks, k.newest)) (State.advance_keep t dt))

theorem SameStore.pass {dt} (h : SameStore s t) : SameStore s (State.pass t dt) := by
  have early {v : State} (hv : SameStore s v) : SameStore s (sampleEarly v) := by
    unfold sampleEarly
    split
    · exact hv
    · split
      · exact hv.calm (Calm.refl v).takeAbort.commitAborted
      · exact hv.calm (Calm.refl v).takeAbort.markAborted.enterRunOut
      · exact hv
  unfold State.pass
  split
  · exact .ite (early h.advance).advance h.advance
  · exact h.advance

/-! ### Chains and rails -/

theorem SameStore.onRail {k f} (h : SameStore s t) : SameStore s (State.onRail t k f) := h.update

theorem SameStore.onChain {n f} (h : SameStore s t) : SameStore s (State.onChain t n f) := h.update

theorem SameStore.releaseSlots {ks} (h : SameStore s t) : SameStore s (releaseSlots t ks) := by
  have releases {v : State} (hv : SameStore s v) : SameStore s (settleReleases v) := by
    unfold settleReleases
    exact hv.foldl fun u _ h => .ite (h.calm (Calm.refl u).releaseSlot) h
  have failed {v : State} (hv : SameStore s v) : SameStore s (settleFailed v) := by
    unfold settleFailed
    exact .ite hv hv.update
  unfold Machine.releaseSlots
  exact failed (releases (h.foldl fun _ _ h => h.onRail))

theorem SameStore.startSlots {ks} (h : SameStore s t) : SameStore s (startSlots t ks) := by
  have waiting {v : State} (hv : SameStore s v) : SameStore s (blockWaiting v) := by
    unfold blockWaiting
    exact .ite hv (hv.foldl fun _ _ h => .ite h.onRail h)
  unfold Machine.startSlots
  exact waiting (h.foldl fun _ _ h => h.onRail)

theorem SameStore.dropMgmt {n} (h : SameStore s t) : SameStore s (dropMgmt t n) := by
  unfold Machine.dropMgmt
  refine h.update.foldl fun _ _ h => ?_
  split
  · exact h.answer
  · exact h

theorem SameStore.freeTl4 {n} (h : SameStore s t) : SameStore s (freeTl4 t n) := by
  unfold Machine.freeTl4
  exact .ite (h.update (u := t)) h

theorem SameStore.laneReset {k} (h : SameStore s t) : SameStore s (laneReset t k) := h.update

theorem SameStore.chainOff {n} (h : SameStore s t) : SameStore s (chainOff t n) := by
  have pitch {v : State} (hv : SameStore s v) : SameStore s (settlePitch v) := by
    unfold settlePitch
    exact .ite hv hv.update
  unfold Machine.chainOff chainForget
  exact (pitch h.dropMgmt.freeTl4.laneReset.onChain.update).releaseSlots

theorem SameStore.chainFail {n} (h : SameStore s t) : SameStore s (chainFail t n) := by
  unfold Machine.chainFail
  exact h.dropMgmt.freeTl4.laneReset.onChain.releaseSlots

theorem SameStore.startChain {n} (h : SameStore s t) : SameStore s (startChain t n) := by
  unfold Machine.startChain chainOn
  split
  · exact .ite h.onChain.startSlots h
  · exact h
  · exact h.startSlots

theorem SameStore.judgeTile {n p} (h : SameStore s t) : SameStore s (judgeTile t n p) := by
  have judged {v : State} (hv : SameStore s v) (f : Tile → Tile) : SameStore s (v.onTile n p f) := hv.onChain
  have lost {v : State} (hv : SameStore s v) (c : Bool) : SameStore s (if c then Machine.raise v 0x0A5 0 false else v) :=
    .ite hv.raise hv
  exact lost (judged (.ite h.update h) _) _

theorem SameStore.chainUp {n} (h : SameStore s t) : SameStore s (chainUp t n) := by
  have weights {v : State} (hv : SameStore s v) (c : Nat) (ws : List Byte) : SameStore s (setWeights v c ws) := by
    unfold setWeights writeBillet State.poke
    exact .ite hv.update.update hv.update
  have built {v : State} (hv : SameStore s v) : SameStore s (billetChanged (buildLane v n)) := by
    unfold billetChanged buildLane
    exact (hv.foldl fun _ _ h => weights h _ _).update
  have judged {v : State} (hv : SameStore s v) : SameStore s (if serves (v.chain n) then
      v.onChain n fun c => { c with st := if v.power = .doze then .doze else .up, wakeTo := .up }
      else Machine.chainFail v n) := .ite hv.onChain hv.chainFail
  unfold Machine.chainUp
  exact judged (built h.onChain)

theorem SameStore.judgeChains (h : SameStore s t) : SameStore s (judgeChains t) := by
  unfold Machine.judgeChains
  exact .ite ((h.foldl fun _ _ h => h.foldl fun _ _ h => h.judgeTile).foldl fun _ _ h => h.chainUp) h

/-! ### Power states -/

theorem SameStore.finishPower {ks} (h : SameStore s t) : SameStore s (finishPower t ks) := by
  unfold Machine.finishPower
  dsimp only
  split
  · exact h.update.answer
  · exact h.update.answer
  · exact h.update

theorem SameStore.shutDone (h : SameStore s t) : SameStore s (shutDone t) := by
  have stops {v : State} (hv : SameStore s v) : SameStore s (if v.bist.running ∨ v.bist.shut.1 = 0 then v
      else
        let ss := v.keep.sessions.map fun x => x.map fun y => { y with kek := none, ecdh := none }
        { v with
          bist := { v.bist with running := true, wakeWaits := false, tTest := v.time }
          data := { v.data with keys := List.replicate 4 {}, aesRegs := [], ecRegs := 0, identityCopy := 0, random := 0 }
          host := { v.host with ports := v.host.ports.map fun (p : Port) => { p with link := 0 } }
          keep := { v.keep with running := false, sessions := ss } }) := .ite hv hv.update
  unfold Machine.shutDone
  refine stops ?_
  dsimp only
  split
  · exact h.update.answer
  · exact h.update

theorem SameStore.shutStep (h : SameStore s t) : SameStore s (shutStep t) := by
  have last {v : State} (hv : SameStore s v) (ks : List Nat) : SameStore s
      (if slotsOff v ks then Machine.shutDone v else v) := .ite hv.shutDone hv
  have machine {v : State} (hv : SameStore s v) (ks : List Nat) : SameStore s
      (if slotsOff v ks then (if slotsOff (Machine.releaseSlots v [6, 7]) [6, 7] then
        Machine.shutDone (Machine.releaseSlots v [6, 7]) else Machine.releaseSlots v [6, 7]) else v) :=
    .ite (last hv.releaseSlots _) hv
  unfold Machine.shutStep
  exact .ite (machine h.releaseSlots _) h

theorem SameStore.settlePower (h : SameStore s t) : SameStore s (settlePower t) := by
  unfold Machine.settlePower
  dsimp only
  split
  · exact .ite h.judgeChains (.finishPower (.ite (h.judgeChains.calm (Calm.refl _).idlePower) h.judgeChains))
  · exact .ite h.judgeChains.finishPower h.judgeChains
  · exact h.judgeChains.shutStep
  · exact h.judgeChains

theorem SameStore.motionOff (h : SameStore s t) : SameStore s (motionOff t) := by
  have ends : SameStore s (endMotion t) := by
    unfold endMotion
    refine .foldl (.foldl ?_ fun u _ h => h.calm (Calm.refl u).driveDisable) fun _ _ h => ?_
    · split
      · exact (h.calm (Calm.refl t).endTest).answer
      · exact h.calm (Calm.refl t).endTest
    · split
      · exact (h.update (u := _)).answer
      · exact h
  exact ends.update

theorem SameStore.leaveReady (h : SameStore s t) : SameStore s (leaveReady t) := by
  have off : SameStore s (exposureOff t) := (h.calm (Calm.refl t).sampleCapStop).update
  have parts {v : State} (hv : SameStore s v) : SameStore s (settleParts v) := by
    unfold settleParts
    exact .ite hv hv.update
  have standby {v : State} (hv : SameStore s v) : SameStore s (v.toPower .standby) := hv.calm (Calm.refl v).toPower
  have domains : SameStore s (readyPllsOff (Machine.motionOff (exposureOff t))) := off.motionOff.update
  unfold Machine.leaveReady
  exact parts (standby domains.update).update.update

theorem SameStore.lowerPower {ks} (h : SameStore s t) : SameStore s (lowerPower t ks) := by
  unfold Machine.lowerPower
  refine .foldl (.releaseSlots ?_) fun _ _ h => h.chainOff
  split
  · exact h
  · exact h.leaveReady

end

/-! ### The attempts of a commit -/

section
variable {s t : State} {b n : Nat}

/-- No attempt goes to a bad bank or the newest. -/
theorem goodBank_good {k : Keeper} : ∀ {fuel b}, goodBank k fuel b = some n → n ∉ k.badBanks ∧ k.newest ≠ some n
  | 0, _, h => nomatch h
  | fuel + 1, b, h => by
    unfold goodBank at h
    split at h
    · exact goodBank_good h
    · next hgood =>
      obtain rfl := Option.some.inj h
      simpa using hgood

theorem goodBank_self {k : Keeper} {fuel : Nat} (hbad : b ∉ k.badBanks) (hnew : k.newest ≠ some b) :
    goodBank k (fuel + 1) b = some b := by
  rw [goodBank, if_neg (by simp [hbad, hnew])]

theorem eraseBank_keep (s : State) (b : Nat) : (eraseBank s b).keep = { s.keep with
    erases := AMap.put s.keep.erases b (AMap.get s.keep.erases b 0 + 1), banks := AMap.del s.keep.banks b } := rfl

/-- The banks other than the erased one are still there. -/
theorem find_eraseBank_other (s : State) (h : n ≠ b) :
    AMap.find (eraseBank s b).keep.banks n = AMap.find s.keep.banks n := AMap.find_del_other _ h

theorem find_writeBank_other (s : State) (h : n ≠ b) :
    AMap.find (writeBank s b).keep.banks n = AMap.find s.keep.banks n := AMap.find_put_other _ _ h

theorem commitFailed_sameStore (s : State) (b : Nat) : SameStore s (commitFailed s b) :=
  (SameStore.refl s).gbRecord.update

/-- Every attempt spares the bank that was newest as the commit began: it is newest until one succeeds. -/
theorem commitTries_spared (fuel : Nat) (s : State) (b : Nat) (fl : List Bool) : Spared s (commitTries fuel s b fl).1 := by
  induction fuel generalizing s b fl with
  | zero => exact (commitFailed_sameStore s b).spared
  | succ fuel ih =>
    unfold commitTries
    split
    · exact (commitFailed_sameStore s b).spared
    · next g hg =>
      intro n bank hn hfind
      have hne : n ≠ g := fun e => (goodBank_good hg).2 (e ▸ hn)
      have herased : AMap.find (eraseBank s g).keep.banks n = some bank := (find_eraseBank_other s hne).trans hfind
      dsimp only
      split
      · exact (find_writeBank_other _ hne).trans herased
      · exact ih _ _ _ n bank hn herased

theorem commitStore_spared (s : State) (fl : List Bool) : Spared s (commitStore s fl).1 := by
  unfold commitStore
  split
  · exact ((SameStore.refl s).update).spared
  · exact commitTries_spared 3 s _ fl

theorem commitNow_spared (h : SameStore s t) (fl : List Bool) : Spared s (commitNow t fl) := by
  have hcommit : Spared s (commitStore { t with keep := { t.keep with commitWait := none } } fl).1 :=
    (h.update : SameStore s { t with keep := { t.keep with commitWait := none } }).before (commitStore_spared _ fl)
  unfold commitNow
  dsimp only
  split
  · exact hcommit.after (SameStore.refl _).answer
  · exact hcommit

/-! ### The commands that commit -/

theorem SameStore.freeFlash (h : SameStore s t) : SameStore s (freeFlash t).2 := h.update

theorem applyTarget_spared (h : SameStore s t) (k : Nat) (w : Option Waiting) : Spared s (applyTarget t k w) := by
  have relocked {v : State} (hv : SameStore s v) : SameStore s (relockAllowed v) := hv.update
  have saved {v : State} (hv : SameStore s v) : SameStore s (saveWear v) := hv.update
  unfold applyTarget
  extract_lets +onlyGivenNames s1 p s2
  have h1 : SameStore s s1 := by
    dsimp only [s1]
    split
    · exact h.answer
    · exact h
  have h2 : SameStore s s2 := h1.update
  clear_value s2
  split
  · have ready : SameStore s (if s2.power = .standby then relockAllowed s2 else s2) := .ite (relocked h2) h2
    exact (ready.startSlots.foldl fun _ _ h => h.startChain).startSlots.settlePower.spared
  · exact h2.lowerPower.startSlots.settlePower.spared
  · exact (commitNow_spared (saved h2.update).freeFlash _).after (SameStore.refl _).lowerPower.settlePower

theorem request_spared {op : U16} {q : Req} {ok : Bool} {body : State → Waiting → Answer}
    (hbody : ∀ u w, SameStore s u → Spared s (finish w (body u w))) (h : request op q s ok body = .next t) : Spared s t := by
  have passed := (SameStore.refl s).pass (dt := q.dt)
  have arrived {v : State} (hv : SameStore s v) : SameStore s (arrive op q v) := by
    unfold arrive touchSession
    exact .ite hv (.ite hv.update hv)
  unfold request at h
  dsimp only at h
  split at h
  · exact (Host.Outcome.next.inj h) ▸ passed.spared
  · split at h
    · exact (Host.Outcome.next.inj h) ▸ (arrived (.ite passed.update passed)).answer.spared
    · exact (Host.Outcome.next.inj h) ▸ passed.spared
    · exact (Host.Outcome.next.inj h) ▸ (arrived passed).update.spared
    · exact (Host.Outcome.next.inj h) ▸ hbody _ _ (arrived passed).update

theorem event_spared {dt : Nat} {cond : State → Bool} {f : State → State}
    (hf : ∀ u, SameStore s u → Spared s (f u)) (h : event dt s cond f = .next t) : Spared s t := by
  have passed := (SameStore.refl s).pass (dt := dt)
  unfold event at h
  dsimp only at h
  split at h
  · exact (Host.Outcome.next.inj h) ▸ hf _ passed
  · exact (Host.Outcome.next.inj h) ▸ passed.spared

theorem storeCommit_spared {q fl} (h : exec (.storeCommit q fl) s = .next t) : Spared s t := by
  change execStoreCommit q fl s = .next t at h
  unfold execStoreCommit at h
  refine request_spared (fun u w hu => ?_) h
  dsimp only
  split
  · exact hu.answer.spared
  · exact hu.update.spared
  · exact hu.update.spared
  · exact (hu.before (commitStore_spared u fl)).after (SameStore.refl _).answer

theorem storeCommitDelay_spared {dt fl} (h : exec (.storeCommitDelay dt fl) s = .next t) : Spared s t := by
  change execStoreCommitDelay dt fl s = .next t at h
  unfold execStoreCommitDelay at h
  refine event_spared (fun u hu => ?_) h
  split
  · exact hu.update.spared
  · exact hu.before (commitStore_spared u fl)

theorem storeDeferralLimit_spared {dt fl} (h : exec (.storeDeferralLimit dt fl) s = .next t) : Spared s t := by
  change execStoreDeferralLimit dt fl s = .next t at h
  unfold execStoreDeferralLimit at h
  exact event_spared (fun u hu => commitNow_spared hu fl) h

theorem loadWindow_spared {dt x} (h : exec (.loadWindow dt x) s = .next t) : Spared s t := by
  have counted {v : State} (hv : SameStore s v) : SameStore s (v.count 0x0022 0 1) := hv.update
  change execLoadWindow dt x s = .next t at h
  unfold execLoadWindow at h
  refine event_spared (fun u hu => ?_) h
  have loaded : SameStore s { u with keep := { u.keep with loads := (min x.toNat 100 :: u.keep.loads).take 10 } } := hu.update
  dsimp only
  split
  · split
    · exact loaded.spared
    · exact (counted loaded.update).gbRecord.spared
  · split
    · exact loaded.spared
    · split
      · exact loaded.update.spared
      · exact commitNow_spared loaded.update.freeFlash _

theorem pwrState_spared {q x} (h : exec (.pwrState q x) s = .next t) : Spared s t := by
  change execPwrState q x s = .next t at h
  unfold execPwrState at h
  refine request_spared (fun u w hu => ?_) h
  split
  · exact hu.answer.spared
  · exact applyTarget_spared hu _ _

theorem seqApply_spared {dt} (h : exec (.seqApply dt) s = .next t) : Spared s t := by
  have cleared {v : State} (hv : SameStore s v) (f : Stage → Stage) : SameStore s (v.onStage f) := hv.update
  change execSeqApply dt s = .next t at h
  unfold execSeqApply at h
  refine event_spared (fun u hu => ?_) h
  unfold applySeq
  dsimp only
  split
  · exact applyTarget_spared (cleared hu _) _ _
  · split
    · exact (cleared hu _).spared
    · exact (cleared hu _).answer.spared

/-- Whatever command commits, the bank that was newest is still there (R366). -/
theorem commits_spared {c : Instr} (hc : commits c = true) (h : exec c s = .next t) : Spared s t := by
  unfold commits at hc
  split at hc
  · exact storeCommit_spared h
  · exact storeCommitDelay_spared h
  · exact storeDeferralLimit_spared h
  · exact loadWindow_spared h
  · exact pwrState_spared h
  · exact seqApply_spared h
  · nomatch hc

/-! ### Where STORE_COMMIT writes, and what -/

theorem bankOf_seq (s : State) (b : Nat) (seq : U32) (im : StoreImage) : (bankOf s b seq im).seq = seq := by
  have hfield : fieldAt (bankOf s b seq im).header 8 4 = seq.toNat := by
    have hbytes : ((bankOf s b seq im).header.drop 8).take 4 = le 4 seq.toNat := rfl
    rw [fieldAt, hbytes, ofLe_le]
    exact Nat.mod_eq_of_lt seq.isLt
  rw [Bank.seq, hfield]
  exact BitVec.ofNat_toNat ..

/-- SEQ of the bank that a commit writes is one greater than the newest bank's, which no erasure has touched. -/
theorem writeBank_bank {bank : Bank} (hnew : s.keep.newest = some n) (hfind : AMap.find s.keep.banks n = some bank) :
    ∃ b', AMap.find (writeBank s b).keep.banks b = some b' ∧ b'.seq = bank.seq + 1 ∧ b'.image = storeImage s := by
  refine ⟨bankOf s b (bank.seq + 1) (storeImage s), ?_, bankOf_seq .., rfl⟩
  change AMap.find (AMap.put s.keep.banks b _) b = _
  rw [find_put_same, hnew]
  simp only [hfind, Option.map_some, Option.getD_some]

/-- A pair's commits are counted while they stay in it. -/
theorem writeBank_pairCommits (hnew : s.keep.newest = some n) :
    (writeBank s b).keep.pairCommits = if b / 2 = n / 2 then s.keep.pairCommits + 1 else 1 := by
  change (if (s.keep.newest.any fun n => n / 2 == b / 2) = true then _ else _) = _
  rw [hnew, Option.any_some]
  exact if_congr (beq_iff_eq.trans eq_comm) rfl rfl

/-- The pair after a bank's is another of the eight. -/
theorem nextPair_pair (b : Nat) : nextPair b / 2 ≠ b / 2 ∧ nextPair b < 16 := by
  unfold nextPair
  omega

/-- Where a commit goes first: another bank than the newest, of the same pair while that has had less than its share. -/
theorem commitTarget_pair (hnew : s.keep.newest = some n) (hn : n < 16) :
    commitTarget s < 16 ∧ commitTarget s ≠ n ∧ (commitTarget s / 2 = n / 2 ↔ s.keep.pairCommits < s.pv 0x0014 0) := by
  unfold commitTarget
  rw [hnew]
  dsimp only
  split
  · next hshare => omega
  · next hshare =>
    obtain ⟨hpair, hlt⟩ := nextPair_pair n
    exact ⟨hlt, fun e => hpair (by rw [e]), by simp [hpair, hshare]⟩

theorem commitTries_good {fuel : Nat} {fl : List Bool} (hbad : b ∉ s.keep.badBanks) (hnew : s.keep.newest ≠ some b)
    (hfl : fl.headD true = true) : commitTries (fuel + 1) s b fl = (writeBank (eraseBank s b) b, true) := by
  rw [commitTries, goodBank_self hbad hnew]
  simp only [hfl, if_true]

/-- A bank whose read-back fails is bad, and bank 0 of the next pair is tried. -/
theorem commitTries_bad {fuel : Nat} {fl : List Bool} (hbad : b ∉ s.keep.badBanks) (hnew : s.keep.newest ≠ some b)
    (hfl : fl.headD true = false) : commitTries (fuel + 2) s b fl = commitTries (fuel + 1)
      { eraseBank s b with keep := { (eraseBank s b).keep with badBanks := s.keep.badBanks ++ [b] } } (nextPair b)
      (fl.drop 1) := by
  rw [commitTries, goodBank_self hbad hnew]
  simp only [hfl, Bool.false_eq_true, if_false, Nat.succ_ne_zero]
  rfl

end

/-- Settles O60: `commits_spared` over the commands that commit; then the first two attempts of STORE_COMMIT. -/
theorem newestBankIsNeverErased : Obligations.NewestBankIsNeverErased := by
  refine ⟨fun c s t n bank hc ht => commits_spared hc ht n bank, ?_⟩
  intro q s w t fl n bank tgt h hdefer hflash hnew hn hfind htgt hgood
  have htarget : commitTarget t = tgt := by
    rw [← htgt, commitTarget, hnew]
    rfl
  obtain ⟨hlt, hne, hpair⟩ := htarget ▸ commitTarget_pair hnew hn
  have hnot : t.keep.newest ≠ some tgt := fun e => hne (Option.some.inj (e.symm.trans hnew))
  have hstore : commitStore t fl = commitTries 3 t tgt fl := by
    rw [commitStore, hflash, htarget]
    rfl
  have herased : AMap.find (eraseBank t tgt).keep.banks n = some bank := (find_eraseBank_other t hne.symm).trans hfind
  refine ⟨fun hfl => ?_, fun more next hfl hnext hok => ?_⟩
  · have hdone := hstore.trans (commitTries_good hgood hnot hfl)
    obtain ⟨b', hb', hseq, himage⟩ := writeBank_bank (b := tgt) (s := eraseBank t tgt) hnew herased
    refine ⟨_, b', (Keeper.exec_storeCommit_commits h hdefer).trans (by rw [hdone]; rfl), ?_⟩
    have hcount : (writeBank (eraseBank t tgt) tgt).keep.pairCommits
        = if t.keep.pairCommits < t.pv 0x0014 0 then t.keep.pairCommits + 1 else 1 := by
      rw [writeBank_pairCommits (s := eraseBank t tgt) hnew, if_congr hpair rfl rfl]
      rfl
    exact ⟨rfl, hne, hb', hseq, himage, hcount⟩
  · subst hfl
    have hne' : next ≠ tgt := fun e => (nextPair_pair tgt).1 (by rw [nextPair, hnext, e])
    have hnn : next ≠ n := by
      subst hnext
      split at htgt <;> omega
    generalize hu : ({ eraseBank t tgt with keep :=
      { (eraseBank t tgt).keep with badBanks := t.keep.badBanks ++ [tgt] } } : State) = u
    have hbad : next ∉ u.keep.badBanks := by simp [← hu, hok, hne']
    have hunew : u.keep.newest = some n := by rw [← hu]; exact hnew
    have hufind : AMap.find (eraseBank u next).keep.banks n = some bank := by
      rw [find_eraseBank_other u hnn.symm, ← hu]
      exact herased
    have hdone : commitStore t (false :: true :: more) = (writeBank (eraseBank u next) next, true) := by
      rw [hstore, commitTries_bad hgood hnot rfl, hu, nextPair, hnext]
      exact commitTries_good hbad (fun e => hnn (Option.some.inj (e.symm.trans hunew))) rfl
    obtain ⟨b', hb', hseq, -⟩ := writeBank_bank (b := next) (s := eraseBank u next) hunew hufind
    refine ⟨_, b', (Keeper.exec_storeCommit_commits h hdefer).trans (by rw [hdone]; rfl), rfl, ?_, hb', hseq⟩
    have hmarked : tgt ∈ u.keep.badBanks := by simp [← hu]
    exact hmarked

end Sys2Proof.Proofs.Store
end
